-- ==== Sys2Proof/Word.lean ====
section
/-! DEFINITION. The word types of the module: bytes, register words of 32 bits and values of 128 bits. -/

namespace Sys2Proof

/-- One byte of memory. -/
abbrev Byte := BitVec 8

/-- One register word (02 R24). -/
abbrev Word := BitVec 32

/-- One move word or tagged value of 16 bytes (05 Table 5.1, 06 R116). -/
abbrev Quad := BitVec 128

end Sys2Proof
end

