-- ==== Sys2Proof/Config.lean ====
section
/-! DEFINITION. The free values: constants without a body, so that nothing can be proved of what they are. The
spec's random values, its cryptographic functions (named there by their standards) and the results it leaves open. -/

namespace Sys2Proof

/-- A fresh free value for each value of the counter `State.free` (log entry 2). -/
opaque Config.free : Nat → Nat

/-- Sign and payload bits of a NaN that an operation makes: opcode and operands (05 R92; log entry 9). -/
opaque Config.nanBits : Nat → Nat → Nat → Nat → Nat

/-- An integer result the spec states no value of: opcode and operands (05 R92; log entry 10). -/
opaque Config.intOpen : Nat → Nat → Nat → Nat

/-- SHA-256 of a byte string (20 R418, R421; 19 R402). -/
opaque Config.sha256 : List (BitVec 8) → Nat

/-- HMAC-SHA-256 under a key, of a byte string (18 R392, 19 R403). -/
opaque Config.hmac256 : Nat → List (BitVec 8) → Nat

/-- The device key of the one-time-programmable memory (18 R392). -/
opaque Config.deviceKey : Nat

/-- An ECDSA P-256 signature of a byte string, r then s, with a random number, under the device's key pair (0, 19 R402) or the
cartridge's attestation key (1, 19 Table 19.3). -/
opaque Config.sign : Nat → Nat → List (BitVec 8) → BitVec 512

/-- The certificate of the module in DER, at most 860 bytes (19 R402). -/
opaque Config.moduleCert : List (BitVec 8)

/-- The hash of the Nogestad service key in the one-time-programmable memory (19 R403). -/
opaque Config.serviceHash : Nat

/-- The part number in 16 ASCII bytes (19 Table 19.3), by variant. -/
opaque Config.partNumber : Nat → BitVec 128

/-- An ephemeral P-256 public key in uncompressed form, from its private number (19 R402). -/
opaque Config.publicKey : Nat → BitVec 520

/-- The BASEVER that a TE base configuration image carries: the spec gives the image's content no layout (08 R176, 20 R418). -/
opaque Config.baseVersion : List (BitVec 8) → BitVec 16

/-- Whether a signature of a byte string verifies under a public key (14 R305, 19 R402, 20 R421). -/
opaque Config.verify : Nat → List (BitVec 8) → List (BitVec 8) → Bool

/-- The keys both ends derive from an ECDH exchange (19 R402): own private number, the other's public key and the two nonces,
which key (0 h2m, 1 m2h, 2 wrap). -/
opaque Config.kdf : Nat → List (BitVec 8) → Nat → Nat

/-- A key of 32 bytes wrapped under another (19 R414; RFC 3394). -/
opaque Config.wrap : Nat → Nat → BitVec 320

end Sys2Proof
end

