-- ==== Sys2Proof/Syntax.lean ====
section
/-! DEFINITION. The commands of the module: one constructor of `Instr` for each row of spec/opcode_table.json, with the
row's operands, and the types of those operands and of what the module puts on its wires. -/

namespace Sys2Proof


/-- The kinds of a fabric access (18 Table 18.9, INFO.TYPE; R385). -/
inductive AccessKind where
  | read | write | fetch | amo | lr | sc
  deriving DecidableEq, Repr

/-- What an access brings: the bytes of a store, and the lane rows that the work in EXECUTE issues before the clock of an access to
memory. -/
structure Beat where
  data : List (BitVec 8)
  rows : Nat
  deriving DecidableEq, Repr

/-- A memory whose read found an uncorrectable error (21 Table 21.1). -/
inductive EccSite where
  | instance_ | move | constant | station | dram | sram | rom
  deriving DecidableEq, Repr

/-- A monitored clock (21 Table 21.3; the bits of SAF.CLKERR). -/
inductive ClockId where
  | reference | core | lane | trip | fabric | timeBase | pairLink
  | pllLock (clock : Fin 7)
  | guardian (seg : Fin 16) (chanB : Bool)
  deriving DecidableEq, Repr

/-- A frame as a channel of a segment controller receives it (09 R183, R187, R188): the MT at which it starts at the port, whether J/K
and the code groups are good up to the end of the header, whether T/R follows and every code group is good, and the bytes between
the delimiters. -/
structure Frame where
  seg : Fin 16
  chanB : Bool
  start : BitVec 64
  headOk : Bool
  tailOk : Bool
  bytes : List (BitVec 8)
  deriving DecidableEq, Repr

/-- The payload of a HEARTBEAT (11 Table 11.2). -/
structure Heartbeat where
  mode : BitVec 8
  flags : BitVec 8
  variant : BitVec 8
  holdcause : BitVec 8
  mfv : BitVec 16
  fwver : BitVec 16
  claim : BitVec 64
  epoch : BitVec 32
  txmt : BitVec 64
  rxmt : BitVec 64
  ptxmt : BitVec 64
  layout : BitVec 128
  deriving DecidableEq, Repr

/-- An entry of a force table as firmware sends it: number, fields of 07 Table 7.4. -/
structure ForceMsg where
  entry : BitVec 10
  symid : BitVec 32
  addr : BitVec 32
  type : BitVec 32
  value : BitVec 128
  mask : BitVec 128
  deriving DecidableEq, Repr

/-- What the lead of a join sends (11 R242, R243; 03 Table 3.6): bytes of a move half or of a constant half, a whole mirror list by
words, CFG and PER of a class, a whole force table, the ply numbers. -/
inductive JoinPart where
  | half (staged constants : Bool) (offset : BitVec 32) (data : List (BitVec 8))
  | mirrorList (staged : Bool) (words : List (BitVec 32))
  | cls (n : Fin 3) (cfg per : BitVec 32)
  | forces (staged : Bool) (entries : List ForceMsg)
  | plies (c1 c2 c3 : BitVec 32)
  deriving DecidableEq, Repr

/-- A loss of block lock on a link, or too many uncorrectable codewords (11, before R263): the link, and how many of the MIRROR and BULK
frames sent last on it were still in flight. -/
structure LinkLoss where
  link : Fin 2
  flight : Nat
  deriving DecidableEq, Repr

/-- What a FWD frame carries (11 Table 11.1, TYPE 0x08). -/
inductive FwdMsg where
  | package (part : BitVec 8) (total offset : BitVec 32) (data : List (BitVec 8))
  | sealProposal (hash : BitVec 256) (rev : Bool) (ply : BitVec 32) (dropped : List (BitVec 32))
  | sealReply (ok : Bool)
  | sealCancel
  | forceChange (entry : BitVec 10) (symid addr type : BitVec 32) (value mask : BitVec 128)
  | forceReply (ok : Bool)
  | echo (seg : Fin 16) (a b : BitVec 8)
  | publicationKey (slot : Bool) (key : BitVec 256)
  | join (part : JoinPart)
  deriving DecidableEq, Repr

/-- One slot in the slot directory: state (20 Table 20.2), version, length, SHA-256 of the header (20 R418). -/
structure ImgSlot where
  state : Nat
  ver : Nat
  len : Nat
  hash : Nat
  deriving DecidableEq, Repr

def ImgSlot.empty : ImgSlot := ⟨0, 0, 0, 0⟩

/-- One image type in the slot directory: its slots, the active one (0 A, 1 B, 3 none) and the attempt count (20 R418). -/
structure TypeDir where
  a : ImgSlot
  b : ImgSlot
  act : Nat
  att : Nat
  deriving DecidableEq, Repr

def TypeDir.empty : TypeDir := ⟨ImgSlot.empty, ImgSlot.empty, 3, 0⟩

/-- A cartridge as it is fitted (14 Tables 14.2, 14.4, 14.6): its identity block, the bytes of its MRAM by offset and of its NAND
(by page × 4,128 + byte) that differ from the unlisted byte, and its slot directory by image type
and image book (20 R418). -/
structure Cartridge where
  ident : List (BitVec 8)
  mram : List (Nat × BitVec 8)
  nand : List (Nat × BitVec 8)
  dir : List TypeDir
  book : List (Nat × BitVec 8)
  deriving DecidableEq, Repr

/-- A CAN frame on the rack bus (17 R364, R370). -/
structure CanFrame where
  id : BitVec 29
  ide : Bool
  rtr : Bool
  fdf : Bool
  brs : Bool
  esi : Bool
  dlc : BitVec 4
  data : List (BitVec 8)
  deriving DecidableEq, Repr

/-- An NCP datagram as it arrives (19 R398, Table 19.1): the MAC, a token for the source address and port, the header fields but
CMD, which the command's row names, the payload and the tag. Its size is 48 bytes and the payload. -/
structure NcpReq where
  mac : Fin 3
  host : BitVec 64
  magic : BitVec 16
  ver : BitVec 8
  flags : BitVec 8
  status : BitVec 16
  session : BitVec 32
  seq : BitVec 32
  object : BitVec 32
  offset : BitVec 32
  length : BitVec 16
  rsv : BitVec 16
  total : BitVec 32
  payload : List (BitVec 8)
  tag : BitVec 128
  deriving DecidableEq, Repr

/-- What a host certificate says (19 R403): a well-formed X.509 v3 certificate with a P-256 key, the key that signed it with a
correct signature, the role by its organizationalUnitName (0 Viewer, 1 Operator, 2 Engineer, 3 Maintainer), its public key and
its validity in seconds of the calendar. -/
structure Cert where
  x509 : Bool
  signer : BitVec 512
  sigOk : Bool
  role : Option (Fin 4)
  key : BitVec 512
  notBefore : BitVec 64
  notAfter : BitVec 64
  deriving DecidableEq, Repr

/-- An entry of a symbol table (07 Table 7.1): symbol ID, instance offset, bytes, bytes of an element, type code, what WRITEVAR
allows (0 nothing, 1 param, 2 operator; 19 R407), and whether it is a tagged value. -/
structure Sym where
  id : Nat
  offset : Nat
  size : Nat
  elem : Nat
  type : Nat
  access : Nat
  tv : Bool
  deriving DecidableEq, Repr

/-- A publication (19, before R413): ID, multicast group (an IPv4 address, or 2^128 and an IPv6 address), ports (bits 0 and 1 for EMAC0
and EMAC1), period in ms, staleness limit in µs, TRACKPUB, symbol IDs. -/
structure Pub where
  id : Nat
  group : Nat
  period : Nat
  ports : Nat
  stale : Nat
  trackpub : Bool
  symbols : List Nat
  deriving DecidableEq, Repr

/-- What step 0x07 takes from the program archive beside the program (19 R403, R407, R413; 03 R56): trust list, symbol table,
publications, the retain map (the instance offsets of the retained tagged values), and the initial-value area: the instance offsets
and values of the bytes whose initial value is not 0 (Table 3.3). -/
structure Archive where
  trust : List Nat
  symbols : List Sym
  pubs : List Pub
  retained : List Nat
  initial : List (Nat × BitVec 8)
  deriving DecidableEq, Repr

/-- A frame that a MAC receives (19 R416): the MT of the tick in which its start-frame delimiter passes (12 R278), its bytes from the
destination address to the last before the FCS, and whether FCS or alignment is bad. -/
structure EthFrame where
  sfd : BitVec 64
  bytes : List (BitVec 8)
  bad : Bool
  deriving DecidableEq, Repr

/-- What leaves the module on its wires, and what its firmware answers (log entry 8). -/
inductive Out where
  /-- A core pair takes an interrupt-free halt request (18 R394). -/
  | haltRequest (pair : Nat)
  /-- A frame on a channel of a segment, in the short or the long form: its bytes between J/K and T/R; `whole` unless the guardian cut
  it, which leaves the bytes before the cut and no T/R (09 R187, R188; 10 R213). -/
  | wire (seg : Nat) (chanB short : Bool) (bytes : List (BitVec 8)) (whole : Bool)
  /-- A frame on a pair link: header, payload and CRC-32 as bytes (11 R231). -/
  | pl (link : Nat) (bytes : List (BitVec 8))
  /-- A HANDOVER on a pair link: SEQ and what it holds (11 R261), whose layout the spec does not give. -/
  | handover (link seq : Nat) (abrupt : Bool) (plies : List Nat) (nexts : List (Option Nat)) (inNt : List Bool) (tasks : Nat)
  /-- A FWD message to the partner's firmware: SEQ and what it holds, whose layout the spec does not give. -/
  | fwd (link seq : Nat) (msg : FwdMsg)
  /-- An edge of the 1PPS output (12 R275). -/
  | pps (high : Bool)
  /-- A frame starts on a rack bus: its object and content (17 R372). -/
  | can (unit obj : Nat) (frame : CanFrame)
  /-- An acknowledgement on a rack bus (17 R364). -/
  | canAck (unit : Nat)
  /-- An error frame on a rack bus, with a recessive flag from an error-passive node (17 R364, R375). -/
  | canError (unit : Nat) (passive : Bool)
  /-- The frame in transmission is cut: the transceiver drives recessive (17 R377). -/
  | canCut (unit : Nat)
  /-- An NCP packet: MAC, host (of a publication the group), CMD, flags, STATUS, SESSION, SEQ, OBJECT, OFFSET, TOTAL, payload, tag (19
  Table 19.1). -/
  | ncp (mac host cmd flags status session seq object offset total : Nat) (payload : List (BitVec 8)) (tag : Nat)
  /-- A frame that a MAC sends (19 R416). -/
  | eth (mac : Nat) (bytes : List (BitVec 8))
  deriving DecidableEq, Repr

/-- The commands. Each constructor is the row of spec/opcode_table.json whose name it spells. -/
inductive Instr where
  /-- A write to a register field that has no behaviour of its own takes effect by its access code, with reserved-bit and RO-field checks and ERRINFO recording. (R25) -/
  | registerWrite (m : BitVec 6) (page : BitVec 8) (word : BitVec 10) (value : BitVec 32)
  /-- A read of ERRINFO returns the first recorded error and clears it, as for every RC field. (R8) -/
  | errinfoRead (m : BitVec 6) (page : BitVec 8)
  /-- A read of a read-to-clear counter or status field returns its value and clears it. (R8) -/
  | rcCounterRead (m : BitVec 6) (page : BitVec 8) (word : BitVec 10)
  /-- A write to CTRL.EN moves the unit between OFF, STARTING, ON and DRAINING or sets and clears EN_PENDING by Table 2.5. (R35) -/
  | ctrlEnWrite (m : BitVec 6) (page : BitVec 8) (en : Bool)
  /-- A write of 1 to CTRL.SRST abandons the unit's work and returns its fields to reset values, or is refused in STARTING or DRAINING. (R32) -/
  | softReset (m : BitVec 6) (page : BitVec 8)
  /-- A write to LOCK advances, restarts or breaks the two-key sequence that locks the unit's RWL fields. (R33) -/
  | lockKeyWrite (m : BitVec 6) (page : BitVec 8) (value : BitVec 32)
  /-- A write to EVFORCE sets the named EVSTAT bits, or is ignored with code 0x06 on a locked page outside SERVICE. (R31) -/
  | evforceWrite (m : BitVec 6) (page : BitVec 8) (value : BitVec 32)
  /-- A unit in STARTING completes its start-up and enters ON or DRAINING according to CTRL.EN. (R35) -/
  | startUpComplete (page : BitVec 8)
  /-- A unit in DRAINING finishes its work and enters OFF or STARTING according to EN_PENDING. (R35) -/
  | drainingComplete (page : BitVec 8)
  /-- A unit whose draining exceeds its maximum time enters FAULT. (R35) -/
  | drainingTimeout (page : BitVec 8)
  /-- A unit fault abandons the unit's work and puts it in FAULT. (R35) -/
  | unitFault (page : BitVec 8)
  /-- A read of EVC.CLAIMn returns the winning deliverable source for core pair n and puts it in service. (R39) The pairs whose CLAIM reads take effect in this clock. -/
  | evcClaim (cp0 cp1 : Bool)
  /-- A write to EVC.COMPLETEn ends service of a source for the pair, or is ignored with code 0x10. (R40) -/
  | evcComplete (pair : Fin 2) (src : BitVec 8)
  /-- An access by a fabric master passes its gate, which allows or refuses it whole and gives its memory attributes. (R385) -/
  | fabricAccess (m : BitVec 6) (priv : Bool) (kind : AccessKind) (addr : BitVec 36) (size : BitVec 13) (beat : Beat)
  /-- A feed at or above 18.8 V for 20 ms with both SEATED contacts made takes the module from DORMANT to START. (R45) -/
  | feedGood
  /-- The internal bus below 11.0 V for 10 µs removes the AON supply and makes the module DORMANT. (R450) -/
  | aonSupplyLost
  /-- A reset of any cause turns local outputs off, holds the segment PHYs in reset, stops TE and records the cause. (R59) Bit n: the cause with LAST code n (Table 3.8). -/
  | resetAssert (causes : BitVec 6)
  /-- Release of a reset starts START step 0x01 and takes every unit whose CTRL.EN resets to 1 from OFF to STARTING. (R464) -/
  | resetRelease
  /-- A start step completes within its bound and START proceeds to the next step. (R50) `scap`: the charge a sample of the reservoir gives (step 6); `archive`: what step 7 takes from the program archive. -/
  | startStepComplete (ok : Bool) (scap : BitVec 16) (archive : Option Archive)
  /-- At step 0x09 firmware takes the first applicable row of Table 3.4 and ends START in TRACK, LEAD or HOLD. (R52) -/
  | endOfStart
  /-- Without bootable firmware the boot ROM stays at step 0x03 and serves recovery commands on EMACS. (R424) -/
  | recoveryService
  /-- START not ended within 8 s of reset release causes a SAF watchdog reset. (R50) -/
  | startTimeout
  /-- A SYS.MODECMD write with target LEAD changes the mode or is refused with codes 0x10 to 0x12. (R47) -/
  | modecmdToLead (m : BitVec 6) (cause : BitVec 4) (key : BitVec 16)
  /-- A SYS.MODECMD write with target TRACK changes the mode or is refused. (R47) -/
  | modecmdToTrack (m : BitVec 6) (cause : BitVec 4) (key : BitVec 16)
  /-- A SYS.MODECMD write with target HOLD enters HOLD or updates HOLDCAUSE, or is refused. (R47) -/
  | modecmdToHold (m : BitVec 6) (cause : BitVec 4) (key : BitVec 16)
  /-- A SYS.MODECMD write with target SERVICE enters SERVICE or is refused with code 0x13 when the key is at RUN. (R47) -/
  | modecmdToService (m : BitVec 6) (cause : BitVec 4) (key : BitVec 16)
  /-- A SYS.MODECMD write naming START or DORMANT is refused with code 0x10. (R47) -/
  | modecmdToStartOrDormant (m : BitVec 6) (start : Bool) (cause : BitVec 4) (key : BitVec 16)
  /-- A write of SYS.RSTCMD.GO with the correct key issues a commanded reset, or records code 0x14. (R57) -/
  | rstcmd (m : BitVec 6) (go : Bool) (key : BitVec 16)
  /-- The debounced front key switch changes position, raising source 8 and, in SERVICE at RUN, leaving SERVICE. (R62) -/
  | keySwitchChange (service : Bool)
  /-- Both feeds below 17.0 V for 200 µs raise the power-fail warning, starting flushes and castling. (R61) -/
  | powerFailWarning
  /-- A feed at or above 18.0 V for 1 ms clears the power-fail warning and journalling resumes. (R61) -/
  | powerFailClear
  /-- The warning still active 15 ms after it was raised forces HOLD with HOLDCAUSE 9 and switches off outputs and segments. (R61) -/
  | powerFailHold
  /-- The flush-only phase ends when the flushes complete or at 2 s and the bank is disconnected. (R451) -/
  | flushOnlyEnd
  /-- Feeds returning after the forced HOLD lead, after the flush, to a supply reset. (R61) -/
  | feedsReturn
  /-- A feed falls below 18.3 V or returns to 18.8 V, changing its OK bit and raising source 10 or 11. (R63) -/
  | feedLow (feed : Fin 2) (low : Bool)
  /-- At the end of each 100 µs interval PWR.FEED.P1MV and P2MV take the feeds' means. (R63) -/
  | feedMeanUpdate (p1 p2 : BitVec 16)
  /-- The hold-up store reaches its charge no later than 300 ms after a feed rises. (R450) -/
  | holdupStoreCharged
  /-- A class's TIM compare match triggers a ply, which starts FREEZE and latches PLY_T or is skipped. (R66) `late`: lane clocks from the match to the sequencer, wake of the lanes included (04 Table 4.3, 01 R16). -/
  | plyTrigger (cls : Fin 3) (late : Nat)
  /-- A write to a class CFG or PER register changes the class configuration with range checks and re-anchoring. (R84) `per`: the PER register, else CFG. -/
  | classCfgWrite (m : BitVec 6) (cls : Fin 3) (per : Bool) (value : BitVec 32)
  /-- FREEZE ends after copying mailboxes or substitutes into the input area, and EXECUTE begins with the error task when due. (R69) -/
  | freezeComplete
  /-- EXECUTE ends after its entry, rows and drain, and the ply enters MIRROR-WAIT or COMMIT. (R97) -/
  | executeComplete
  /-- COMMIT ends, switching every out-mailbox and the local output image and handing retained lines to CRT. (R73) -/
  | commitComplete
  /-- COMMIT not begun by the deadline counts a flag fall, raises the class source and sets SKIPNEXT. (R77) -/
  | flagFall (cls : Fin 3)
  /-- The MIRROR-WAIT time-out expires, raising source 21 and recording the partner not synchronised before COMMIT. (R72) `late`: lane clocks until PAIR has recorded the time-out. Work 0–2 is C1–C3, 3 + k event task k. -/
  | mirrorWaitTimeout (w : Fin 19) (late : Nat)
  /-- An event task's source rises and the task becomes pending or is coalesced. (R82) -/
  | eventTaskTrigger (k : Fin 16)
  /-- A write of bit k to XE.ET.TRIG triggers event task k. (R82) -/
  | etTrigWrite (m : BitVec 6) (value : BitVec 32)
  /-- A pending event task starts at its earliest permitted instant in task-number order. (R82) It happens when the work in EXECUTE has issued `rows` rows more. -/
  | eventTaskStart (rows : Nat)
  /-- A schedule fault at issue suppresses the row's writes, stops issuing and raises a safety fault. (R110) A row corrupted after `rows` more rows: fault kind `kind` + 1. -/
  | scheduleFault (rows : Nat) (kind : Fin 9) (col : Fin 4)
  /-- A lane or sequencer compare mismatch blocks the write, records XE.LS.INFO and raises source 2 and the safety fault reaction. (R100) -/
  | xeLockstepError (rows : Nat) (unit : Fin 5) (dest : BitVec 32)
  /-- XE.MM.CTRL.ACTIVATE checks the selected half and makes it active, or records the failed check. (R103) -/
  | activate (m : BitVec 6) (sel : Fin 2)
  /-- A write to XE.LS.INJECT in SERVICE runs the lockstep test sequence with an injected mismatch, or records 0x27. (R114) -/
  | lsInject (m : BitVec 6) (value : BitVec 32)
  /-- XE.SM.CTRL.VERIFY starts verification of the staged halves and both carry-over maps. (R147) -/
  | smVerify (m : BitVec 6) (dir : Bool)
  /-- Verification ends with STATE VERIFIED or IDLE and VCHECK recorded. (R147) -/
  | smVerifyComplete
  /-- XE.SM.CTRL.ARM makes STATE ARMED, lapses at once if ply P has passed, or is refused with 0x28. (R150) -/
  | smArm (m : BitVec 6) (dir : Bool)
  /-- XE.SM.CTRL.CANCEL cancels an ARMED seal, or is refused in SWITCHING. (R162) -/
  | smCancel (m : BitVec 6)
  /-- The first clock meeting the gap conditions after ply P's COMMIT starts the sealed-move switch. (R151) -/
  | switchBegin
  /-- The switch completes the copy, flips halves, swaps force tables and mirror lists and raises source 22. (R152) -/
  | switchEnd
  /-- No gap before ply P + 1 of SEALCLS lapses the seal and raises source 23. (R151) -/
  | sealLapse
  /-- A TRACK synchronised module receiving the switch marker performs the switch and queues later mirror ranges. (R154) -/
  | switchMarkerReceived
  /-- XE.FT.CMD.WRITE stores the staging registers into a force entry, or is refused with 0x29 or 0x2A. (R158) -/
  | forceTableWrite (m : BitVec 6)
  /-- XE.FT.CMD.READ loads a force entry into the staging registers. (R162) -/
  | forceTableRead (m : BitVec 6)
  /-- An active-table force write takes effect before the next FREEZE or task start with one apply write. (R157) -/
  | forceApply
  /-- Each 80 ns pass latches literals, evaluates the matrix and updates outputs, timers and latches. (R168) The levels of the local inputs at the first clock of the pass. -/
  | tePass (di : BitVec 32)
  /-- A trip-engine timer's count reaches PT and its TQ changes at the end of the next pass. (R166) -/
  | teTimerExpiry (k : Fin 16)
  /-- A functional and shadow matrix or state mismatch sets FAULT, raises source 26 and a safety fault. (R178) -/
  | teCompareMismatch
  /-- A burst ends with a signature check, a role swap or a safety fault on mismatch. (R179) The signature the burst compacted. -/
  | teBurstComplete (sig : BitVec 32)
  /-- TE.CFGCMD with LOCK and the key checks the store, records CHECK on failure, or begins the lock. (R177) A write with LOCK set; `unlock` when UNLOCK is set too. -/
  | teLock (m : BitVec 6) (key : BitVec 16) (unlock : Bool)
  /-- Within 10 µs TE copies the store, computes CFGCRC, initialises state, sets LOCKED and begins passes. (R177) -/
  | teLockComplete
  /-- TE.CFGCMD with UNLOCK clears LOCKED in SERVICE, or records 0x32. (R177) -/
  | teUnlock (m : BitVec 6) (key : BitVec 16)
  /-- A TE.CFGDATA access reads or writes a store word and adds 4 to TE.CFGADDR. (R176) -/
  | teCfgdataAccess (m : BitVec 6) (write : Bool) (value : BitVec 32)
  /-- A valid REFLEX frame updates the reflex inputs mapped to its station. (R172) The MT of its start at the port; J/K, code groups and T/R good; its bytes. -/
  | reflexFrameReceived (seg : Fin 16) (chanB : Bool) (start : BitVec 64) (jkOk codesOk trOk : Bool) (payload : BitVec 64) (crc : BitVec 16)
  /-- No valid REFLEX frame within TMO rounds sets a reflex input to 0 and its RXSTALE bit. (R172) -/
  | reflexInputTimeout (k : Fin 64)
  /-- At the start of its own minislot the module samples sums 16–79 and sends a REFLEX frame on both channels. (R173) -/
  | reflexSend
  /-- A Ramette cycle starts and the cycle count increments. (R185) -/
  | cycleStart
  /-- In the NIT the node computes offset and rate corrections from the cycle's sync measurements. (R202) -/
  | clockCorrection
  /-- A DATA frame is checked, and a valid one fills the in-mailbox buffer with its MTS and becomes newest complete. (R193) -/
  | dataFrameReceived (f : Frame)
  /-- A NULL frame is checked and counts as a valid frame for station state and votes. (R190) -/
  | nullFrameReceived (f : Frame)
  /-- A valid SYNC-flagged frame gives a deviation measurement for the sending sync node. (R201) -/
  | syncFrameReceived (f : Frame)
  /-- A CSF frame meets a cold-start cycle, starts integration, or is judged without cycle time. (R205) -/
  | csfReceived (f : Frame)
  /-- A valid BEACON carries the sender's claim, lease and synchronisation status to the module. (R246) -/
  | beaconReceived (f : Frame)
  /-- A SERVICE uplink fragment is taken, completing an uplink message on its last fragment. (R217) -/
  | serviceFrameReceived (f : Frame)
  /-- A frame with no scheduled sender or outside its acceptance window is rejected and raises source offset 3. (R210) The MT at which it starts at the port. -/
  | strayFrame (seg : Fin 16) (chanB : Bool) (start : BitVec 64)
  /-- In each owned out-slot the module sends an OUT frame while LEAD with OUTEN set, and NULL otherwise. (R195) -/
  | outSlotSend (seg : Fin 16) (chanB : Bool) (slot : BitVec 12)
  /-- In its module slot the module sends a CSF, SYNC or BEACON frame by its state. (R192) -/
  | moduleSlotSend
  /-- In an owned SERVICE downlink the module sends a queued fragment or NULL. (R198) -/
  | serviceDownlinkSend (seg : Fin 16) (chanB : Bool)
  /-- LISTEN ends without a sync frame heard and the module enters COLDSTART. (R205) -/
  | listenTimeout
  /-- At the end of a CSF cycle a met cycle leads to BACKOFF, and four clean cycles to ACTIVE. (R205) -/
  | coldstartCycleEnd
  /-- BACKOFF ends and the module re-enters COLDSTART from cycle count 0. (R205) -/
  | backoffEnd
  /-- A round pulse deviation, missing pulse or wrong cycle count blocks the guardian with a SYNC cut. (R211) -/
  | guardianBlock (seg : Fin 16) (chanB : Bool)
  /-- A transmission outside the guardian window is cut with a WINDOW cut. (R213) -/
  | guardianCut (seg : Fin 16) (chanB : Bool)
  /-- A blocked guardian opens again after two clean cycles from its re-seed. (R211) -/
  | guardianReopen (seg : Fin 16) (chanB : Bool)
  /-- At the end of a station's in-slot its state changes by Table 10.5 from the frames received. (R218) -/
  | stationEvaluation (seg : Fin 16) (st : Fin 32)
  /-- RMTnn.SVCQ.GO queues a downlink message for a station, or is refused with 0x41. (R229) -/
  | serviceQueue (m : BitVec 6) (seg : Fin 16) (st : Fin 32) (src : BitVec 2)
  /-- An unacknowledged downlink message is sent again after 16 cycles, and abandoned after 4 sends. (R217) -/
  | downlinkResend (seg : Fin 16) (st : Fin 32)
  /-- Every 10 µs the module sends a HEARTBEAT on every link that is up. (R232) -/
  | heartbeatSend
  /-- A valid HEARTBEAT updates partner state, RTT and MTOFF and detects the partner. (R232) -/
  | heartbeatReceived (link : Fin 2) (hb : Heartbeat)
  /-- No HEARTBEAT on a link for 25 µs marks it missing and raises source 164. (R232) -/
  | heartbeatMissing (link : Fin 2)
  /-- No HEARTBEAT on either link for 100 µs raises source 165 and clears the lead's PSYNC. (R239) -/
  | heartbeatsLost100us
  /-- Heartbeats missing on both links for 1 ms mark the partner lost and raise source 166. (R232) -/
  | partnerLost
  /-- Step 0x08 ends 400 ms after it began without a HEARTBEAT and the partner is judged by BEACON. (R233) -/
  | partnerDetectionTimeout
  /-- A pair-link frame with a bad CRC or unlisted TYPE is dropped and counted. (R231) -/
  | plFrameBad (link : Fin 2)
  /-- Loss of block lock or FEC errors mark a pair link down and start retraining. (R263) -/
  | plLinkDown (x : LinkLoss)
  /-- A pair link completes training and comes up. (R263) -/
  | plLinkUp (link : Fin 2)
  /-- A mirror range becomes final and PAIR sends it in chunks on the links that are up. (R237) -/
  | mirrorRangeFinal (entry : BitVec 14)
  /-- A MIRROR chunk is written at its offset, and an ACK is sent when the writer's ply is complete. (R237) -/
  | mirrorReceived (link : Fin 2) (writer : BitVec 8) (seq ply offset count : BitVec 32) (last : Bool) (data : List (BitVec 8))
  /-- The first ACK of a ply's ranges ends MIRROR-WAIT and opens COMMIT. (R71) -/
  | ackReceived (link : Fin 2) (writer : BitVec 8) (ply : BitVec 32) (crc : Option (BitVec 32)) (rows : Nat)
  /-- A BULK frame during a join is written into instance memory. (R242) -/
  | bulkReceived (link : Fin 2) (offset : BitVec 32) (data : List (BitVec 8))
  /-- A FWD frame delivers a firmware message such as a package part, seal proposal or force change. (R231) -/
  | fwdReceived (link : Fin 2) (msg : FwdMsg)
  /-- A write outside the mirror list records PAIR.ESC and raises source 4 and a safety fault. (R240) -/
  | mirrorEscape (addr : BitVec 25) (writer : BitVec 8) (m : BitVec 6)
  /-- PAIR.ML.CTRL.CHECK checks the staged mirror list and computes MLVOLn. (R236) -/
  | mlCheck (m : BitVec 6)
  /-- A PAIR.MLDATA access reads or writes a list word and adds 4 to MLADDR. (R236) -/
  | mldataAccess (m : BitVec 6) (write : Bool) (value : BitVec 32)
  /-- PAIR.SYNC.CMD.JOIN starts a join, or is refused with 0x53. (R242) -/
  | syncCmdJoin (m : BitVec 6)
  /-- A join phase or dirty round ends and the join moves to its next phase. (R242) -/
  | joinPhaseComplete
  /-- A join fails after 16 rounds, lost links, lead leaving LEAD or a refused install. (R244) -/
  | joinFail (cause : BitVec 3)
  /-- At each cycle end PAIR counts arbiter votes and applies the claim, claim outcome and lease decisions. (R250) -/
  | pairCycleEnd
  /-- PAIR.CASTLE.CMD.REQ requests planned or forced castling, or is refused with 0x52. (R259) -/
  | castleCmdReq (m : BitVec 6) (forced : Bool)
  /-- A CASTLE frame delivers a castling request or abandon to the partner. (R260) -/
  | castleReceived (link : Fin 2) (kind : BitVec 8)
  /-- At the handover instant H the outgoing module stops triggers and sends HANDOVER. (R260) -/
  | castlingHandover
  /-- No gap for planned castling within two periods sends CASTLE abandon with result 3. (R260) -/
  | castlingNoGap
  /-- The incoming module enters LEAD, runs the seed COMMIT and places triggers at the transferred instants. (R261) -/
  | handoverReceived (link : Fin 2) (abrupt : Bool) (plies : List (BitVec 32)) (nexts : List (BitVec 64)) (inNt : List Bool) (tasks : BitVec 16)
  /-- TIM.SNAP.GO latches MT, NT, NTHI and fraction from one tick. (R266) -/
  | timeSnapshot (m : BitVec 6)
  /-- A read of TIM.MTLO latches MT bits 63:32 into the master's MTHI. (R266) -/
  | mtRead (m : BitVec 6)
  /-- A read of TIM.NTLO latches NTHI into the master's latch. (R266) -/
  | ntRead (m : BitVec 6)
  /-- A write to TIM.NTINC sets the NT rate from the next tick, or records 0x61. (R268) -/
  | ntincWrite (m : BitVec 6) (value : BitVec 32)
  /-- TIM.NTCTL.SET loads NT and NTHI at the next tick, or records 0x63. (R269) -/
  | ntSet (m : BitVec 6)
  /-- TIM.NTSTEP.CMD.GO requests a step that is refused, refused as NT_JUMP, or accepted. (R270) -/
  | ntStep (m : BitVec 6) (force : Bool)
  /-- An accepted step is applied at its tick, shifting owned NT compare targets. (R270) -/
  | ntStepApply
  /-- A carry out of NT increments NTHI and raises source 185. (R267) -/
  | ntWrap
  /-- A change of TIM.NTCTL.LOCKED re-anchors every class with TBASE 0. (R272) -/
  | ntLockedWrite (m : BitVec 6) (locked : Bool)
  /-- A compare channel matches its target, raising its source, counting and starting a 1PPS pulse. (R273) `late`: where a class owns the channel, see plyTrigger. -/
  | compareMatch (k : Fin 8) (late : Nat)
  /-- A selected edge captures MT, NT and GEN into a capture channel, or sets OVF. (R276) -/
  | capture (k : Fin 8) (rising : Bool)
  /-- The 1PPS output level falls PWIDTH ms after the matching tick. (R275) -/
  | ppsPulseEnd (k : Fin 8)
  /-- No 1PPS input edge for 1,100 ms raises source 187. (R277) -/
  | ppsInputMissing
  /-- An open or shorted input or an output over-current sets the fault bit and raises source 191. (R277) -/
  | timePortFault (output : Bool)
  /-- A write of POP removes the head entry of the MAC's transmit or receive stamp FIFO. (R279) -/
  | tsPop (m : BitVec 6) (mac : Fin 3) (rx : Bool)
  /-- The backup domain changes over between the 3.3 V rail and the cartridge cell. (R284) `nah`: the charge the domain drew from the cell since the last change-over, in nAh. -/
  | bkChangeover (nah : BitVec 32)
  /-- VBK below 1.8 V for more than 10 µs loses the whole backup state. (R285) -/
  | backupStateLost
  /-- A pending domain write is taken into the backup domain at the next tick. (R289) -/
  | bkWriteTaken
  /-- The prescaler wraps and the calendar advances one second, evaluating alarms. (R290) -/
  | rtcSecond
  /-- A read of BKD.RTC_SNAP copies date, time and MT of the latest tick into the shadow registers. (R291) -/
  | rtcSnapshot (m : BitVec 6)
  /-- A write to BKD.RTC_SEC checks the staged calendar and sets COMMITPEND or records 0x70 or 0x71. (R292) -/
  | rtcSecWrite (m : BitVec 6) (value : BitVec 32)
  /-- At the next tick the calendar takes the staged fields with prescaler 0 and sets RTC_VALID. (R293) -/
  | rtcCommit
  /-- Every 2^20 ticks the domain inserts or removes trim ticks. (R294) -/
  | rtcTrim
  /-- A filtered event-input edge is stamped with calendar and prescaler and raises source 194 or 195. (R296) -/
  | eviEdge (k : Fin 2) (rising : Bool)
  /-- BKD.OPSEC counts one operating second while AON is up. (R297) -/
  | opsecTick
  /-- BKD.CMD.VALIDATE sets BK_VALID. (R288) -/
  | bkValidate (m : BitVec 6)
  /-- BKD.CMD.CCTAKE copies COUL into CCTAKEN and clears COUL in one tick. (R300) -/
  | coulombTake (m : BitVec 6)
  /-- BKD.CMD.LOADTEST loads the cell for 10 ms, or is refused with 0x73 on the cell. (R301) -/
  | cellLoadTest (m : BitVec 6)
  /-- The load test stores the cell voltage and sets or clears CELLLOW. (R301) The cell voltage at the end of the load, and the charge it drew. -/
  | loadTestComplete (mv : BitVec 16) (nah : BitVec 16)
  /-- The latch closes and the presence contact makes, starting a 100 ms wait. (R322) -/
  | cartridgeInsert (c : Cartridge)
  /-- After the wait CRT powers the cartridge, verifies its identity and classifies it by its superblock. (R305) `scap`: R308's measurement of a BC-2 bank, in 0.01 F. -/
  | cartridgeIdentify (scap : BitVec 16)
  /-- The journal engine completes an entry and seals the ply on its LAST entry. (R312) -/
  | journalEntryWritten
  /-- CRT.CMD.CKPT requests a checkpoint at the next C2 COMMIT end. (R315) -/
  | ckptCommand (m : BitVec 6)
  /-- The checkpoint copy ends and CRT writes END, CRCs and COMPLETE. (R315) -/
  | checkpointComplete
  /-- The power-fail or removal flush reaches MRAM and raises source 202. (R320) -/
  | crtFlushComplete
  /-- CRT.CMD.RELEASE marks the superblock removed and starts the removal flush. (R321) -/
  | cartridgeRelease (m : BitVec 6)
  /-- CRT powers the interface down, STATE becomes ABSENT and source 201 is raised. (R321) -/
  | cartridgeRemoved
  /-- The cartridge contacts break, tearing any unsealed entries. (R325) -/
  | cartridgeContactBreak
  /-- CRT.CMD.FORMAT writes superblock, life record, counters, force record, journal and checkpoint, or is refused. (R323) -/
  | cartridgeFormat (m : BitVec 6) (key : BitVec 16)
  /-- CRT.CMD.ADOPT rewrites ownership in HOLD or SERVICE, formats in LEAD or TRACK, or is refused in START. (R324) -/
  | cartridgeAdopt (m : BitVec 6) (key : BitVec 16)
  /-- CRT.NAND.CMD.GO with OP read reads a page with BCH correction. (R319) -/
  | nandRead (m : BitVec 6)
  /-- CRT.NAND.CMD.GO with OP program programs a page. (R319) -/
  | nandProgram (m : BitVec 6)
  /-- CRT.NAND.CMD.GO with OP erase erases a block. (R319) -/
  | nandErase (m : BitVec 6)
  /-- A NAND operation ends, setting FAIL, UNCORR or MAXFLIP. (R319) `uncorr`: the codewords that are uncorrectable; `corr`: the bits corrected. -/
  | nandOpComplete (fail : Bool) (uncorr : BitVec 4) (maxflip : Fin 41) (corr : BitVec 16)
  /-- ER.WCMD.GO submits a record that is refused, accepted with a SEQ, or dropped. (R329) -/
  | erWriteRequest (m : BitVec 6) (n : BitVec 8)
  /-- A write to ER.SEQNEXT sets the next SEQ, or is ignored with 0x91 after an acceptance. (R330) -/
  | seqnextWrite (m : BitVec 6) (value : BitVec 32)
  /-- With BC-1 ER programs the next sector with queued records when no program is in progress. (R333) Whether the program and any erase before it succeed. -/
  | erSectorProgram (ok : Bool)
  /-- With BC-2 a flush trigger writes the module buffer to NAND in whole sectors. (R334) -/
  | erFlush
  /-- A flush ends and raises source 207. (R334) -/
  | erFlushComplete
  /-- ER.CURCMD OP 1 positions the master's cursor on the oldest valid record. (R339) -/
  | erCursorOldest (m : BitVec 6)
  /-- ER.CURCMD OP 2 positions the cursor on the newest valid record. (R339) -/
  | erCursorNewest (m : BitVec 6)
  /-- ER.CURCMD OP 3 positions the cursor on the record with the given SEQ or the next one. (R339) -/
  | erCursorSeek (m : BitVec 6)
  /-- A write of ER.NEXT moves the cursor to the next valid record. (R339) -/
  | erNext (m : BitVec 6)
  /-- A cursor move ends and the window, CURSOR and RSTAT show the record or END. (R339) -/
  | erCursorMoveComplete (m : BitVec 6)
  /-- A read of ER.CLRTOKEN returns a fresh token and invalidates earlier ones. (R340) -/
  | clrtokenRead (m : BitVec 6)
  /-- A clear token expires 10 s after it was read. (R340) -/
  | clearTokenExpiry
  /-- A privileged write of the valid token to ER.CLR starts a clear, or records 0x93 or 0x94. (R341) -/
  | erClr (m : BitVec 6) (priv : Bool) (value : BitVec 32)
  /-- The clear finishes erasing older units and resets the drop counters and STOP. (R341) -/
  | erClearComplete
  /-- An input group is sampled at its period, filtered and checked for selected changes of state. (R344) -/
  | lioGroupSample (g : Fin 4) (levels : BitVec 8)
  /-- Readback differing from the command for 1 ms sets DQRBERR and raises source 219. (R354) -/
  | readbackMismatch (k : Fin 16)
  /-- An open-load condition held for 10 ms sets DQOL and raises source 213. (R355) -/
  | openLoad (k : Fin 16) (off : Bool)
  /-- The current limit active for 100 µs sets DQILIM and raises source 214. (R356) -/
  | currentLimit (k : Fin 16)
  /-- An output's junction at 150 °C switches it off, sets HOT and raises source 212. (R357) -/
  | thermalShutdown (k : Fin 16)
  /-- HOT clears after cooling, releasing auto-restart or a pending latch clear. (R357) -/
  | thermalCool (k : Fin 16)
  /-- A write of LIO.DQCLR clears LATCH or sets CLRPEND while HOT. (R358) -/
  | dqclr (m : BitVec 6) (value : BitVec 16)
  /-- A field supply held missing, low or good for 1 ms changes state and raises its sources. (R360) Which of the two states the measured `mv` has held for 1 ms. -/
  | fieldSupplyChange (group : Fin 2) (missing low : Bool) (mv : BitVec 16)
  /-- A SEATED contact opening turns local outputs off, drives CAN recessive and counts the feeds as failed. (R448) -/
  | seatedOpen (contact : Fin 2)
  /-- Both SEATED contacts made again end row 1 and outputs return by R463. (R463) -/
  | seatedMade (contact : Fin 2)
  /-- A checked CAN controller in STARTING sees 11 recessive bits and enters ON. (R367) -/
  | rbBusIdle (u : Fin 2)
  /-- RBn.OBJCMD.WRITE stores the staging registers into a message object, or is refused. (R368) -/
  | rbObjWrite (m : BitVec 6) (u : Fin 2)
  /-- RBn.OBJCMD.READ loads a message object into the staging registers. (R368) -/
  | rbObjRead (m : BitVec 6) (u : Fin 2)
  /-- RBn.OBJCMD.LOAD copies TXBUF and DLC into the object, or is refused with 0xB4. (R372) -/
  | rbObjLoad (m : BitVec 6) (u : Fin 2)
  /-- A write of TXREQk bits requests transmission of send objects. (R372) -/
  | rbTxRequest (m : BitVec 6) (u : Fin 2) (k : Fin 3) (bits : BitVec 32)
  /-- A write of TXCANk bits cancels a pending or in-progress request. (R373) -/
  | rbTxCancel (m : BitVec 6) (u : Fin 2) (k : Fin 3) (bits : BitVec 32)
  /-- Before a frame start the controller picks the pending object that wins arbitration. (R372) -/
  | rbTxStart (u : Fin 2)
  /-- A transmission succeeds, setting TXDONE and TXSTATE DONE. (R372) -/
  | rbTxSuccess (u : Fin 2)
  /-- A transmission ends in an error frame, counting an attempt and retrying or failing. (R372) `kind`, `inData`: the error as LEC codes it; `counts`: TEC counts it by ISO 11898-1; `lost`: the frame ended by lost arbitration, which is no error. -/
  | rbTxError (u : Fin 2) (kind : Fin 7) (inData : Bool) (counts : Bool) (lost : Bool)
  /-- A valid received frame is stored in the lowest matching object's queue or dropped. (R369) `ago`: ns since the sample point of its SOF bit. -/
  | rbFrameReceived (u : Fin 2) (f : CanFrame) (ago : BitVec 32)
  /-- A write of RXSEL selects a queue entry for reading. (R371) -/
  | rbRxSelect (m : BitVec 6) (u : Fin 2) (obj : BitVec 7) (pos : BitVec 4)
  /-- A write of RXACK frees the oldest owned entries of an object. (R371) -/
  | rbRxAck (m : BitVec 6) (u : Fin 2) (obj : BitVec 7) (n : BitVec 5)
  /-- TEC above 255 takes the node bus-off and counts BUSOFF. (R375) -/
  | rbBusOff (u : Fin 2)
  /-- After 128 occurrences of 11 recessive bits the node becomes error-active again. (R375) -/
  | rbBusoffRecovery (u : Fin 2)
  /-- GATE.CMD.WRITE stores a region entry, or is refused with 0xC0 or 0xC1. (R390) -/
  | gateCmdWrite (m : BitVec 6)
  /-- GATE.CMD.READ loads a region entry into the staging registers. (R390) -/
  | gateCmdRead (m : BitVec 6)
  /-- DBG.CMD.NEWCHAL makes a fresh random challenge. (R392) -/
  | dbgNewchal (m : BitVec 6)
  /-- DBG.CMD.UNLOCK checks the response and grants or refuses debug unlock. (R392) -/
  | dbgUnlock (m : BitVec 6)
  /-- DBG.CMD.RELOCK ends debug unlock. (R393) -/
  | dbgRelock (m : BitVec 6)
  /-- DBG.CMD.RESET issues a reset of cause 5 while unlocked. (R394) -/
  | dbgReset (m : BitVec 6)
  /-- DBG.CMD.HALT asks a core pair to halt and raises source 251. (R394) -/
  | dbgHalt (m : BitVec 6) (cores : BitVec 2)
  /-- DBG.CMD.RESUME releases a halted core pair. (R394) -/
  | dbgResume (m : BitVec 6) (cores : BitVec 2)
  /-- A HELLO datagram opens a session handshake and is answered with the module nonce, key and signature. (R402) `chosen`: the session number drawn (R402). -/
  | ncpHello (q : NcpReq) (cert : Cert) (chosen : BitVec 32)
  /-- FINISH with a valid host signature opens the session. (R402) -/
  | ncpFinish (q : NcpReq)
  /-- KEEPALIVE keeps a session alive and is answered OK. (R406) -/
  | ncpKeepalive (q : NcpReq)
  /-- BYE is answered OK and closes the session. (R405) -/
  | ncpBye (q : NcpReq)
  /-- IDENT returns the module's identity, units, mode, slot, claim and layout. (R406) -/
  | ncpIdent (q : NcpReq)
  /-- CARTID returns the cartridge identity block signed over the challenge. (R406) -/
  | ncpCartid (q : NcpReq)
  /-- READVAR returns bytes of a variable named by symbol ID. (R407) -/
  | ncpReadvar (q : NcpReq)
  /-- WRITEVAR writes a param or operator field into a HOST range in LEAD. (R407) -/
  | ncpWritevar (q : NcpReq)
  /-- STOP takes a LEAD or TRACK module to HOLD with HOLDCAUSE 1. (R406) -/
  | ncpStop (q : NcpReq)
  /-- RESTART performs a warm or cold restart from HOLD and claims the lease. (R53) -/
  | ncpRestart (q : NcpReq)
  /-- JOIN takes a HOLD module to TRACK and starts a join with the leading partner. (R406) -/
  | ncpJoin (q : NcpReq)
  /-- CASTLE requests planned castling and answers with the castling result. (R259) -/
  | ncpCastle (q : NcpReq)
  /-- ENTER_SERVICE takes a TRACK or HOLD module to SERVICE. (R406) -/
  | ncpEnterService (q : NcpReq)
  /-- LEAVE_SERVICE answers and then issues a commanded reset. (R406) -/
  | ncpLeaveService (q : NcpReq)
  /-- RESET issues a commanded reset, refused with E_STATE in LEAD. (R60) -/
  | ncpReset (q : NcpReq)
  /-- PKGLOAD carries one block of a change package part into its transfer. (R409) -/
  | ncpPkgload (q : NcpReq)
  /-- VERIFY runs sealed-move verification and answers OK, E_VERIFY or E_CARRY. (R147) -/
  | ncpVerify (q : NcpReq)
  /-- SEAL re-resolves forces, agrees with the partner and arms a forward or reverse switch. (R149) -/
  | ncpSeal (q : NcpReq)
  /-- UNSEAL arms the reverse switch while REVOK is 1. (R155) -/
  | ncpUnseal (q : NcpReq)
  /-- FORCE sets or clears a force entry after the partner's acknowledgment and the cartridge record. (R159) -/
  | ncpForce (q : NcpReq)
  /-- FORCELIST returns the active force entries. (R408) -/
  | ncpForcelist (q : NcpReq)
  /-- IMGLOAD carries one block of an image into UPD. (R419) -/
  | ncpImgload (q : NcpReq) (room : Bool)
  /-- IMGSTAT returns the slot states of every image type. (R425) -/
  | ncpImgstat (q : NcpReq)
  /-- ERREAD returns whole event records from a sought, oldest or newest position. (R410) -/
  | ncpErread (q : NcpReq)
  /-- ERCLEAR clears the event log through the clear token. (R340) -/
  | ncpErclear (q : NcpReq)
  /-- ADOPT makes firmware adopt the fitted cartridge. (R324) -/
  | ncpAdopt (q : NcpReq)
  /-- CARTFORMAT formats the cartridge. (R323) -/
  | ncpCartformat (q : NcpReq)
  /-- ACYC queues an acyclic request to a station and answers with its uplink. (R411) -/
  | ncpAcyc (q : NcpReq)
  /-- PUBKEY returns both publication keys wrapped under K_wrap. (R414) -/
  | ncpPubkey (q : NcpReq)
  /-- No ACYC uplink within 2 s answers E_STATION. (R411) -/
  | acycTimeout (seg : Fin 16) (st : Fin 32)
  /-- Each publication period firmware sends PUBLISH packets with tagged values formed by R14. (R413) -/
  | publish (id : BitVec 32)
  /-- Every 24 h the lead replaces the unused publication key and sends it to the partner. (R414) -/
  | publicationKeyRotate
  /-- A session without FINISH within 5 s is discarded. (R402) -/
  | helloTimeout (session : BitVec 32)
  /-- A session without a valid request for 60 s closes. (R405) -/
  | sessionTimeout (session : BitVec 32)
  /-- A bulk transfer is discarded 60 s after its last block. (R409) `image`: a transfer of IMGLOAD, else of PKGLOAD. -/
  | transferTimeout (image : Bool) (object : BitVec 32)
  /-- A MAC receives a frame into the next owned receive descriptor or drops it. (R416) -/
  | emacFrameReceived (mac : Fin 3) (f : EthFrame)
  /-- EMACx.TXKICK makes the MAC scan the transmit ring and send owned descriptors. (R416) -/
  | emacTxkick (m : BitVec 6) (mac : Fin 3)
  /-- A MAC finishes sending a frame and returns its descriptor. (R416) `sfd`: the MT of the tick in which its start-frame delimiter passed (12 R278). -/
  | emacFrameSent (mac : Fin 3) (sfd : BitVec 64)
  /-- A MAC's link goes up or down. (R416) -/
  | emacLinkChange (mac : Fin 3) (up : Bool) (speed : Fin 3) (fdx : Bool)
  /-- UPD.BLK.GO submits an image block, checking the header on offset 0 and writing the slot. (R419) `room`: the slot region has the good blocks the image needs (R420). -/
  | updBlockSubmit (m : BitVec 6) (room : Bool)
  /-- The complete image is verified and the slot becomes PENDING or EMPTY. (R421) -/
  | updVerifyComplete
  /-- UPD.CMD.CANCEL discards the open transfer and empties the slot. (R427) -/
  | updCancel (m : BitVec 6)
  /-- UPD.CMD.UNPEND sets the PENDING slot of a type to VALID, or records 0xF3. (R427) -/
  | updUnpend (m : BitVec 6) (type : BitVec 8)
  /-- A core lockstep compare error gives cause 0x01 or 0x02 with a safety reset. (R429) -/
  | coreLockstepError (pair : Fin 2) (info : BitVec 32)
  /-- An uncorrectable memory or parity error on read gives its cause and reaction. (R429) -/
  | uncorrectableEcc (site : EccSite) (addr : BitVec 36)
  /-- A clock outside its limit sets CLKERR and raises source 6 and cause 0x0D or a guardian block. (R436) -/
  | clockMonitorFault (clock : ClockId)
  /-- A rail outside ±5 % gives cause 0x0E, and a deep drop a supply reset. (R437) -/
  | voltageMonitorFault (rail : Fin 6) (deep : Bool)
  /-- A SoC junction reading above 110 °C gives cause 0x0E. (R456) -/
  | temperatureFault
  /-- A safe-state line readback mismatch gives cause 0x11. (R429) -/
  | safeStateReadbackFault
  /-- A mismatch between the two SAF channels gives cause 0x12. (R440) -/
  | safChannelMismatch
  /-- Every 10 ms a diagnostic pass starts, counting an overrun when the previous pass has not ended. (R434) -/
  | diagPassStart
  /-- All enabled items complete, raising source 15 and recording the pass duration. (R434) -/
  | diagPassComplete (durUs : BitVec 16) (checkersOk : Bool)
  /-- Each second SAF compares the corrected-error count with ECCTHR and raises source 14. (R440) -/
  | eccCountSecond (count : BitVec 16)
  /-- A write to SAF.WDn.SVC advances or completes a service, or gives cause 0x0F. (R438) -/
  | watchdogService (n : Fin 2) (value : BitVec 32)
  /-- A watchdog at 75 % of TMO raises source 1. (R438) -/
  | watchdogPreExpiry (n : Fin 2)
  /-- No service within TMO gives cause 0x0F and a watchdog reset. (R438) -/
  | watchdogExpiry (n : Fin 2)
  /-- The second service key not arriving within 10 µs gives cause 0x0F. (R438) -/
  | watchdogKeyTimeout (n : Fin 2)
  /-- SAF.INJECT.GO in SERVICE takes a safety fault of cause 0x15, or records 0x11. (R444) -/
  | safInject (m : BitVec 6)
  /-- Activation of the selected move and constant half ends within 2 ms, making the half active or recording the first failed check in XE.MM.HDRh.CHECK and ERRINFO. (R103) -/
  | activationComplete
  /-- A CAN controller detects a bus error while receiving, sends an error frame, raises REC, updates LEC and may change ERR.STATE or WARN. (R375) `heavy`: an error that ISO 11898-1 counts with 8. -/
  | rbReceiveError (u : Fin 2) (kind : Fin 7) (inData : Bool) (heavy : Bool)
  /-- A rising edge at the 1PPS input restarts the 1,100 ms missing-edge count. (R277) -/
  | ppsInputEdge
  deriving DecidableEq, Repr

end Sys2Proof
end

