-- ==== Sys2Proof/Machine/Bits.lean ====
section
/-! DEFINITION. Bit fields, counters, byte order and check codes on natural numbers, as the register and
frame layouts of the spec use them. -/

namespace Sys2Proof.Machine

/-- Bit `i` of `v`. -/
def nbit (v i : Nat) : Bool := v / 2 ^ i % 2 == 1

/-- The `w` bits of `v` from bit `lo` up. -/
def nfield (v lo w : Nat) : Nat := v / 2 ^ lo % 2 ^ w

/-- `v` with bit `i` set to `b`. -/
def nsetBit (v i : Nat) (b : Bool) : Nat :=
  if nbit v i = b then v else if b then v + 2 ^ i else v - 2 ^ i

def b2n (b : Bool) : Nat := if b then 1 else 0

/-- Counters of `w` bits: one that saturates and one that wraps (00 Table 0.4's descriptions). -/
def satAdd (w v d : Nat) : Nat := if v + d < 2 ^ w then v + d else 2 ^ w - 1
def wrapAdd (w v d : Nat) : Nat := (v + d) % 2 ^ w

/-- The signed value of a `w`-bit number. -/
def sgn (w v : Nat) : Int := if v % 2 ^ w < 2 ^ (w - 1) then (v % 2 ^ w : Nat) else ((v % 2 ^ w : Nat) : Int) - (2 ^ w : Nat)

/-- The `w`-bit two's complement pattern of an integer. -/
def unsgn (w : Nat) (i : Int) : Nat := (i % ((2 ^ w : Nat) : Int)).toNat

/-- The little-endian number of a list of bytes. -/
def leNat : List (BitVec 8) → Nat
  | [] => 0
  | b :: bs => b.toNat + 256 * leNat bs

/-- The big-endian number of a list of bytes. -/
def beNat (bs : List (BitVec 8)) : Nat := bs.foldl (fun a b => a * 256 + b.toNat) 0

/-- `n` bytes of `v`, little-endian. -/
def leBytes : Nat → Nat → List (BitVec 8)
  | 0, _ => []
  | n + 1, v => BitVec.ofNat 8 v :: leBytes n (v / 256)

/-- `n` bytes of `v`, big-endian. -/
def beBytes (n v : Nat) : List (BitVec 8) := (leBytes n v).reverse

/-- One bit of a reflected CRC with polynomial `poly`. -/
def crcBitR (poly v : Nat) : Nat := if v % 2 = 1 then (v / 2) ^^^ poly else v / 2

def crcByteR (poly c : Nat) (b : BitVec 8) : Nat :=
  let v := c ^^^ b.toNat
  crcBitR poly (crcBitR poly (crcBitR poly (crcBitR poly (crcBitR poly (crcBitR poly (crcBitR poly (crcBitR poly v)))))))

/-- CRC-32 of IEEE 802.3: reflected polynomial 0xEDB88320, preset and final inversion of all ones. -/
def crc32 (bs : List (BitVec 8)) : Nat :=
  (bs.foldl (crcByteR 0xEDB88320) 0xFFFFFFFF) ^^^ 0xFFFFFFFF

/-- CRC-16/CCITT (09 R188): polynomial 0x1021, initial value 0xFFFF. -/
def crc16Bit (v : Nat) : Nat := if nbit v 15 then ((v * 2) ^^^ 0x1021) % 2 ^ 16 else v * 2 % 2 ^ 16
def crc16Byte (c : Nat) (b : BitVec 8) : Nat :=
  let v := c ^^^ (b.toNat * 256)
  crc16Bit (crc16Bit (crc16Bit (crc16Bit (crc16Bit (crc16Bit (crc16Bit (crc16Bit v)))))))
def crc16 (bs : List (BitVec 8)) : Nat := bs.foldl crc16Byte 0xFFFF

/-- The first index at which a test holds. -/
def findIdx (p : α → Bool) : List α → Nat → Option Nat
  | [], _ => none
  | x :: xs, i => if p x then some i else findIdx p xs (i + 1)

/-- The first of a list of numbered checks that fails, or 0 (the "first failed check" fields). -/
def firstFail : List (Nat × Bool) → Nat
  | [] => 0
  | (n, ok) :: cs => if ok then firstFail cs else n

/-- The natural numbers below `n`, rising. -/
def upTo (n : Nat) : List Nat := List.range n

/-! Sparse maps: a list of keys and values, the keys rising, with no entry equal to the default. Registers,
memory and every array of the state are held so. -/

abbrev SMap (α : Type) := List (Nat × α)

/-- The value at key `k`, or the default `d` where none is listed. -/
def smGet (d : α) : SMap α → Nat → α
  | [], _ => d
  | (j, v) :: m, k => if j = k then v else smGet d m k

/-- The map with key `k` listed at `v`, in its place. -/
def smPut : SMap α → Nat → α → SMap α
  | [], k, v => [(k, v)]
  | (j, w) :: m, k, v =>
    if k < j then (k, v) :: (j, w) :: m
    else if k = j then (k, v) :: m
    else (j, w) :: smPut m k v

/-- The map with key `k` at `v`; a value equal to the default takes the entry out. -/
def smSet [DecidableEq α] (d : α) (m : SMap α) (k : Nat) (v : α) : SMap α :=
  if v = d then m.filter (fun e => e.1 ≠ k) else smPut m k v

/-- The canonical form: keys strictly rising, no entry equal to the default. -/
def smWf [DecidableEq α] (d : α) : SMap α → Bool
  | [] => true
  | [(_, v)] => v ≠ d
  | (j, v) :: (k, w) :: m => decide (v ≠ d) && decide (j < k) && smWf d ((k, w) :: m)

end Sys2Proof.Machine
end

