-- ==== Sys2Proof/Machine/Regs.lean ====
section
/-! DEFINITION. The register fields of the module, one row per field of the spec's register tables
(02 Table 2.3 and the "registers" table of each chapter): page, offset, bits, access code, reset value. -/

namespace Sys2Proof.Machine

/-- Access codes of 00 Table 0.4 (R8). -/
inductive Acc where
  | ro | rw | rwl | w1c | wo | rc | ws
  deriving DecidableEq, Repr

/-- What returns a field to its reset value: every reset, a power-on reset only (R57), the loss of the
backup state (R285), or nothing (a pin or a value of the die). -/
inductive RstCls where
  | any | por | bk | pin | die
  deriving DecidableEq, Repr

/-- One row of a register table. A row with `count` above 1 stands for an array of fields, `stride`
bytes apart. `banked` marks a field held separately for each fabric master. `rsts` gives the reset
values of the first entries of an array where they differ from `rst`; `rstAt` those of single units. -/
structure Row where
  page : Nat
  off : Nat
  stride : Nat
  count : Nat
  lo : Nat
  width : Nat
  acc : Acc
  rst : Nat
  rsts : List Nat := []
  rstAt : List (Nat × Nat) := []
  cls : RstCls := .any
  banked : Bool := false
  deriving DecidableEq, Repr

def Acc.code : Acc → Nat
  | .ro => 0 | .rw => 1 | .rwl => 2 | .w1c => 3 | .wo => 4 | .rc => 5 | .ws => 6

def RstCls.code : RstCls → Nat
  | .any => 0 | .por => 1 | .bk => 2 | .pin => 3 | .die => 4

/-- The key of entry `k` of the row in unit instance `u` (a page offset) for master `m`: the reset class,
the access code, the master where the row is banked, the page, the byte offset and the low bit. -/
def Row.key (r : Row) (k u m : Nat) : Nat :=
  ((((r.cls.code * 8 + r.acc.code) * 64 + (if r.banked then m % 64 else 0)) * 256 + (r.page + u) % 256) * 4096
    + (r.off + r.stride * k) % 4096) * 32 + r.lo

/-- The parts of a key, read back from it. -/
def keyCls (key : Nat) : Nat := key / 2 ^ 34
def keyAcc (key : Nat) : Nat := key / 2 ^ 31 % 8
def keyPage (key : Nat) : Nat := key / 2 ^ 17 % 256

/-- The reset value of entry `k` in unit instance `u`. -/
def Row.reset (r : Row) (k u : Nat) : Nat :=
  match r.rstAt.lookup u with
  | some v => v
  | none => r.rsts.getD k r.rst

namespace R

/-! The common page header (02 Table 2.3), its unit instance being the page index. -/

def H_BLKID_PAGES : Row := { page := 0, off := 0x000, stride := 0, count := 1, lo := 0, width := 8, acc := .ro, rst := 0 }
def H_BLKID_INST : Row := { page := 0, off := 0x000, stride := 0, count := 1, lo := 8, width := 8, acc := .ro, rst := 0 }
def H_BLKID_TYPE : Row := { page := 0, off := 0x000, stride := 0, count := 1, lo := 16, width := 16, acc := .ro, rst := 0 }
/-- BLKVER: the spec gives no unit a value; the model's units read 0 in both fields (DESIGN CHOICE, log entry 6). -/
def H_BLKVER_MINOR : Row := { page := 0, off := 0x004, stride := 0, count := 1, lo := 0, width := 8, acc := .ro, rst := 0 }
/-- BLKVER.MAJOR: 0 for every unit (DESIGN CHOICE, log entry 6). -/
def H_BLKVER_MAJOR : Row := { page := 0, off := 0x004, stride := 0, count := 1, lo := 8, width := 8, acc := .ro, rst := 0 }
def H_PRESENT : Row := { page := 0, off := 0x008, stride := 0, count := 1, lo := 0, width := 1, acc := .ro, rst := 0 }
def H_CAPS : Row := { page := 0, off := 0x00C, stride := 0, count := 1, lo := 0, width := 32, acc := .ro, rst := 0 }
def H_CTRL_EN : Row := { page := 0, off := 0x010, stride := 0, count := 1, lo := 0, width := 1, acc := .rw, rst := 0, rstAt := [(0x00, 1), (0x01, 1), (0x02, 1), (0x03, 1), (0x05, 1), (0x06, 1), (0x10, 1), (0x18, 1), (0x30, 1), (0x38, 1), (0x39, 1), (0x3A, 1), (0x40, 1), (0x48, 1), (0x50, 1), (0x58, 1), (0x68, 1), (0x70, 1)] }
def H_CTRL_SRST : Row := { page := 0, off := 0x010, stride := 0, count := 1, lo := 1, width := 1, acc := .ws, rst := 0 }
def H_STATE : Row := { page := 0, off := 0x014, stride := 0, count := 1, lo := 0, width := 3, acc := .ro, rst := 0 }
def H_EN_PENDING : Row := { page := 0, off := 0x014, stride := 0, count := 1, lo := 8, width := 1, acc := .ro, rst := 0 }
def H_EVRAW : Row := { page := 0, off := 0x018, stride := 0, count := 1, lo := 0, width := 32, acc := .ro, rst := 0 }
def H_EVEN : Row := { page := 0, off := 0x01C, stride := 0, count := 1, lo := 0, width := 32, acc := .rw, rst := 0 }
def H_EVSTAT : Row := { page := 0, off := 0x020, stride := 0, count := 1, lo := 0, width := 32, acc := .w1c, rst := 0 }
def H_EVFORCE : Row := { page := 0, off := 0x024, stride := 0, count := 1, lo := 0, width := 32, acc := .wo, rst := 0 }
def H_LOCK_KEY : Row := { page := 0, off := 0x028, stride := 0, count := 1, lo := 0, width := 16, acc := .wo, rst := 0 }
def H_LOCK_ARMED : Row := { page := 0, off := 0x028, stride := 0, count := 1, lo := 16, width := 1, acc := .ro, rst := 0 }
def H_LOCK_LOCKED : Row := { page := 0, off := 0x028, stride := 0, count := 1, lo := 17, width := 1, acc := .ro, rst := 0 }
def H_ERR_CODE : Row := { page := 0, off := 0x02C, stride := 0, count := 1, lo := 0, width := 8, acc := .rc, rst := 0 }
def H_ERR_OFFSET : Row := { page := 0, off := 0x02C, stride := 0, count := 1, lo := 8, width := 12, acc := .rc, rst := 0 }
def H_ERR_MORE : Row := { page := 0, off := 0x02C, stride := 0, count := 1, lo := 31, width := 1, acc := .rc, rst := 0 }
def H_CFGGEN : Row := { page := 0, off := 0x030, stride := 0, count := 1, lo := 0, width := 32, acc := .ro, rst := 0 }

/-! 02_register_pages.md, Table 2.7. -/

/-- EVC.PENDk, bits 31:0 at 0x03 page, 0x100 + 4k (k = 0–7). -/
def EVC_PEND : Row := { page := 0x03, off := 0x100, stride := 0x04, count := 8, lo := 0, width := 32, acc := .ro, rst := 0 }
/-- EVC.ENAk, bits 31:0 at 0x03 page, 0x120 + 4k. -/
def EVC_ENA : Row := { page := 0x03, off := 0x120, stride := 0x04, count := 8, lo := 0, width := 32, acc := .rwl, rst := 0, rsts := [255] }
/-- EVC.THRn.THR, bits 4:0 at 0x03 page, 0x140 + 4n (n = 0, 1). -/
def EVC_THR_THR : Row := { page := 0x03, off := 0x140, stride := 0x04, count := 2, lo := 0, width := 5, acc := .rw, rst := 0 }
/-- EVC.CLAIMn.VALID, bits 31 at 0x03 page, 0x150 + 4n. -/
def EVC_CLAIM_VALID : Row := { page := 0x03, off := 0x150, stride := 0x04, count := 2, lo := 31, width := 1, acc := .rc, rst := 0 }
/-- EVC.CLAIMn.SRC, bits 7:0 at 0x03 page, 0x150 + 4n. -/
def EVC_CLAIM_SRC : Row := { page := 0x03, off := 0x150, stride := 0x04, count := 2, lo := 0, width := 8, acc := .rc, rst := 0 }
/-- EVC.COMPLETEn.SRC, bits 7:0 at 0x03 page, 0x160 + 4n. -/
def EVC_COMPLETE_SRC : Row := { page := 0x03, off := 0x160, stride := 0x04, count := 2, lo := 0, width := 8, acc := .wo, rst := 0 }
/-- EVC.SRCCFGs.PRIO, bits 4:0 at 0x04 page, 0x000 + 4s (s = 0–255). -/
def EVC_SRCCFG_PRIO : Row := { page := 0x04, off := 0x000, stride := 0x04, count := 256, lo := 0, width := 5, acc := .rwl, rst := 0, rsts := [31, 31, 31, 31, 31, 31, 31, 31] }
/-- EVC.SRCCFGs.ROUTE, bits 9:8 at 0x04 page, 0x000 + 4s. -/
def EVC_SRCCFG_ROUTE : Row := { page := 0x04, off := 0x000, stride := 0x04, count := 256, lo := 8, width := 2, acc := .rwl, rst := 0, rsts := [3, 3, 3, 3, 3, 3, 3, 3] }
/-- EVC.SRCCFGs.SERV0, bits 16 at 0x04 page, 0x000 + 4s. -/
def EVC_SRCCFG_SERV0 : Row := { page := 0x04, off := 0x000, stride := 0x04, count := 256, lo := 16, width := 1, acc := .ro, rst := 0 }
/-- EVC.SRCCFGs.SERV1, bits 17 at 0x04 page, 0x000 + 4s. -/
def EVC_SRCCFG_SERV1 : Row := { page := 0x04, off := 0x000, stride := 0x04, count := 256, lo := 17, width := 1, acc := .ro, rst := 0 }

/-! 03_modes.md, Table 3.9. -/

/-- SYS.IDENT.FAMILY, bits 31:16 at 0x100. -/
def SYS_IDENT_FAMILY : Row := { page := 0x00, off := 0x100, stride := 0x00, count := 1, lo := 16, width := 16, acc := .ro, rst := 19764 }
/-- SYS.IDENT.DIEREV, bits 15:8 at 0x100. The value is per die; the model's die has 0 (DESIGN CHOICE, log entry 4). -/
def SYS_IDENT_DIEREV : Row := { page := 0x00, off := 0x100, stride := 0x00, count := 1, lo := 8, width := 8, acc := .ro, rst := 0, cls := .die }
/-- SYS.IDENT.VARIANT, bits 7:0 at 0x100. -/
def SYS_IDENT_VARIANT : Row := { page := 0x00, off := 0x100, stride := 0x00, count := 1, lo := 0, width := 8, acc := .ro, rst := 1, cls := .die }
/-- SYS.UNITS0, bits 31:0 at 0x104. -/
def SYS_UNITS0 : Row := { page := 0x00, off := 0x104, stride := 0x00, count := 1, lo := 0, width := 32, acc := .ro, rst := 4294967295, cls := .die }
/-- SYS.UNITS1, bits 11:0 at 0x108. -/
def SYS_UNITS1 : Row := { page := 0x00, off := 0x108, stride := 0x00, count := 1, lo := 0, width := 12, acc := .ro, rst := 4095, cls := .die }
/-- SYS.MODE.MODE, bits 2:0 at 0x10C. -/
def SYS_MODE_MODE : Row := { page := 0x00, off := 0x10C, stride := 0x00, count := 1, lo := 0, width := 3, acc := .ro, rst := 1 }
/-- SYS.MODE.SYNC, bits 4 at 0x10C. -/
def SYS_MODE_SYNC : Row := { page := 0x00, off := 0x10C, stride := 0x00, count := 1, lo := 4, width := 1, acc := .ro, rst := 0 }
/-- SYS.MODE.HOLDCAUSE, bits 11:8 at 0x10C. -/
def SYS_MODE_HOLDCAUSE : Row := { page := 0x00, off := 0x10C, stride := 0x00, count := 1, lo := 8, width := 4, acc := .ro, rst := 0 }
/-- SYS.MODE.RESTART, bits 13:12 at 0x10C. -/
def SYS_MODE_RESTART : Row := { page := 0x00, off := 0x10C, stride := 0x00, count := 1, lo := 12, width := 2, acc := .ro, rst := 0 }
/-- SYS.MODE.CHANGES, bits 31:16 at 0x10C. -/
def SYS_MODE_CHANGES : Row := { page := 0x00, off := 0x10C, stride := 0x00, count := 1, lo := 16, width := 16, acc := .ro, rst := 0 }
/-- SYS.MODECMD.TARGET, bits 2:0 at 0x110. -/
def SYS_MODECMD_TARGET : Row := { page := 0x00, off := 0x110, stride := 0x00, count := 1, lo := 0, width := 3, acc := .wo, rst := 0 }
/-- SYS.MODECMD.CAUSE, bits 11:8 at 0x110. -/
def SYS_MODECMD_CAUSE : Row := { page := 0x00, off := 0x110, stride := 0x00, count := 1, lo := 8, width := 4, acc := .wo, rst := 0 }
/-- SYS.MODECMD.KEY, bits 31:16 at 0x110. -/
def SYS_MODECMD_KEY : Row := { page := 0x00, off := 0x110, stride := 0x00, count := 1, lo := 16, width := 16, acc := .wo, rst := 0 }
/-- SYS.STARTSTEP.STEP, bits 7:0 at 0x114. -/
def SYS_STARTSTEP_STEP : Row := { page := 0x00, off := 0x114, stride := 0x00, count := 1, lo := 0, width := 8, acc := .ro, rst := 1 }
/-- SYS.STARTSTEP.FAIL, bits 15:8 at 0x114. -/
def SYS_STARTSTEP_FAIL : Row := { page := 0x00, off := 0x114, stride := 0x00, count := 1, lo := 8, width := 8, acc := .ro, rst := 0 }
/-- SYS.STARTSTEP.PENDSLOT, bits 16 at 0x114. -/
def SYS_STARTSTEP_PENDSLOT : Row := { page := 0x00, off := 0x114, stride := 0x00, count := 1, lo := 16, width := 1, acc := .ro, rst := 0 }
/-- SYS.RSTCAUSE.HIST, bits 5:0 at 0x118. -/
def SYS_RSTCAUSE_HIST : Row := { page := 0x00, off := 0x118, stride := 0x00, count := 1, lo := 0, width := 6, acc := .w1c, rst := 1, cls := .por }
/-- SYS.RSTCAUSE.LAST, bits 10:8 at 0x118. -/
def SYS_RSTCAUSE_LAST : Row := { page := 0x00, off := 0x118, stride := 0x00, count := 1, lo := 8, width := 3, acc := .ro, rst := 0, cls := .por }
/-- SYS.RSTCOUNT.COUNT, bits 15:0 at 0x11C. -/
def SYS_RSTCOUNT_COUNT : Row := { page := 0x00, off := 0x11C, stride := 0x00, count := 1, lo := 0, width := 16, acc := .ro, rst := 0, cls := .por }
/-- SYS.NEXTSTART.KIND, bits 1:0 at 0x120. -/
def SYS_NEXTSTART_KIND : Row := { page := 0x00, off := 0x120, stride := 0x00, count := 1, lo := 0, width := 2, acc := .rw, rst := 0, cls := .por }
/-- SYS.STARTPOL.POLICY, bits 2:0 at 0x124. -/
def SYS_STARTPOL_POLICY : Row := { page := 0x00, off := 0x124, stride := 0x00, count := 1, lo := 0, width := 3, acc := .rwl, rst := 0 }
/-- SYS.KEYSW.POS, bits 0 at 0x128. A level from outside, of which the spec gives no number (DESIGN CHOICE, log entry 5). -/
def SYS_KEYSW_POS : Row := { page := 0x00, off := 0x128, stride := 0x00, count := 1, lo := 0, width := 1, acc := .ro, rst := 0, cls := .pin }
/-- SYS.SLOT.SIDE, bits 0 at 0x12C. A level from outside, of which the spec gives no number (DESIGN CHOICE, log entry 5). -/
def SYS_SLOT_SIDE : Row := { page := 0x00, off := 0x12C, stride := 0x00, count := 1, lo := 0, width := 1, acc := .ro, rst := 0, cls := .pin }
/-- SYS.SLOT.GA, bits 13:8 at 0x12C. A level from outside, of which the spec gives no number (DESIGN CHOICE, log entry 5). -/
def SYS_SLOT_GA : Row := { page := 0x00, off := 0x12C, stride := 0x00, count := 1, lo := 8, width := 6, acc := .ro, rst := 0, cls := .pin }
/-- SYS.RSTCMD.GO, bits 0 at 0x130. -/
def SYS_RSTCMD_GO : Row := { page := 0x00, off := 0x130, stride := 0x00, count := 1, lo := 0, width := 1, acc := .wo, rst := 0 }
/-- SYS.RSTCMD.KEY, bits 31:16 at 0x130. -/
def SYS_RSTCMD_KEY : Row := { page := 0x00, off := 0x130, stride := 0x00, count := 1, lo := 16, width := 16, acc := .wo, rst := 0 }

/-! 03_modes.md, Table 3.10. -/

/-- PWR.STATUS.P1OK, bits 0 at 0x100. A level from outside, of which the spec gives no number (DESIGN CHOICE, log entry 5). -/
def PWR_STATUS_P1OK : Row := { page := 0x01, off := 0x100, stride := 0x00, count := 1, lo := 0, width := 1, acc := .ro, rst := 0, cls := .pin }
/-- PWR.STATUS.P2OK, bits 1 at 0x100. A level from outside, of which the spec gives no number (DESIGN CHOICE, log entry 5). -/
def PWR_STATUS_P2OK : Row := { page := 0x01, off := 0x100, stride := 0x00, count := 1, lo := 1, width := 1, acc := .ro, rst := 0, cls := .pin }
/-- PWR.STATUS.PFW, bits 2 at 0x100. -/
def PWR_STATUS_PFW : Row := { page := 0x01, off := 0x100, stride := 0x00, count := 1, lo := 2, width := 1, acc := .ro, rst := 0 }
/-- PWR.STATUS.FORCEDHOLD, bits 3 at 0x100. -/
def PWR_STATUS_FORCEDHOLD : Row := { page := 0x01, off := 0x100, stride := 0x00, count := 1, lo := 3, width := 1, acc := .ro, rst := 0 }
/-- PWR.STATUS.FLUSHONLY, bits 4 at 0x100. -/
def PWR_STATUS_FLUSHONLY : Row := { page := 0x01, off := 0x100, stride := 0x00, count := 1, lo := 4, width := 1, acc := .ro, rst := 0 }
/-- PWR.STATUS.BKSRC, bits 5 at 0x100. -/
def PWR_STATUS_BKSRC : Row := { page := 0x01, off := 0x100, stride := 0x00, count := 1, lo := 5, width := 1, acc := .ro, rst := 0 }
/-- PWR.STATUS.SCAP, bits 6 at 0x100. -/
def PWR_STATUS_SCAP : Row := { page := 0x01, off := 0x100, stride := 0x00, count := 1, lo := 6, width := 1, acc := .ro, rst := 0 }
/-- PWR.FEED.P1MV, bits 15:0 at 0x104. -/
def PWR_FEED_P1MV : Row := { page := 0x01, off := 0x104, stride := 0x00, count := 1, lo := 0, width := 16, acc := .ro, rst := 0 }
/-- PWR.FEED.P2MV, bits 31:16 at 0x104. -/
def PWR_FEED_P2MV : Row := { page := 0x01, off := 0x104, stride := 0x00, count := 1, lo := 16, width := 16, acc := .ro, rst := 0 }
/-- PWR.PFCTL.FOEN, bits 0 at 0x108. -/
def PWR_PFCTL_FOEN : Row := { page := 0x01, off := 0x108, stride := 0x00, count := 1, lo := 0, width := 1, acc := .rwl, rst := 1 }
/-- PWR.PFCOUNT.COUNT, bits 15:0 at 0x10C. -/
def PWR_PFCOUNT_COUNT : Row := { page := 0x01, off := 0x10C, stride := 0x00, count := 1, lo := 0, width := 16, acc := .ro, rst := 0, cls := .por }
/-- PWR.RAILERR, bits 5:0 at 0x110. -/
def PWR_RAILERR : Row := { page := 0x01, off := 0x110, stride := 0x00, count := 1, lo := 0, width := 6, acc := .w1c, rst := 0 }
/-- PWR.DOMAIN.SEG, bits 15:0 at 0x114. -/
def PWR_DOMAIN_SEG : Row := { page := 0x01, off := 0x114, stride := 0x00, count := 1, lo := 0, width := 16, acc := .ro, rst := 0 }
/-- PWR.DOMAIN.XE, bits 19:16 at 0x114. -/
def PWR_DOMAIN_XE : Row := { page := 0x01, off := 0x114, stride := 0x00, count := 1, lo := 16, width := 4, acc := .ro, rst := 0 }
/-- PWR.DOMAIN.PL, bits 21:20 at 0x114. -/
def PWR_DOMAIN_PL : Row := { page := 0x01, off := 0x114, stride := 0x00, count := 1, lo := 20, width := 2, acc := .ro, rst := 0 }
/-- PWR.LASTPF.FLUSH, bits 15:0 at 0x118. -/
def PWR_LASTPF_FLUSH : Row := { page := 0x01, off := 0x118, stride := 0x00, count := 1, lo := 0, width := 16, acc := .ro, rst := 0, cls := .por }

/-! 04_ply.md, Table 4.6. -/

/-- XE.CLSn.CFG.EN, bits 0 at 0x000 + c. -/
def XE_CLS_CFG_EN : Row := { page := 0x11, off := 0x000, stride := 0x20, count := 3, lo := 0, width := 1, acc := .rw, rst := 0 }
/-- XE.CLSn.CFG.TRIGCH, bits 6:4 at 0x000 + c. -/
def XE_CLS_CFG_TRIGCH : Row := { page := 0x11, off := 0x000, stride := 0x20, count := 3, lo := 4, width := 3, acc := .rw, rst := 0, rsts := [0, 1, 2] }
/-- XE.CLSn.CFG.TBASE, bits 9:8 at 0x000 + c. -/
def XE_CLS_CFG_TBASE : Row := { page := 0x11, off := 0x000, stride := 0x20, count := 3, lo := 8, width := 2, acc := .rw, rst := 0 }
/-- XE.CLSn.CFG.DLPCT, bits 22:16 at 0x000 + c. -/
def XE_CLS_CFG_DLPCT : Row := { page := 0x11, off := 0x000, stride := 0x20, count := 3, lo := 16, width := 7, acc := .rw, rst := 90 }
/-- XE.CLSn.CFG.FFLIMIT, bits 27:24 at 0x000 + c. -/
def XE_CLS_CFG_FFLIMIT : Row := { page := 0x11, off := 0x000, stride := 0x20, count := 3, lo := 24, width := 4, acc := .rw, rst := 3 }
/-- XE.CLSn.CFG.REACT, bits 29:28 at 0x000 + c. -/
def XE_CLS_CFG_REACT : Row := { page := 0x11, off := 0x000, stride := 0x20, count := 3, lo := 28, width := 2, acc := .rw, rst := 0 }
/-- XE.CLSn.PER.PERIOD, bits 13:0 at 0x004 + c. -/
def XE_CLS_PER_PERIOD : Row := { page := 0x11, off := 0x004, stride := 0x20, count := 3, lo := 0, width := 14, acc := .rw, rst := 20, rsts := [20, 40, 100] }
/-- XE.CLSn.PER.PHASE, bits 29:16 at 0x004 + c. -/
def XE_CLS_PER_PHASE : Row := { page := 0x11, off := 0x004, stride := 0x20, count := 3, lo := 16, width := 14, acc := .rw, rst := 0 }
/-- XE.CLSn.PLY, bits 31:0 at 0x008 + c. -/
def XE_CLS_PLY : Row := { page := 0x11, off := 0x008, stride := 0x20, count := 3, lo := 0, width := 32, acc := .ro, rst := 0 }
/-- XE.CLSn.FF.TOTAL, bits 15:0 at 0x00C + c. -/
def XE_CLS_FF_TOTAL : Row := { page := 0x11, off := 0x00C, stride := 0x20, count := 3, lo := 0, width := 16, acc := .ro, rst := 0 }
/-- XE.CLSn.FF.CONSEC, bits 19:16 at 0x00C + c. -/
def XE_CLS_FF_CONSEC : Row := { page := 0x11, off := 0x00C, stride := 0x20, count := 3, lo := 16, width := 4, acc := .ro, rst := 0 }
/-- XE.CLSn.SKIP.SKIPS, bits 15:0 at 0x010 + c. -/
def XE_CLS_SKIP_SKIPS : Row := { page := 0x11, off := 0x010, stride := 0x20, count := 3, lo := 0, width := 16, acc := .ro, rst := 0 }
/-- XE.CLSn.SKIP.REANCHOR, bits 31:16 at 0x010 + c. -/
def XE_CLS_SKIP_REANCHOR : Row := { page := 0x11, off := 0x010, stride := 0x20, count := 3, lo := 16, width := 16, acc := .ro, rst := 0 }
/-- XE.CLSn.LASTDUR, bits 31:0 at 0x014 + c. -/
def XE_CLS_LASTDUR : Row := { page := 0x11, off := 0x014, stride := 0x20, count := 3, lo := 0, width := 32, acc := .ro, rst := 0 }
/-- XE.CLSn.MAXDUR, bits 31:0 at 0x018 + c. -/
def XE_CLS_MAXDUR : Row := { page := 0x11, off := 0x018, stride := 0x20, count := 3, lo := 0, width := 32, acc := .w1c, rst := 0 }
/-- XE.CLSn.STAT.PHASE, bits 2:0 at 0x01C + c. -/
def XE_CLS_STAT_PHASE : Row := { page := 0x11, off := 0x01C, stride := 0x20, count := 3, lo := 0, width := 3, acc := .ro, rst := 0 }
/-- XE.CLSn.STAT.ALIGNED, bits 4 at 0x01C + c. -/
def XE_CLS_STAT_ALIGNED : Row := { page := 0x11, off := 0x01C, stride := 0x20, count := 3, lo := 4, width := 1, acc := .ro, rst := 0 }
/-- XE.CLSn.STAT.ERRPEND, bits 5 at 0x01C + c. -/
def XE_CLS_STAT_ERRPEND : Row := { page := 0x11, off := 0x01C, stride := 0x20, count := 3, lo := 5, width := 1, acc := .ro, rst := 0 }
/-- XE.CLSn.STAT.SKIPNEXT, bits 6 at 0x01C + c. -/
def XE_CLS_STAT_SKIPNEXT : Row := { page := 0x11, off := 0x01C, stride := 0x20, count := 3, lo := 6, width := 1, acc := .ro, rst := 0 }
/-- XE.MW.CFG.TIMEOUT, bits 7:0 at 0x060. -/
def XE_MW_CFG_TIMEOUT : Row := { page := 0x11, off := 0x060, stride := 0x00, count := 1, lo := 0, width := 8, acc := .rw, rst := 50 }
/-- XE.MW.STAT.TIMEOUTS, bits 15:0 at 0x064. -/
def XE_MW_STAT_TIMEOUTS : Row := { page := 0x11, off := 0x064, stride := 0x00, count := 1, lo := 0, width := 16, acc := .ro, rst := 0 }
/-- XE.MW.STAT.LASTTAIL, bits 31:16 at 0x064. -/
def XE_MW_STAT_LASTTAIL : Row := { page := 0x11, off := 0x064, stride := 0x00, count := 1, lo := 16, width := 16, acc := .ro, rst := 0 }
/-- XE.ETk.CFG.EN, bits 0 at 0x080 + 4k (k = 0–15). -/
def XE_ET_CFG_EN : Row := { page := 0x11, off := 0x080, stride := 0x04, count := 16, lo := 0, width := 1, acc := .rw, rst := 0 }
/-- XE.ETk.CFG.SRC, bits 15:8 at 0x080 + 4k. -/
def XE_ET_CFG_SRC : Row := { page := 0x11, off := 0x080, stride := 0x04, count := 16, lo := 8, width := 8, acc := .rw, rst := 16 }
/-- XE.ETk.CFG.MININT, bits 27:16 at 0x080 + 4k. -/
def XE_ET_CFG_MININT : Row := { page := 0x11, off := 0x080, stride := 0x04, count := 16, lo := 16, width := 12, acc := .rw, rst := 0 }
/-- XE.ET.PEND, bits 15:0 at 0x0C0. -/
def XE_ET_PEND : Row := { page := 0x11, off := 0x0C0, stride := 0x00, count := 1, lo := 0, width := 16, acc := .ro, rst := 0 }
/-- XE.ET.RUN, bits 31:16 at 0x0C0. -/
def XE_ET_RUN : Row := { page := 0x11, off := 0x0C0, stride := 0x00, count := 1, lo := 16, width := 16, acc := .ro, rst := 0 }
/-- XE.ET.TRIG, bits 15:0 at 0x0C4. -/
def XE_ET_TRIG : Row := { page := 0x11, off := 0x0C4, stride := 0x00, count := 1, lo := 0, width := 16, acc := .wo, rst := 0 }
/-- XE.ET.COAL, bits 31:0 at 0x0C8. -/
def XE_ET_COAL : Row := { page := 0x11, off := 0x0C8, stride := 0x00, count := 1, lo := 0, width := 32, acc := .ro, rst := 0 }

/-! 05_execution_engine.md, Table 5.11. -/

/-- XE.ENG.STAT.LEVEL, bits 2:0 at 0x100. -/
def XE_ENG_STAT_LEVEL : Row := { page := 0x10, off := 0x100, stride := 0x00, count := 1, lo := 0, width := 3, acc := .ro, rst := 0 }
/-- XE.ENG.STAT.ACTIVE, bits 4 at 0x100. -/
def XE_ENG_STAT_ACTIVE : Row := { page := 0x10, off := 0x100, stride := 0x00, count := 1, lo := 4, width := 1, acc := .ro, rst := 0 }
/-- XE.ENG.STAT.STAGEDOK, bits 5 at 0x100. -/
def XE_ENG_STAT_STAGEDOK : Row := { page := 0x10, off := 0x100, stride := 0x00, count := 1, lo := 5, width := 1, acc := .ro, rst := 0 }
/-- XE.ENG.STAT.LANES, bits 11:8 at 0x100. -/
def XE_ENG_STAT_LANES : Row := { page := 0x10, off := 0x100, stride := 0x00, count := 1, lo := 8, width := 4, acc := .ro, rst := 0 }
/-- XE.ENG.ROW.ROW, bits 19:0 at 0x104. -/
def XE_ENG_ROW_ROW : Row := { page := 0x10, off := 0x104, stride := 0x00, count := 1, lo := 0, width := 20, acc := .ro, rst := 0 }
/-- XE.ENG.ROW.PART, bits 28:24 at 0x104. -/
def XE_ENG_ROW_PART : Row := { page := 0x10, off := 0x104, stride := 0x00, count := 1, lo := 24, width := 5, acc := .ro, rst := 0 }
/-- XE.ENG.ITER.ITER, bits 19:0 at 0x108. -/
def XE_ENG_ITER_ITER : Row := { page := 0x10, off := 0x108, stride := 0x00, count := 1, lo := 0, width := 20, acc := .ro, rst := 0 }
/-- XE.ENG.PCSEL.CLS, bits 2:0 at 0x10C. -/
def XE_ENG_PCSEL_CLS : Row := { page := 0x10, off := 0x10C, stride := 0x00, count := 1, lo := 0, width := 3, acc := .rw, rst := 0 }
/-- XE.MM.CTRL.ACTIVATE, bits 0 at 0x110. -/
def XE_MM_CTRL_ACTIVATE : Row := { page := 0x10, off := 0x110, stride := 0x00, count := 1, lo := 0, width := 1, acc := .ws, rst := 0 }
/-- XE.MM.CTRL.SEL, bits 1 at 0x110. -/
def XE_MM_CTRL_SEL : Row := { page := 0x10, off := 0x110, stride := 0x00, count := 1, lo := 1, width := 1, acc := .rw, rst := 0 }
/-- XE.MM.HDRh.VALID, bits 0 at 0x114 + 4h (h = 0, 1). -/
def XE_MM_HDR_VALID : Row := { page := 0x10, off := 0x114, stride := 0x04, count := 2, lo := 0, width := 1, acc := .ro, rst := 0 }
/-- XE.MM.HDRh.CHECK, bits 15:8 at 0x114 + 4h. -/
def XE_MM_HDR_CHECK : Row := { page := 0x10, off := 0x114, stride := 0x04, count := 2, lo := 8, width := 8, acc := .ro, rst := 0 }
/-- XE.MM.SCAN.PASSES, bits 15:0 at 0x11C. -/
def XE_MM_SCAN_PASSES : Row := { page := 0x10, off := 0x11C, stride := 0x00, count := 1, lo := 0, width := 16, acc := .ro, rst := 0 }
/-- XE.MM.SCAN.MISMATCH, bits 31:16 at 0x11C. -/
def XE_MM_SCAN_MISMATCH : Row := { page := 0x10, off := 0x11C, stride := 0x00, count := 1, lo := 16, width := 16, acc := .ro, rst := 0 }
/-- XE.MM.CRCA, bits 31:0 at 0x120. -/
def XE_MM_CRCA : Row := { page := 0x10, off := 0x120, stride := 0x00, count := 1, lo := 0, width := 32, acc := .ro, rst := 0 }

/-! 05_execution_engine.md, Table 5.12. -/

/-- XE.SF.INFO.KIND, bits 3:0 at 0x000. -/
def XE_SF_INFO_KIND : Row := { page := 0x12, off := 0x000, stride := 0x00, count := 1, lo := 0, width := 4, acc := .ro, rst := 0 }
/-- XE.SF.INFO.PART, bits 8:4 at 0x000. -/
def XE_SF_INFO_PART : Row := { page := 0x12, off := 0x000, stride := 0x00, count := 1, lo := 4, width := 5, acc := .ro, rst := 0 }
/-- XE.SF.INFO.COL, bits 10:9 at 0x000. -/
def XE_SF_INFO_COL : Row := { page := 0x12, off := 0x000, stride := 0x00, count := 1, lo := 9, width := 2, acc := .ro, rst := 0 }
/-- XE.SF.INFO.ROW, bits 31:12 at 0x000. -/
def XE_SF_INFO_ROW : Row := { page := 0x12, off := 0x000, stride := 0x00, count := 1, lo := 12, width := 20, acc := .ro, rst := 0 }
/-- XE.SF.COUNT, bits 15:0 at 0x004. -/
def XE_SF_COUNT : Row := { page := 0x12, off := 0x004, stride := 0x00, count := 1, lo := 0, width := 16, acc := .ro, rst := 0 }
/-- XE.LS.INFO.UNIT, bits 2:0 at 0x008. -/
def XE_LS_INFO_UNIT : Row := { page := 0x12, off := 0x008, stride := 0x00, count := 1, lo := 0, width := 3, acc := .ro, rst := 0 }
/-- XE.LS.INFO.LEVEL, bits 6:4 at 0x008. -/
def XE_LS_INFO_LEVEL : Row := { page := 0x12, off := 0x008, stride := 0x00, count := 1, lo := 4, width := 3, acc := .ro, rst := 0 }
/-- XE.LS.INFO.ROW, bits 27:8 at 0x008. -/
def XE_LS_INFO_ROW : Row := { page := 0x12, off := 0x008, stride := 0x00, count := 1, lo := 8, width := 20, acc := .ro, rst := 0 }
/-- XE.LS.DEST, bits 31:0 at 0x00C. -/
def XE_LS_DEST : Row := { page := 0x12, off := 0x00C, stride := 0x00, count := 1, lo := 0, width := 32, acc := .ro, rst := 0 }
/-- XE.LS.COUNT, bits 15:0 at 0x010. -/
def XE_LS_COUNT : Row := { page := 0x12, off := 0x010, stride := 0x00, count := 1, lo := 0, width := 16, acc := .ro, rst := 0 }
/-- XE.ECC.CORR.LANE, bits 15:0 at 0x014. -/
def XE_ECC_CORR_LANE : Row := { page := 0x12, off := 0x014, stride := 0x00, count := 1, lo := 0, width := 16, acc := .ro, rst := 0 }
/-- XE.ECC.CORR.FETCH, bits 31:16 at 0x014. -/
def XE_ECC_CORR_FETCH : Row := { page := 0x12, off := 0x014, stride := 0x00, count := 1, lo := 16, width := 16, acc := .ro, rst := 0 }
/-- XE.LS.INJECT, bits 4:0 at 0x018. -/
def XE_LS_INJECT : Row := { page := 0x12, off := 0x018, stride := 0x00, count := 1, lo := 0, width := 5, acc := .wo, rst := 0 }

/-! 05_execution_engine.md, Table 5.13. -/

/-- XE.PARTp.START, bits 19:0 at 0x000 + 8p (p = 0–21). -/
def XE_PART_START : Row := { page := 0x13, off := 0x000, stride := 0x08, count := 22, lo := 0, width := 20, acc := .ro, rst := 0 }
/-- XE.PARTp.EXROWS, bits 31:0 at 0x004 + 8p. -/
def XE_PART_EXROWS : Row := { page := 0x13, off := 0x004, stride := 0x08, count := 22, lo := 0, width := 32, acc := .ro, rst := 0 }
/-- XE.RET.BASE, bits 24:0 at 0x100. -/
def XE_RET_BASE : Row := { page := 0x13, off := 0x100, stride := 0x00, count := 1, lo := 0, width := 25, acc := .ro, rst := 0 }
/-- XE.RET.SIZE, bits 22:0 at 0x104. -/
def XE_RET_SIZE : Row := { page := 0x13, off := 0x104, stride := 0x00, count := 1, lo := 0, width := 23, acc := .ro, rst := 0 }
/-- XE.LAYOUT.ID0, bits 31:0 at 0x110. -/
def XE_LAYOUT_ID0 : Row := { page := 0x13, off := 0x110, stride := 0x00, count := 1, lo := 0, width := 32, acc := .ro, rst := 0 }
/-- XE.LAYOUT.ID1, bits 31:0 at 0x114. -/
def XE_LAYOUT_ID1 : Row := { page := 0x13, off := 0x114, stride := 0x00, count := 1, lo := 0, width := 32, acc := .ro, rst := 0 }
/-- XE.LAYOUT.ID2, bits 31:0 at 0x118. -/
def XE_LAYOUT_ID2 : Row := { page := 0x13, off := 0x118, stride := 0x00, count := 1, lo := 0, width := 32, acc := .ro, rst := 0 }
/-- XE.LAYOUT.ID3, bits 31:0 at 0x11C. -/
def XE_LAYOUT_ID3 : Row := { page := 0x13, off := 0x11C, stride := 0x00, count := 1, lo := 0, width := 32, acc := .ro, rst := 0 }
/-- XE.LAYOUT.MIRRORFMT, bits 15:0 at 0x120. -/
def XE_LAYOUT_MIRRORFMT : Row := { page := 0x13, off := 0x120, stride := 0x00, count := 1, lo := 0, width := 16, acc := .ro, rst := 0 }

/-! 07_sealed_move.md, Table 7.8. -/

/-- XE.SM.CTRL.VERIFY, bits 0 at 0x140. -/
def XE_SM_CTRL_VERIFY : Row := { page := 0x10, off := 0x140, stride := 0x00, count := 1, lo := 0, width := 1, acc := .ws, rst := 0 }
/-- XE.SM.CTRL.ARM, bits 1 at 0x140. -/
def XE_SM_CTRL_ARM : Row := { page := 0x10, off := 0x140, stride := 0x00, count := 1, lo := 1, width := 1, acc := .ws, rst := 0 }
/-- XE.SM.CTRL.CANCEL, bits 2 at 0x140. -/
def XE_SM_CTRL_CANCEL : Row := { page := 0x10, off := 0x140, stride := 0x00, count := 1, lo := 2, width := 1, acc := .ws, rst := 0 }
/-- XE.SM.CTRL.DIR, bits 8 at 0x140. -/
def XE_SM_CTRL_DIR : Row := { page := 0x10, off := 0x140, stride := 0x00, count := 1, lo := 8, width := 1, acc := .rw, rst := 0 }
/-- XE.SM.PLY, bits 31:0 at 0x144. -/
def XE_SM_PLY : Row := { page := 0x10, off := 0x144, stride := 0x00, count := 1, lo := 0, width := 32, acc := .rw, rst := 0 }
/-- XE.SM.CLS, bits 1:0 at 0x148. -/
def XE_SM_CLS : Row := { page := 0x10, off := 0x148, stride := 0x00, count := 1, lo := 0, width := 2, acc := .rw, rst := 0 }
/-- XE.SM.BUDGET, bits 7:0 at 0x14C. -/
def XE_SM_BUDGET : Row := { page := 0x10, off := 0x14C, stride := 0x00, count := 1, lo := 0, width := 8, acc := .rwl, rst := 200 }
/-- XE.SM.FMAPLO, bits 31:6 at 0x150. -/
def XE_SM_FMAPLO : Row := { page := 0x10, off := 0x150, stride := 0x00, count := 1, lo := 6, width := 26, acc := .rw, rst := 0 }
/-- XE.SM.FMAPHI, bits 3:0 at 0x154. -/
def XE_SM_FMAPHI : Row := { page := 0x10, off := 0x154, stride := 0x00, count := 1, lo := 0, width := 4, acc := .rw, rst := 0 }
/-- XE.SM.FMAPN, bits 16:0 at 0x158. -/
def XE_SM_FMAPN : Row := { page := 0x10, off := 0x158, stride := 0x00, count := 1, lo := 0, width := 17, acc := .rw, rst := 0 }
/-- XE.SM.RMAPLO, bits 31:6 at 0x15C. -/
def XE_SM_RMAPLO : Row := { page := 0x10, off := 0x15C, stride := 0x00, count := 1, lo := 6, width := 26, acc := .rw, rst := 0 }
/-- XE.SM.RMAPHI, bits 3:0 at 0x160. -/
def XE_SM_RMAPHI : Row := { page := 0x10, off := 0x160, stride := 0x00, count := 1, lo := 0, width := 4, acc := .rw, rst := 0 }
/-- XE.SM.RMAPN, bits 16:0 at 0x164. -/
def XE_SM_RMAPN : Row := { page := 0x10, off := 0x164, stride := 0x00, count := 1, lo := 0, width := 17, acc := .rw, rst := 0 }
/-- XE.SM.STAT.STATE, bits 2:0 at 0x168. -/
def XE_SM_STAT_STATE : Row := { page := 0x10, off := 0x168, stride := 0x00, count := 1, lo := 0, width := 3, acc := .ro, rst := 0 }
/-- XE.SM.STAT.VCHECK, bits 12:8 at 0x168. -/
def XE_SM_STAT_VCHECK : Row := { page := 0x10, off := 0x168, stride := 0x00, count := 1, lo := 8, width := 5, acc := .ro, rst := 0 }
/-- XE.SM.STAT.REVOK, bits 16 at 0x168. -/
def XE_SM_STAT_REVOK : Row := { page := 0x10, off := 0x168, stride := 0x00, count := 1, lo := 16, width := 1, acc := .ro, rst := 0 }
/-- XE.SM.STAT.LAST, bits 18:17 at 0x168. -/
def XE_SM_STAT_LAST : Row := { page := 0x10, off := 0x168, stride := 0x00, count := 1, lo := 17, width := 2, acc := .ro, rst := 0 }
/-- XE.SM.TSW, bits 31:0 at 0x16C. -/
def XE_SM_TSW : Row := { page := 0x10, off := 0x16C, stride := 0x00, count := 1, lo := 0, width := 32, acc := .ro, rst := 0 }
/-- XE.SM.LASTSW, bits 31:0 at 0x170. -/
def XE_SM_LASTSW : Row := { page := 0x10, off := 0x170, stride := 0x00, count := 1, lo := 0, width := 32, acc := .ro, rst := 0 }
/-- XE.SM.CRC, bits 31:0 at 0x174. -/
def XE_SM_CRC : Row := { page := 0x10, off := 0x174, stride := 0x00, count := 1, lo := 0, width := 32, acc := .ro, rst := 0 }
/-- XE.SM.COUNT.SWITCHES, bits 15:0 at 0x178. -/
def XE_SM_COUNT_SWITCHES : Row := { page := 0x10, off := 0x178, stride := 0x00, count := 1, lo := 0, width := 16, acc := .ro, rst := 0 }
/-- XE.SM.COUNT.LAPSES, bits 31:16 at 0x178. -/
def XE_SM_COUNT_LAPSES : Row := { page := 0x10, off := 0x178, stride := 0x00, count := 1, lo := 16, width := 16, acc := .ro, rst := 0 }
/-- XE.SM.CLSCFGn, bits 31:0 at 0x180 + 8(n − 1). -/
def XE_SM_CLSCFG : Row := { page := 0x10, off := 0x180, stride := 0x08, count := 3, lo := 0, width := 32, acc := .rw, rst := 0 }
/-- XE.SM.CLSPERn, bits 31:0 at 0x184 + 8(n − 1). -/
def XE_SM_CLSPER : Row := { page := 0x10, off := 0x184, stride := 0x08, count := 3, lo := 0, width := 32, acc := .rw, rst := 0 }

/-! 07_sealed_move.md, Table 7.9. -/

/-- XE.FT.INDEX.ENTRY, bits 9:0 at 0x100. -/
def XE_FT_INDEX_ENTRY : Row := { page := 0x12, off := 0x100, stride := 0x00, count := 1, lo := 0, width := 10, acc := .rw, rst := 0 }
/-- XE.FT.INDEX.TABLE, bits 16 at 0x100. -/
def XE_FT_INDEX_TABLE : Row := { page := 0x12, off := 0x100, stride := 0x00, count := 1, lo := 16, width := 1, acc := .rw, rst := 0 }
/-- XE.FT.SYMID, bits 31:0 at 0x104. -/
def XE_FT_SYMID : Row := { page := 0x12, off := 0x104, stride := 0x00, count := 1, lo := 0, width := 32, acc := .rw, rst := 0 }
/-- XE.FT.ADDR.OFFSET, bits 24:0 at 0x108. -/
def XE_FT_ADDR_OFFSET : Row := { page := 0x12, off := 0x108, stride := 0x00, count := 1, lo := 0, width := 25, acc := .rw, rst := 0 }
/-- XE.FT.ADDR.TVF, bits 30 at 0x108. -/
def XE_FT_ADDR_TVF : Row := { page := 0x12, off := 0x108, stride := 0x00, count := 1, lo := 30, width := 1, acc := .rw, rst := 0 }
/-- XE.FT.ADDR.VALID, bits 31 at 0x108. -/
def XE_FT_ADDR_VALID : Row := { page := 0x12, off := 0x108, stride := 0x00, count := 1, lo := 31, width := 1, acc := .rw, rst := 0 }
/-- XE.FT.TYPE, bits 15:0 at 0x10C. -/
def XE_FT_TYPE : Row := { page := 0x12, off := 0x10C, stride := 0x00, count := 1, lo := 0, width := 16, acc := .rw, rst := 0 }
/-- XE.FT.VALi, bits 31:0 at 0x110 + 4i (i = 0–3). -/
def XE_FT_VAL : Row := { page := 0x12, off := 0x110, stride := 0x04, count := 4, lo := 0, width := 32, acc := .rw, rst := 0 }
/-- XE.FT.MSKi, bits 31:0 at 0x120 + 4i. -/
def XE_FT_MSK : Row := { page := 0x12, off := 0x120, stride := 0x04, count := 4, lo := 0, width := 32, acc := .rw, rst := 0 }
/-- XE.FT.CMD.WRITE, bits 0 at 0x130. -/
def XE_FT_CMD_WRITE : Row := { page := 0x12, off := 0x130, stride := 0x00, count := 1, lo := 0, width := 1, acc := .ws, rst := 0 }
/-- XE.FT.CMD.READ, bits 1 at 0x130. -/
def XE_FT_CMD_READ : Row := { page := 0x12, off := 0x130, stride := 0x00, count := 1, lo := 1, width := 1, acc := .ws, rst := 0 }
/-- XE.FT.STAT.USED, bits 10:0 at 0x134. -/
def XE_FT_STAT_USED : Row := { page := 0x12, off := 0x134, stride := 0x00, count := 1, lo := 0, width := 11, acc := .ro, rst := 0 }
/-- XE.FT.STAT.PEND, bits 16 at 0x134. -/
def XE_FT_STAT_PEND : Row := { page := 0x12, off := 0x134, stride := 0x00, count := 1, lo := 16, width := 1, acc := .ro, rst := 0 }

/-! 08_trip_engine.md, Table 8.8. -/

/-- TE.CFGCMD.LOCK, bits 0 at 0x100. -/
def TE_CFGCMD_LOCK : Row := { page := 0x18, off := 0x100, stride := 0x00, count := 1, lo := 0, width := 1, acc := .ws, rst := 0 }
/-- TE.CFGCMD.UNLOCK, bits 1 at 0x100. -/
def TE_CFGCMD_UNLOCK : Row := { page := 0x18, off := 0x100, stride := 0x00, count := 1, lo := 1, width := 1, acc := .ws, rst := 0 }
/-- TE.CFGCMD.KEY, bits 31:16 at 0x100. -/
def TE_CFGCMD_KEY : Row := { page := 0x18, off := 0x100, stride := 0x00, count := 1, lo := 16, width := 16, acc := .wo, rst := 0 }
/-- TE.CFGSTAT.LOCKED, bits 0 at 0x104. -/
def TE_CFGSTAT_LOCKED : Row := { page := 0x18, off := 0x104, stride := 0x00, count := 1, lo := 0, width := 1, acc := .ro, rst := 0 }
/-- TE.CFGSTAT.CHECK, bits 7:4 at 0x104. -/
def TE_CFGSTAT_CHECK : Row := { page := 0x18, off := 0x104, stride := 0x00, count := 1, lo := 4, width := 4, acc := .ro, rst := 0 }
/-- TE.CFGSTAT.FUNC, bits 8 at 0x104. -/
def TE_CFGSTAT_FUNC : Row := { page := 0x18, off := 0x104, stride := 0x00, count := 1, lo := 8, width := 1, acc := .ro, rst := 0 }
/-- TE.CFGSTAT.BURST, bits 9 at 0x104. -/
def TE_CFGSTAT_BURST : Row := { page := 0x18, off := 0x104, stride := 0x00, count := 1, lo := 9, width := 1, acc := .ro, rst := 0 }
/-- TE.CFGSTAT.SAFE, bits 10 at 0x104. -/
def TE_CFGSTAT_SAFE : Row := { page := 0x18, off := 0x104, stride := 0x00, count := 1, lo := 10, width := 1, acc := .ro, rst := 0 }
/-- TE.CFGADDR.WORD, bits 15:2 at 0x108. -/
def TE_CFGADDR_WORD : Row := { page := 0x18, off := 0x108, stride := 0x00, count := 1, lo := 2, width := 14, acc := .rw, rst := 0 }
/-- TE.CFGDATA, bits 31:0 at 0x10C. -/
def TE_CFGDATA : Row := { page := 0x18, off := 0x10C, stride := 0x00, count := 1, lo := 0, width := 32, acc := .rw, rst := 0 }
/-- TE.CFGCRC, bits 31:0 at 0x110. -/
def TE_CFGCRC : Row := { page := 0x18, off := 0x110, stride := 0x00, count := 1, lo := 0, width := 32, acc := .ro, rst := 0 }
/-- TE.BASEVER, bits 15:0 at 0x114. -/
def TE_BASEVER : Row := { page := 0x18, off := 0x114, stride := 0x00, count := 1, lo := 0, width := 16, acc := .ro, rst := 0 }
/-- TE.DIASSIGN, bits 31:0 at 0x118. -/
def TE_DIASSIGN : Row := { page := 0x18, off := 0x118, stride := 0x00, count := 1, lo := 0, width := 32, acc := .rw, rst := 0 }
/-- TE.DQASSIGN, bits 15:0 at 0x11C. -/
def TE_DQASSIGN : Row := { page := 0x18, off := 0x11C, stride := 0x00, count := 1, lo := 0, width := 16, acc := .rw, rst := 0 }
/-- TE.EVSEL, bits 31:0 at 0x120. -/
def TE_EVSEL : Row := { page := 0x18, off := 0x120, stride := 0x00, count := 1, lo := 0, width := 32, acc := .rw, rst := 4294967295 }
/-- TE.SWIN, bits 15:0 at 0x124. -/
def TE_SWIN : Row := { page := 0x18, off := 0x124, stride := 0x00, count := 1, lo := 0, width := 16, acc := .rw, rst := 0 }
/-- TE.SWOUT, bits 15:0 at 0x128. -/
def TE_SWOUT : Row := { page := 0x18, off := 0x128, stride := 0x00, count := 1, lo := 0, width := 16, acc := .ro, rst := 0 }
/-- TE.DQOUT, bits 15:0 at 0x12C. -/
def TE_DQOUT : Row := { page := 0x18, off := 0x12C, stride := 0x00, count := 1, lo := 0, width := 16, acc := .ro, rst := 0 }
/-- TE.RXIN0, bits 31:0 at 0x130. -/
def TE_RXIN0 : Row := { page := 0x18, off := 0x130, stride := 0x00, count := 1, lo := 0, width := 32, acc := .ro, rst := 0 }
/-- TE.RXIN1, bits 31:0 at 0x134. -/
def TE_RXIN1 : Row := { page := 0x18, off := 0x134, stride := 0x00, count := 1, lo := 0, width := 32, acc := .ro, rst := 0 }
/-- TE.RXOUT0, bits 31:0 at 0x138. -/
def TE_RXOUT0 : Row := { page := 0x18, off := 0x138, stride := 0x00, count := 1, lo := 0, width := 32, acc := .ro, rst := 0 }
/-- TE.RXOUT1, bits 31:0 at 0x13C. -/
def TE_RXOUT1 : Row := { page := 0x18, off := 0x13C, stride := 0x00, count := 1, lo := 0, width := 32, acc := .ro, rst := 0 }
/-- TE.RXSTALE0, bits 31:0 at 0x140. -/
def TE_RXSTALE0 : Row := { page := 0x18, off := 0x140, stride := 0x00, count := 1, lo := 0, width := 32, acc := .ro, rst := 4294967295 }
/-- TE.RXSTALE1, bits 31:0 at 0x144. -/
def TE_RXSTALE1 : Row := { page := 0x18, off := 0x144, stride := 0x00, count := 1, lo := 0, width := 32, acc := .ro, rst := 4294967295 }
/-- TE.LQ, bits 31:0 at 0x148. -/
def TE_LQ : Row := { page := 0x18, off := 0x148, stride := 0x00, count := 1, lo := 0, width := 32, acc := .ro, rst := 0 }
/-- TE.TQ, bits 15:0 at 0x14C. -/
def TE_TQ : Row := { page := 0x18, off := 0x14C, stride := 0x00, count := 1, lo := 0, width := 16, acc := .ro, rst := 0 }
/-- TE.PASSCNT, bits 31:0 at 0x150. -/
def TE_PASSCNT : Row := { page := 0x18, off := 0x150, stride := 0x00, count := 1, lo := 0, width := 32, acc := .ro, rst := 0 }
/-- TE.ST.PASSES, bits 15:0 at 0x154. -/
def TE_ST_PASSES : Row := { page := 0x18, off := 0x154, stride := 0x00, count := 1, lo := 0, width := 16, acc := .ro, rst := 0 }
/-- TE.ST.FAILS, bits 31:16 at 0x154. -/
def TE_ST_FAILS : Row := { page := 0x18, off := 0x154, stride := 0x00, count := 1, lo := 16, width := 16, acc := .ro, rst := 0 }
/-- TE.ST.LASTSIG, bits 31:0 at 0x158. -/
def TE_ST_LASTSIG : Row := { page := 0x18, off := 0x158, stride := 0x00, count := 1, lo := 0, width := 32, acc := .ro, rst := 0 }

/-! 10_ramette_stations.md, Table 10.9. -/

/-- RMTnn.CFG.CHEN, bits 1:0 at 0x100. -/
def RMT_CFG_CHEN : Row := { page := 0x20, off := 0x100, stride := 0x00, count := 1, lo := 0, width := 2, acc := .rwl, rst := 3 }
/-- RMTnn.CFG.LOSTN, bits 11:8 at 0x100. -/
def RMT_CFG_LOSTN : Row := { page := 0x20, off := 0x100, stride := 0x00, count := 1, lo := 8, width := 4, acc := .rwl, rst := 3 }
/-- RMTnn.CFG.ERRTHR, bits 23:16 at 0x100. -/
def RMT_CFG_ERRTHR : Row := { page := 0x20, off := 0x100, stride := 0x00, count := 1, lo := 16, width := 8, acc := .rwl, rst := 16 }
/-- RMTnn.STAT.CYCLE, bits 7:0 at 0x104. -/
def RMT_STAT_CYCLE : Row := { page := 0x20, off := 0x104, stride := 0x00, count := 1, lo := 0, width := 8, acc := .ro, rst := 0 }
/-- RMTnn.STAT.PASSIVE, bits 8 at 0x104. -/
def RMT_STAT_PASSIVE : Row := { page := 0x20, off := 0x104, stride := 0x00, count := 1, lo := 8, width := 1, acc := .ro, rst := 0 }
/-- RMTnn.STAT.OWNCONF, bits 9 at 0x104. -/
def RMT_STAT_OWNCONF : Row := { page := 0x20, off := 0x104, stride := 0x00, count := 1, lo := 9, width := 1, acc := .ro, rst := 0 }
/-- RMTnn.STAT.GBLK, bits 11:10 at 0x104. -/
def RMT_STAT_GBLK : Row := { page := 0x20, off := 0x104, stride := 0x00, count := 1, lo := 10, width := 2, acc := .ro, rst := 0 }
/-- RMTnn.SCHEDCHK, bits 3:0 at 0x108. -/
def RMT_SCHEDCHK : Row := { page := 0x20, off := 0x108, stride := 0x00, count := 1, lo := 0, width := 4, acc := .ro, rst := 0 }
/-- RMTnn.SCHEDID, bits 31:0 at 0x10C. -/
def RMT_SCHEDID : Row := { page := 0x20, off := 0x10C, stride := 0x00, count := 1, lo := 0, width := 32, acc := .ro, rst := 0 }
/-- RMTnn.ECHO.A, bits 7:0 at 0x110. -/
def RMT_ECHO_A : Row := { page := 0x20, off := 0x110, stride := 0x00, count := 1, lo := 0, width := 8, acc := .ro, rst := 0 }
/-- RMTnn.ECHO.B, bits 15:8 at 0x110. -/
def RMT_ECHO_B : Row := { page := 0x20, off := 0x110, stride := 0x00, count := 1, lo := 8, width := 8, acc := .ro, rst := 0 }
/-- RMTnn.PECHO.A, bits 7:0 at 0x114. -/
def RMT_PECHO_A : Row := { page := 0x20, off := 0x114, stride := 0x00, count := 1, lo := 0, width := 8, acc := .rw, rst := 90 }
/-- RMTnn.PECHO.B, bits 15:8 at 0x114. -/
def RMT_PECHO_B : Row := { page := 0x20, off := 0x114, stride := 0x00, count := 1, lo := 8, width := 8, acc := .rw, rst := 90 }
/-- RMTnn.GCUT.A, bits 15:0 at 0x118. -/
def RMT_GCUT_A : Row := { page := 0x20, off := 0x118, stride := 0x00, count := 1, lo := 0, width := 16, acc := .ro, rst := 0 }
/-- RMTnn.GCUT.B, bits 31:16 at 0x118. -/
def RMT_GCUT_B : Row := { page := 0x20, off := 0x118, stride := 0x00, count := 1, lo := 16, width := 16, acc := .ro, rst := 0 }
/-- RMTnn.GKIND.A, bits 0 at 0x11C. -/
def RMT_GKIND_A : Row := { page := 0x20, off := 0x11C, stride := 0x00, count := 1, lo := 0, width := 1, acc := .ro, rst := 0 }
/-- RMTnn.GKIND.B, bits 1 at 0x11C. -/
def RMT_GKIND_B : Row := { page := 0x20, off := 0x11C, stride := 0x00, count := 1, lo := 1, width := 1, acc := .ro, rst := 0 }
/-- RMTnn.STk.STATE, bits 2:0 at 0x120 + 4k. -/
def RMT_ST_STATE : Row := { page := 0x20, off := 0x120, stride := 0x04, count := 32, lo := 0, width := 3, acc := .ro, rst := 0 }
/-- RMTnn.STk.OUTEN, bits 4 at 0x120 + 4k. -/
def RMT_ST_OUTEN : Row := { page := 0x20, off := 0x120, stride := 0x04, count := 32, lo := 4, width := 1, acc := .ro, rst := 0 }
/-- RMTnn.STk.HSUB, bits 6:5 at 0x120 + 4k. -/
def RMT_ST_HSUB : Row := { page := 0x20, off := 0x120, stride := 0x04, count := 32, lo := 5, width := 2, acc := .ro, rst := 0 }
/-- RMTnn.STk.MISS, bits 11:8 at 0x120 + 4k. -/
def RMT_ST_MISS : Row := { page := 0x20, off := 0x120, stride := 0x04, count := 32, lo := 8, width := 4, acc := .ro, rst := 0 }
/-- RMTnn.STSTATk, bits 31:0 at 0x1A0 + 4k. -/
def RMT_STSTAT : Row := { page := 0x20, off := 0x1A0, stride := 0x04, count := 32, lo := 0, width := 32, acc := .ro, rst := 0 }
/-- RMTnn.ERRk.TIMING, bits 7:0 at 0x220 + 4k. -/
def RMT_ERR_TIMING : Row := { page := 0x20, off := 0x220, stride := 0x04, count := 32, lo := 0, width := 8, acc := .rc, rst := 0 }
/-- RMTnn.ERRk.FORMAT, bits 15:8 at 0x220 + 4k. -/
def RMT_ERR_FORMAT : Row := { page := 0x20, off := 0x220, stride := 0x04, count := 32, lo := 8, width := 8, acc := .rc, rst := 0 }
/-- RMTnn.ERRk.CRC, bits 23:16 at 0x220 + 4k. -/
def RMT_ERR_CRC : Row := { page := 0x20, off := 0x220, stride := 0x04, count := 32, lo := 16, width := 8, acc := .rc, rst := 0 }
/-- RMTnn.ERRk.LOSTS, bits 31:24 at 0x220 + 4k. -/
def RMT_ERR_LOSTS : Row := { page := 0x20, off := 0x220, stride := 0x04, count := 32, lo := 24, width := 8, acc := .rc, rst := 0 }
/-- RMTnn.PDk.A, bits 7:0 at 0x2A0 + 4k. -/
def RMT_PD_A : Row := { page := 0x20, off := 0x2A0, stride := 0x04, count := 32, lo := 0, width := 8, acc := .ro, rst := 90 }
/-- RMTnn.PDk.B, bits 15:8 at 0x2A0 + 4k. -/
def RMT_PD_B : Row := { page := 0x20, off := 0x2A0, stride := 0x04, count := 32, lo := 8, width := 8, acc := .ro, rst := 90 }
/-- RMTnn.PIDk, bits 31:0 at 0x320 + 4k. -/
def RMT_PID : Row := { page := 0x20, off := 0x320, stride := 0x04, count := 32, lo := 0, width := 32, acc := .rw, rst := 0 }
/-- RMTnn.SVCQ.ST, bits 4:0 at 0x3A0. -/
def RMT_SVCQ_ST : Row := { page := 0x20, off := 0x3A0, stride := 0x00, count := 1, lo := 0, width := 5, acc := .wo, rst := 0 }
/-- RMTnn.SVCQ.SRC, bits 9:8 at 0x3A0. -/
def RMT_SVCQ_SRC : Row := { page := 0x20, off := 0x3A0, stride := 0x00, count := 1, lo := 8, width := 2, acc := .wo, rst := 0 }
/-- RMTnn.SVCQ.GO, bits 31 at 0x3A0. -/
def RMT_SVCQ_GO : Row := { page := 0x20, off := 0x3A0, stride := 0x00, count := 1, lo := 31, width := 1, acc := .wo, rst := 0 }
/-- RMTnn.SVCPEND, bits 31:0 at 0x3A4. -/
def RMT_SVCPEND : Row := { page := 0x20, off := 0x3A4, stride := 0x00, count := 1, lo := 0, width := 32, acc := .ro, rst := 0 }

/-! 10_ramette_stations.md, Table 10.10. -/

/-- RMC.STAT.CSTATE, bits 2:0 at 0x100. -/
def RMC_STAT_CSTATE : Row := { page := 0x30, off := 0x100, stride := 0x00, count := 1, lo := 0, width := 3, acc := .ro, rst := 0 }
/-- RMC.STAT.CYCLE, bits 15:8 at 0x100. -/
def RMC_STAT_CYCLE : Row := { page := 0x30, off := 0x100, stride := 0x00, count := 1, lo := 8, width := 8, acc := .ro, rst := 0 }
/-- RMC.STAT.ROUNDS, bits 23:16 at 0x100. -/
def RMC_STAT_ROUNDS : Row := { page := 0x30, off := 0x100, stride := 0x00, count := 1, lo := 16, width := 8, acc := .ro, rst := 0 }
/-- RMC.STAT.NSYNC, bits 26:24 at 0x100. -/
def RMC_STAT_NSYNC : Row := { page := 0x30, off := 0x100, stride := 0x00, count := 1, lo := 24, width := 3, acc := .ro, rst := 0 }
/-- RMC.OFFSET, bits 31:0 at 0x104. -/
def RMC_OFFSET : Row := { page := 0x30, off := 0x104, stride := 0x00, count := 1, lo := 0, width := 32, acc := .ro, rst := 0 }
/-- RMC.RATE, bits 31:0 at 0x108. -/
def RMC_RATE : Row := { page := 0x30, off := 0x108, stride := 0x00, count := 1, lo := 0, width := 32, acc := .ro, rst := 0 }
/-- RMC.MTCSLO, bits 31:0 at 0x10C. -/
def RMC_MTCSLO : Row := { page := 0x30, off := 0x10C, stride := 0x00, count := 1, lo := 0, width := 32, acc := .ro, rst := 0 }
/-- RMC.MTCSHI, bits 31:0 at 0x110. -/
def RMC_MTCSHI : Row := { page := 0x30, off := 0x110, stride := 0x00, count := 1, lo := 0, width := 32, acc := .ro, rst := 0 }
/-- RMC.COUNT.COLD, bits 15:0 at 0x114. -/
def RMC_COUNT_COLD : Row := { page := 0x30, off := 0x114, stride := 0x00, count := 1, lo := 0, width := 16, acc := .ro, rst := 0 }
/-- RMC.COUNT.BACKOFF, bits 31:16 at 0x114. -/
def RMC_COUNT_BACKOFF : Row := { page := 0x30, off := 0x114, stride := 0x00, count := 1, lo := 16, width := 16, acc := .ro, rst := 0 }
/-- RMC.COUNT.PASSIVE, bits 15:0 at 0x118. -/
def RMC_COUNT_PASSIVE : Row := { page := 0x30, off := 0x118, stride := 0x00, count := 1, lo := 0, width := 16, acc := .ro, rst := 0 }
/-- RMC.COUNT.REINT, bits 31:16 at 0x118. -/
def RMC_COUNT_REINT : Row := { page := 0x30, off := 0x118, stride := 0x00, count := 1, lo := 16, width := 16, acc := .ro, rst := 0 }

/-! 11_pair.md, Table 11.11. -/

/-- PLn.STAT.UP, bits 0 at 0x100. -/
def PL_STAT_UP : Row := { page := 0x38, off := 0x100, stride := 0x00, count := 1, lo := 0, width := 1, acc := .ro, rst := 0 }
/-- PLn.STAT.TRAINING, bits 1 at 0x100. -/
def PL_STAT_TRAINING : Row := { page := 0x38, off := 0x100, stride := 0x00, count := 1, lo := 1, width := 1, acc := .ro, rst := 0 }
/-- PLn.STAT.HBOK, bits 2 at 0x100. -/
def PL_STAT_HBOK : Row := { page := 0x38, off := 0x100, stride := 0x00, count := 1, lo := 2, width := 1, acc := .ro, rst := 0 }
/-- PLn.RTT, bits 15:0 at 0x104. -/
def PL_RTT : Row := { page := 0x38, off := 0x104, stride := 0x00, count := 1, lo := 0, width := 16, acc := .ro, rst := 0 }
/-- PLn.FEC.CORR, bits 31:0 at 0x108. -/
def PL_FEC_CORR : Row := { page := 0x38, off := 0x108, stride := 0x00, count := 1, lo := 0, width := 32, acc := .ro, rst := 0 }
/-- PLn.FEC.UNCORR, bits 15:0 at 0x10C. -/
def PL_FEC_UNCORR : Row := { page := 0x38, off := 0x10C, stride := 0x00, count := 1, lo := 0, width := 16, acc := .ro, rst := 0 }
/-- PLn.CRCERR, bits 15:0 at 0x110. -/
def PL_CRCERR : Row := { page := 0x38, off := 0x110, stride := 0x00, count := 1, lo := 0, width := 16, acc := .rc, rst := 0 }
/-- PLn.RETRAINS, bits 15:0 at 0x114. -/
def PL_RETRAINS : Row := { page := 0x38, off := 0x114, stride := 0x00, count := 1, lo := 0, width := 16, acc := .ro, rst := 0 }
/-- PLn.LOAD, bits 6:0 at 0x118. -/
def PL_LOAD : Row := { page := 0x38, off := 0x118, stride := 0x00, count := 1, lo := 0, width := 7, acc := .ro, rst := 0 }

/-! 11_pair.md, Table 11.12. -/

/-- PAIR.STAT.ROLE, bits 2:0 at 0x100. -/
def PAIR_STAT_ROLE : Row := { page := 0x3A, off := 0x100, stride := 0x00, count := 1, lo := 0, width := 3, acc := .ro, rst := 0 }
/-- PAIR.STAT.SYNC, bits 3 at 0x100. -/
def PAIR_STAT_SYNC : Row := { page := 0x3A, off := 0x100, stride := 0x00, count := 1, lo := 3, width := 1, acc := .ro, rst := 0 }
/-- PAIR.STAT.PSYNC, bits 4 at 0x100. -/
def PAIR_STAT_PSYNC : Row := { page := 0x3A, off := 0x100, stride := 0x00, count := 1, lo := 4, width := 1, acc := .ro, rst := 0 }
/-- PAIR.STAT.LEASE, bits 5 at 0x100. -/
def PAIR_STAT_LEASE : Row := { page := 0x3A, off := 0x100, stride := 0x00, count := 1, lo := 5, width := 1, acc := .ro, rst := 0 }
/-- PAIR.STAT.PARTNER, bits 6 at 0x100. -/
def PAIR_STAT_PARTNER : Row := { page := 0x3A, off := 0x100, stride := 0x00, count := 1, lo := 6, width := 1, acc := .ro, rst := 0 }
/-- PAIR.STAT.PMODE, bits 10:8 at 0x100. -/
def PAIR_STAT_PMODE : Row := { page := 0x3A, off := 0x100, stride := 0x00, count := 1, lo := 8, width := 3, acc := .ro, rst := 0 }
/-- PAIR.STAT.LINKS, bits 12:11 at 0x100. -/
def PAIR_STAT_LINKS : Row := { page := 0x3A, off := 0x100, stride := 0x00, count := 1, lo := 11, width := 2, acc := .ro, rst := 0 }
/-- PAIR.STAT.MISMATCH, bits 15:13 at 0x100. -/
def PAIR_STAT_MISMATCH : Row := { page := 0x3A, off := 0x100, stride := 0x00, count := 1, lo := 13, width := 3, acc := .ro, rst := 0 }
/-- PAIR.STAT.CASTLE, bits 18:16 at 0x100. -/
def PAIR_STAT_CASTLE : Row := { page := 0x3A, off := 0x100, stride := 0x00, count := 1, lo := 16, width := 3, acc := .ro, rst := 0 }
/-- PAIR.EPOCH, bits 31:0 at 0x104. -/
def PAIR_EPOCH : Row := { page := 0x3A, off := 0x104, stride := 0x00, count := 1, lo := 0, width := 32, acc := .ro, rst := 0 }
/-- PAIR.CLAIMLO, bits 31:0 at 0x108. -/
def PAIR_CLAIMLO : Row := { page := 0x3A, off := 0x108, stride := 0x00, count := 1, lo := 0, width := 32, acc := .ro, rst := 0 }
/-- PAIR.CLAIMHI, bits 0 at 0x10C. -/
def PAIR_CLAIMHI : Row := { page := 0x3A, off := 0x10C, stride := 0x00, count := 1, lo := 0, width := 1, acc := .ro, rst := 0 }
/-- PAIR.SEENLO, bits 31:0 at 0x110. -/
def PAIR_SEENLO : Row := { page := 0x3A, off := 0x110, stride := 0x00, count := 1, lo := 0, width := 32, acc := .ro, rst := 0 }
/-- PAIR.SEENHI, bits 0 at 0x114. -/
def PAIR_SEENHI : Row := { page := 0x3A, off := 0x114, stride := 0x00, count := 1, lo := 0, width := 1, acc := .ro, rst := 0 }
/-- PAIR.LEASE.LEASECYC, bits 3:0 at 0x118. -/
def PAIR_LEASE_LEASECYC : Row := { page := 0x3A, off := 0x118, stride := 0x00, count := 1, lo := 0, width := 4, acc := .rwl, rst := 4 }
/-- PAIR.LEASE.NOMAJ, bits 11:8 at 0x118. -/
def PAIR_LEASE_NOMAJ : Row := { page := 0x3A, off := 0x118, stride := 0x00, count := 1, lo := 8, width := 4, acc := .ro, rst := 0 }
/-- PAIR.VOTES.OWN, bits 3:0 at 0x11C. -/
def PAIR_VOTES_OWN : Row := { page := 0x3A, off := 0x11C, stride := 0x00, count := 1, lo := 0, width := 4, acc := .ro, rst := 0 }
/-- PAIR.VOTES.OTHER, bits 11:8 at 0x11C. -/
def PAIR_VOTES_OTHER : Row := { page := 0x3A, off := 0x11C, stride := 0x00, count := 1, lo := 8, width := 4, acc := .ro, rst := 0 }
/-- PAIR.ARB.N, bits 3:0 at 0x120. -/
def PAIR_ARB_N : Row := { page := 0x3A, off := 0x120, stride := 0x00, count := 1, lo := 0, width := 4, acc := .rwl, rst := 0 }
/-- PAIR.ARBi.SEG, bits 3:0 at 0x124 + 4i (i = 0–14). -/
def PAIR_ARB_SEG : Row := { page := 0x3A, off := 0x124, stride := 0x04, count := 15, lo := 0, width := 4, acc := .rwl, rst := 0 }
/-- PAIR.ARBi.ST, bits 12:8 at 0x124 + 4i. -/
def PAIR_ARB_ST : Row := { page := 0x3A, off := 0x124, stride := 0x04, count := 15, lo := 8, width := 5, acc := .rwl, rst := 0 }
/-- PAIR.HBMISS.PL0, bits 15:0 at 0x160. -/
def PAIR_HBMISS_PL0 : Row := { page := 0x3A, off := 0x160, stride := 0x00, count := 1, lo := 0, width := 16, acc := .ro, rst := 0 }
/-- PAIR.HBMISS.PL1, bits 31:16 at 0x160. -/
def PAIR_HBMISS_PL1 : Row := { page := 0x3A, off := 0x160, stride := 0x00, count := 1, lo := 16, width := 16, acc := .ro, rst := 0 }
/-- PAIR.MTOFFLO, bits 31:0 at 0x164. -/
def PAIR_MTOFFLO : Row := { page := 0x3A, off := 0x164, stride := 0x00, count := 1, lo := 0, width := 32, acc := .ro, rst := 0 }
/-- PAIR.MTOFFHI, bits 31:0 at 0x168. -/
def PAIR_MTOFFHI : Row := { page := 0x3A, off := 0x168, stride := 0x00, count := 1, lo := 0, width := 32, acc := .ro, rst := 0 }
/-- PAIR.LOCAL.MFV, bits 15:0 at 0x16C. -/
def PAIR_LOCAL_MFV : Row := { page := 0x3A, off := 0x16C, stride := 0x00, count := 1, lo := 0, width := 16, acc := .rwl, rst := 0 }
/-- PAIR.LOCAL.FWVER, bits 31:16 at 0x16C. -/
def PAIR_LOCAL_FWVER : Row := { page := 0x3A, off := 0x16C, stride := 0x00, count := 1, lo := 16, width := 16, acc := .rwl, rst := 0 }
/-- PAIR.PEER.MFV, bits 15:0 at 0x170. -/
def PAIR_PEER_MFV : Row := { page := 0x3A, off := 0x170, stride := 0x00, count := 1, lo := 0, width := 16, acc := .ro, rst := 0 }
/-- PAIR.PEER.FWVER, bits 31:16 at 0x170. -/
def PAIR_PEER_FWVER : Row := { page := 0x3A, off := 0x170, stride := 0x00, count := 1, lo := 16, width := 16, acc := .ro, rst := 0 }
/-- PAIR.PEER.VARIANT, bits 7:0 at 0x174. -/
def PAIR_PEER_VARIANT : Row := { page := 0x3A, off := 0x174, stride := 0x00, count := 1, lo := 0, width := 8, acc := .ro, rst := 0 }
/-- PAIR.PEER.SIDE, bits 8 at 0x174. -/
def PAIR_PEER_SIDE : Row := { page := 0x3A, off := 0x174, stride := 0x00, count := 1, lo := 8, width := 1, acc := .ro, rst := 0 }
/-- PAIR.PEER.HOLDCAUSE, bits 15:12 at 0x174. -/
def PAIR_PEER_HOLDCAUSE : Row := { page := 0x3A, off := 0x174, stride := 0x00, count := 1, lo := 12, width := 4, acc := .ro, rst := 0 }
/-- PAIR.ML.CTRL.CHECK, bits 0 at 0x178. -/
def PAIR_ML_CTRL_CHECK : Row := { page := 0x3A, off := 0x178, stride := 0x00, count := 1, lo := 0, width := 1, acc := .ws, rst := 0 }
/-- PAIR.MLADDR.OFFSET, bits 17:2 at 0x17C. -/
def PAIR_MLADDR_OFFSET : Row := { page := 0x3A, off := 0x17C, stride := 0x00, count := 1, lo := 2, width := 16, acc := .rw, rst := 0 }
/-- PAIR.MLADDR.LIST, bits 31 at 0x17C. -/
def PAIR_MLADDR_LIST : Row := { page := 0x3A, off := 0x17C, stride := 0x00, count := 1, lo := 31, width := 1, acc := .rw, rst := 0 }
/-- PAIR.MLDATA, bits 31:0 at 0x180. -/
def PAIR_MLDATA : Row := { page := 0x3A, off := 0x180, stride := 0x00, count := 1, lo := 0, width := 32, acc := .rw, rst := 0 }
/-- PAIR.MLVOLn, bits 31:0 at 0x184 + 4(n − 1). -/
def PAIR_MLVOL : Row := { page := 0x3A, off := 0x184, stride := 0x04, count := 3, lo := 0, width := 32, acc := .ro, rst := 0 }
/-- PAIR.MLCHK, bits 13:0 at 0x190. -/
def PAIR_MLCHK : Row := { page := 0x3A, off := 0x190, stride := 0x00, count := 1, lo := 0, width := 14, acc := .ro, rst := 0 }
/-- PAIR.ESC.ADDR, bits 24:0 at 0x194. -/
def PAIR_ESC_ADDR : Row := { page := 0x3A, off := 0x194, stride := 0x00, count := 1, lo := 0, width := 25, acc := .ro, rst := 0 }
/-- PAIR.ESC.WRITER, bits 7:0 at 0x198. -/
def PAIR_ESC_WRITER : Row := { page := 0x3A, off := 0x198, stride := 0x00, count := 1, lo := 0, width := 8, acc := .ro, rst := 0 }
/-- PAIR.ESC.MASTER, bits 15:8 at 0x198. -/
def PAIR_ESC_MASTER : Row := { page := 0x3A, off := 0x198, stride := 0x00, count := 1, lo := 8, width := 8, acc := .ro, rst := 0 }
/-- PAIR.ESC.COUNT, bits 31:16 at 0x198. -/
def PAIR_ESC_COUNT : Row := { page := 0x3A, off := 0x198, stride := 0x00, count := 1, lo := 16, width := 16, acc := .ro, rst := 0 }
/-- PAIR.SYNC.STAT.PHASE, bits 2:0 at 0x19C. -/
def PAIR_SYNC_STAT_PHASE : Row := { page := 0x3A, off := 0x19C, stride := 0x00, count := 1, lo := 0, width := 3, acc := .ro, rst := 0 }
/-- PAIR.SYNC.STAT.ROUNDS, bits 11:8 at 0x19C. -/
def PAIR_SYNC_STAT_ROUNDS : Row := { page := 0x3A, off := 0x19C, stride := 0x00, count := 1, lo := 8, width := 4, acc := .ro, rst := 0 }
/-- PAIR.SYNC.STAT.FAIL, bits 14:12 at 0x19C. -/
def PAIR_SYNC_STAT_FAIL : Row := { page := 0x3A, off := 0x19C, stride := 0x00, count := 1, lo := 12, width := 3, acc := .ro, rst := 0 }
/-- PAIR.SYNC.CMD.JOIN, bits 0 at 0x1A0. -/
def PAIR_SYNC_CMD_JOIN : Row := { page := 0x3A, off := 0x1A0, stride := 0x00, count := 1, lo := 0, width := 1, acc := .ws, rst := 0 }
/-- PAIR.CASTLE.CMD.REQ, bits 0 at 0x1A4. -/
def PAIR_CASTLE_CMD_REQ : Row := { page := 0x3A, off := 0x1A4, stride := 0x00, count := 1, lo := 0, width := 1, acc := .ws, rst := 0 }
/-- PAIR.CASTLE.CMD.FORCED, bits 1 at 0x1A4. -/
def PAIR_CASTLE_CMD_FORCED : Row := { page := 0x3A, off := 0x1A4, stride := 0x00, count := 1, lo := 1, width := 1, acc := .rw, rst := 0 }
/-- PAIR.CASTLE.STAT.RESULT, bits 3:0 at 0x1A8. -/
def PAIR_CASTLE_STAT_RESULT : Row := { page := 0x3A, off := 0x1A8, stride := 0x00, count := 1, lo := 0, width := 4, acc := .ro, rst := 0 }
/-- PAIR.CASTLE.STAT.COUNT, bits 31:16 at 0x1A8. -/
def PAIR_CASTLE_STAT_COUNT : Row := { page := 0x3A, off := 0x1A8, stride := 0x00, count := 1, lo := 16, width := 16, acc := .ro, rst := 0 }

/-! 12_time.md, Table 12.4. -/

/-- TIM.MTLO, bits 31:0 at 0x100. -/
def TIM_MTLO : Row := { page := 0x40, off := 0x100, stride := 0x00, count := 1, lo := 0, width := 32, acc := .ro, rst := 0 }
/-- TIM.MTHI, bits 31:0 at 0x104. -/
def TIM_MTHI : Row := { page := 0x40, off := 0x104, stride := 0x00, count := 1, lo := 0, width := 32, acc := .ro, rst := 0, banked := true }
/-- TIM.NTLO, bits 31:0 at 0x108. -/
def TIM_NTLO : Row := { page := 0x40, off := 0x108, stride := 0x00, count := 1, lo := 0, width := 32, acc := .ro, rst := 0 }
/-- TIM.NTHI, bits 31:0 at 0x10C. -/
def TIM_NTHI : Row := { page := 0x40, off := 0x10C, stride := 0x00, count := 1, lo := 0, width := 32, acc := .ro, rst := 0, banked := true }
/-- TIM.NTINC, bits 31:0 at 0x110. -/
def TIM_NTINC : Row := { page := 0x40, off := 0x110, stride := 0x00, count := 1, lo := 0, width := 32, acc := .rw, rst := 1073741824 }
/-- TIM.NTSTEP.VAL, bits 31:0 at 0x114. -/
def TIM_NTSTEP_VAL : Row := { page := 0x40, off := 0x114, stride := 0x00, count := 1, lo := 0, width := 32, acc := .rw, rst := 0 }
/-- TIM.NTSTEP.CMD.GO, bits 0 at 0x118. -/
def TIM_NTSTEP_CMD_GO : Row := { page := 0x40, off := 0x118, stride := 0x00, count := 1, lo := 0, width := 1, acc := .ws, rst := 0 }
/-- TIM.NTSTEP.CMD.FORCE, bits 1 at 0x118. -/
def TIM_NTSTEP_CMD_FORCE : Row := { page := 0x40, off := 0x118, stride := 0x00, count := 1, lo := 1, width := 1, acc := .wo, rst := 0 }
/-- TIM.NTSTEPMAX, bits 31:0 at 0x11C. -/
def TIM_NTSTEPMAX : Row := { page := 0x40, off := 0x11C, stride := 0x00, count := 1, lo := 0, width := 32, acc := .rwl, rst := 1000000 }
/-- TIM.NTSETLO, bits 31:0 at 0x120. -/
def TIM_NTSETLO : Row := { page := 0x40, off := 0x120, stride := 0x00, count := 1, lo := 0, width := 32, acc := .rw, rst := 0 }
/-- TIM.NTSETHI, bits 31:0 at 0x124. -/
def TIM_NTSETHI : Row := { page := 0x40, off := 0x124, stride := 0x00, count := 1, lo := 0, width := 32, acc := .rw, rst := 0 }
/-- TIM.NTCTL.LOCKED, bits 0 at 0x128. -/
def TIM_NTCTL_LOCKED : Row := { page := 0x40, off := 0x128, stride := 0x00, count := 1, lo := 0, width := 1, acc := .rw, rst := 0 }
/-- TIM.NTCTL.SET, bits 1 at 0x128. -/
def TIM_NTCTL_SET : Row := { page := 0x40, off := 0x128, stride := 0x00, count := 1, lo := 1, width := 1, acc := .ws, rst := 0 }
/-- TIM.NTSTAT.JUMP, bits 0 at 0x12C. -/
def TIM_NTSTAT_JUMP : Row := { page := 0x40, off := 0x12C, stride := 0x00, count := 1, lo := 0, width := 1, acc := .w1c, rst := 0 }
/-- TIM.NTSTAT.STEPPEND, bits 1 at 0x12C. -/
def TIM_NTSTAT_STEPPEND : Row := { page := 0x40, off := 0x12C, stride := 0x00, count := 1, lo := 1, width := 1, acc := .ro, rst := 0 }
/-- TIM.NTSTAT.GEN, bits 15:8 at 0x12C. -/
def TIM_NTSTAT_GEN : Row := { page := 0x40, off := 0x12C, stride := 0x00, count := 1, lo := 8, width := 8, acc := .ro, rst := 0 }
/-- TIM.NTSTAT.STEPREJ, bits 31:16 at 0x12C. -/
def TIM_NTSTAT_STEPREJ : Row := { page := 0x40, off := 0x12C, stride := 0x00, count := 1, lo := 16, width := 16, acc := .ro, rst := 0 }
/-- TIM.SNAP.GO, bits 0 at 0x130. -/
def TIM_SNAP_GO : Row := { page := 0x40, off := 0x130, stride := 0x00, count := 1, lo := 0, width := 1, acc := .ws, rst := 0 }
/-- TIM.SNAP.MTLO, bits 31:0 at 0x134. -/
def TIM_SNAP_MTLO : Row := { page := 0x40, off := 0x134, stride := 0x00, count := 1, lo := 0, width := 32, acc := .ro, rst := 0 }
/-- TIM.SNAP.MTHI, bits 31:0 at 0x138. -/
def TIM_SNAP_MTHI : Row := { page := 0x40, off := 0x138, stride := 0x00, count := 1, lo := 0, width := 32, acc := .ro, rst := 0 }
/-- TIM.SNAP.NTLO, bits 31:0 at 0x13C. -/
def TIM_SNAP_NTLO : Row := { page := 0x40, off := 0x13C, stride := 0x00, count := 1, lo := 0, width := 32, acc := .ro, rst := 0 }
/-- TIM.SNAP.NTHI, bits 31:0 at 0x140. -/
def TIM_SNAP_NTHI : Row := { page := 0x40, off := 0x140, stride := 0x00, count := 1, lo := 0, width := 32, acc := .ro, rst := 0 }
/-- TIM.SNAP.NTFRAC, bits 27:0 at 0x144. -/
def TIM_SNAP_NTFRAC : Row := { page := 0x40, off := 0x144, stride := 0x00, count := 1, lo := 0, width := 28, acc := .ro, rst := 0 }
/-- TIM.TPCFG.INEN, bits 0 at 0x148. -/
def TIM_TPCFG_INEN : Row := { page := 0x40, off := 0x148, stride := 0x00, count := 1, lo := 0, width := 1, acc := .rw, rst := 0 }
/-- TIM.TPCFG.PWIDTH, bits 24:16 at 0x148. -/
def TIM_TPCFG_PWIDTH : Row := { page := 0x40, off := 0x148, stride := 0x00, count := 1, lo := 16, width := 9, acc := .rw, rst := 100 }
/-- TIM.TPSTAT.INFAULT, bits 0 at 0x14C. -/
def TIM_TPSTAT_INFAULT : Row := { page := 0x40, off := 0x14C, stride := 0x00, count := 1, lo := 0, width := 1, acc := .ro, rst := 0 }
/-- TIM.TPSTAT.OUTFAULT, bits 1 at 0x14C. -/
def TIM_TPSTAT_OUTFAULT : Row := { page := 0x40, off := 0x14C, stride := 0x00, count := 1, lo := 1, width := 1, acc := .ro, rst := 0 }
/-- TIM.TPSTAT.PPSOUT, bits 2 at 0x14C. -/
def TIM_TPSTAT_PPSOUT : Row := { page := 0x40, off := 0x14C, stride := 0x00, count := 1, lo := 2, width := 1, acc := .ro, rst := 0 }
/-- TIM.CMPk.CFG.MODE, bits 1:0 at 0x200 + 0x20k. -/
def TIM_CMP_CFG_MODE : Row := { page := 0x40, off := 0x200, stride := 0x20, count := 8, lo := 0, width := 2, acc := .rw, rst := 0 }
/-- TIM.CMPk.CFG.TBASE, bits 4 at 0x200 + 0x20k. -/
def TIM_CMP_CFG_TBASE : Row := { page := 0x40, off := 0x200, stride := 0x20, count := 8, lo := 4, width := 1, acc := .rw, rst := 0 }
/-- TIM.CMPk.CFG.PPSOUT, bits 5 at 0x200 + 0x20k. -/
def TIM_CMP_CFG_PPSOUT : Row := { page := 0x40, off := 0x200, stride := 0x20, count := 8, lo := 5, width := 1, acc := .rw, rst := 0 }
/-- TIM.CMPk.CFG.OWNED, bits 8 at 0x200 + 0x20k. -/
def TIM_CMP_CFG_OWNED : Row := { page := 0x40, off := 0x200, stride := 0x20, count := 8, lo := 8, width := 1, acc := .ro, rst := 0 }
/-- TIM.CMPk.CFG.OWNER, bits 10:9 at 0x200 + 0x20k. -/
def TIM_CMP_CFG_OWNER : Row := { page := 0x40, off := 0x200, stride := 0x20, count := 8, lo := 9, width := 2, acc := .ro, rst := 0 }
/-- TIM.CMPk.TGTLO, bits 31:0 at 0x204 + 0x20k. -/
def TIM_CMP_TGTLO : Row := { page := 0x40, off := 0x204, stride := 0x20, count := 8, lo := 0, width := 32, acc := .rw, rst := 0 }
/-- TIM.CMPk.TGTHI, bits 31:0 at 0x208 + 0x20k. -/
def TIM_CMP_TGTHI : Row := { page := 0x40, off := 0x208, stride := 0x20, count := 8, lo := 0, width := 32, acc := .rw, rst := 0 }
/-- TIM.CMPk.PERIOD, bits 31:0 at 0x20C + 0x20k. -/
def TIM_CMP_PERIOD : Row := { page := 0x40, off := 0x20C, stride := 0x20, count := 8, lo := 0, width := 32, acc := .rw, rst := 1000000 }
/-- TIM.CMPk.COUNT, bits 31:0 at 0x210 + 0x20k. -/
def TIM_CMP_COUNT : Row := { page := 0x40, off := 0x210, stride := 0x20, count := 8, lo := 0, width := 32, acc := .ro, rst := 0 }
/-- TIM.CAPk.CFG.SRC, bits 7:0 at 0x300 + 0x20k. -/
def TIM_CAP_CFG_SRC : Row := { page := 0x40, off := 0x300, stride := 0x20, count := 8, lo := 0, width := 8, acc := .rw, rst := 0 }
/-- TIM.CAPk.CFG.EDGE, bits 9:8 at 0x300 + 0x20k. -/
def TIM_CAP_CFG_EDGE : Row := { page := 0x40, off := 0x300, stride := 0x20, count := 8, lo := 8, width := 2, acc := .rw, rst := 0 }
/-- TIM.CAPk.CFG.EN, bits 12 at 0x300 + 0x20k. -/
def TIM_CAP_CFG_EN : Row := { page := 0x40, off := 0x300, stride := 0x20, count := 8, lo := 12, width := 1, acc := .rw, rst := 0 }
/-- TIM.CAPk.MTLO, bits 31:0 at 0x304 + 0x20k. -/
def TIM_CAP_MTLO : Row := { page := 0x40, off := 0x304, stride := 0x20, count := 8, lo := 0, width := 32, acc := .ro, rst := 0 }
/-- TIM.CAPk.MTHI, bits 31:0 at 0x308 + 0x20k. -/
def TIM_CAP_MTHI : Row := { page := 0x40, off := 0x308, stride := 0x20, count := 8, lo := 0, width := 32, acc := .ro, rst := 0 }
/-- TIM.CAPk.NTLO, bits 31:0 at 0x30C + 0x20k. -/
def TIM_CAP_NTLO : Row := { page := 0x40, off := 0x30C, stride := 0x20, count := 8, lo := 0, width := 32, acc := .ro, rst := 0 }
/-- TIM.CAPk.NTHI, bits 31:0 at 0x310 + 0x20k. -/
def TIM_CAP_NTHI : Row := { page := 0x40, off := 0x310, stride := 0x20, count := 8, lo := 0, width := 32, acc := .ro, rst := 0 }
/-- TIM.CAPk.STAT.VALID, bits 0 at 0x314 + 0x20k. -/
def TIM_CAP_STAT_VALID : Row := { page := 0x40, off := 0x314, stride := 0x20, count := 8, lo := 0, width := 1, acc := .w1c, rst := 0 }
/-- TIM.CAPk.STAT.OVF, bits 1 at 0x314 + 0x20k. -/
def TIM_CAP_STAT_OVF : Row := { page := 0x40, off := 0x314, stride := 0x20, count := 8, lo := 1, width := 1, acc := .w1c, rst := 0 }
/-- TIM.CAPk.STAT.RISE, bits 2 at 0x314 + 0x20k. -/
def TIM_CAP_STAT_RISE : Row := { page := 0x40, off := 0x314, stride := 0x20, count := 8, lo := 2, width := 1, acc := .ro, rst := 0 }
/-- TIM.CAPk.STAT.GEN, bits 15:8 at 0x314 + 0x20k. -/
def TIM_CAP_STAT_GEN : Row := { page := 0x40, off := 0x314, stride := 0x20, count := 8, lo := 8, width := 8, acc := .ro, rst := 0 }
/-- TIM.CAPk.STAT.LOST, bits 31:16 at 0x314 + 0x20k. -/
def TIM_CAP_STAT_LOST : Row := { page := 0x40, off := 0x314, stride := 0x20, count := 8, lo := 16, width := 16, acc := .ro, rst := 0 }

/-! 12_time.md, Table 12.5. -/

/-- EMACx.TSCFG.UDP4, bits 0 at 0x100. -/
def EMAC_TSCFG_UDP4 : Row := { page := 0x41, off := 0x100, stride := 0x00, count := 1, lo := 0, width := 1, acc := .rw, rst := 1 }
/-- EMACx.TSCFG.UDP6, bits 1 at 0x100. -/
def EMAC_TSCFG_UDP6 : Row := { page := 0x41, off := 0x100, stride := 0x00, count := 1, lo := 1, width := 1, acc := .rw, rst := 1 }
/-- EMACx.TSCFG.L2, bits 2 at 0x100. -/
def EMAC_TSCFG_L2 : Row := { page := 0x41, off := 0x100, stride := 0x00, count := 1, lo := 2, width := 1, acc := .rw, rst := 1 }
/-- EMACx.TXTS.W0.MSGTYPE, bits 3:0 at 0x104. -/
def EMAC_TXTS_W0_MSGTYPE : Row := { page := 0x41, off := 0x104, stride := 0x00, count := 1, lo := 0, width := 4, acc := .ro, rst := 0 }
/-- EMACx.TXTS.W0.DOMAIN, bits 15:8 at 0x104. -/
def EMAC_TXTS_W0_DOMAIN : Row := { page := 0x41, off := 0x104, stride := 0x00, count := 1, lo := 8, width := 8, acc := .ro, rst := 0 }
/-- EMACx.TXTS.W0.SEQID, bits 31:16 at 0x104. -/
def EMAC_TXTS_W0_SEQID : Row := { page := 0x41, off := 0x104, stride := 0x00, count := 1, lo := 16, width := 16, acc := .ro, rst := 0 }
/-- EMACx.TXTS.W1, bits 31:0 at 0x108. -/
def EMAC_TXTS_W1 : Row := { page := 0x41, off := 0x108, stride := 0x00, count := 1, lo := 0, width := 32, acc := .ro, rst := 0 }
/-- EMACx.TXTS.W2, bits 31:0 at 0x10C. -/
def EMAC_TXTS_W2 : Row := { page := 0x41, off := 0x10C, stride := 0x00, count := 1, lo := 0, width := 32, acc := .ro, rst := 0 }
/-- EMACx.TXTS.W3.GEN, bits 7:0 at 0x110. -/
def EMAC_TXTS_W3_GEN : Row := { page := 0x41, off := 0x110, stride := 0x00, count := 1, lo := 0, width := 8, acc := .ro, rst := 0 }
/-- EMACx.TXTS.W3.VALID, bits 31 at 0x110. -/
def EMAC_TXTS_W3_VALID : Row := { page := 0x41, off := 0x110, stride := 0x00, count := 1, lo := 31, width := 1, acc := .ro, rst := 0 }
/-- EMACx.TXTS.POP, bits 0 at 0x114. -/
def EMAC_TXTS_POP : Row := { page := 0x41, off := 0x114, stride := 0x00, count := 1, lo := 0, width := 1, acc := .ws, rst := 0 }
/-- EMACx.RXTS.W0, bits 31:0 at 0x118. -/
def EMAC_RXTS_W0 : Row := { page := 0x41, off := 0x118, stride := 0x00, count := 1, lo := 0, width := 32, acc := .ro, rst := 0 }
/-- EMACx.RXTS.W1, bits 31:0 at 0x11C. -/
def EMAC_RXTS_W1 : Row := { page := 0x41, off := 0x11C, stride := 0x00, count := 1, lo := 0, width := 32, acc := .ro, rst := 0 }
/-- EMACx.RXTS.W2, bits 31:0 at 0x120. -/
def EMAC_RXTS_W2 : Row := { page := 0x41, off := 0x120, stride := 0x00, count := 1, lo := 0, width := 32, acc := .ro, rst := 0 }
/-- EMACx.RXTS.W3, bits 31:0 at 0x124. -/
def EMAC_RXTS_W3 : Row := { page := 0x41, off := 0x124, stride := 0x00, count := 1, lo := 0, width := 32, acc := .ro, rst := 0 }
/-- EMACx.RXTS.POP, bits 0 at 0x128. -/
def EMAC_RXTS_POP : Row := { page := 0x41, off := 0x128, stride := 0x00, count := 1, lo := 0, width := 1, acc := .ws, rst := 0 }
/-- EMACx.TSSTAT.TXLEVEL, bits 4:0 at 0x12C. -/
def EMAC_TSSTAT_TXLEVEL : Row := { page := 0x41, off := 0x12C, stride := 0x00, count := 1, lo := 0, width := 5, acc := .ro, rst := 0 }
/-- EMACx.TSSTAT.RXLEVEL, bits 13:8 at 0x12C. -/
def EMAC_TSSTAT_RXLEVEL : Row := { page := 0x41, off := 0x12C, stride := 0x00, count := 1, lo := 8, width := 6, acc := .ro, rst := 0 }
/-- EMACx.TSSTAT.TXOVF, bits 23:16 at 0x12C. -/
def EMAC_TSSTAT_TXOVF : Row := { page := 0x41, off := 0x12C, stride := 0x00, count := 1, lo := 16, width := 8, acc := .rc, rst := 0 }
/-- EMACx.TSSTAT.RXOVF, bits 31:24 at 0x12C. -/
def EMAC_TSSTAT_RXOVF : Row := { page := 0x41, off := 0x12C, stride := 0x00, count := 1, lo := 24, width := 8, acc := .rc, rst := 0 }

/-! 13_backup_rtc.md, Table 13.3. -/

/-- BKD.STAT.BK_VALID, bits 0 at 0x100. -/
def BKD_STAT_BK_VALID : Row := { page := 0x48, off := 0x100, stride := 0x00, count := 1, lo := 0, width := 1, acc := .ro, rst := 0, cls := .bk }
/-- BKD.STAT.RTC_VALID, bits 1 at 0x100. -/
def BKD_STAT_RTC_VALID : Row := { page := 0x48, off := 0x100, stride := 0x00, count := 1, lo := 1, width := 1, acc := .ro, rst := 0, cls := .bk }
/-- BKD.STAT.CELLLOW, bits 2 at 0x100. -/
def BKD_STAT_CELLLOW : Row := { page := 0x48, off := 0x100, stride := 0x00, count := 1, lo := 2, width := 1, acc := .ro, rst := 0, cls := .bk }
/-- BKD.STAT.SRC, bits 3 at 0x100. A level from outside, of which the spec gives no number (DESIGN CHOICE, log entry 5). -/
def BKD_STAT_SRC : Row := { page := 0x48, off := 0x100, stride := 0x00, count := 1, lo := 3, width := 1, acc := .ro, rst := 0, cls := .pin }
/-- BKD.STAT.WPEND, bits 4 at 0x100. -/
def BKD_STAT_WPEND : Row := { page := 0x48, off := 0x100, stride := 0x00, count := 1, lo := 4, width := 1, acc := .ro, rst := 0 }
/-- BKD.STAT.COMMITPEND, bits 5 at 0x100. -/
def BKD_STAT_COMMITPEND : Row := { page := 0x48, off := 0x100, stride := 0x00, count := 1, lo := 5, width := 1, acc := .ro, rst := 0 }
/-- BKD.STAT.LOSTSEEN, bits 6 at 0x100. -/
def BKD_STAT_LOSTSEEN : Row := { page := 0x48, off := 0x100, stride := 0x00, count := 1, lo := 6, width := 1, acc := .ro, rst := 0 }
/-- BKD.STAT.LOADBUSY, bits 7 at 0x100. -/
def BKD_STAT_LOADBUSY : Row := { page := 0x48, off := 0x100, stride := 0x00, count := 1, lo := 7, width := 1, acc := .ro, rst := 0 }
/-- BKD.CMD.VALIDATE, bits 0 at 0x104. -/
def BKD_CMD_VALIDATE : Row := { page := 0x48, off := 0x104, stride := 0x00, count := 1, lo := 0, width := 1, acc := .ws, rst := 0 }
/-- BKD.CMD.LOADTEST, bits 1 at 0x104. -/
def BKD_CMD_LOADTEST : Row := { page := 0x48, off := 0x104, stride := 0x00, count := 1, lo := 1, width := 1, acc := .ws, rst := 0 }
/-- BKD.CMD.CCTAKE, bits 2 at 0x104. -/
def BKD_CMD_CCTAKE : Row := { page := 0x48, off := 0x104, stride := 0x00, count := 1, lo := 2, width := 1, acc := .ws, rst := 0 }
/-- BKD.RTC_SNAP.SUBSEC, bits 14:0 at 0x108. -/
def BKD_RTC_SNAP_SUBSEC : Row := { page := 0x48, off := 0x108, stride := 0x00, count := 1, lo := 0, width := 15, acc := .ro, rst := 0, banked := true }
/-- BKD.RTC_SNAP.VALID, bits 31 at 0x108. -/
def BKD_RTC_SNAP_VALID : Row := { page := 0x48, off := 0x108, stride := 0x00, count := 1, lo := 31, width := 1, acc := .ro, rst := 0, banked := true }
/-- BKD.SHD.DATE.YEAR, bits 7:0 at 0x10C. -/
def BKD_SHD_DATE_YEAR : Row := { page := 0x48, off := 0x10C, stride := 0x00, count := 1, lo := 0, width := 8, acc := .ro, rst := 0, banked := true }
/-- BKD.SHD.DATE.MONTH, bits 11:8 at 0x10C. -/
def BKD_SHD_DATE_MONTH : Row := { page := 0x48, off := 0x10C, stride := 0x00, count := 1, lo := 8, width := 4, acc := .ro, rst := 0, banked := true }
/-- BKD.SHD.DATE.DAY, bits 20:16 at 0x10C. -/
def BKD_SHD_DATE_DAY : Row := { page := 0x48, off := 0x10C, stride := 0x00, count := 1, lo := 16, width := 5, acc := .ro, rst := 0, banked := true }
/-- BKD.SHD.DATE.WDAY, bits 26:24 at 0x10C. -/
def BKD_SHD_DATE_WDAY : Row := { page := 0x48, off := 0x10C, stride := 0x00, count := 1, lo := 24, width := 3, acc := .ro, rst := 0, banked := true }
/-- BKD.SHD.TIME.HOUR, bits 4:0 at 0x110. -/
def BKD_SHD_TIME_HOUR : Row := { page := 0x48, off := 0x110, stride := 0x00, count := 1, lo := 0, width := 5, acc := .ro, rst := 0, banked := true }
/-- BKD.SHD.TIME.MIN, bits 13:8 at 0x110. -/
def BKD_SHD_TIME_MIN : Row := { page := 0x48, off := 0x110, stride := 0x00, count := 1, lo := 8, width := 6, acc := .ro, rst := 0, banked := true }
/-- BKD.SHD.TIME.SEC, bits 21:16 at 0x110. -/
def BKD_SHD_TIME_SEC : Row := { page := 0x48, off := 0x110, stride := 0x00, count := 1, lo := 16, width := 6, acc := .ro, rst := 0, banked := true }
/-- BKD.SHD.MTLO, bits 31:0 at 0x114. -/
def BKD_SHD_MTLO : Row := { page := 0x48, off := 0x114, stride := 0x00, count := 1, lo := 0, width := 32, acc := .ro, rst := 0, banked := true }
/-- BKD.SHD.MTHI, bits 31:0 at 0x118. -/
def BKD_SHD_MTHI : Row := { page := 0x48, off := 0x118, stride := 0x00, count := 1, lo := 0, width := 32, acc := .ro, rst := 0, banked := true }
/-- BKD.RTC_DATE.YEAR, bits 7:0 at 0x11C. -/
def BKD_RTC_DATE_YEAR : Row := { page := 0x48, off := 0x11C, stride := 0x00, count := 1, lo := 0, width := 8, acc := .rw, rst := 0 }
/-- BKD.RTC_DATE.MONTH, bits 11:8 at 0x11C. -/
def BKD_RTC_DATE_MONTH : Row := { page := 0x48, off := 0x11C, stride := 0x00, count := 1, lo := 8, width := 4, acc := .rw, rst := 1 }
/-- BKD.RTC_DATE.DAY, bits 20:16 at 0x11C. -/
def BKD_RTC_DATE_DAY : Row := { page := 0x48, off := 0x11C, stride := 0x00, count := 1, lo := 16, width := 5, acc := .rw, rst := 1 }
/-- BKD.RTC_TIME.HOUR, bits 4:0 at 0x120. -/
def BKD_RTC_TIME_HOUR : Row := { page := 0x48, off := 0x120, stride := 0x00, count := 1, lo := 0, width := 5, acc := .rw, rst := 0 }
/-- BKD.RTC_TIME.MIN, bits 13:8 at 0x120. -/
def BKD_RTC_TIME_MIN : Row := { page := 0x48, off := 0x120, stride := 0x00, count := 1, lo := 8, width := 6, acc := .rw, rst := 0 }
/-- BKD.RTC_SEC.SEC, bits 5:0 at 0x124. -/
def BKD_RTC_SEC_SEC : Row := { page := 0x48, off := 0x124, stride := 0x00, count := 1, lo := 0, width := 6, acc := .wo, rst := 0 }
/-- BKD.RTC_TRIM, bits 7:0 at 0x128. -/
def BKD_RTC_TRIM : Row := { page := 0x48, off := 0x128, stride := 0x00, count := 1, lo := 0, width := 8, acc := .rw, rst := 0, cls := .bk }
/-- BKD.ALMa.DATE.YEAR, bits 7:0 at 0x130 + 0x10a. -/
def BKD_ALM_DATE_YEAR : Row := { page := 0x48, off := 0x130, stride := 0x10, count := 2, lo := 0, width := 8, acc := .rw, rst := 0, cls := .bk }
/-- BKD.ALMa.DATE.MONTH, bits 11:8 at 0x130 + 0x10a. -/
def BKD_ALM_DATE_MONTH : Row := { page := 0x48, off := 0x130, stride := 0x10, count := 2, lo := 8, width := 4, acc := .rw, rst := 0, cls := .bk }
/-- BKD.ALMa.DATE.DAY, bits 20:16 at 0x130 + 0x10a. -/
def BKD_ALM_DATE_DAY : Row := { page := 0x48, off := 0x130, stride := 0x10, count := 2, lo := 16, width := 5, acc := .rw, rst := 0, cls := .bk }
/-- BKD.ALMa.DATE.WDAY, bits 26:24 at 0x130 + 0x10a. -/
def BKD_ALM_DATE_WDAY : Row := { page := 0x48, off := 0x130, stride := 0x10, count := 2, lo := 24, width := 3, acc := .rw, rst := 0, cls := .bk }
/-- BKD.ALMa.TIME, bits 21:0 at 0x134 + 0x10a. -/
def BKD_ALM_TIME : Row := { page := 0x48, off := 0x134, stride := 0x10, count := 2, lo := 0, width := 22, acc := .rw, rst := 0, cls := .bk }
/-- BKD.ALMa.MASK.FIELDS, bits 6:0 at 0x138 + 0x10a. -/
def BKD_ALM_MASK_FIELDS : Row := { page := 0x48, off := 0x138, stride := 0x10, count := 2, lo := 0, width := 7, acc := .rw, rst := 127, cls := .bk }
/-- BKD.ALMa.MASK.EN, bits 8 at 0x138 + 0x10a. -/
def BKD_ALM_MASK_EN : Row := { page := 0x48, off := 0x138, stride := 0x10, count := 2, lo := 8, width := 1, acc := .rw, rst := 0, cls := .bk }
/-- BKD.ALMFLAG, bits 1:0 at 0x150. -/
def BKD_ALMFLAG : Row := { page := 0x48, off := 0x150, stride := 0x00, count := 1, lo := 0, width := 2, acc := .w1c, rst := 0, cls := .bk }
/-- BKD.EVIk.CFG.FILT, bits 7:0 at 0x160 + 0x10k. -/
def BKD_EVI_CFG_FILT : Row := { page := 0x48, off := 0x160, stride := 0x10, count := 2, lo := 0, width := 8, acc := .rwl, rst := 32, cls := .bk }
/-- BKD.EVIk.CFG.EDGE, bits 9:8 at 0x160 + 0x10k. -/
def BKD_EVI_CFG_EDGE : Row := { page := 0x48, off := 0x160, stride := 0x10, count := 2, lo := 8, width := 2, acc := .rwl, rst := 0, rsts := [0, 2], cls := .bk }
/-- BKD.EVIk.CFG.LEVEL, bits 16 at 0x160 + 0x10k. A level from outside, of which the spec gives no number (DESIGN CHOICE, log entry 5). -/
def BKD_EVI_CFG_LEVEL : Row := { page := 0x48, off := 0x160, stride := 0x10, count := 2, lo := 16, width := 1, acc := .ro, rst := 0, cls := .pin }
/-- BKD.EVIk.TSDATE, bits 26:0 at 0x164 + 0x10k. -/
def BKD_EVI_TSDATE : Row := { page := 0x48, off := 0x164, stride := 0x10, count := 2, lo := 0, width := 27, acc := .ro, rst := 0, cls := .bk }
/-- BKD.EVIk.TSTIME, bits 21:0 at 0x168 + 0x10k. -/
def BKD_EVI_TSTIME : Row := { page := 0x48, off := 0x168, stride := 0x10, count := 2, lo := 0, width := 22, acc := .ro, rst := 0, cls := .bk }
/-- BKD.EVIk.TSSUB.SUBSEC, bits 14:0 at 0x16C + 0x10k. -/
def BKD_EVI_TSSUB_SUBSEC : Row := { page := 0x48, off := 0x16C, stride := 0x10, count := 2, lo := 0, width := 15, acc := .ro, rst := 0, cls := .bk }
/-- BKD.EVIk.TSSUB.COUNT, bits 31:16 at 0x16C + 0x10k. -/
def BKD_EVI_TSSUB_COUNT : Row := { page := 0x48, off := 0x16C, stride := 0x10, count := 2, lo := 16, width := 16, acc := .ro, rst := 0, cls := .bk }
/-- BKD.OPSEC, bits 31:0 at 0x180. -/
def BKD_OPSEC : Row := { page := 0x48, off := 0x180, stride := 0x00, count := 1, lo := 0, width := 32, acc := .rw, rst := 0, cls := .bk }
/-- BKD.PWRCYC.COUNT, bits 23:0 at 0x184. -/
def BKD_PWRCYC_COUNT : Row := { page := 0x48, off := 0x184, stride := 0x00, count := 1, lo := 0, width := 24, acc := .rw, rst := 0, cls := .bk }
/-- BKD.COUL, bits 31:0 at 0x188. -/
def BKD_COUL : Row := { page := 0x48, off := 0x188, stride := 0x00, count := 1, lo := 0, width := 32, acc := .ro, rst := 0, cls := .bk }
/-- BKD.CCTAKEN, bits 31:0 at 0x18C. -/
def BKD_CCTAKEN : Row := { page := 0x48, off := 0x18C, stride := 0x00, count := 1, lo := 0, width := 32, acc := .ro, rst := 0, cls := .bk }
/-- BKD.CELL.MV, bits 15:0 at 0x190. -/
def BKD_CELL_MV : Row := { page := 0x48, off := 0x190, stride := 0x00, count := 1, lo := 0, width := 16, acc := .ro, rst := 0, cls := .bk }
/-- BKD.CHGOVR, bits 15:0 at 0x194. -/
def BKD_CHGOVR : Row := { page := 0x48, off := 0x194, stride := 0x00, count := 1, lo := 0, width := 16, acc := .ro, rst := 0, cls := .bk }
/-- BKD.BKUPj, bits 31:0 at 0x200 + 4j (j = 0–63). -/
def BKD_BKUP : Row := { page := 0x48, off := 0x200, stride := 0x04, count := 64, lo := 0, width := 32, acc := .rw, rst := 0, cls := .bk }

/-! 14_cartridge.md, Table 14.9. -/

/-- CRT.STAT.STATE, bits 2:0 at 0x100. -/
def CRT_STAT_STATE : Row := { page := 0x50, off := 0x100, stride := 0x00, count := 1, lo := 0, width := 3, acc := .ro, rst := 0 }
/-- CRT.STAT.TYPE, bits 5:4 at 0x100. -/
def CRT_STAT_TYPE : Row := { page := 0x50, off := 0x100, stride := 0x00, count := 1, lo := 4, width := 2, acc := .ro, rst := 0 }
/-- CRT.STAT.WHY, bits 9:8 at 0x100. -/
def CRT_STAT_WHY : Row := { page := 0x50, off := 0x100, stride := 0x00, count := 1, lo := 8, width := 2, acc := .ro, rst := 0 }
/-- CRT.STAT.EOL, bits 10 at 0x100. -/
def CRT_STAT_EOL : Row := { page := 0x50, off := 0x100, stride := 0x00, count := 1, lo := 10, width := 1, acc := .ro, rst := 0 }
/-- CRT.STAT.CKPT, bits 11 at 0x100. -/
def CRT_STAT_CKPT : Row := { page := 0x50, off := 0x100, stride := 0x00, count := 1, lo := 11, width := 1, acc := .ro, rst := 0 }
/-- CRT.STAT.LATCH, bits 12 at 0x100. A level from outside, of which the spec gives no number (DESIGN CHOICE, log entry 5). -/
def CRT_STAT_LATCH : Row := { page := 0x50, off := 0x100, stride := 0x00, count := 1, lo := 12, width := 1, acc := .ro, rst := 0, cls := .pin }
/-- CRT.MODIDLO, bits 31:0 at 0x104. -/
def CRT_MODIDLO : Row := { page := 0x50, off := 0x104, stride := 0x00, count := 1, lo := 0, width := 32, acc := .ro, rst := 0, cls := .die }
/-- CRT.MODIDHI, bits 31:0 at 0x108. -/
def CRT_MODIDHI : Row := { page := 0x50, off := 0x108, stride := 0x00, count := 1, lo := 0, width := 32, acc := .ro, rst := 0, cls := .die }
/-- CRT.CMD.FORMAT, bits 0 at 0x10C. -/
def CRT_CMD_FORMAT : Row := { page := 0x50, off := 0x10C, stride := 0x00, count := 1, lo := 0, width := 1, acc := .ws, rst := 0 }
/-- CRT.CMD.ADOPT, bits 1 at 0x10C. -/
def CRT_CMD_ADOPT : Row := { page := 0x50, off := 0x10C, stride := 0x00, count := 1, lo := 1, width := 1, acc := .ws, rst := 0 }
/-- CRT.CMD.RELEASE, bits 2 at 0x10C. -/
def CRT_CMD_RELEASE : Row := { page := 0x50, off := 0x10C, stride := 0x00, count := 1, lo := 2, width := 1, acc := .ws, rst := 0 }
/-- CRT.CMD.CKPT, bits 3 at 0x10C. -/
def CRT_CMD_CKPT : Row := { page := 0x50, off := 0x10C, stride := 0x00, count := 1, lo := 3, width := 1, acc := .ws, rst := 0 }
/-- CRT.CMD.KEY, bits 31:16 at 0x10C. -/
def CRT_CMD_KEY : Row := { page := 0x50, off := 0x10C, stride := 0x00, count := 1, lo := 16, width := 16, acc := .wo, rst := 0 }
/-- CRT.JNL.CFG.BUDGET, bits 7:0 at 0x110. -/
def CRT_JNL_CFG_BUDGET : Row := { page := 0x50, off := 0x110, stride := 0x00, count := 1, lo := 0, width := 8, acc := .rwl, rst := 128 }
/-- CRT.JNL.CFG.CKPTINT, bits 29:16 at 0x110. -/
def CRT_JNL_CFG_CKPTINT : Row := { page := 0x50, off := 0x110, stride := 0x00, count := 1, lo := 16, width := 14, acc := .rwl, rst := 1000 }
/-- CRT.JNL.LASTPLY, bits 31:0 at 0x114. -/
def CRT_JNL_LASTPLY : Row := { page := 0x50, off := 0x114, stride := 0x00, count := 1, lo := 0, width := 32, acc := .ro, rst := 0 }
/-- CRT.JNL.BACKLOG, bits 21:0 at 0x118. -/
def CRT_JNL_BACKLOG : Row := { page := 0x50, off := 0x118, stride := 0x00, count := 1, lo := 0, width := 22, acc := .ro, rst := 0 }
/-- CRT.JNL.USE, bits 15:0 at 0x11C. -/
def CRT_JNL_USE : Row := { page := 0x50, off := 0x11C, stride := 0x00, count := 1, lo := 0, width := 16, acc := .ro, rst := 0 }
/-- CRT.JNL.BREAKS, bits 31:16 at 0x11C. -/
def CRT_JNL_BREAKS : Row := { page := 0x50, off := 0x11C, stride := 0x00, count := 1, lo := 16, width := 16, acc := .ro, rst := 0 }
/-- CRT.CKPT.BEGIN, bits 31:0 at 0x120. -/
def CRT_CKPT_BEGIN : Row := { page := 0x50, off := 0x120, stride := 0x00, count := 1, lo := 0, width := 32, acc := .ro, rst := 0 }
/-- CRT.CKPT.END, bits 31:0 at 0x124. -/
def CRT_CKPT_END : Row := { page := 0x50, off := 0x124, stride := 0x00, count := 1, lo := 0, width := 32, acc := .ro, rst := 0 }
/-- CRT.CKPT.SLOT, bits 0 at 0x124 + 4. -/
def CRT_CKPT_SLOT : Row := { page := 0x50, off := 0x128, stride := 0x00, count := 1, lo := 0, width := 1, acc := .ro, rst := 0 }
/-- CRT.LIFE.PCT, bits 6:0 at 0x12C. -/
def CRT_LIFE_PCT : Row := { page := 0x50, off := 0x12C, stride := 0x00, count := 1, lo := 0, width := 7, acc := .ro, rst := 0 }
/-- CRT.LIFE.WHICH, bits 10:8 at 0x12C. -/
def CRT_LIFE_WHICH : Row := { page := 0x50, off := 0x12C, stride := 0x00, count := 1, lo := 8, width := 3, acc := .ro, rst := 0 }
/-- CRT.LIFE.CELL, bits 31:0 at 0x130. -/
def CRT_LIFE_CELL : Row := { page := 0x50, off := 0x130, stride := 0x00, count := 1, lo := 0, width := 32, acc := .rw, rst := 0 }
/-- CRT.LIFE.ERASEMAX, bits 15:0 at 0x134. -/
def CRT_LIFE_ERASEMAX : Row := { page := 0x50, off := 0x134, stride := 0x00, count := 1, lo := 0, width := 16, acc := .rw, rst := 0 }
/-- CRT.LIFE.ERASEMEAN, bits 31:16 at 0x134. -/
def CRT_LIFE_ERASEMEAN : Row := { page := 0x50, off := 0x134, stride := 0x00, count := 1, lo := 16, width := 16, acc := .rw, rst := 0 }
/-- CRT.LIFE.SCAP, bits 15:0 at 0x138. -/
def CRT_LIFE_SCAP : Row := { page := 0x50, off := 0x138, stride := 0x00, count := 1, lo := 0, width := 16, acc := .ro, rst := 0 }
/-- CRT.LIFE.INSERT, bits 15:0 at 0x13C. -/
def CRT_LIFE_INSERT : Row := { page := 0x50, off := 0x13C, stride := 0x00, count := 1, lo := 0, width := 16, acc := .rw, rst := 0 }
/-- CRT.NAND.PAGE, bits 21:0 at 0x140. -/
def CRT_NAND_PAGE : Row := { page := 0x50, off := 0x140, stride := 0x00, count := 1, lo := 0, width := 22, acc := .rw, rst := 0 }
/-- CRT.NAND.DMALO, bits 31:6 at 0x144. -/
def CRT_NAND_DMALO : Row := { page := 0x50, off := 0x144, stride := 0x00, count := 1, lo := 6, width := 26, acc := .rw, rst := 0 }
/-- CRT.NAND.DMAHI, bits 3:0 at 0x148. -/
def CRT_NAND_DMAHI : Row := { page := 0x50, off := 0x148, stride := 0x00, count := 1, lo := 0, width := 4, acc := .rw, rst := 0 }
/-- CRT.NAND.CMD.OP, bits 1:0 at 0x14C. -/
def CRT_NAND_CMD_OP : Row := { page := 0x50, off := 0x14C, stride := 0x00, count := 1, lo := 0, width := 2, acc := .rw, rst := 0 }
/-- CRT.NAND.CMD.GO, bits 4 at 0x14C. -/
def CRT_NAND_CMD_GO : Row := { page := 0x50, off := 0x14C, stride := 0x00, count := 1, lo := 4, width := 1, acc := .ws, rst := 0 }
/-- CRT.NAND.STAT.FAIL, bits 0 at 0x150. -/
def CRT_NAND_STAT_FAIL : Row := { page := 0x50, off := 0x150, stride := 0x00, count := 1, lo := 0, width := 1, acc := .ro, rst := 0 }
/-- CRT.NAND.STAT.UNCORR, bits 1 at 0x150. -/
def CRT_NAND_STAT_UNCORR : Row := { page := 0x50, off := 0x150, stride := 0x00, count := 1, lo := 1, width := 1, acc := .ro, rst := 0 }
/-- CRT.NAND.STAT.MAXFLIP, bits 13:8 at 0x150. -/
def CRT_NAND_STAT_MAXFLIP : Row := { page := 0x50, off := 0x150, stride := 0x00, count := 1, lo := 8, width := 6, acc := .ro, rst := 0 }
/-- CRT.NAND.CORR, bits 31:0 at 0x154. -/
def CRT_NAND_CORR : Row := { page := 0x50, off := 0x154, stride := 0x00, count := 1, lo := 0, width := 32, acc := .ro, rst := 0 }
/-- CRT.IDj, bits 31:0 at 0x200 + 4j (j = 0–31). -/
def CRT_ID : Row := { page := 0x50, off := 0x200, stride := 0x04, count := 32, lo := 0, width := 32, acc := .ro, rst := 0 }

/-! 15_event_recorder.md, Table 15.7. -/

/-- ER.STAT.OP, bits 2:0 at 0x100. -/
def ER_STAT_OP : Row := { page := 0x51, off := 0x100, stride := 0x00, count := 1, lo := 0, width := 3, acc := .ro, rst := 0 }
/-- ER.STAT.FULL, bits 4 at 0x100. -/
def ER_STAT_FULL : Row := { page := 0x51, off := 0x100, stride := 0x00, count := 1, lo := 4, width := 1, acc := .ro, rst := 0 }
/-- ER.STAT.BUFMODE, bits 5 at 0x100. -/
def ER_STAT_BUFMODE : Row := { page := 0x51, off := 0x100, stride := 0x00, count := 1, lo := 5, width := 1, acc := .ro, rst := 0 }
/-- ER.STAT.HELD, bits 6 at 0x100. -/
def ER_STAT_HELD : Row := { page := 0x51, off := 0x100, stride := 0x00, count := 1, lo := 6, width := 1, acc := .ro, rst := 0 }
/-- ER.CFG.FLUSHSEV, bits 2:0 at 0x104. -/
def ER_CFG_FLUSHSEV : Row := { page := 0x51, off := 0x104, stride := 0x00, count := 1, lo := 0, width := 3, acc := .rwl, rst := 6 }
/-- ER.SEQNEXT, bits 31:0 at 0x108. -/
def ER_SEQNEXT : Row := { page := 0x51, off := 0x108, stride := 0x00, count := 1, lo := 0, width := 32, acc := .rw, rst := 0 }
/-- ER.UTLO, bits 31:6 at 0x10C. -/
def ER_UTLO : Row := { page := 0x51, off := 0x10C, stride := 0x00, count := 1, lo := 6, width := 26, acc := .rw, rst := 0 }
/-- ER.UTHI, bits 3:0 at 0x110. -/
def ER_UTHI : Row := { page := 0x51, off := 0x110, stride := 0x00, count := 1, lo := 0, width := 4, acc := .rw, rst := 0 }
/-- ER.UNITS, bits 16:0 at 0x114. -/
def ER_UNITS : Row := { page := 0x51, off := 0x114, stride := 0x00, count := 1, lo := 0, width := 17, acc := .rw, rst := 0 }
/-- ER.WCMD.N, bits 7:0 at 0x118. -/
def ER_WCMD_N : Row := { page := 0x51, off := 0x118, stride := 0x00, count := 1, lo := 0, width := 8, acc := .wo, rst := 0, banked := true }
/-- ER.WCMD.GO, bits 31 at 0x118. -/
def ER_WCMD_GO : Row := { page := 0x51, off := 0x118, stride := 0x00, count := 1, lo := 31, width := 1, acc := .ws, rst := 0, banked := true }
/-- ER.WRES.RESULT, bits 1:0 at 0x11C. -/
def ER_WRES_RESULT : Row := { page := 0x51, off := 0x11C, stride := 0x00, count := 1, lo := 0, width := 2, acc := .ro, rst := 0, banked := true }
/-- ER.WSEQ, bits 31:0 at 0x120. -/
def ER_WSEQ : Row := { page := 0x51, off := 0x120, stride := 0x00, count := 1, lo := 0, width := 32, acc := .ro, rst := 0, banked := true }
/-- ER.CURCMD.OP, bits 1:0 at 0x124. -/
def ER_CURCMD_OP : Row := { page := 0x51, off := 0x124, stride := 0x00, count := 1, lo := 0, width := 2, acc := .rw, rst := 0, banked := true }
/-- ER.CURCMD.GO, bits 4 at 0x124. -/
def ER_CURCMD_GO : Row := { page := 0x51, off := 0x124, stride := 0x00, count := 1, lo := 4, width := 1, acc := .ws, rst := 0, banked := true }
/-- ER.CURSOR, bits 31:0 at 0x128. -/
def ER_CURSOR : Row := { page := 0x51, off := 0x128, stride := 0x00, count := 1, lo := 0, width := 32, acc := .rw, rst := 0, banked := true }
/-- ER.NEXT, bits 0 at 0x12C. -/
def ER_NEXT : Row := { page := 0x51, off := 0x12C, stride := 0x00, count := 1, lo := 0, width := 1, acc := .ws, rst := 0, banked := true }
/-- ER.RSTAT.LEN, bits 7:0 at 0x130. -/
def ER_RSTAT_LEN : Row := { page := 0x51, off := 0x130, stride := 0x00, count := 1, lo := 0, width := 8, acc := .ro, rst := 0, banked := true }
/-- ER.RSTAT.VALID, bits 8 at 0x130. -/
def ER_RSTAT_VALID : Row := { page := 0x51, off := 0x130, stride := 0x00, count := 1, lo := 8, width := 1, acc := .ro, rst := 0, banked := true }
/-- ER.RSTAT.END, bits 9 at 0x130. -/
def ER_RSTAT_END : Row := { page := 0x51, off := 0x130, stride := 0x00, count := 1, lo := 9, width := 1, acc := .ro, rst := 0, banked := true }
/-- ER.RSTAT.INBUF, bits 10 at 0x130. -/
def ER_RSTAT_INBUF : Row := { page := 0x51, off := 0x130, stride := 0x00, count := 1, lo := 10, width := 1, acc := .ro, rst := 0, banked := true }
/-- ER.TORN, bits 15:0 at 0x134. -/
def ER_TORN : Row := { page := 0x51, off := 0x134, stride := 0x00, count := 1, lo := 0, width := 16, acc := .ro, rst := 0 }
/-- ER.CLRTOKEN, bits 31:0 at 0x138. -/
def ER_CLRTOKEN : Row := { page := 0x51, off := 0x138, stride := 0x00, count := 1, lo := 0, width := 32, acc := .rc, rst := 0 }
/-- ER.CLR, bits 31:0 at 0x13C. -/
def ER_CLR : Row := { page := 0x51, off := 0x13C, stride := 0x00, count := 1, lo := 0, width := 32, acc := .wo, rst := 0 }
/-- ER.CLRWHO.SESSION, bits 15:0 at 0x140. -/
def ER_CLRWHO_SESSION : Row := { page := 0x51, off := 0x140, stride := 0x00, count := 1, lo := 0, width := 16, acc := .rw, rst := 0 }
/-- ER.CLRWHO.ROLE, bits 18:16 at 0x140. -/
def ER_CLRWHO_ROLE : Row := { page := 0x51, off := 0x140, stride := 0x00, count := 1, lo := 16, width := 3, acc := .rw, rst := 0 }
/-- ER.STOP.LEVEL, bits 3:0 at 0x144. -/
def ER_STOP_LEVEL : Row := { page := 0x51, off := 0x144, stride := 0x00, count := 1, lo := 0, width := 4, acc := .ro, rst := 0 }
/-- ER.STOP.ACTIVE, bits 8 at 0x144. -/
def ER_STOP_ACTIVE : Row := { page := 0x51, off := 0x144, stride := 0x00, count := 1, lo := 8, width := 1, acc := .ro, rst := 0 }
/-- ER.DROPk.LOW, bits 15:0 at 0x148 + 4k (k = 0–3). -/
def ER_DROP_LOW : Row := { page := 0x51, off := 0x148, stride := 0x04, count := 4, lo := 0, width := 16, acc := .ro, rst := 0 }
/-- ER.DROPk.HIGH, bits 31:16 at 0x148 + 4k. -/
def ER_DROP_HIGH : Row := { page := 0x51, off := 0x148, stride := 0x04, count := 4, lo := 16, width := 16, acc := .ro, rst := 0 }
/-- ER.BUF.LEVEL, bits 12:0 at 0x158. -/
def ER_BUF_LEVEL : Row := { page := 0x51, off := 0x158, stride := 0x00, count := 1, lo := 0, width := 13, acc := .ro, rst := 0 }
/-- ER.COUNT.FLUSHES, bits 15:0 at 0x15C. -/
def ER_COUNT_FLUSHES : Row := { page := 0x51, off := 0x15C, stride := 0x00, count := 1, lo := 0, width := 16, acc := .ro, rst := 0 }
/-- ER.COUNT.RECLAIMS, bits 31:16 at 0x15C. -/
def ER_COUNT_RECLAIMS : Row := { page := 0x51, off := 0x15C, stride := 0x00, count := 1, lo := 16, width := 16, acc := .ro, rst := 0 }
/-- ER.WBUFj, bits 31:0 at 0x400 + 4j (j = 0–255). -/
def ER_WBUF : Row := { page := 0x51, off := 0x400, stride := 0x04, count := 256, lo := 0, width := 32, acc := .rw, rst := 0, banked := true }
/-- ER.WINDOWj, bits 31:0 at 0x800 + 4j (j = 0–255). -/
def ER_WINDOW : Row := { page := 0x51, off := 0x800, stride := 0x04, count := 256, lo := 0, width := 32, acc := .ro, rst := 0, banked := true }

/-! 16_local_io.md, Table 16.5. -/

/-- LIO.DISTAT, bits 31:0 at 0x100. -/
def LIO_DISTAT : Row := { page := 0x58, off := 0x100, stride := 0x00, count := 1, lo := 0, width := 32, acc := .ro, rst := 0 }
/-- LIO.DIRAW, bits 31:0 at 0x104. -/
def LIO_DIRAW : Row := { page := 0x58, off := 0x104, stride := 0x00, count := 1, lo := 0, width := 32, acc := .ro, rst := 0 }
/-- LIO.DICONT, bits 31:0 at 0x108. -/
def LIO_DICONT : Row := { page := 0x58, off := 0x108, stride := 0x00, count := 1, lo := 0, width := 32, acc := .rwl, rst := 0 }
/-- LIO.SPER, bits 31:0 at 0x10C. -/
def LIO_SPER : Row := { page := 0x58, off := 0x10C, stride := 0x00, count := 1, lo := 0, width := 32, acc := .rwl, rst := 336860180 }
/-- LIO.FILT, bits 15:0 at 0x110. -/
def LIO_FILT : Row := { page := 0x58, off := 0x110, stride := 0x00, count := 1, lo := 0, width := 16, acc := .rwl, rst := 8738 }
/-- LIO.EDGE0, bits 31:0 at 0x114. -/
def LIO_EDGE0 : Row := { page := 0x58, off := 0x114, stride := 0x00, count := 1, lo := 0, width := 32, acc := .rw, rst := 0 }
/-- LIO.EDGE1, bits 31:0 at 0x118. -/
def LIO_EDGE1 : Row := { page := 0x58, off := 0x118, stride := 0x00, count := 1, lo := 0, width := 32, acc := .rw, rst := 0 }
/-- LIO.COS, bits 31:0 at 0x11C. -/
def LIO_COS : Row := { page := 0x58, off := 0x11C, stride := 0x00, count := 1, lo := 0, width := 32, acc := .w1c, rst := 0 }
/-- LIO.DQSRC, bits 31:0 at 0x120. -/
def LIO_DQSRC : Row := { page := 0x58, off := 0x120, stride := 0x00, count := 1, lo := 0, width := 32, acc := .rwl, rst := 0 }
/-- LIO.DQHOLD, bits 31:0 at 0x124. -/
def LIO_DQHOLD : Row := { page := 0x58, off := 0x124, stride := 0x00, count := 1, lo := 0, width := 32, acc := .rwl, rst := 0 }
/-- LIO.DQCMD.DRV, bits 15:0 at 0x128. -/
def LIO_DQCMD_DRV : Row := { page := 0x58, off := 0x128, stride := 0x00, count := 1, lo := 0, width := 16, acc := .ro, rst := 0 }
/-- LIO.DQCMD.PROG, bits 31:16 at 0x128. -/
def LIO_DQCMD_PROG : Row := { page := 0x58, off := 0x128, stride := 0x00, count := 1, lo := 16, width := 16, acc := .ro, rst := 0 }
/-- LIO.DQRB, bits 15:0 at 0x12C. -/
def LIO_DQRB : Row := { page := 0x58, off := 0x12C, stride := 0x00, count := 1, lo := 0, width := 16, acc := .ro, rst := 0 }
/-- LIO.DQTMODE, bits 15:0 at 0x130. -/
def LIO_DQTMODE : Row := { page := 0x58, off := 0x130, stride := 0x00, count := 1, lo := 0, width := 16, acc := .rw, rst := 0 }
/-- LIO.DQTHERM.HOT, bits 15:0 at 0x134. -/
def LIO_DQTHERM_HOT : Row := { page := 0x58, off := 0x134, stride := 0x00, count := 1, lo := 0, width := 16, acc := .ro, rst := 0 }
/-- LIO.DQTHERM.LATCH, bits 31:16 at 0x134. -/
def LIO_DQTHERM_LATCH : Row := { page := 0x58, off := 0x134, stride := 0x00, count := 1, lo := 16, width := 16, acc := .ro, rst := 0 }
/-- LIO.DQCLR, bits 15:0 at 0x138. -/
def LIO_DQCLR : Row := { page := 0x58, off := 0x138, stride := 0x00, count := 1, lo := 0, width := 16, acc := .wo, rst := 0 }
/-- LIO.DQCLRPEND, bits 15:0 at 0x13C. -/
def LIO_DQCLRPEND : Row := { page := 0x58, off := 0x13C, stride := 0x00, count := 1, lo := 0, width := 16, acc := .ro, rst := 0 }
/-- LIO.DQOLEN.ON, bits 15:0 at 0x140. -/
def LIO_DQOLEN_ON : Row := { page := 0x58, off := 0x140, stride := 0x00, count := 1, lo := 0, width := 16, acc := .rwl, rst := 65535 }
/-- LIO.DQOLEN.OFF, bits 31:16 at 0x140. -/
def LIO_DQOLEN_OFF : Row := { page := 0x58, off := 0x140, stride := 0x00, count := 1, lo := 16, width := 16, acc := .rwl, rst := 0 }
/-- LIO.DQOL, bits 15:0 at 0x144. -/
def LIO_DQOL : Row := { page := 0x58, off := 0x144, stride := 0x00, count := 1, lo := 0, width := 16, acc := .w1c, rst := 0 }
/-- LIO.DQILIM, bits 15:0 at 0x148. -/
def LIO_DQILIM : Row := { page := 0x58, off := 0x148, stride := 0x00, count := 1, lo := 0, width := 16, acc := .w1c, rst := 0 }
/-- LIO.DQRBERR, bits 15:0 at 0x14C. -/
def LIO_DQRBERR : Row := { page := 0x58, off := 0x14C, stride := 0x00, count := 1, lo := 0, width := 16, acc := .w1c, rst := 0 }
/-- LIO.SUP.L1MISS, bits 0 at 0x150. -/
def LIO_SUP_L1MISS : Row := { page := 0x58, off := 0x150, stride := 0x00, count := 1, lo := 0, width := 1, acc := .ro, rst := 0 }
/-- LIO.SUP.L1LOW, bits 1 at 0x150. -/
def LIO_SUP_L1LOW : Row := { page := 0x58, off := 0x150, stride := 0x00, count := 1, lo := 1, width := 1, acc := .ro, rst := 0 }
/-- LIO.SUP.L2MISS, bits 2 at 0x150. -/
def LIO_SUP_L2MISS : Row := { page := 0x58, off := 0x150, stride := 0x00, count := 1, lo := 2, width := 1, acc := .ro, rst := 0 }
/-- LIO.SUP.L2LOW, bits 3 at 0x150. -/
def LIO_SUP_L2LOW : Row := { page := 0x58, off := 0x150, stride := 0x00, count := 1, lo := 3, width := 1, acc := .ro, rst := 0 }
/-- LIO.SUPMV.L1, bits 15:0 at 0x154. -/
def LIO_SUPMV_L1 : Row := { page := 0x58, off := 0x154, stride := 0x00, count := 1, lo := 0, width := 16, acc := .ro, rst := 0 }
/-- LIO.SUPMV.L2, bits 31:16 at 0x154. -/
def LIO_SUPMV_L2 : Row := { page := 0x58, off := 0x154, stride := 0x00, count := 1, lo := 16, width := 16, acc := .ro, rst := 0 }
/-- LIO.THCOUNT, bits 15:0 at 0x158. -/
def LIO_THCOUNT : Row := { page := 0x58, off := 0x158, stride := 0x00, count := 1, lo := 0, width := 16, acc := .ro, rst := 0 }

/-! 17_rack_bus.md, Table 17.3. -/

/-- RBn.CFG.FDEN, bits 0 at 0x100. -/
def RB_CFG_FDEN : Row := { page := 0x60, off := 0x100, stride := 0x00, count := 1, lo := 0, width := 1, acc := .rw, rst := 0 }
/-- RBn.CFG.MON, bits 1 at 0x100. -/
def RB_CFG_MON : Row := { page := 0x60, off := 0x100, stride := 0x00, count := 1, lo := 1, width := 1, acc := .rw, rst := 0 }
/-- RBn.CFG.LBK, bits 2 at 0x100. -/
def RB_CFG_LBK : Row := { page := 0x60, off := 0x100, stride := 0x00, count := 1, lo := 2, width := 1, acc := .rw, rst := 0 }
/-- RBn.NBT.BRPM1, bits 4:0 at 0x104. -/
def RB_NBT_BRPM1 : Row := { page := 0x60, off := 0x104, stride := 0x00, count := 1, lo := 0, width := 5, acc := .rw, rst := 0 }
/-- RBn.NBT.TSEG1M1, bits 15:8 at 0x104. -/
def RB_NBT_TSEG1M1 : Row := { page := 0x60, off := 0x104, stride := 0x00, count := 1, lo := 8, width := 8, acc := .rw, rst := 0 }
/-- RBn.NBT.TSEG2M1, bits 22:16 at 0x104. -/
def RB_NBT_TSEG2M1 : Row := { page := 0x60, off := 0x104, stride := 0x00, count := 1, lo := 16, width := 7, acc := .rw, rst := 0 }
/-- RBn.NBT.SJWM1, bits 30:24 at 0x104. -/
def RB_NBT_SJWM1 : Row := { page := 0x60, off := 0x104, stride := 0x00, count := 1, lo := 24, width := 7, acc := .rw, rst := 0 }
/-- RBn.DBT.DBRPM1, bits 4:0 at 0x108. -/
def RB_DBT_DBRPM1 : Row := { page := 0x60, off := 0x108, stride := 0x00, count := 1, lo := 0, width := 5, acc := .rw, rst := 0 }
/-- RBn.DBT.DTSEG1M1, bits 12:8 at 0x108. -/
def RB_DBT_DTSEG1M1 : Row := { page := 0x60, off := 0x108, stride := 0x00, count := 1, lo := 8, width := 5, acc := .rw, rst := 0 }
/-- RBn.DBT.DTSEG2M1, bits 19:16 at 0x108. -/
def RB_DBT_DTSEG2M1 : Row := { page := 0x60, off := 0x108, stride := 0x00, count := 1, lo := 16, width := 4, acc := .rw, rst := 0 }
/-- RBn.DBT.DSJWM1, bits 27:24 at 0x108. -/
def RB_DBT_DSJWM1 : Row := { page := 0x60, off := 0x108, stride := 0x00, count := 1, lo := 24, width := 4, acc := .rw, rst := 0 }
/-- RBn.TDC.TDCO, bits 6:0 at 0x10C. -/
def RB_TDC_TDCO : Row := { page := 0x60, off := 0x10C, stride := 0x00, count := 1, lo := 0, width := 7, acc := .rw, rst := 0 }
/-- RBn.TDC.TDCEN, bits 8 at 0x10C. -/
def RB_TDC_TDCEN : Row := { page := 0x60, off := 0x10C, stride := 0x00, count := 1, lo := 8, width := 1, acc := .rw, rst := 0 }
/-- RBn.TDC.TDCV, bits 22:16 at 0x10C. -/
def RB_TDC_TDCV : Row := { page := 0x60, off := 0x10C, stride := 0x00, count := 1, lo := 16, width := 7, acc := .ro, rst := 0 }
/-- RBn.ERR.TEC, bits 7:0 at 0x110. -/
def RB_ERR_TEC : Row := { page := 0x60, off := 0x110, stride := 0x00, count := 1, lo := 0, width := 8, acc := .ro, rst := 0 }
/-- RBn.ERR.REC, bits 15:8 at 0x110. -/
def RB_ERR_REC : Row := { page := 0x60, off := 0x110, stride := 0x00, count := 1, lo := 8, width := 8, acc := .ro, rst := 0 }
/-- RBn.ERR.STATE, bits 17:16 at 0x110. -/
def RB_ERR_STATE : Row := { page := 0x60, off := 0x110, stride := 0x00, count := 1, lo := 16, width := 2, acc := .ro, rst := 0 }
/-- RBn.ERR.WARN, bits 18 at 0x110. -/
def RB_ERR_WARN : Row := { page := 0x60, off := 0x110, stride := 0x00, count := 1, lo := 18, width := 1, acc := .ro, rst := 0 }
/-- RBn.LEC.NOM, bits 2:0 at 0x114. -/
def RB_LEC_NOM : Row := { page := 0x60, off := 0x114, stride := 0x00, count := 1, lo := 0, width := 3, acc := .rc, rst := 0 }
/-- RBn.LEC.DATA, bits 6:4 at 0x114. -/
def RB_LEC_DATA : Row := { page := 0x60, off := 0x114, stride := 0x00, count := 1, lo := 4, width := 3, acc := .rc, rst := 0 }
/-- RBn.CNT.BUSOFF, bits 15:0 at 0x118. -/
def RB_CNT_BUSOFF : Row := { page := 0x60, off := 0x118, stride := 0x00, count := 1, lo := 0, width := 16, acc := .ro, rst := 0 }
/-- RBn.CNT.NOMATCH, bits 31:16 at 0x118. -/
def RB_CNT_NOMATCH : Row := { page := 0x60, off := 0x118, stride := 0x00, count := 1, lo := 16, width := 16, acc := .ro, rst := 0 }
/-- RBn.RXOVF.COUNT, bits 15:0 at 0x11C. -/
def RB_RXOVF_COUNT : Row := { page := 0x60, off := 0x11C, stride := 0x00, count := 1, lo := 0, width := 16, acc := .ro, rst := 0 }
/-- RBn.POOL.USED, bits 9:0 at 0x120. -/
def RB_POOL_USED : Row := { page := 0x60, off := 0x120, stride := 0x00, count := 1, lo := 0, width := 10, acc := .ro, rst := 0 }
/-- RBn.OBJSEL.IDX, bits 6:0 at 0x130. -/
def RB_OBJSEL_IDX : Row := { page := 0x60, off := 0x130, stride := 0x00, count := 1, lo := 0, width := 7, acc := .rw, rst := 0, banked := true }
/-- RBn.OBJCFG.DIR, bits 1:0 at 0x134. -/
def RB_OBJCFG_DIR : Row := { page := 0x60, off := 0x134, stride := 0x00, count := 1, lo := 0, width := 2, acc := .rw, rst := 0, banked := true }
/-- RBn.OBJCFG.IDE, bits 2 at 0x134. -/
def RB_OBJCFG_IDE : Row := { page := 0x60, off := 0x134, stride := 0x00, count := 1, lo := 2, width := 1, acc := .rw, rst := 0, banked := true }
/-- RBn.OBJCFG.FDF, bits 3 at 0x134. -/
def RB_OBJCFG_FDF : Row := { page := 0x60, off := 0x134, stride := 0x00, count := 1, lo := 3, width := 1, acc := .rw, rst := 0, banked := true }
/-- RBn.OBJCFG.BRS, bits 4 at 0x134. -/
def RB_OBJCFG_BRS : Row := { page := 0x60, off := 0x134, stride := 0x00, count := 1, lo := 4, width := 1, acc := .rw, rst := 0, banked := true }
/-- RBn.OBJCFG.RTR, bits 5 at 0x134. -/
def RB_OBJCFG_RTR : Row := { page := 0x60, off := 0x134, stride := 0x00, count := 1, lo := 5, width := 1, acc := .rw, rst := 0, banked := true }
/-- RBn.OBJCFG.LEAD, bits 6 at 0x134. -/
def RB_OBJCFG_LEAD : Row := { page := 0x60, off := 0x134, stride := 0x00, count := 1, lo := 6, width := 1, acc := .rw, rst := 0, banked := true }
/-- RBn.OBJCFG.FTYPE, bits 9:8 at 0x134. -/
def RB_OBJCFG_FTYPE : Row := { page := 0x60, off := 0x134, stride := 0x00, count := 1, lo := 8, width := 2, acc := .rw, rst := 0, banked := true }
/-- RBn.OBJCFG.DLC, bits 15:12 at 0x134. -/
def RB_OBJCFG_DLC : Row := { page := 0x60, off := 0x134, stride := 0x00, count := 1, lo := 12, width := 4, acc := .rw, rst := 0, banked := true }
/-- RBn.OBJCFG.RETRY, bits 19:16 at 0x134. -/
def RB_OBJCFG_RETRY : Row := { page := 0x60, off := 0x134, stride := 0x00, count := 1, lo := 16, width := 4, acc := .rw, rst := 0, banked := true }
/-- RBn.OBJCFG.QDEPTH, bits 28:24 at 0x134. -/
def RB_OBJCFG_QDEPTH : Row := { page := 0x60, off := 0x134, stride := 0x00, count := 1, lo := 24, width := 5, acc := .rw, rst := 0, banked := true }
/-- RBn.OBJID, bits 28:0 at 0x138. -/
def RB_OBJID : Row := { page := 0x60, off := 0x138, stride := 0x00, count := 1, lo := 0, width := 29, acc := .rw, rst := 0, banked := true }
/-- RBn.OBJMASK, bits 28:0 at 0x13C. -/
def RB_OBJMASK : Row := { page := 0x60, off := 0x13C, stride := 0x00, count := 1, lo := 0, width := 29, acc := .rw, rst := 0, banked := true }
/-- RBn.OBJCMD.WRITE, bits 0 at 0x140. -/
def RB_OBJCMD_WRITE : Row := { page := 0x60, off := 0x140, stride := 0x00, count := 1, lo := 0, width := 1, acc := .ws, rst := 0 }
/-- RBn.OBJCMD.READ, bits 1 at 0x140. -/
def RB_OBJCMD_READ : Row := { page := 0x60, off := 0x140, stride := 0x00, count := 1, lo := 1, width := 1, acc := .ws, rst := 0 }
/-- RBn.OBJCMD.LOAD, bits 2 at 0x140. -/
def RB_OBJCMD_LOAD : Row := { page := 0x60, off := 0x140, stride := 0x00, count := 1, lo := 2, width := 1, acc := .ws, rst := 0 }
/-- RBn.OBJSTAT.QCOUNT, bits 4:0 at 0x144. -/
def RB_OBJSTAT_QCOUNT : Row := { page := 0x60, off := 0x144, stride := 0x00, count := 1, lo := 0, width := 5, acc := .ro, rst := 0, banked := true }
/-- RBn.OBJSTAT.TXSTATE, bits 10:8 at 0x144. -/
def RB_OBJSTAT_TXSTATE : Row := { page := 0x60, off := 0x144, stride := 0x00, count := 1, lo := 8, width := 3, acc := .ro, rst := 0, banked := true }
/-- RBn.OBJSTAT.ATTEMPTS, bits 15:12 at 0x144. -/
def RB_OBJSTAT_ATTEMPTS : Row := { page := 0x60, off := 0x144, stride := 0x00, count := 1, lo := 12, width := 4, acc := .ro, rst := 0, banked := true }
/-- RBn.OBJSTAT.QOVF, bits 31:16 at 0x144. -/
def RB_OBJSTAT_QOVF : Row := { page := 0x60, off := 0x144, stride := 0x00, count := 1, lo := 16, width := 16, acc := .ro, rst := 0, banked := true }
/-- RBn.TXBUFj, bits 31:0 at 0x150 + 4j (j = 0–15). -/
def RB_TXBUF : Row := { page := 0x60, off := 0x150, stride := 0x04, count := 16, lo := 0, width := 32, acc := .rw, rst := 0, banked := true }
/-- RBn.TXREQk, bits 31:0 at 0x190 + 4k. -/
def RB_TXREQ : Row := { page := 0x60, off := 0x190, stride := 0x04, count := 3, lo := 0, width := 32, acc := .wo, rst := 0 }
/-- RBn.TXPENDk, bits 31:0 at 0x19C + 4k. -/
def RB_TXPEND : Row := { page := 0x60, off := 0x19C, stride := 0x04, count := 3, lo := 0, width := 32, acc := .ro, rst := 0 }
/-- RBn.TXCANk, bits 31:0 at 0x1A8 + 4k. -/
def RB_TXCAN : Row := { page := 0x60, off := 0x1A8, stride := 0x04, count := 3, lo := 0, width := 32, acc := .wo, rst := 0 }
/-- RBn.TXDONEk, bits 31:0 at 0x1B4 + 4k. -/
def RB_TXDONE : Row := { page := 0x60, off := 0x1B4, stride := 0x04, count := 3, lo := 0, width := 32, acc := .w1c, rst := 0 }
/-- RBn.TXFAILk, bits 31:0 at 0x1C0 + 4k. -/
def RB_TXFAIL : Row := { page := 0x60, off := 0x1C0, stride := 0x04, count := 3, lo := 0, width := 32, acc := .w1c, rst := 0 }
/-- RBn.RXNEWk, bits 31:0 at 0x1CC + 4k. -/
def RB_RXNEW : Row := { page := 0x60, off := 0x1CC, stride := 0x04, count := 3, lo := 0, width := 32, acc := .w1c, rst := 0 }
/-- RBn.RXOVFLk, bits 31:0 at 0x1D8 + 4k. -/
def RB_RXOVFL : Row := { page := 0x60, off := 0x1D8, stride := 0x04, count := 3, lo := 0, width := 32, acc := .w1c, rst := 0 }
/-- RBn.RXSEL.OBJ, bits 6:0 at 0x1E4. -/
def RB_RXSEL_OBJ : Row := { page := 0x60, off := 0x1E4, stride := 0x00, count := 1, lo := 0, width := 7, acc := .rw, rst := 0, banked := true }
/-- RBn.RXSEL.POS, bits 11:8 at 0x1E4. -/
def RB_RXSEL_POS : Row := { page := 0x60, off := 0x1E4, stride := 0x00, count := 1, lo := 8, width := 4, acc := .rw, rst := 0, banked := true }
/-- RBn.RXACK.OBJ, bits 6:0 at 0x1E8. -/
def RB_RXACK_OBJ : Row := { page := 0x60, off := 0x1E8, stride := 0x00, count := 1, lo := 0, width := 7, acc := .wo, rst := 0 }
/-- RBn.RXACK.N, bits 12:8 at 0x1E8. -/
def RB_RXACK_N : Row := { page := 0x60, off := 0x1E8, stride := 0x00, count := 1, lo := 8, width := 5, acc := .wo, rst := 0 }
/-- RBn.RXHDR.ID, bits 28:0 at 0x1EC. -/
def RB_RXHDR_ID : Row := { page := 0x60, off := 0x1EC, stride := 0x00, count := 1, lo := 0, width := 29, acc := .ro, rst := 0, banked := true }
/-- RBn.RXHDR.IDE, bits 29 at 0x1EC. -/
def RB_RXHDR_IDE : Row := { page := 0x60, off := 0x1EC, stride := 0x00, count := 1, lo := 29, width := 1, acc := .ro, rst := 0, banked := true }
/-- RBn.RXHDR.RTR, bits 30 at 0x1EC. -/
def RB_RXHDR_RTR : Row := { page := 0x60, off := 0x1EC, stride := 0x00, count := 1, lo := 30, width := 1, acc := .ro, rst := 0, banked := true }
/-- RBn.RXHDR.FDF, bits 31 at 0x1EC. -/
def RB_RXHDR_FDF : Row := { page := 0x60, off := 0x1EC, stride := 0x00, count := 1, lo := 31, width := 1, acc := .ro, rst := 0, banked := true }
/-- RBn.RXFLG.DLC, bits 3:0 at 0x1F0. -/
def RB_RXFLG_DLC : Row := { page := 0x60, off := 0x1F0, stride := 0x00, count := 1, lo := 0, width := 4, acc := .ro, rst := 0, banked := true }
/-- RBn.RXFLG.BRS, bits 4 at 0x1F0. -/
def RB_RXFLG_BRS : Row := { page := 0x60, off := 0x1F0, stride := 0x00, count := 1, lo := 4, width := 1, acc := .ro, rst := 0, banked := true }
/-- RBn.RXFLG.ESI, bits 5 at 0x1F0. -/
def RB_RXFLG_ESI : Row := { page := 0x60, off := 0x1F0, stride := 0x00, count := 1, lo := 5, width := 1, acc := .ro, rst := 0, banked := true }
/-- RBn.RXFLG.LEN, bits 14:8 at 0x1F0. -/
def RB_RXFLG_LEN : Row := { page := 0x60, off := 0x1F0, stride := 0x00, count := 1, lo := 8, width := 7, acc := .ro, rst := 0, banked := true }
/-- RBn.RXFLG.VALID, bits 31 at 0x1F0. -/
def RB_RXFLG_VALID : Row := { page := 0x60, off := 0x1F0, stride := 0x00, count := 1, lo := 31, width := 1, acc := .ro, rst := 0, banked := true }
/-- RBn.RXMTLO, bits 31:0 at 0x1F4. -/
def RB_RXMTLO : Row := { page := 0x60, off := 0x1F4, stride := 0x00, count := 1, lo := 0, width := 32, acc := .ro, rst := 0, banked := true }
/-- RBn.RXMTHI, bits 31:0 at 0x1F8. -/
def RB_RXMTHI : Row := { page := 0x60, off := 0x1F8, stride := 0x00, count := 1, lo := 0, width := 32, acc := .ro, rst := 0, banked := true }
/-- RBn.RXDATAj, bits 31:0 at 0x200 + 4j (j = 0–15). -/
def RB_RXDATA : Row := { page := 0x60, off := 0x200, stride := 0x04, count := 16, lo := 0, width := 32, acc := .ro, rst := 0, banked := true }

/-! 18_access_gates.md, Table 18.9. -/

/-- GATE.SEL.GATE, bits 3:0 at 0x100. -/
def GATE_SEL_GATE : Row := { page := 0x06, off := 0x100, stride := 0x00, count := 1, lo := 0, width := 4, acc := .rw, rst := 0, banked := true }
/-- GATE.SEL.ENTRY, bits 11:8 at 0x100. -/
def GATE_SEL_ENTRY : Row := { page := 0x06, off := 0x100, stride := 0x00, count := 1, lo := 8, width := 4, acc := .rw, rst := 0, banked := true }
/-- GATE.BASELO, bits 31:6 at 0x104. -/
def GATE_BASELO : Row := { page := 0x06, off := 0x104, stride := 0x00, count := 1, lo := 6, width := 26, acc := .rw, rst := 0, banked := true }
/-- GATE.BASEHI, bits 3:0 at 0x108. -/
def GATE_BASEHI : Row := { page := 0x06, off := 0x108, stride := 0x00, count := 1, lo := 0, width := 4, acc := .rw, rst := 0, banked := true }
/-- GATE.LIMLO, bits 31:6 at 0x10C. -/
def GATE_LIMLO : Row := { page := 0x06, off := 0x10C, stride := 0x00, count := 1, lo := 6, width := 26, acc := .rw, rst := 0, banked := true }
/-- GATE.LIMHI, bits 3:0 at 0x110. -/
def GATE_LIMHI : Row := { page := 0x06, off := 0x110, stride := 0x00, count := 1, lo := 0, width := 4, acc := .rw, rst := 0, banked := true }
/-- GATE.MASKLO, bits 31:0 at 0x114. -/
def GATE_MASKLO : Row := { page := 0x06, off := 0x114, stride := 0x00, count := 1, lo := 0, width := 32, acc := .rw, rst := 0, banked := true }
/-- GATE.MASKHI, bits 31:0 at 0x118. -/
def GATE_MASKHI : Row := { page := 0x06, off := 0x118, stride := 0x00, count := 1, lo := 0, width := 32, acc := .rw, rst := 0, banked := true }
/-- GATE.ATTR.P, bits 2:0 at 0x11C. -/
def GATE_ATTR_P : Row := { page := 0x06, off := 0x11C, stride := 0x00, count := 1, lo := 0, width := 3, acc := .rw, rst := 0, banked := true }
/-- GATE.ATTR.U, bits 6:4 at 0x11C. -/
def GATE_ATTR_U : Row := { page := 0x06, off := 0x11C, stride := 0x00, count := 1, lo := 4, width := 3, acc := .rw, rst := 0, banked := true }
/-- GATE.ATTR.MEMTYPE, bits 10:8 at 0x11C. -/
def GATE_ATTR_MEMTYPE : Row := { page := 0x06, off := 0x11C, stride := 0x00, count := 1, lo := 8, width := 3, acc := .rw, rst := 0, banked := true }
/-- GATE.ATTR.SHARE, bits 12 at 0x11C. -/
def GATE_ATTR_SHARE : Row := { page := 0x06, off := 0x11C, stride := 0x00, count := 1, lo := 12, width := 1, acc := .rw, rst := 0, banked := true }
/-- GATE.ATTR.DBG, bits 13 at 0x11C. -/
def GATE_ATTR_DBG : Row := { page := 0x06, off := 0x11C, stride := 0x00, count := 1, lo := 13, width := 1, acc := .rw, rst := 0, banked := true }
/-- GATE.ATTR.LOCK, bits 14 at 0x11C. -/
def GATE_ATTR_LOCK : Row := { page := 0x06, off := 0x11C, stride := 0x00, count := 1, lo := 14, width := 1, acc := .rw, rst := 0, banked := true }
/-- GATE.ATTR.VALID, bits 31 at 0x11C. -/
def GATE_ATTR_VALID : Row := { page := 0x06, off := 0x11C, stride := 0x00, count := 1, lo := 31, width := 1, acc := .rw, rst := 0, banked := true }
/-- GATE.CMD.WRITE, bits 0 at 0x120. -/
def GATE_CMD_WRITE : Row := { page := 0x06, off := 0x120, stride := 0x00, count := 1, lo := 0, width := 1, acc := .ws, rst := 0 }
/-- GATE.CMD.READ, bits 1 at 0x120. -/
def GATE_CMD_READ : Row := { page := 0x06, off := 0x120, stride := 0x00, count := 1, lo := 1, width := 1, acc := .ws, rst := 0 }
/-- GATE.LOCKED, bits 12:0 at 0x124. -/
def GATE_LOCKED : Row := { page := 0x06, off := 0x124, stride := 0x00, count := 1, lo := 0, width := 13, acc := .ro, rst := 0 }
/-- GATE.FLTg.ADDRLO, bits 31:0 at 0x200 + 0x10g. -/
def GATE_FLT_ADDRLO : Row := { page := 0x06, off := 0x200, stride := 0x10, count := 13, lo := 0, width := 32, acc := .ro, rst := 0 }
/-- GATE.FLTg.ADDRHI, bits 3:0 at 0x204 + 0x10g. -/
def GATE_FLT_ADDRHI : Row := { page := 0x06, off := 0x204, stride := 0x10, count := 13, lo := 0, width := 4, acc := .ro, rst := 0 }
/-- GATE.FLTg.INFO.MASTER, bits 5:0 at 0x208 + 0x10g. -/
def GATE_FLT_INFO_MASTER : Row := { page := 0x06, off := 0x208, stride := 0x10, count := 13, lo := 0, width := 6, acc := .ro, rst := 0 }
/-- GATE.FLTg.INFO.PRIV, bits 6 at 0x208 + 0x10g. -/
def GATE_FLT_INFO_PRIV : Row := { page := 0x06, off := 0x208, stride := 0x10, count := 13, lo := 6, width := 1, acc := .ro, rst := 0 }
/-- GATE.FLTg.INFO.TYPE, bits 9:8 at 0x208 + 0x10g. -/
def GATE_FLT_INFO_TYPE : Row := { page := 0x06, off := 0x208, stride := 0x10, count := 13, lo := 8, width := 2, acc := .ro, rst := 0 }
/-- GATE.FLTg.INFO.CAUSE, bits 14:12 at 0x208 + 0x10g. -/
def GATE_FLT_INFO_CAUSE : Row := { page := 0x06, off := 0x208, stride := 0x10, count := 13, lo := 12, width := 3, acc := .ro, rst := 0 }
/-- GATE.FLTg.INFO.STRADDLE, bits 15 at 0x208 + 0x10g. -/
def GATE_FLT_INFO_STRADDLE : Row := { page := 0x06, off := 0x208, stride := 0x10, count := 13, lo := 15, width := 1, acc := .ro, rst := 0 }
/-- GATE.FLTg.INFO.ENTRY, bits 19:16 at 0x208 + 0x10g. -/
def GATE_FLT_INFO_ENTRY : Row := { page := 0x06, off := 0x208, stride := 0x10, count := 13, lo := 16, width := 4, acc := .ro, rst := 0 }
/-- GATE.FLTg.INFO.NOENT, bits 20 at 0x208 + 0x10g. -/
def GATE_FLT_INFO_NOENT : Row := { page := 0x06, off := 0x208, stride := 0x10, count := 13, lo := 20, width := 1, acc := .ro, rst := 0 }
/-- GATE.FLTg.INFO.MORE, bits 30 at 0x208 + 0x10g. -/
def GATE_FLT_INFO_MORE : Row := { page := 0x06, off := 0x208, stride := 0x10, count := 13, lo := 30, width := 1, acc := .ro, rst := 0 }
/-- GATE.FLTg.INFO.VALID, bits 31 at 0x208 + 0x10g. -/
def GATE_FLT_INFO_VALID : Row := { page := 0x06, off := 0x208, stride := 0x10, count := 13, lo := 31, width := 1, acc := .w1c, rst := 0 }
/-- GATE.FLTg.COUNT, bits 15:0 at 0x20C + 0x10g. -/
def GATE_FLT_COUNT : Row := { page := 0x06, off := 0x20C, stride := 0x10, count := 13, lo := 0, width := 16, acc := .ro, rst := 0 }
/-- GATE.DEC.ADDRLO, bits 31:0 at 0x2D0. -/
def GATE_DEC_ADDRLO : Row := { page := 0x06, off := 0x2D0, stride := 0x00, count := 1, lo := 0, width := 32, acc := .ro, rst := 0 }
/-- GATE.DEC.ADDRHI, bits 3:0 at 0x2D4. -/
def GATE_DEC_ADDRHI : Row := { page := 0x06, off := 0x2D4, stride := 0x00, count := 1, lo := 0, width := 4, acc := .ro, rst := 0 }
/-- GATE.DEC.INFO.MASTER, bits 5:0 at 0x2D8. -/
def GATE_DEC_INFO_MASTER : Row := { page := 0x06, off := 0x2D8, stride := 0x00, count := 1, lo := 0, width := 6, acc := .ro, rst := 0 }
/-- GATE.DEC.INFO.TYPE, bits 9:8 at 0x2D8. -/
def GATE_DEC_INFO_TYPE : Row := { page := 0x06, off := 0x2D8, stride := 0x00, count := 1, lo := 8, width := 2, acc := .ro, rst := 0 }
/-- GATE.DEC.INFO.MORE, bits 30 at 0x2D8. -/
def GATE_DEC_INFO_MORE : Row := { page := 0x06, off := 0x2D8, stride := 0x00, count := 1, lo := 30, width := 1, acc := .ro, rst := 0 }
/-- GATE.DEC.INFO.VALID, bits 31 at 0x2D8. -/
def GATE_DEC_INFO_VALID : Row := { page := 0x06, off := 0x2D8, stride := 0x00, count := 1, lo := 31, width := 1, acc := .w1c, rst := 0 }
/-- GATE.DEC.COUNT, bits 15:0 at 0x2DC. -/
def GATE_DEC_COUNT : Row := { page := 0x06, off := 0x2DC, stride := 0x00, count := 1, lo := 0, width := 16, acc := .ro, rst := 0 }

/-! 18_access_gates.md, Table 18.10. -/

/-- DBG.STAT.UNLOCKED, bits 0 at 0x100. -/
def DBG_STAT_UNLOCKED : Row := { page := 0x70, off := 0x100, stride := 0x00, count := 1, lo := 0, width := 1, acc := .ro, rst := 0 }
/-- DBG.STAT.FAILS, bits 3:2 at 0x100. -/
def DBG_STAT_FAILS : Row := { page := 0x70, off := 0x100, stride := 0x00, count := 1, lo := 2, width := 2, acc := .ro, rst := 0 }
/-- DBG.STAT.HALTED, bits 5:4 at 0x100. -/
def DBG_STAT_HALTED : Row := { page := 0x70, off := 0x100, stride := 0x00, count := 1, lo := 4, width := 2, acc := .ro, rst := 0 }
/-- DBG.CMD.NEWCHAL, bits 0 at 0x104. -/
def DBG_CMD_NEWCHAL : Row := { page := 0x70, off := 0x104, stride := 0x00, count := 1, lo := 0, width := 1, acc := .ws, rst := 0 }
/-- DBG.CMD.UNLOCK, bits 1 at 0x104. -/
def DBG_CMD_UNLOCK : Row := { page := 0x70, off := 0x104, stride := 0x00, count := 1, lo := 1, width := 1, acc := .ws, rst := 0 }
/-- DBG.CMD.RELOCK, bits 2 at 0x104. -/
def DBG_CMD_RELOCK : Row := { page := 0x70, off := 0x104, stride := 0x00, count := 1, lo := 2, width := 1, acc := .ws, rst := 0 }
/-- DBG.CMD.RESET, bits 3 at 0x104. -/
def DBG_CMD_RESET : Row := { page := 0x70, off := 0x104, stride := 0x00, count := 1, lo := 3, width := 1, acc := .ws, rst := 0 }
/-- DBG.CMD.HALT, bits 9:8 at 0x104. -/
def DBG_CMD_HALT : Row := { page := 0x70, off := 0x104, stride := 0x00, count := 1, lo := 8, width := 2, acc := .wo, rst := 0 }
/-- DBG.CMD.RESUME, bits 11:10 at 0x104. -/
def DBG_CMD_RESUME : Row := { page := 0x70, off := 0x104, stride := 0x00, count := 1, lo := 10, width := 2, acc := .wo, rst := 0 }
/-- DBG.ERR.STICKY, bits 0 at 0x108. -/
def DBG_ERR_STICKY : Row := { page := 0x70, off := 0x108, stride := 0x00, count := 1, lo := 0, width := 1, acc := .w1c, rst := 0 }
/-- DBG.ERRADDRLO, bits 31:0 at 0x10C. -/
def DBG_ERRADDRLO : Row := { page := 0x70, off := 0x10C, stride := 0x00, count := 1, lo := 0, width := 32, acc := .ro, rst := 0 }
/-- DBG.ERRADDRHI, bits 3:0 at 0x110. -/
def DBG_ERRADDRHI : Row := { page := 0x70, off := 0x110, stride := 0x00, count := 1, lo := 0, width := 4, acc := .ro, rst := 0 }
/-- DBG.ERRCOUNT, bits 15:0 at 0x114. -/
def DBG_ERRCOUNT : Row := { page := 0x70, off := 0x114, stride := 0x00, count := 1, lo := 0, width := 16, acc := .ro, rst := 0 }
/-- DBG.CHALj, bits 31:0 at 0x120 + 4j (j = 0–7). -/
def DBG_CHAL : Row := { page := 0x70, off := 0x120, stride := 0x04, count := 8, lo := 0, width := 32, acc := .ro, rst := 0 }
/-- DBG.RESPj, bits 31:0 at 0x140 + 4j (j = 0–7). -/
def DBG_RESP : Row := { page := 0x70, off := 0x140, stride := 0x04, count := 8, lo := 0, width := 32, acc := .wo, rst := 0 }

/-! 19_command_protocol.md, Table 19.9. -/

/-- EMACx.LINK.UP, bits 0 at 0x140. -/
def EMAC_LINK_UP : Row := { page := 0x41, off := 0x140, stride := 0x00, count := 1, lo := 0, width := 1, acc := .ro, rst := 0 }
/-- EMACx.LINK.SPEED, bits 2:1 at 0x140. -/
def EMAC_LINK_SPEED : Row := { page := 0x41, off := 0x140, stride := 0x00, count := 1, lo := 1, width := 2, acc := .ro, rst := 0 }
/-- EMACx.LINK.FDX, bits 3 at 0x140. -/
def EMAC_LINK_FDX : Row := { page := 0x41, off := 0x140, stride := 0x00, count := 1, lo := 3, width := 1, acc := .ro, rst := 0 }
/-- EMACx.MACCFG.TXEN, bits 0 at 0x144. -/
def EMAC_MACCFG_TXEN : Row := { page := 0x41, off := 0x144, stride := 0x00, count := 1, lo := 0, width := 1, acc := .rw, rst := 0 }
/-- EMACx.MACCFG.RXEN, bits 1 at 0x144. -/
def EMAC_MACCFG_RXEN : Row := { page := 0x41, off := 0x144, stride := 0x00, count := 1, lo := 1, width := 1, acc := .rw, rst := 0 }
/-- EMACx.MACCFG.ALLMC, bits 2 at 0x144. -/
def EMAC_MACCFG_ALLMC : Row := { page := 0x41, off := 0x144, stride := 0x00, count := 1, lo := 2, width := 1, acc := .rw, rst := 0 }
/-- EMACx.MACCFG.PROMISC, bits 3 at 0x144. -/
def EMAC_MACCFG_PROMISC : Row := { page := 0x41, off := 0x144, stride := 0x00, count := 1, lo := 3, width := 1, acc := .rw, rst := 0 }
/-- EMACx.ADDRLO, bits 31:0 at 0x148. -/
def EMAC_ADDRLO : Row := { page := 0x41, off := 0x148, stride := 0x00, count := 1, lo := 0, width := 32, acc := .rwl, rst := 0 }
/-- EMACx.ADDRHI, bits 15:0 at 0x14C. -/
def EMAC_ADDRHI : Row := { page := 0x41, off := 0x14C, stride := 0x00, count := 1, lo := 0, width := 16, acc := .rwl, rst := 0 }
/-- EMACx.MCHASH0, bits 31:0 at 0x150. -/
def EMAC_MCHASH0 : Row := { page := 0x41, off := 0x150, stride := 0x00, count := 1, lo := 0, width := 32, acc := .rw, rst := 0 }
/-- EMACx.MCHASH1, bits 31:0 at 0x154. -/
def EMAC_MCHASH1 : Row := { page := 0x41, off := 0x154, stride := 0x00, count := 1, lo := 0, width := 32, acc := .rw, rst := 0 }
/-- EMACx.RXBASELO, bits 31:6 at 0x158. -/
def EMAC_RXBASELO : Row := { page := 0x41, off := 0x158, stride := 0x00, count := 1, lo := 6, width := 26, acc := .rw, rst := 0 }
/-- EMACx.RXBASEHI, bits 3:0 at 0x15C. -/
def EMAC_RXBASEHI : Row := { page := 0x41, off := 0x15C, stride := 0x00, count := 1, lo := 0, width := 4, acc := .rw, rst := 0 }
/-- EMACx.RXSIZE, bits 11:0 at 0x160. -/
def EMAC_RXSIZE : Row := { page := 0x41, off := 0x160, stride := 0x00, count := 1, lo := 0, width := 12, acc := .rw, rst := 0 }
/-- EMACx.RXHEAD, bits 11:0 at 0x164. -/
def EMAC_RXHEAD : Row := { page := 0x41, off := 0x164, stride := 0x00, count := 1, lo := 0, width := 12, acc := .ro, rst := 0 }
/-- EMACx.TXBASELO, bits 31:6 at 0x168. -/
def EMAC_TXBASELO : Row := { page := 0x41, off := 0x168, stride := 0x00, count := 1, lo := 6, width := 26, acc := .rw, rst := 0 }
/-- EMACx.TXBASEHI, bits 3:0 at 0x16C. -/
def EMAC_TXBASEHI : Row := { page := 0x41, off := 0x16C, stride := 0x00, count := 1, lo := 0, width := 4, acc := .rw, rst := 0 }
/-- EMACx.TXSIZE, bits 11:0 at 0x170. -/
def EMAC_TXSIZE : Row := { page := 0x41, off := 0x170, stride := 0x00, count := 1, lo := 0, width := 12, acc := .rw, rst := 0 }
/-- EMACx.TXHEAD, bits 11:0 at 0x174. -/
def EMAC_TXHEAD : Row := { page := 0x41, off := 0x174, stride := 0x00, count := 1, lo := 0, width := 12, acc := .ro, rst := 0 }
/-- EMACx.TXKICK, bits 0 at 0x178. -/
def EMAC_TXKICK : Row := { page := 0x41, off := 0x178, stride := 0x00, count := 1, lo := 0, width := 1, acc := .ws, rst := 0 }
/-- EMACx.CNT.RXDROP, bits 15:0 at 0x17C. -/
def EMAC_CNT_RXDROP : Row := { page := 0x41, off := 0x17C, stride := 0x00, count := 1, lo := 0, width := 16, acc := .rc, rst := 0 }
/-- EMACx.CNT.RXERR, bits 31:16 at 0x17C. -/
def EMAC_CNT_RXERR : Row := { page := 0x41, off := 0x17C, stride := 0x00, count := 1, lo := 16, width := 16, acc := .rc, rst := 0 }
/-- EMACx.CNT.NCP, bits 31:0 at 0x180. -/
def EMAC_CNT_NCP : Row := { page := 0x41, off := 0x180, stride := 0x00, count := 1, lo := 0, width := 32, acc := .ro, rst := 0 }

/-! 20_image_book.md, Table 20.8. -/

/-- UPD.STAT.BUSY, bits 0 at 0x100. -/
def UPD_STAT_BUSY : Row := { page := 0x68, off := 0x100, stride := 0x00, count := 1, lo := 0, width := 1, acc := .ro, rst := 0 }
/-- UPD.STAT.TYPE, bits 15:8 at 0x100. -/
def UPD_STAT_TYPE : Row := { page := 0x68, off := 0x100, stride := 0x00, count := 1, lo := 8, width := 8, acc := .ro, rst := 0 }
/-- UPD.SLOTk.A, bits 2:0 at 0x104 + 4(k − 1) (k = 1–5). -/
def UPD_SLOT_A : Row := { page := 0x68, off := 0x104, stride := 0x04, count := 5, lo := 0, width := 3, acc := .ro, rst := 0 }
/-- UPD.SLOTk.B, bits 6:4 at 0x104 + 4(k − 1). -/
def UPD_SLOT_B : Row := { page := 0x68, off := 0x104, stride := 0x04, count := 5, lo := 4, width := 3, acc := .ro, rst := 0 }
/-- UPD.SLOTk.ACT, bits 9:8 at 0x104 + 4(k − 1). -/
def UPD_SLOT_ACT : Row := { page := 0x68, off := 0x104, stride := 0x04, count := 5, lo := 8, width := 2, acc := .ro, rst := 0 }
/-- UPD.SLOTk.ATT, bits 13:12 at 0x104 + 4(k − 1). -/
def UPD_SLOT_ATT : Row := { page := 0x68, off := 0x104, stride := 0x04, count := 5, lo := 12, width := 2, acc := .ro, rst := 0 }
/-- UPD.VERk.A, bits 31:0 at 0x120 + 8(k − 1). -/
def UPD_VER_A : Row := { page := 0x68, off := 0x120, stride := 0x08, count := 5, lo := 0, width := 32, acc := .ro, rst := 0 }
/-- UPD.VERk.B, bits 31:0 at 0x124 + 8(k − 1). -/
def UPD_VER_B : Row := { page := 0x68, off := 0x124, stride := 0x08, count := 5, lo := 0, width := 32, acc := .ro, rst := 0 }
/-- UPD.WINk.VMIN, bits 31:0 at 0x150 + 4(k − 1). -/
def UPD_WIN_VMIN : Row := { page := 0x68, off := 0x150, stride := 0x04, count := 5, lo := 0, width := 32, acc := .rwl, rst := 0 }
/-- UPD.WINk.MAJMAX, bits 7:0 at 0x170 + 4(k − 1). -/
def UPD_WIN_MAJMAX : Row := { page := 0x68, off := 0x170, stride := 0x04, count := 5, lo := 0, width := 8, acc := .rwl, rst := 255 }
/-- UPD.BLKADDRLO, bits 31:6 at 0x190. -/
def UPD_BLKADDRLO : Row := { page := 0x68, off := 0x190, stride := 0x00, count := 1, lo := 6, width := 26, acc := .rw, rst := 0 }
/-- UPD.BLKADDRHI, bits 3:0 at 0x194. -/
def UPD_BLKADDRHI : Row := { page := 0x68, off := 0x194, stride := 0x00, count := 1, lo := 0, width := 4, acc := .rw, rst := 0 }
/-- UPD.BLKOFF, bits 31:0 at 0x198. -/
def UPD_BLKOFF : Row := { page := 0x68, off := 0x198, stride := 0x00, count := 1, lo := 0, width := 32, acc := .rw, rst := 0 }
/-- UPD.BLKLEN, bits 10:0 at 0x19C. -/
def UPD_BLKLEN : Row := { page := 0x68, off := 0x19C, stride := 0x00, count := 1, lo := 0, width := 11, acc := .rw, rst := 0 }
/-- UPD.BLKTOTAL, bits 31:0 at 0x1A0. -/
def UPD_BLKTOTAL : Row := { page := 0x68, off := 0x1A0, stride := 0x00, count := 1, lo := 0, width := 32, acc := .rw, rst := 0 }
/-- UPD.BLK.TYPE, bits 7:0 at 0x1A4. -/
def UPD_BLK_TYPE : Row := { page := 0x68, off := 0x1A4, stride := 0x00, count := 1, lo := 0, width := 8, acc := .rw, rst := 0 }
/-- UPD.BLK.GO, bits 31 at 0x1A4. -/
def UPD_BLK_GO : Row := { page := 0x68, off := 0x1A4, stride := 0x00, count := 1, lo := 31, width := 1, acc := .ws, rst := 0 }
/-- UPD.RES.CODE, bits 2:0 at 0x1A8. -/
def UPD_RES_CODE : Row := { page := 0x68, off := 0x1A8, stride := 0x00, count := 1, lo := 0, width := 3, acc := .ro, rst := 0 }
/-- UPD.RES.CHECK, bits 11:8 at 0x1A8. -/
def UPD_RES_CHECK : Row := { page := 0x68, off := 0x1A8, stride := 0x00, count := 1, lo := 8, width := 4, acc := .ro, rst := 0 }
/-- UPD.XFER.RECV, bits 16:0 at 0x1AC. -/
def UPD_XFER_RECV : Row := { page := 0x68, off := 0x1AC, stride := 0x00, count := 1, lo := 0, width := 17, acc := .ro, rst := 0 }
/-- UPD.CMD.CANCEL, bits 0 at 0x1B0. -/
def UPD_CMD_CANCEL : Row := { page := 0x68, off := 0x1B0, stride := 0x00, count := 1, lo := 0, width := 1, acc := .ws, rst := 0 }
/-- UPD.CMD.UNPEND, bits 1 at 0x1B0. -/
def UPD_CMD_UNPEND : Row := { page := 0x68, off := 0x1B0, stride := 0x00, count := 1, lo := 1, width := 1, acc := .ws, rst := 0 }
/-- UPD.CMD.TYPE, bits 15:8 at 0x1B0. -/
def UPD_CMD_TYPE : Row := { page := 0x68, off := 0x1B0, stride := 0x00, count := 1, lo := 8, width := 8, acc := .rw, rst := 0 }
/-- UPD.KEYHASHj, bits 31:0 at 0x1C0 + 4j (j = 0–7). -/
def UPD_KEYHASH : Row := { page := 0x68, off := 0x1C0, stride := 0x04, count := 8, lo := 0, width := 32, acc := .ro, rst := 0, cls := .die }

/-! 21_safety.md, Table 21.7. -/

/-- SAF.STAT.SAFE, bits 0 at 0x100. -/
def SAF_STAT_SAFE : Row := { page := 0x05, off := 0x100, stride := 0x00, count := 1, lo := 0, width := 1, acc := .ro, rst := 0 }
/-- SAF.STAT.FAULTED, bits 1 at 0x100. -/
def SAF_STAT_FAULTED : Row := { page := 0x05, off := 0x100, stride := 0x00, count := 1, lo := 1, width := 1, acc := .ro, rst := 0 }
/-- SAF.STAT.DEGRADED, bits 2 at 0x100. -/
def SAF_STAT_DEGRADED : Row := { page := 0x05, off := 0x100, stride := 0x00, count := 1, lo := 2, width := 1, acc := .ro, rst := 0 }
/-- SAF.STAT.RSTPEND, bits 3 at 0x100. -/
def SAF_STAT_RSTPEND : Row := { page := 0x05, off := 0x100, stride := 0x00, count := 1, lo := 3, width := 1, acc := .ro, rst := 0 }
/-- SAF.FIRST.CAUSE, bits 7:0 at 0x104. -/
def SAF_FIRST_CAUSE : Row := { page := 0x05, off := 0x104, stride := 0x00, count := 1, lo := 0, width := 8, acc := .ro, rst := 0, cls := .por }
/-- SAF.FIRST.UNIT, bits 15:8 at 0x104. -/
def SAF_FIRST_UNIT : Row := { page := 0x05, off := 0x104, stride := 0x00, count := 1, lo := 8, width := 8, acc := .ro, rst := 0, cls := .por }
/-- SAF.FIRST.MODE, bits 18:16 at 0x104. -/
def SAF_FIRST_MODE : Row := { page := 0x05, off := 0x104, stride := 0x00, count := 1, lo := 16, width := 3, acc := .ro, rst := 0, cls := .por }
/-- SAF.FIRST.MTLO, bits 31:0 at 0x108. -/
def SAF_FIRST_MTLO : Row := { page := 0x05, off := 0x108, stride := 0x00, count := 1, lo := 0, width := 32, acc := .ro, rst := 0, cls := .por }
/-- SAF.FIRST.MTHI, bits 31:0 at 0x10C. -/
def SAF_FIRST_MTHI : Row := { page := 0x05, off := 0x10C, stride := 0x00, count := 1, lo := 0, width := 32, acc := .ro, rst := 0, cls := .por }
/-- SAF.FIRST.INFO, bits 31:0 at 0x110. -/
def SAF_FIRST_INFO : Row := { page := 0x05, off := 0x110, stride := 0x00, count := 1, lo := 0, width := 32, acc := .ro, rst := 0, cls := .por }
/-- SAF.CAUSES, bits 21:1 at 0x114. -/
def SAF_CAUSES : Row := { page := 0x05, off := 0x114, stride := 0x00, count := 1, lo := 1, width := 21, acc := .w1c, rst := 0, cls := .por }
/-- SAF.COUNT.SF, bits 15:0 at 0x118. -/
def SAF_COUNT_SF : Row := { page := 0x05, off := 0x118, stride := 0x00, count := 1, lo := 0, width := 16, acc := .ro, rst := 0, cls := .por }
/-- SAF.COUNT.SRST, bits 19:16 at 0x118. -/
def SAF_COUNT_SRST : Row := { page := 0x05, off := 0x118, stride := 0x00, count := 1, lo := 16, width := 4, acc := .ro, rst := 0, cls := .por }
/-- SAF.CFG.MAXRST, bits 3:0 at 0x11C. -/
def SAF_CFG_MAXRST : Row := { page := 0x05, off := 0x11C, stride := 0x00, count := 1, lo := 0, width := 4, acc := .rwl, rst := 3 }
/-- SAF.CFG.RSTALL, bits 4 at 0x11C. -/
def SAF_CFG_RSTALL : Row := { page := 0x05, off := 0x11C, stride := 0x00, count := 1, lo := 4, width := 1, acc := .rwl, rst := 0 }
/-- SAF.CFG.OVRLIM, bits 11:8 at 0x11C. -/
def SAF_CFG_OVRLIM : Row := { page := 0x05, off := 0x11C, stride := 0x00, count := 1, lo := 8, width := 4, acc := .rwl, rst := 3 }
/-- SAF.CFG.ECCTHR, bits 31:16 at 0x11C. -/
def SAF_CFG_ECCTHR : Row := { page := 0x05, off := 0x11C, stride := 0x00, count := 1, lo := 16, width := 16, acc := .rwl, rst := 16 }
/-- SAF.ECC.CORR, bits 15:0 at 0x120. -/
def SAF_ECC_CORR : Row := { page := 0x05, off := 0x120, stride := 0x00, count := 1, lo := 0, width := 16, acc := .ro, rst := 0 }
/-- SAF.WDn.CFG.TMO, bits 9:0 at 0x130 + 0x10n. -/
def SAF_WD_CFG_TMO : Row := { page := 0x05, off := 0x130, stride := 0x10, count := 2, lo := 0, width := 10, acc := .rwl, rst := 100 }
/-- SAF.WDn.CFG.WIN, bits 22:16 at 0x130 + 0x10n. -/
def SAF_WD_CFG_WIN : Row := { page := 0x05, off := 0x130, stride := 0x10, count := 2, lo := 16, width := 7, acc := .rwl, rst := 0 }
/-- SAF.WDn.CFG.EN, bits 31 at 0x130 + 0x10n. -/
def SAF_WD_CFG_EN : Row := { page := 0x05, off := 0x130, stride := 0x10, count := 2, lo := 31, width := 1, acc := .rwl, rst := 0 }
/-- SAF.WDn.SVC, bits 31:0 at 0x134 + 0x10n. -/
def SAF_WD_SVC : Row := { page := 0x05, off := 0x134, stride := 0x10, count := 2, lo := 0, width := 32, acc := .wo, rst := 0 }
/-- SAF.WDn.STAT.REMAIN, bits 9:0 at 0x138 + 0x10n. -/
def SAF_WD_STAT_REMAIN : Row := { page := 0x05, off := 0x138, stride := 0x10, count := 2, lo := 0, width := 10, acc := .ro, rst := 0 }
/-- SAF.WDn.STAT.PAUSED, bits 16 at 0x138 + 0x10n. -/
def SAF_WD_STAT_PAUSED : Row := { page := 0x05, off := 0x138, stride := 0x10, count := 2, lo := 16, width := 1, acc := .ro, rst := 0 }
/-- SAF.DS.EN, bits 9:0 at 0x150. -/
def SAF_DS_EN : Row := { page := 0x05, off := 0x150, stride := 0x00, count := 1, lo := 0, width := 10, acc := .rwl, rst := 1023 }
/-- SAF.DS.STAT.PASSES, bits 15:0 at 0x154. -/
def SAF_DS_STAT_PASSES : Row := { page := 0x05, off := 0x154, stride := 0x00, count := 1, lo := 0, width := 16, acc := .ro, rst := 0 }
/-- SAF.DS.STAT.OVERRUNS, bits 23:16 at 0x154. -/
def SAF_DS_STAT_OVERRUNS : Row := { page := 0x05, off := 0x154, stride := 0x00, count := 1, lo := 16, width := 8, acc := .ro, rst := 0 }
/-- SAF.DS.STAT.CONSEC, bits 27:24 at 0x154. -/
def SAF_DS_STAT_CONSEC : Row := { page := 0x05, off := 0x154, stride := 0x00, count := 1, lo := 24, width := 4, acc := .ro, rst := 0 }
/-- SAF.DS.LASTDUR, bits 15:0 at 0x158. -/
def SAF_DS_LASTDUR : Row := { page := 0x05, off := 0x158, stride := 0x00, count := 1, lo := 0, width := 16, acc := .ro, rst := 0 }
/-- SAF.CLKERR, bits 7:0 at 0x15C. -/
def SAF_CLKERR : Row := { page := 0x05, off := 0x15C, stride := 0x00, count := 1, lo := 0, width := 8, acc := .w1c, rst := 0 }
/-- SAF.SSL.DRIVE, bits 2:0 at 0x160. -/
def SAF_SSL_DRIVE : Row := { page := 0x05, off := 0x160, stride := 0x00, count := 1, lo := 0, width := 3, acc := .ro, rst := 0 }
/-- SAF.SSL.READ, bits 6:4 at 0x160. -/
def SAF_SSL_READ : Row := { page := 0x05, off := 0x160, stride := 0x00, count := 1, lo := 4, width := 3, acc := .ro, rst := 0 }
/-- SAF.INJECT.GO, bits 0 at 0x164. -/
def SAF_INJECT_GO : Row := { page := 0x05, off := 0x164, stride := 0x00, count := 1, lo := 0, width := 1, acc := .ws, rst := 0 }

end R

/-- The header rows (02 Table 2.3). -/
def headerRows : List Row :=
  [R.H_BLKID_PAGES, R.H_BLKID_INST, R.H_BLKID_TYPE, R.H_BLKVER_MINOR, R.H_BLKVER_MAJOR, R.H_PRESENT, R.H_CAPS, R.H_CTRL_EN, R.H_CTRL_SRST, R.H_STATE, R.H_EN_PENDING, R.H_EVRAW, R.H_EVEN, R.H_EVSTAT, R.H_EVFORCE, R.H_LOCK_KEY, R.H_LOCK_ARMED, R.H_LOCK_LOCKED, R.H_ERR_CODE, R.H_ERR_OFFSET, R.H_ERR_MORE, R.H_CFGGEN]

/-- The block-specific fields of page 0x03. -/
def rows03 : List Row :=
  [R.EVC_PEND, R.EVC_ENA, R.EVC_THR_THR, R.EVC_CLAIM_VALID, R.EVC_CLAIM_SRC, R.EVC_COMPLETE_SRC]

/-- The block-specific fields of page 0x04. -/
def rows04 : List Row :=
  [R.EVC_SRCCFG_PRIO, R.EVC_SRCCFG_ROUTE, R.EVC_SRCCFG_SERV0, R.EVC_SRCCFG_SERV1]

/-- The block-specific fields of page 0x00 (SYS; 03 R62, Table 3.9). -/
def rows00 : List Row :=
  [R.SYS_IDENT_FAMILY, R.SYS_IDENT_DIEREV, R.SYS_IDENT_VARIANT, R.SYS_UNITS0, R.SYS_UNITS1, R.SYS_MODE_MODE, R.SYS_MODE_SYNC, R.SYS_MODE_HOLDCAUSE, R.SYS_MODE_RESTART, R.SYS_MODE_CHANGES, R.SYS_MODECMD_TARGET, R.SYS_MODECMD_CAUSE] ++
  [R.SYS_MODECMD_KEY, R.SYS_STARTSTEP_STEP, R.SYS_STARTSTEP_FAIL, R.SYS_STARTSTEP_PENDSLOT, R.SYS_RSTCAUSE_HIST, R.SYS_RSTCAUSE_LAST, R.SYS_RSTCOUNT_COUNT, R.SYS_NEXTSTART_KIND, R.SYS_STARTPOL_POLICY, R.SYS_KEYSW_POS, R.SYS_SLOT_SIDE, R.SYS_SLOT_GA] ++
  [R.SYS_RSTCMD_GO, R.SYS_RSTCMD_KEY]

/-- The block-specific fields of page 0x01 (PWR; 03 R63, Table 3.10). -/
def rows01 : List Row :=
  [R.PWR_STATUS_P1OK, R.PWR_STATUS_P2OK, R.PWR_STATUS_PFW, R.PWR_STATUS_FORCEDHOLD, R.PWR_STATUS_FLUSHONLY, R.PWR_STATUS_BKSRC, R.PWR_STATUS_SCAP, R.PWR_FEED_P1MV, R.PWR_FEED_P2MV, R.PWR_PFCTL_FOEN, R.PWR_PFCOUNT_COUNT, R.PWR_RAILERR] ++
  [R.PWR_DOMAIN_SEG, R.PWR_DOMAIN_XE, R.PWR_DOMAIN_PL, R.PWR_LASTPF_FLUSH]

/-- The block-specific fields of page 0x11 (XE; 04 R84). -/
def rows11 : List Row :=
  [R.XE_CLS_CFG_EN, R.XE_CLS_CFG_TRIGCH, R.XE_CLS_CFG_TBASE, R.XE_CLS_CFG_DLPCT, R.XE_CLS_CFG_FFLIMIT, R.XE_CLS_CFG_REACT, R.XE_CLS_PER_PERIOD, R.XE_CLS_PER_PHASE, R.XE_CLS_PLY, R.XE_CLS_FF_TOTAL, R.XE_CLS_FF_CONSEC, R.XE_CLS_SKIP_SKIPS] ++
  [R.XE_CLS_SKIP_REANCHOR, R.XE_CLS_LASTDUR, R.XE_CLS_MAXDUR, R.XE_CLS_STAT_PHASE, R.XE_CLS_STAT_ALIGNED, R.XE_CLS_STAT_ERRPEND, R.XE_CLS_STAT_SKIPNEXT, R.XE_MW_CFG_TIMEOUT, R.XE_MW_STAT_TIMEOUTS, R.XE_MW_STAT_LASTTAIL, R.XE_ET_CFG_EN, R.XE_ET_CFG_SRC] ++
  [R.XE_ET_CFG_MININT, R.XE_ET_PEND, R.XE_ET_RUN, R.XE_ET_TRIG, R.XE_ET_COAL]

/-- The block-specific fields of page 0x10 (XE; 05 R112, 07 R162). -/
def rows10 : List Row :=
  [R.XE_ENG_STAT_LEVEL, R.XE_ENG_STAT_ACTIVE, R.XE_ENG_STAT_STAGEDOK, R.XE_ENG_STAT_LANES, R.XE_ENG_ROW_ROW, R.XE_ENG_ROW_PART, R.XE_ENG_ITER_ITER, R.XE_ENG_PCSEL_CLS, R.XE_MM_CTRL_ACTIVATE, R.XE_MM_CTRL_SEL, R.XE_MM_HDR_VALID, R.XE_MM_HDR_CHECK] ++
  [R.XE_MM_SCAN_PASSES, R.XE_MM_SCAN_MISMATCH, R.XE_MM_CRCA, R.XE_SM_CTRL_VERIFY, R.XE_SM_CTRL_ARM, R.XE_SM_CTRL_CANCEL, R.XE_SM_CTRL_DIR, R.XE_SM_PLY, R.XE_SM_CLS, R.XE_SM_BUDGET, R.XE_SM_FMAPLO, R.XE_SM_FMAPHI] ++
  [R.XE_SM_FMAPN, R.XE_SM_RMAPLO, R.XE_SM_RMAPHI, R.XE_SM_RMAPN, R.XE_SM_STAT_STATE, R.XE_SM_STAT_VCHECK, R.XE_SM_STAT_REVOK, R.XE_SM_STAT_LAST, R.XE_SM_TSW, R.XE_SM_LASTSW, R.XE_SM_CRC, R.XE_SM_COUNT_SWITCHES] ++
  [R.XE_SM_COUNT_LAPSES, R.XE_SM_CLSCFG, R.XE_SM_CLSPER]

/-- The block-specific fields of page 0x12 (XE; 05 R113). -/
def rows12 : List Row :=
  [R.XE_SF_INFO_KIND, R.XE_SF_INFO_PART, R.XE_SF_INFO_COL, R.XE_SF_INFO_ROW, R.XE_SF_COUNT, R.XE_LS_INFO_UNIT, R.XE_LS_INFO_LEVEL, R.XE_LS_INFO_ROW, R.XE_LS_DEST, R.XE_LS_COUNT, R.XE_ECC_CORR_LANE, R.XE_ECC_CORR_FETCH] ++
  [R.XE_LS_INJECT, R.XE_FT_INDEX_ENTRY, R.XE_FT_INDEX_TABLE, R.XE_FT_SYMID, R.XE_FT_ADDR_OFFSET, R.XE_FT_ADDR_TVF, R.XE_FT_ADDR_VALID, R.XE_FT_TYPE, R.XE_FT_VAL, R.XE_FT_MSK, R.XE_FT_CMD_WRITE, R.XE_FT_CMD_READ] ++
  [R.XE_FT_STAT_USED, R.XE_FT_STAT_PEND]

/-- The block-specific fields of page 0x13. -/
def rows13 : List Row :=
  [R.XE_PART_START, R.XE_PART_EXROWS, R.XE_RET_BASE, R.XE_RET_SIZE, R.XE_LAYOUT_ID0, R.XE_LAYOUT_ID1, R.XE_LAYOUT_ID2, R.XE_LAYOUT_ID3, R.XE_LAYOUT_MIRRORFMT]

/-- The block-specific fields of page 0x18 (TE; 08 R182). -/
def rows18 : List Row :=
  [R.TE_CFGCMD_LOCK, R.TE_CFGCMD_UNLOCK, R.TE_CFGCMD_KEY, R.TE_CFGSTAT_LOCKED, R.TE_CFGSTAT_CHECK, R.TE_CFGSTAT_FUNC, R.TE_CFGSTAT_BURST, R.TE_CFGSTAT_SAFE, R.TE_CFGADDR_WORD, R.TE_CFGDATA, R.TE_CFGCRC, R.TE_BASEVER] ++
  [R.TE_DIASSIGN, R.TE_DQASSIGN, R.TE_EVSEL, R.TE_SWIN, R.TE_SWOUT, R.TE_DQOUT, R.TE_RXIN0, R.TE_RXIN1, R.TE_RXOUT0, R.TE_RXOUT1, R.TE_RXSTALE0, R.TE_RXSTALE1] ++
  [R.TE_LQ, R.TE_TQ, R.TE_PASSCNT, R.TE_ST_PASSES, R.TE_ST_FAILS, R.TE_ST_LASTSIG]

/-- The block-specific fields of page 0x20 (RMTnn; 10 R229). -/
def rows20 : List Row :=
  [R.RMT_CFG_CHEN, R.RMT_CFG_LOSTN, R.RMT_CFG_ERRTHR, R.RMT_STAT_CYCLE, R.RMT_STAT_PASSIVE, R.RMT_STAT_OWNCONF, R.RMT_STAT_GBLK, R.RMT_SCHEDCHK, R.RMT_SCHEDID, R.RMT_ECHO_A, R.RMT_ECHO_B, R.RMT_PECHO_A] ++
  [R.RMT_PECHO_B, R.RMT_GCUT_A, R.RMT_GCUT_B, R.RMT_GKIND_A, R.RMT_GKIND_B, R.RMT_ST_STATE, R.RMT_ST_OUTEN, R.RMT_ST_HSUB, R.RMT_ST_MISS, R.RMT_STSTAT, R.RMT_ERR_TIMING, R.RMT_ERR_FORMAT] ++
  [R.RMT_ERR_CRC, R.RMT_ERR_LOSTS, R.RMT_PD_A, R.RMT_PD_B, R.RMT_PID, R.RMT_SVCQ_ST, R.RMT_SVCQ_SRC, R.RMT_SVCQ_GO, R.RMT_SVCPEND]

/-- The block-specific fields of page 0x30 (RMC; 10 R230). -/
def rows30 : List Row :=
  [R.RMC_STAT_CSTATE, R.RMC_STAT_CYCLE, R.RMC_STAT_ROUNDS, R.RMC_STAT_NSYNC, R.RMC_OFFSET, R.RMC_RATE, R.RMC_MTCSLO, R.RMC_MTCSHI, R.RMC_COUNT_COLD, R.RMC_COUNT_BACKOFF, R.RMC_COUNT_PASSIVE, R.RMC_COUNT_REINT]

/-- The block-specific fields of page 0x38 (PLn; 11 R263). -/
def rows38 : List Row :=
  [R.PL_STAT_UP, R.PL_STAT_TRAINING, R.PL_STAT_HBOK, R.PL_RTT, R.PL_FEC_CORR, R.PL_FEC_UNCORR, R.PL_CRCERR, R.PL_RETRAINS, R.PL_LOAD]

/-- The block-specific fields of page 0x3A (PAIR; 11 R264). -/
def rows3A : List Row :=
  [R.PAIR_STAT_ROLE, R.PAIR_STAT_SYNC, R.PAIR_STAT_PSYNC, R.PAIR_STAT_LEASE, R.PAIR_STAT_PARTNER, R.PAIR_STAT_PMODE, R.PAIR_STAT_LINKS, R.PAIR_STAT_MISMATCH, R.PAIR_STAT_CASTLE, R.PAIR_EPOCH, R.PAIR_CLAIMLO, R.PAIR_CLAIMHI] ++
  [R.PAIR_SEENLO, R.PAIR_SEENHI, R.PAIR_LEASE_LEASECYC, R.PAIR_LEASE_NOMAJ, R.PAIR_VOTES_OWN, R.PAIR_VOTES_OTHER, R.PAIR_ARB_N, R.PAIR_ARB_SEG, R.PAIR_ARB_ST, R.PAIR_HBMISS_PL0, R.PAIR_HBMISS_PL1, R.PAIR_MTOFFLO] ++
  [R.PAIR_MTOFFHI, R.PAIR_LOCAL_MFV, R.PAIR_LOCAL_FWVER, R.PAIR_PEER_MFV, R.PAIR_PEER_FWVER, R.PAIR_PEER_VARIANT, R.PAIR_PEER_SIDE, R.PAIR_PEER_HOLDCAUSE, R.PAIR_ML_CTRL_CHECK, R.PAIR_MLADDR_OFFSET, R.PAIR_MLADDR_LIST, R.PAIR_MLDATA] ++
  [R.PAIR_MLVOL, R.PAIR_MLCHK, R.PAIR_ESC_ADDR, R.PAIR_ESC_WRITER, R.PAIR_ESC_MASTER, R.PAIR_ESC_COUNT, R.PAIR_SYNC_STAT_PHASE, R.PAIR_SYNC_STAT_ROUNDS, R.PAIR_SYNC_STAT_FAIL, R.PAIR_SYNC_CMD_JOIN, R.PAIR_CASTLE_CMD_REQ, R.PAIR_CASTLE_CMD_FORCED] ++
  [R.PAIR_CASTLE_STAT_RESULT, R.PAIR_CASTLE_STAT_COUNT]

/-- The block-specific fields of page 0x40 (TIM; 12 R281). -/
def rows40 : List Row :=
  [R.TIM_MTLO, R.TIM_MTHI, R.TIM_NTLO, R.TIM_NTHI, R.TIM_NTINC, R.TIM_NTSTEP_VAL, R.TIM_NTSTEP_CMD_GO, R.TIM_NTSTEP_CMD_FORCE, R.TIM_NTSTEPMAX, R.TIM_NTSETLO, R.TIM_NTSETHI, R.TIM_NTCTL_LOCKED] ++
  [R.TIM_NTCTL_SET, R.TIM_NTSTAT_JUMP, R.TIM_NTSTAT_STEPPEND, R.TIM_NTSTAT_GEN, R.TIM_NTSTAT_STEPREJ, R.TIM_SNAP_GO, R.TIM_SNAP_MTLO, R.TIM_SNAP_MTHI, R.TIM_SNAP_NTLO, R.TIM_SNAP_NTHI, R.TIM_SNAP_NTFRAC, R.TIM_TPCFG_INEN] ++
  [R.TIM_TPCFG_PWIDTH, R.TIM_TPSTAT_INFAULT, R.TIM_TPSTAT_OUTFAULT, R.TIM_TPSTAT_PPSOUT, R.TIM_CMP_CFG_MODE, R.TIM_CMP_CFG_TBASE, R.TIM_CMP_CFG_PPSOUT, R.TIM_CMP_CFG_OWNED, R.TIM_CMP_CFG_OWNER, R.TIM_CMP_TGTLO, R.TIM_CMP_TGTHI, R.TIM_CMP_PERIOD] ++
  [R.TIM_CMP_COUNT, R.TIM_CAP_CFG_SRC, R.TIM_CAP_CFG_EDGE, R.TIM_CAP_CFG_EN, R.TIM_CAP_MTLO, R.TIM_CAP_MTHI, R.TIM_CAP_NTLO, R.TIM_CAP_NTHI, R.TIM_CAP_STAT_VALID, R.TIM_CAP_STAT_OVF, R.TIM_CAP_STAT_RISE, R.TIM_CAP_STAT_GEN] ++
  [R.TIM_CAP_STAT_LOST]

/-- The block-specific fields of page 0x41 (EMACx; 12 R282, 19 R416). -/
def rows41 : List Row :=
  [R.EMAC_TSCFG_UDP4, R.EMAC_TSCFG_UDP6, R.EMAC_TSCFG_L2, R.EMAC_TXTS_W0_MSGTYPE, R.EMAC_TXTS_W0_DOMAIN, R.EMAC_TXTS_W0_SEQID, R.EMAC_TXTS_W1, R.EMAC_TXTS_W2, R.EMAC_TXTS_W3_GEN, R.EMAC_TXTS_W3_VALID, R.EMAC_TXTS_POP, R.EMAC_RXTS_W0] ++
  [R.EMAC_RXTS_W1, R.EMAC_RXTS_W2, R.EMAC_RXTS_W3, R.EMAC_RXTS_POP, R.EMAC_TSSTAT_TXLEVEL, R.EMAC_TSSTAT_RXLEVEL, R.EMAC_TSSTAT_TXOVF, R.EMAC_TSSTAT_RXOVF, R.EMAC_LINK_UP, R.EMAC_LINK_SPEED, R.EMAC_LINK_FDX, R.EMAC_MACCFG_TXEN] ++
  [R.EMAC_MACCFG_RXEN, R.EMAC_MACCFG_ALLMC, R.EMAC_MACCFG_PROMISC, R.EMAC_ADDRLO, R.EMAC_ADDRHI, R.EMAC_MCHASH0, R.EMAC_MCHASH1, R.EMAC_RXBASELO, R.EMAC_RXBASEHI, R.EMAC_RXSIZE, R.EMAC_RXHEAD, R.EMAC_TXBASELO] ++
  [R.EMAC_TXBASEHI, R.EMAC_TXSIZE, R.EMAC_TXHEAD, R.EMAC_TXKICK, R.EMAC_CNT_RXDROP, R.EMAC_CNT_RXERR, R.EMAC_CNT_NCP]

/-- The block-specific fields of page 0x48 (BKD; 13 R303). -/
def rows48 : List Row :=
  [R.BKD_STAT_BK_VALID, R.BKD_STAT_RTC_VALID, R.BKD_STAT_CELLLOW, R.BKD_STAT_SRC, R.BKD_STAT_WPEND, R.BKD_STAT_COMMITPEND, R.BKD_STAT_LOSTSEEN, R.BKD_STAT_LOADBUSY, R.BKD_CMD_VALIDATE, R.BKD_CMD_LOADTEST, R.BKD_CMD_CCTAKE, R.BKD_RTC_SNAP_SUBSEC] ++
  [R.BKD_RTC_SNAP_VALID, R.BKD_SHD_DATE_YEAR, R.BKD_SHD_DATE_MONTH, R.BKD_SHD_DATE_DAY, R.BKD_SHD_DATE_WDAY, R.BKD_SHD_TIME_HOUR, R.BKD_SHD_TIME_MIN, R.BKD_SHD_TIME_SEC, R.BKD_SHD_MTLO, R.BKD_SHD_MTHI, R.BKD_RTC_DATE_YEAR, R.BKD_RTC_DATE_MONTH] ++
  [R.BKD_RTC_DATE_DAY, R.BKD_RTC_TIME_HOUR, R.BKD_RTC_TIME_MIN, R.BKD_RTC_SEC_SEC, R.BKD_RTC_TRIM, R.BKD_ALM_DATE_YEAR, R.BKD_ALM_DATE_MONTH, R.BKD_ALM_DATE_DAY, R.BKD_ALM_DATE_WDAY, R.BKD_ALM_TIME, R.BKD_ALM_MASK_FIELDS, R.BKD_ALM_MASK_EN] ++
  [R.BKD_ALMFLAG, R.BKD_EVI_CFG_FILT, R.BKD_EVI_CFG_EDGE, R.BKD_EVI_CFG_LEVEL, R.BKD_EVI_TSDATE, R.BKD_EVI_TSTIME, R.BKD_EVI_TSSUB_SUBSEC, R.BKD_EVI_TSSUB_COUNT, R.BKD_OPSEC, R.BKD_PWRCYC_COUNT, R.BKD_COUL, R.BKD_CCTAKEN] ++
  [R.BKD_CELL_MV, R.BKD_CHGOVR, R.BKD_BKUP]

/-- The block-specific fields of page 0x50 (CRT; 14 R326). -/
def rows50 : List Row :=
  [R.CRT_STAT_STATE, R.CRT_STAT_TYPE, R.CRT_STAT_WHY, R.CRT_STAT_EOL, R.CRT_STAT_CKPT, R.CRT_STAT_LATCH, R.CRT_MODIDLO, R.CRT_MODIDHI, R.CRT_CMD_FORMAT, R.CRT_CMD_ADOPT, R.CRT_CMD_RELEASE, R.CRT_CMD_CKPT] ++
  [R.CRT_CMD_KEY, R.CRT_JNL_CFG_BUDGET, R.CRT_JNL_CFG_CKPTINT, R.CRT_JNL_LASTPLY, R.CRT_JNL_BACKLOG, R.CRT_JNL_USE, R.CRT_JNL_BREAKS, R.CRT_CKPT_BEGIN, R.CRT_CKPT_END, R.CRT_CKPT_SLOT, R.CRT_LIFE_PCT, R.CRT_LIFE_WHICH] ++
  [R.CRT_LIFE_CELL, R.CRT_LIFE_ERASEMAX, R.CRT_LIFE_ERASEMEAN, R.CRT_LIFE_SCAP, R.CRT_LIFE_INSERT, R.CRT_NAND_PAGE, R.CRT_NAND_DMALO, R.CRT_NAND_DMAHI, R.CRT_NAND_CMD_OP, R.CRT_NAND_CMD_GO, R.CRT_NAND_STAT_FAIL, R.CRT_NAND_STAT_UNCORR] ++
  [R.CRT_NAND_STAT_MAXFLIP, R.CRT_NAND_CORR, R.CRT_ID]

/-- The block-specific fields of page 0x51 (ER; 15 R343). -/
def rows51 : List Row :=
  [R.ER_STAT_OP, R.ER_STAT_FULL, R.ER_STAT_BUFMODE, R.ER_STAT_HELD, R.ER_CFG_FLUSHSEV, R.ER_SEQNEXT, R.ER_UTLO, R.ER_UTHI, R.ER_UNITS, R.ER_WCMD_N, R.ER_WCMD_GO, R.ER_WRES_RESULT] ++
  [R.ER_WSEQ, R.ER_CURCMD_OP, R.ER_CURCMD_GO, R.ER_CURSOR, R.ER_NEXT, R.ER_RSTAT_LEN, R.ER_RSTAT_VALID, R.ER_RSTAT_END, R.ER_RSTAT_INBUF, R.ER_TORN, R.ER_CLRTOKEN, R.ER_CLR] ++
  [R.ER_CLRWHO_SESSION, R.ER_CLRWHO_ROLE, R.ER_STOP_LEVEL, R.ER_STOP_ACTIVE, R.ER_DROP_LOW, R.ER_DROP_HIGH, R.ER_BUF_LEVEL, R.ER_COUNT_FLUSHES, R.ER_COUNT_RECLAIMS, R.ER_WBUF, R.ER_WINDOW]

/-- The block-specific fields of page 0x58 (LIO; 16 R363). -/
def rows58 : List Row :=
  [R.LIO_DISTAT, R.LIO_DIRAW, R.LIO_DICONT, R.LIO_SPER, R.LIO_FILT, R.LIO_EDGE0, R.LIO_EDGE1, R.LIO_COS, R.LIO_DQSRC, R.LIO_DQHOLD, R.LIO_DQCMD_DRV, R.LIO_DQCMD_PROG] ++
  [R.LIO_DQRB, R.LIO_DQTMODE, R.LIO_DQTHERM_HOT, R.LIO_DQTHERM_LATCH, R.LIO_DQCLR, R.LIO_DQCLRPEND, R.LIO_DQOLEN_ON, R.LIO_DQOLEN_OFF, R.LIO_DQOL, R.LIO_DQILIM, R.LIO_DQRBERR, R.LIO_SUP_L1MISS] ++
  [R.LIO_SUP_L1LOW, R.LIO_SUP_L2MISS, R.LIO_SUP_L2LOW, R.LIO_SUPMV_L1, R.LIO_SUPMV_L2, R.LIO_THCOUNT]

/-- The block-specific fields of page 0x60 (RBn; 17 R380). -/
def rows60 : List Row :=
  [R.RB_CFG_FDEN, R.RB_CFG_MON, R.RB_CFG_LBK, R.RB_NBT_BRPM1, R.RB_NBT_TSEG1M1, R.RB_NBT_TSEG2M1, R.RB_NBT_SJWM1, R.RB_DBT_DBRPM1, R.RB_DBT_DTSEG1M1, R.RB_DBT_DTSEG2M1, R.RB_DBT_DSJWM1, R.RB_TDC_TDCO] ++
  [R.RB_TDC_TDCEN, R.RB_TDC_TDCV, R.RB_ERR_TEC, R.RB_ERR_REC, R.RB_ERR_STATE, R.RB_ERR_WARN, R.RB_LEC_NOM, R.RB_LEC_DATA, R.RB_CNT_BUSOFF, R.RB_CNT_NOMATCH, R.RB_RXOVF_COUNT, R.RB_POOL_USED] ++
  [R.RB_OBJSEL_IDX, R.RB_OBJCFG_DIR, R.RB_OBJCFG_IDE, R.RB_OBJCFG_FDF, R.RB_OBJCFG_BRS, R.RB_OBJCFG_RTR, R.RB_OBJCFG_LEAD, R.RB_OBJCFG_FTYPE, R.RB_OBJCFG_DLC, R.RB_OBJCFG_RETRY, R.RB_OBJCFG_QDEPTH, R.RB_OBJID] ++
  [R.RB_OBJMASK, R.RB_OBJCMD_WRITE, R.RB_OBJCMD_READ, R.RB_OBJCMD_LOAD, R.RB_OBJSTAT_QCOUNT, R.RB_OBJSTAT_TXSTATE, R.RB_OBJSTAT_ATTEMPTS, R.RB_OBJSTAT_QOVF, R.RB_TXBUF, R.RB_TXREQ, R.RB_TXPEND, R.RB_TXCAN] ++
  [R.RB_TXDONE, R.RB_TXFAIL, R.RB_RXNEW, R.RB_RXOVFL, R.RB_RXSEL_OBJ, R.RB_RXSEL_POS, R.RB_RXACK_OBJ, R.RB_RXACK_N, R.RB_RXHDR_ID, R.RB_RXHDR_IDE, R.RB_RXHDR_RTR, R.RB_RXHDR_FDF] ++
  [R.RB_RXFLG_DLC, R.RB_RXFLG_BRS, R.RB_RXFLG_ESI, R.RB_RXFLG_LEN, R.RB_RXFLG_VALID, R.RB_RXMTLO, R.RB_RXMTHI, R.RB_RXDATA]

/-- The block-specific fields of page 0x06 (GATE; 18 R396). -/
def rows06 : List Row :=
  [R.GATE_SEL_GATE, R.GATE_SEL_ENTRY, R.GATE_BASELO, R.GATE_BASEHI, R.GATE_LIMLO, R.GATE_LIMHI, R.GATE_MASKLO, R.GATE_MASKHI, R.GATE_ATTR_P, R.GATE_ATTR_U, R.GATE_ATTR_MEMTYPE, R.GATE_ATTR_SHARE] ++
  [R.GATE_ATTR_DBG, R.GATE_ATTR_LOCK, R.GATE_ATTR_VALID, R.GATE_CMD_WRITE, R.GATE_CMD_READ, R.GATE_LOCKED, R.GATE_FLT_ADDRLO, R.GATE_FLT_ADDRHI, R.GATE_FLT_INFO_MASTER, R.GATE_FLT_INFO_PRIV, R.GATE_FLT_INFO_TYPE, R.GATE_FLT_INFO_CAUSE] ++
  [R.GATE_FLT_INFO_STRADDLE, R.GATE_FLT_INFO_ENTRY, R.GATE_FLT_INFO_NOENT, R.GATE_FLT_INFO_MORE, R.GATE_FLT_INFO_VALID, R.GATE_FLT_COUNT, R.GATE_DEC_ADDRLO, R.GATE_DEC_ADDRHI, R.GATE_DEC_INFO_MASTER, R.GATE_DEC_INFO_TYPE, R.GATE_DEC_INFO_MORE, R.GATE_DEC_INFO_VALID] ++
  [R.GATE_DEC_COUNT]

/-- The block-specific fields of page 0x70 (DBG; 18 R397). -/
def rows70 : List Row :=
  [R.DBG_STAT_UNLOCKED, R.DBG_STAT_FAILS, R.DBG_STAT_HALTED, R.DBG_CMD_NEWCHAL, R.DBG_CMD_UNLOCK, R.DBG_CMD_RELOCK, R.DBG_CMD_RESET, R.DBG_CMD_HALT, R.DBG_CMD_RESUME, R.DBG_ERR_STICKY, R.DBG_ERRADDRLO, R.DBG_ERRADDRHI] ++
  [R.DBG_ERRCOUNT, R.DBG_CHAL, R.DBG_RESP]

/-- The block-specific fields of page 0x68 (UPD; 20 R427). -/
def rows68 : List Row :=
  [R.UPD_STAT_BUSY, R.UPD_STAT_TYPE, R.UPD_SLOT_A, R.UPD_SLOT_B, R.UPD_SLOT_ACT, R.UPD_SLOT_ATT, R.UPD_VER_A, R.UPD_VER_B, R.UPD_WIN_VMIN, R.UPD_WIN_MAJMAX, R.UPD_BLKADDRLO, R.UPD_BLKADDRHI] ++
  [R.UPD_BLKOFF, R.UPD_BLKLEN, R.UPD_BLKTOTAL, R.UPD_BLK_TYPE, R.UPD_BLK_GO, R.UPD_RES_CODE, R.UPD_RES_CHECK, R.UPD_XFER_RECV, R.UPD_CMD_CANCEL, R.UPD_CMD_UNPEND, R.UPD_CMD_TYPE, R.UPD_KEYHASH]

/-- The block-specific fields of page 0x05 (SAF; 21 R444). -/
def rows05 : List Row :=
  [R.SAF_STAT_SAFE, R.SAF_STAT_FAULTED, R.SAF_STAT_DEGRADED, R.SAF_STAT_RSTPEND, R.SAF_FIRST_CAUSE, R.SAF_FIRST_UNIT, R.SAF_FIRST_MODE, R.SAF_FIRST_MTLO, R.SAF_FIRST_MTHI, R.SAF_FIRST_INFO, R.SAF_CAUSES, R.SAF_COUNT_SF] ++
  [R.SAF_COUNT_SRST, R.SAF_CFG_MAXRST, R.SAF_CFG_RSTALL, R.SAF_CFG_OVRLIM, R.SAF_CFG_ECCTHR, R.SAF_ECC_CORR, R.SAF_WD_CFG_TMO, R.SAF_WD_CFG_WIN, R.SAF_WD_CFG_EN, R.SAF_WD_SVC, R.SAF_WD_STAT_REMAIN, R.SAF_WD_STAT_PAUSED] ++
  [R.SAF_DS_EN, R.SAF_DS_STAT_PASSES, R.SAF_DS_STAT_OVERRUNS, R.SAF_DS_STAT_CONSEC, R.SAF_DS_LASTDUR, R.SAF_CLKERR, R.SAF_SSL_DRIVE, R.SAF_SSL_READ, R.SAF_INJECT_GO]

/-- The page on which the rows of a page's unit stand: every segment controller uses the rows of page
0x20, and so on for the other units with several instances (02 Table 2.2). -/
def basePage (p : Nat) : Nat :=
  if 0x20 ≤ p ∧ p ≤ 0x2F then 0x20
  else if p = 0x39 then 0x38
  else if p = 0x42 ∨ p = 0x43 then 0x41
  else if p = 0x61 then 0x60
  else p

/-- The block-specific rows of a page. -/
def blockRows (p : Nat) : List Row :=
  if basePage p = 0x00 then rows00
  else if basePage p = 0x01 then rows01
  else if basePage p = 0x03 then rows03
  else if basePage p = 0x04 then rows04
  else if basePage p = 0x05 then rows05
  else if basePage p = 0x06 then rows06
  else if basePage p = 0x10 then rows10
  else if basePage p = 0x11 then rows11
  else if basePage p = 0x12 then rows12
  else if basePage p = 0x13 then rows13
  else if basePage p = 0x18 then rows18
  else if basePage p = 0x20 then rows20
  else if basePage p = 0x30 then rows30
  else if basePage p = 0x38 then rows38
  else if basePage p = 0x3A then rows3A
  else if basePage p = 0x40 then rows40
  else if basePage p = 0x41 then rows41
  else if basePage p = 0x48 then rows48
  else if basePage p = 0x50 then rows50
  else if basePage p = 0x51 then rows51
  else if basePage p = 0x58 then rows58
  else if basePage p = 0x60 then rows60
  else if basePage p = 0x68 then rows68
  else if basePage p = 0x70 then rows70
  else []

end Sys2Proof.Machine
end

