-- ==== Sys2Proof/Machine/State.lean ====
section
/-! DEFINITION. The state of one module, as plain data: its register fields, its memories, and what each unit
holds beside its registers. -/

namespace Sys2Proof.Machine

/-- One region entry of a gate (18 Table 18.3). `base` and `limit` are address bits 35:6. -/
structure GateEntry where
  base : Nat
  limit : Nat
  mask : Nat
  p : Nat
  u : Nat
  memtype : Nat
  share : Bool
  dbg : Bool
  lock : Bool
  valid : Bool
  deriving DecidableEq, Repr

/-- An entry as every reset leaves it (18 R390). -/
def GateEntry.none : GateEntry := ⟨0, 0, 0, 0, 0, 0, false, false, false, false⟩

/-- The answer to the last bus access: the bytes read, whether it was refused, the attributes that came back with it, and the address of
the lowest byte whose check failed, which a control core takes into mtval (18 R387–R389). -/
structure Bus where
  data : List (BitVec 8)
  refused : Bool
  memtype : Nat
  share : Bool
  fault : Nat
  deriving DecidableEq, Repr

/-- What SYS holds beside its registers (03 R50–R53, R57, R62; 22 R447). `failed` has bit k for a failed
start step k; `partnerWait`: side B waits for its partner to lead; `restart` is the kind of a restart that waits for the lease (1 warm,
2 cold); `recovery`: the recovery service runs; `cut`: MT and mode at the assertion of the reset that is held, and whether SAF.FIRST was
filled in that clock (21 R433). -/
structure Sys where
  resetHeld : Bool
  failed : Nat
  partnerWait : Bool
  restart : Nat
  recovery : Bool
  cut : Option (Nat × Nat × Bool)
  deriving DecidableEq, Repr

/-- What PWR holds beside its registers (03 R61, R63; 22 R448–R451): the SEATED contacts, the charge of the
hold-up store, whether feeds came back after the forced HOLD, MT of the warning, whether the domains that the flush-only phase does
not keep are off (01 R17), MT at which a SEATED contact opened, at which both were made since (none: long ago), and at which the
flush-only phase began. -/
structure Pwr where
  seated1 : Bool
  seated2 : Bool
  stored : Bool
  returned : Bool
  warnAt : Nat
  off : Bool
  openAt : Nat
  madeAt : Option Nat
  flushAt : Nat
  deriving DecidableEq, Repr

/-- One watchdog (21 R438): whether it awaits the second key and since when, the instant from which TMO and
WIN are measured, and whether its pre-expiry was raised. -/
structure Wd where
  keyed : Bool
  keyAt : Nat
  since : Nat
  warned : Bool
  pausedAt : Nat
  deriving DecidableEq, Repr

/-- What SAF holds beside its registers (21 R433, R434, R438, R440): the watchdogs, whether a pass runs and has overrun, its start, the MT at which a
pass was last due to start, 1 + the MT at which FIRST was filled since the reset, and the MT at which the second for the corrected errors
ends. -/
structure Saf where
  wd0 : Wd
  wd1 : Wd
  passing : Bool
  late : Bool
  start : Nat
  passAt : Option Nat
  faultAt : Nat
  eccDue : Nat
  deriving DecidableEq, Repr

def Wd.idle : Wd := ⟨false, 0, 0, false, 0⟩

/-- One ply or event task (04 R66–R83). Work `w`: 0–2 the classes C1–C3, 3 + k event task k. -/
structure PlySt where
  /-- The ply number it carries (R68); of an event task, how often it has started. -/
  num : Nat
  /-- 0 idle, 1 pending, 2 FREEZE, 3 EXECUTE, 4 MIRROR-WAIT, 5 COMMIT (04 Table 4.6, STAT.PHASE). -/
  phase : Nat
  /-- In MIRROR-WAIT: acknowledged, waiting for the lanes. -/
  acked : Bool
  /-- PLY_T, and PLY_T of the run before; 0 in the first run after an entry into LEAD (06 R128). -/
  plyT : Nat
  prevT : Nat
  fresh : Bool
  /-- MT of the trigger, of the start, and of the end of EXECUTE. -/
  trigAt : Nat
  /-- The lane clock in which the trigger reaches the sequencer (Table 4.3). -/
  ready : Nat
  startAt : Nat
  execEnd : Nat
  /-- A flag fall of the ply in progress (R77). -/
  fell : Bool
  /-- The error cause word and the lists of lost and returned stations (R81, 05 Table 5.7). -/
  cause : Nat
  lost : Nat
  back : Nat
  /-- What the latest FREEZE put into the freeze status. -/
  causeF : Nat
  lostF : Nat
  backF : Nat
  /-- The instant of the next trigger in its time base, if one is scheduled; whether that time base is
  network time; and whether the class was re-anchored since (R66, R67). -/
  next : Option Nat
  aligned : Bool
  reanch : Bool
  /-- Timing in lane clocks of 1.25 ns (R74, R75): the clock in which the own clock 0 of the phase, or in EXECUTE of the partition,
  falls; the own clocks done where it is stopped for work of a higher level; the mailboxes copied. -/
  base : Nat
  stop : Option Nat
  pos : Nat
  /-- FRESH bits gathered by the FREEZE in progress (R69). -/
  news : Nat
  /-- MIRROR-WAIT: MT from which its time-out runs, none while it is preempted, and the ns it has run before (R72). -/
  since : Option Nat
  ran : Nat
  deriving DecidableEq, Repr

def PlySt.idle : PlySt := ⟨0, 0, false, 0, 0, true, 0, 0, 0, 0, false, 0, 0, 0, 0, 0, 0, none, false, false, 0, none, 0, 0, none, 0⟩

/-- A result in flight: the lane clock (of MT) in which it completes, where it goes, and whether its write is made
(05 R89, R91, R93). `kind` 0 memory, 1 lane register, 2 predicate. Its destination operand and row are kept for XE.LS (R100). -/
structure Flight where
  row : Nat
  dst : Nat
  at_ : Nat
  col : Nat
  kind : Nat
  addr : Nat
  size : Nat
  value : Nat
  on : Bool
  deriving DecidableEq, Repr

/-- The sequencer position of one level (05 R85, R96–R99). -/
structure Seq where
  part : Nat
  row : Nat
  iter : Nat
  /-- The RUN body: first row, rows, iterations left to start, strides by column; 0 rows outside a body. -/
  first : Nat
  rows : Nat
  count : Nat
  istride : List Nat
  cstride : List Nat
  issued : Nat
  clock : Nat
  flight : List Flight
  /-- A partition was entered, and whether the main partition follows the error task; the rows of the error task before it. -/
  begun : Bool
  follows : Bool
  ended : Bool
  before : Nat
  deriving DecidableEq, Repr

def Seq.idle : Seq := ⟨0, 0, 0, 0, 0, 0, [], [], 0, 0, [], false, false, true, 0⟩

/-- One entry of a force table (07 R156, R162). -/
structure Force where
  symid : Nat
  offset : Nat
  tvf : Bool
  valid : Bool
  type : Nat
  value : Nat
  mask : Nat
  deriving DecidableEq, Repr

def Force.none : Force := ⟨0, 0, false, false, 0, 0, 0⟩

/-- The change package that firmware holds, and the seal in progress (07 Table 7.1, R149–R152). -/
structure Seal where
  /-- Old and new LAYOUTID of the package header. -/
  oldId : Nat
  newId : Nat
  hash : Nat
  /-- Direction armed, the marker was received, and the ply of SEALCLS whose COMMIT has ended. -/
  rev : Bool
  marker : Bool
  passed : Bool
  /-- T_SW of the switch in progress, in ns (R146). -/
  took : Nat
  /-- MT at which the switch began. -/
  since : Nat
  /-- Whether VERIFY or a switch put the staged program there (STATE to return to on a cancel). -/
  fromVerified : Bool
  deriving DecidableEq, Repr

/-- A warm restart (03 R56): D in µs, none where the calendar cannot give it, MT at the end of the restore, and the instance
offsets of the retained tagged values. -/
structure Warm where
  d : Option Nat
  mt : Nat
  offs : List Nat
  deriving DecidableEq, Repr

/-- An access by a fabric master (18 R382, R385). -/
structure Access where
  m : Nat
  priv : Bool
  kind : AccessKind
  addr : Nat
  size : Nat
  data : List (BitVec 8)
  deriving DecidableEq, Repr

/-- What XE holds beside its registers (04–07). -/
structure Xe where
  works : SMap PlySt
  seqs : SMap Seq
  /-- Lane registers, at (level × 4 + column) × 64 + register; predicates, at level × 4 + column. -/
  lanes : SMap Nat
  preds : SMap Nat
  /-- The last buffer taken (fill number + 1) and its MTS + 1, at ((w × 16 + segment) × 32 + station) × 2 + half. -/
  takes : SMap Nat
  takeMts : SMap Nat
  /-- PLY_T + 1 of the own ply that last wrote a 16-byte granule of instance memory, at offset / 16 (01 R14). -/
  wrote : SMap Nat
  /-- The tagged values last taken, at ((w × 16 + segment) × 32 + station) × 32 + line; and whether the
  mailbox's last FREEZE wrote substitutes. -/
  lastTv : SMap Nat
  subst : SMap Bool
  /-- Retain lines written in the C2 ply in progress, rising (05 R109). -/
  marks : List Nat
  /-- The active and the staged force table by entry number (07 R155, R160). -/
  forces : SMap Force
  staged : SMap Force
  /-- Active-table writes that await their effect clock: entry number and entry (07 R157). -/
  ftPend : List (Nat × Force)
  sl : Seal
  /-- Event-task triggers held during a switch (07 R152). -/
  held : List Nat
  /-- A warm restart whose retained values await their first FREEZE (03 R56). -/
  warm : Option Warm
  /-- Fabric accesses that wait for the end of a switch (07 R152). -/
  waits : List Access
  /-- The lane clock up to which the lanes and the mailbox path are taken (R75, R99, R461). -/
  clk : Nat
  deriving DecidableEq, Repr

/-- What TE holds beside its registers (08). Bit vectors are held as numbers, bit k for cell k. -/
structure Te where
  /-- The words of the configuration store (08 Table 8.6), by word number. -/
  store : SMap Nat
  /-- A LOCK whose checks have passed is in progress (R176, R177). -/
  locking : Bool
  /-- The 112 sums and the F bits of the last pass. -/
  sums : Nat
  f : Nat
  /-- Timers whose count runs, and the MT plus 1 at which it began (R166). -/
  counting : Nat
  tFrom : SMap Nat
  /-- The most recent valid REFLEX payload of each station, at 32 × segment + station, and the MT plus 1 of its end (R172). -/
  rxPay : SMap Nat
  rxAt : SMap Nat
  /-- Self-test bursts left in this diagnostic pass (R179). -/
  bursts : Nat
  deriving DecidableEq, Repr

/-- One entry of a schedule table (09 Table 9.8). -/
structure Slot where
  start : Nat
  round : Nat
  kind : Nat
  station : Nat
  syncst : Bool
  dual : Bool
  p : Nat
  chan : Nat
  deriving DecidableEq, Repr

/-- A downlink message queued for a station (10 R217, R229): its type, bytes and sequence number, the next fragment, the number of
fragments once the first has gone out, how often it was sent, and the MT of its last fragment. `held`: abandoned, until the station
is next in PARAMETERISING (R224). -/
structure SvcMsg where
  mtype : Nat
  bytes : List (BitVec 8)
  seq : Nat
  frag : Nat := 0
  count : Nat := 0
  sends : Nat := 0
  at_ : Nat := 0
  held : Bool := false
  deriving DecidableEq, Repr

/-- What a segment controller keeps of one station beside its registers (10). -/
structure StSt where
  /-- Valid frames of this cycle: bit 0 channel A, bit 1 channel B; whether one came in the cycle before. -/
  valid : Nat := 0
  prev : Bool := false
  /-- A valid DATA frame with SSTATE RUN and the expected PCHK, and one without. -/
  good : Bool := false
  bad : Bool := false
  /-- The votes of this cycle, by channel: 0 no frame, 1 + VOTE. -/
  voteA : Nat := 0
  voteB : Nat := 0
  /-- Consecutive cycles without a valid frame on the channel of half A and half B. -/
  missA : Nat := 0
  missB : Nat := 0
  /-- Fill numbers of the in-mailbox halves: how many frames each has taken. -/
  fillA : Nat := 0
  fillB : Nat := 0
  /-- A class ended its substitution since the station became OPERATE (R223). -/
  ended : Bool := false
  /-- A dual frame has filled the buffer in this cycle (09 R194); the state was evaluated in this cycle; TIMING was queued in this
  parameterisation (R217). -/
  filled : Bool := false
  done : Bool := false
  timed : Bool := false
  /-- The echo delay in the last DATA frame, by channel (R209). -/
  echoA : Option Nat := none
  echoB : Option Nat := none
  /-- Uplink message in progress: sequence number plus 1, the fragments taken, its bytes so far; the last downlink number. -/
  upSeq : Nat := 0
  upGot : Nat := 0
  upLen : Nat := 0
  downSeq : Nat := 0
  deriving DecidableEq, Repr

def StSt.idle : StSt := {}

/-- A bus guardian (10 R211): its reckoned start of the cycle (MT), the cycle count, the clean pulses since it re-seeded in a block,
and the cycles that its calibration has run over. -/
structure Guard where
  at_ : Nat := 0
  cyc : Nat := 0
  clean : Nat := 0
  cal : Nat := 0
  deriving DecidableEq, Repr

/-- What a segment controller keeps beside its registers (09, 10): its copy of the schedule table. -/
structure Rmt where
  rounds : Nat := 0
  ownall : Bool := false
  slots : List Slot := []
  mini : List Nat := []
  /-- Joined the cluster: it takes part in RMC's state (R226). -/
  joined : Bool := false
  /-- Format and CRC errors since cycle count 0. -/
  errs : Nat := 0
  /-- The bus guardians of channel A and B. -/
  ga : Guard := {}
  gb : Guard := {}
  /-- The last whole frame sent on a channel and its start (MT), until its echo; sum and count of the echo delays of this cycle in
  ns (R209). -/
  sentA : Option (Nat × List (BitVec 8)) := none
  sentB : Option (Nat × List (BitVec 8)) := none
  echoA : Nat × Nat := (0, 0)
  echoB : Nat × Nat := (0, 0)
  /-- The slot plus 1 in which a channel is ignored since its check 7 failed (R191), A and B. -/
  muteA : Nat := 0
  muteB : Nat := 0
  /-- The echo values that the last TIMING messages told, A and B (10 R217). -/
  toldA : Nat := 0
  toldB : Nat := 0
  deriving DecidableEq, Repr

def Rmt.idle : Rmt := {}

/-- What RMC keeps beside its registers (09). A sync node is numbered 0 side A, 1 side B, 2 + 32 × segment +
station a sync station. Deviations in ns. -/
structure Rmc where
  /-- Measurements of this cycle: node, deviation; mean deviations of the cycle before; o of that cycle. -/
  meas : List (Nat × Int)
  prev : List (Nat × Int)
  prevO : Int
  /-- The MT at which this cycle began, in ns between ticks; the o that acts on its end; the NIT's corrections are made; the MT of the
  entry into LISTEN or BACKOFF; the MT of the minislot last sampled (08 R173). -/
  start : Nat
  shift : Int
  nit : Bool
  since : Nat
  sample : Nat
  /-- This CSF cycle is met; a frame that keeps LISTEN from COLDSTART was heard. -/
  met : Bool
  heard : Bool
  /-- Integration: its node, whether on CSF frames, the cycle count above that of the CSF with CSFLEFT 0, and the step: 0 no frame
  yet, 1 placed, 2 in the cycle after, 3 confirmed, 4 correcting. -/
  node : Nat
  onCsf : Bool
  target : Nat
  step : Nat
  /-- Good cycles in a row (PASSIVE, INTEGRATE); R208: a late frame of side A in this cycle, and in how many cycles before. -/
  good : Nat
  offA : Bool
  offRun : Nat
  /-- MTCS plus 1 by cycle count (09 R193). -/
  mtcs : SMap Nat
  deriving DecidableEq, Repr

/-- A mirror transfer of one writer being received (11 R237): its ply, the chunks taken, the chunk count once known. -/
structure Rx where
  ply : Nat
  got : Nat
  want : Nat
  deriving DecidableEq, Repr

/-- A MIRROR chunk that waits for the end of a switch (07 R154): `count` is the writer's chunk count where it is the last one, else 0. -/
structure Chunk where
  writer : Nat
  ply : Nat
  offset : Nat
  count : Nat
  data : List (BitVec 8)
  deriving DecidableEq, Repr

/-- What PAIR and the pair links hold beside their registers (11). -/
structure PairSt where
  /-- Each link's latest HEARTBEAT: own MT at its reception and the TXMT it carried. -/
  rx0 : Nat × Nat := (0, 0)
  rx1 : Nat × Nat := (0, 0)
  /-- Heartbeats on neither link for 100 µs (R232). -/
  silent : Bool := false
  /-- The partner is detected by its HEARTBEATs (R232); step 0x08 began at this MT (R233); the MT plus 1 at which a join last failed. -/
  heard : Bool := false
  step8At : Nat := 0
  failedAt : Nat := 0
  /-- The flags of the partner's latest HEARTBEAT (11 Table 11.2, byte 1), and its LAYOUTID. -/
  pflags : Nat := 0
  playout : Nat := 0
  /-- The BEACONs of the other side: one with LEASE in this cycle and in the one before, any in this cycle, one whose claim is a
  castling claim in this cycle; and what step 0x08 has heard: 0 none, 1 a BEACON, 2 one with LEASE (R233). -/
  beacon0 : Bool := false
  beacon1 : Bool := false
  beaconAny : Bool := false
  beaconCast : Bool := false
  step8 : Nat := 0
  /-- The claim in progress: 0 none, 1 unplanned, 2 castling, 3 restart, 4 the lead's own after R262. `claimCyc` 0 until the cycle
  after the one in which it was made, then the number of its claim cycle. -/
  claimKind : Nat := 0
  claimCyc : Nat := 0
  /-- A castling request received (1 planned, 2 forced); the kind this module requested; a majority for the castling claim. -/
  castRecv : Nat := 0
  castKind : Nat := 0
  castMaj : Bool := false
  /-- A castling request of a class fault reaction waits for the end of a switch (07 R161). -/
  castDue : Bool := false
  /-- Handed over in this cycle; the TRACK entry comes at its end (R260 step 6). LEAD was entered by a handover in this cycle
  (R260 step 5). -/
  handed : Bool := false
  newLead : Bool := false
  /-- The next SEQ sent and the next SEQ expected, plus 1, by link and type, at 16 × link + type. -/
  txSeq : SMap Nat := []
  rxSeq : SMap Nat := []
  /-- MIRROR and BULK frames sent on a link since the last ply began: link, type, flags, payload, the oldest first (R237). -/
  flight : List (Nat × Nat × Nat × List (BitVec 8)) := []
  /-- The class and lane clock of the last COMMIT that ended, as class plus 1; 0 none (R260). -/
  lastCommit : Nat × Nat := (0, 0)
  /-- MIRROR transfers received, by writer code. -/
  rx : SMap Rx := []
  /-- Chunks and ranges sent of the ply in progress, by writer code. -/
  sent : SMap (Nat × Nat) := []
  /-- Lines of HOST ranges written and not sent, rising; instance lines written during a join, rising. -/
  host : List Nat := []
  dirty : List Nat := []
  /-- Lines of the dirty round in progress (R242). -/
  round : Nat := 0
  /-- The two mirror lists, by word number: staged, active. -/
  staged : SMap Nat := []
  active : SMap Nat := []
  /-- This module is the lead of a join; the mirror chunks queued during a switch; the CRC owed to the lead. -/
  joinLead : Bool := false
  queued : List Chunk := []
  crcOwed : Bool := false
  /-- The final ply of a join, as its work plus 1, 0 none, and the marked lines it carried (R242). -/
  finalW : Nat := 0
  finalLines : List Nat := []
  /-- A mirror escape was recorded whose reaction is due. -/
  esc : Bool := false
  deriving DecidableEq, Repr

/-- What TIM holds beside its registers (12). -/
structure TimSt where
  /-- NTHI:NT and the fraction. -/
  nt : Nat
  frac : Nat
  /-- An accepted SET and accepted steps that await their tick: NTHI:NT, and ns in two's complement of 32 bits (R269, R270). -/
  set : Option Nat
  steps : List Nat
  /-- MT plus 1 of the matching tick of each channel whose 1PPS pulse is high (R275). -/
  pulses : SMap Nat
  /-- MT plus 1 of the last write to a channel's CFG or target: it matches from the tick after (R273). -/
  armed : SMap Nat
  /-- MT from which the missing-edge count of the 1PPS input runs (R277). -/
  edgeAt : Nat
  deriving DecidableEq, Repr

/-- A calendar time: year from 2000, month and day from 1 (13 R290). -/
structure Cal where
  year : Nat
  month : Nat
  day : Nat
  hour : Nat
  min : Nat
  sec : Nat
  deriving DecidableEq, Repr

/-- 2000-01-01 00:00:00 (13 R286). -/
def Cal.start : Cal := ⟨0, 1, 1, 0, 0, 0⟩

/-- What the backup domain holds beside its registers (13). The prescaler is `base` at the instant `at_` of MT and counts on from
there (log entry 13); `opBase` and `opAt` are the same of the prescaler of OPSEC. -/
structure Bk where
  cal : Cal
  base : Int
  at_ : Nat
  /-- Calendar and prescaler of the tick before the second last changed (R296). -/
  prev : Cal
  prevSub : Nat
  opBase : Int
  opAt : Nat
  /-- The domain write that awaits its tick: byte offset in the page and word, and the MT of that tick (R289). -/
  wpend : Option (Nat × Nat)
  due : Nat
  /-- The calendar copy that awaits its tick, and the MT of that tick (R292). -/
  commit : Option Cal
  cdue : Nat
  /-- The MT at which the load of the cell began (R301). -/
  loadAt : Nat
  deriving DecidableEq, Repr

def Bk.lost : Bk := ⟨Cal.start, 0, 0, Cal.start, 0, 0, 0, none, 0, none, 0, 0⟩

/-- One ply's retain lines in the hold buffer (14 R311, R312): ply, calendar seconds and prescaler at its COMMIT end, and the
lines not written yet, each with its index and content. -/
structure Held where
  ply : Nat
  sec : Nat
  sub : Nat
  lines : List (Nat × List (BitVec 8))
  deriving DecidableEq, Repr

/-- A checkpoint that runs (14 R315): its slot, SEQ and BEGIN; the SEQ and offset of the first entry above BEGIN once it is
written; END once the copy has ended; whether it is the one of a format (R323). -/
structure Ckpt where
  slot : Nat
  seq : Nat
  begin_ : Nat
  first : Option (Nat × Nat)
  end_ : Option Nat
  format : Bool
  deriving DecidableEq, Repr

/-- What CRT holds beside its registers (14). -/
structure CrtSt where
  /-- The fitted cartridge's identity block and NAND bytes (they leave with it). -/
  ident : List (BitVec 8)
  nand : SMap (BitVec 8)
  /-- Its slot directory and image book, by type and slot (20 R418). -/
  dir : List TypeDir
  book : SMap (BitVec 8)
  /-- Class by R305: 0 none, 1 OWNED, 2 BLANK, 3 REMOVED, 4 FOREIGN. -/
  cls : Nat
  /-- Sources 203 and 204 raised since the insertion (R307). -/
  warned : Bool
  /-- The hold buffer, oldest first; lines of the budget left in this C2 period. -/
  hold : List Held
  budget : Nat
  /-- Next journal offset and SEQ; bytes of journal since JOFF of the last valid checkpoint; that checkpoint's SEQ. -/
  pos : Nat
  seq : Nat
  used : Nat
  ckSeq : Nat
  /-- Last sealed ply; last committed C2 ply; a break awaits its checkpoint (R316). -/
  sealed_ : Nat
  lastC2 : Nat
  broken : Bool
  /-- A checkpoint is requested; the one that runs. -/
  want : Bool
  ck : Option Ckpt
  /-- The NAND operation in progress: 0 none, 1 read, 2 program, 3 erase; its page and DMA address. -/
  op : Nat
  opPage : Nat
  opDma : Nat
  /-- The bits of CMD whose operation runs (00 Table 0.4); the MT at which the latch closed (R322). -/
  cmd : Nat
  shutAt : Nat
  deriving DecidableEq, Repr

def CrtSt.none : CrtSt := ⟨[], [], [], [], 0, false, [], 0, 0x920000, 1, 0, 0, 0, 0, false, false, Option.none, 0, 0, 0, 0, 0⟩

/-- What ER holds beside its registers (15). A record is the list of its words. -/
structure ErSt where
  /-- Accepted records not on NAND yet, oldest first; how many of them the flush in progress writes, and whether one runs. -/
  queue : List (List Nat)
  flushN : Nat
  flushing : Bool
  /-- The MT at which the last flush began; a flush has fallen due otherwise (R334). -/
  lastFlush : Nat
  due : Bool
  /-- A record was accepted since reset (R330). -/
  accepted : Bool
  /-- The open unit, its next sector, the records in it, the SEQ of its last record. -/
  unit : Option Nat
  sector : Nat
  count : Nat
  last : Nat
  torn : Nat
  /-- The clear token while it is valid, and the MT at which it was read; the SEQ of the CLEARED record while a clear runs. -/
  token : Option Nat
  tokenAt : Nat
  clearing : Option Nat
  /-- Cursor moves in progress (1 oldest, 2 newest, 3 seek, 4 next) and cursor positions (SEQ + 1), by master. -/
  moves : SMap Nat
  pos : SMap Nat
  deriving DecidableEq, Repr

/-- What LIO holds beside its registers (16). Masks by output or input. -/
structure LioSt where
  /-- LAST values, outputs held at 0 after a SEATED contact opened. -/
  last : Nat
  seat : Nat
  /-- The last image applied from each class, and the classes whose last image was BAD (R350). -/
  img : SMap Nat
  badImg : Nat
  /-- Samples in a row that differ from the filtered level, by input; groups sampled since ON; MT of their samples. -/
  agree : SMap Nat
  sampled : Nat
  at_ : SMap Nat
  /-- Outputs that run in latched mode (R357, R359). -/
  mode : Nat
  /-- MT plus 1 at which the supply of a group counted as present again (R361). -/
  supAt : SMap Nat
  deriving DecidableEq, Repr

/-- A received frame in an object's queue, with the MT of its SOF (17 R370). -/
structure CanEntry where
  frame : CanFrame
  mt : Nat
  deriving DecidableEq, Repr

/-- A message object (17 R368–R374): its configuration, the payload and DLC that LOAD brought, its send state (OBJSTAT), and the
entries of its queue, oldest first. -/
structure CanObj where
  dir : Nat := 0
  ide : Bool := false
  fdf : Bool := false
  brs : Bool := false
  rtr : Bool := false
  lead : Bool := false
  ftype : Nat := 0
  retry : Nat := 0
  qdepth : Nat := 0
  id : Nat := 0
  mask : Nat := 0
  dlc : Nat := 0
  data : List (BitVec 8) := []
  txstate : Nat := 0
  attempts : Nat := 0
  qovf : Nat := 0
  queue : List CanEntry := []
  deriving DecidableEq, Repr

/-- What a rack-bus controller holds beside its registers (17): objects; the one whose frame is on the bus, that frame, whether its
request was cancelled and the MT of its start; the MT from which the controller waits for recessive bits (R367, R375, R376); TEC and REC without the limits of their fields. -/
structure RbSt where
  objs : SMap CanObj := []
  tx : Option Nat := none
  sent : Option CanFrame := none
  cancelled : Bool := false
  txAt : Nat := 0
  since : Nat := 0
  tec : Nat := 0
  rec_ : Nat := 0
  deriving DecidableEq, Repr

/-- A session (19 R402–R405): its number, MAC and host, role, whether FINISH opened it, the highest SEQ accepted and the SEQs
accepted above H − 64, the last 8 responses, the three keys, the transcript and the host's key for FINISH, and the MT of its HELLO or of
its last valid request. -/
structure Sess where
  id : Nat
  mac : Nat
  host : Nat
  role : Nat
  opened : Bool
  h : Nat
  seen : List Nat
  cache : List (Nat × Out)
  h2m : Nat
  m2h : Nat
  wrap : Nat
  transcript : List (BitVec 8)
  hostKey : Nat
  since : Nat
  deriving DecidableEq, Repr

/-- An open transfer of PKGLOAD or IMGLOAD (19 R409): its session, object, TOTAL, the offsets of the blocks held and the MT of the
last block. -/
structure Xfer where
  session : Nat
  image : Bool
  object : Nat
  total : Nat
  got : List Nat
  since : Nat
  deriving DecidableEq, Repr

/-- A command whose response is still to come (19 Table 19.3): the packet it answers, for SEAL the dropped symbols, and the
MT of the request. -/
structure Waiting where
  cmd : Nat
  mac : Nat
  host : Nat
  session : Nat
  seq : Nat
  object : Nat
  list : List Nat
  since : Nat
  deriving DecidableEq, Repr

/-- What NCP firmware holds (19). -/
structure Ncp where
  sess : List Sess := []
  xfers : List Xfer := []
  archive : Option Archive := none
  /-- The package's symbol table, as loaded by bytes; after a switch, the symbol table and the class configuration (CFG and PER
  words) of the program just left, until a new table is loaded. -/
  symBytes : SMap (BitVec 8) := []
  symLen : Nat := 0
  prevSyms : Option (List Sym) := none
  prevCls : List (Nat × Nat) := []
  /-- The SEAL that waits for the partner's reply: direction and ply; the FORCE that does: entry number and entry. -/
  sealGo : Option (Bool × Nat) := none
  forceGo : Option (Nat × Force) := none
  /-- Commands that wait: CASTLE, VERIFY, SEAL or UNSEAL, FORCE, IMGLOAD; ACYC by 32 × segment + station. -/
  castle : Option Waiting := none
  verify : Option Waiting := none
  seal_ : Option Waiting := none
  force : Option Waiting := none
  img : Option Waiting := none
  acyc : SMap (Option Waiting) := []
  /-- The publication keys, whether they were generated, the one in use; SEQ by publication. -/
  key0 : Nat := 0
  key1 : Nat := 0
  hasKeys : Bool := false
  keyUse : Nat := 0
  /-- MT from which the other key is used (R414). -/
  flipAt : Option Nat := none
  pubSeq : SMap Nat := []
  /-- MT at which the keys were last replaced (R414), and from which a publication is due again (R413). -/
  keyAt : Nat := 0
  pubDue : SMap Nat := []
  /-- The second of MT in which refusals were last sent on a MAC, and their number (R400). -/
  refuse : SMap (Nat × Nat) := []
  deriving DecidableEq, Repr

/-- A stamp in a time-stamp FIFO (12 R279). -/
structure Stamp where
  msgtype : Nat
  domain : Nat
  seqid : Nat
  nt : Nat
  gen : Nat
  deriving DecidableEq, Repr

/-- What a MAC holds beside its registers (12 R279, 19 R416): its stamp FIFOs, oldest first; a frame is being sent, its bytes; whether its rings are
in use. -/
structure Emac where
  tx : List Stamp := []
  rx : List Stamp := []
  sending : Bool := false
  frame : List (BitVec 8) := []
  scan : Bool := false
  deriving DecidableEq, Repr

/-- What UPD holds beside its registers (20): the open transfer's total length, the offsets of its blocks held, rising, whether its
header passed, the blocks held before offset 0, and whether a verification runs. -/
structure UpdSt where
  total : Nat
  got : List Nat
  head : Bool
  early : List (Nat × List (BitVec 8))
  verifying : Bool
  /-- The recovery service's images held in LPDDR5, verified, by type (bit k−1). -/
  ram : Nat
  /-- Types loaded from a pending slot at this start (R422). -/
  tried : Nat
  /-- The images this start loaded, as LPDDR5 holds them: their directory entries and bytes (14 R323, 20 R424). -/
  copyDir : List TypeDir
  copies : SMap (BitVec 8)
  deriving DecidableEq, Repr

/-- A fault stops the machine. No rule of the spec stops the module: every error it describes is a state. -/
inductive Fault where
  /-- Raised by no command; the type is closed and the spec gives the block no stop. Safe. -/
  | none
  deriving DecidableEq, Repr

/-- A refusal: the command has no meaning. -/
inductive Refusal where
  /-- Raised by an arm of `exec` whose command has no meaning yet. Safe: nothing is claimed of it. -/
  | notModelled (mnemonic : String)
  deriving DecidableEq, Repr

/-- The state of the module (INVENTORY.md, State). Sparse maps list an entry only where it differs from its default. -/
structure State where
  /-- The register fields by key, listed where they differ from their reset value (Machine/Regs.lean). -/
  regs : SMap Nat
  /-- The bytes of the physical map of 02 Table 2.1 that differ from the unlisted byte. -/
  mem : List Host.Cell
  /-- The answer to the last bus access (the model's own). -/
  bus : Bus
  /-- What the module has sent or answered, newest first (the model's own). -/
  outs : List Out
  /-- The counter of free values (the model's own; log entry 2). -/
  free : Nat
  /-- The commands that wait, first in first out (the form of this row). -/
  pending : List Instr
  /-- The pair (1 for CP0, 2 for CP1) that claimed a maskable source in service (02 R40). -/
  evcOwner : SMap Nat
  /-- SYS beside its registers (03, 22). -/
  sys : Sys
  /-- PWR beside its registers (03, 22). -/
  pwr : Pwr
  /-- SAF beside its registers (21). -/
  saf : Saf
  /-- The region entries: gate g, entry i at 16 g + i (18 R384, R390). -/
  gates : SMap GateEntry
  /-- Whether the current challenge has not served an UNLOCK yet (18 R392). -/
  chalFresh : Bool
  /-- The half an accepted ACTIVATE is checking, plus 1; 0 none (05 R103). -/
  act : Nat
  /-- MT in ns, 64 bits (12 R265); it restarts at 0 at every reset. -/
  mt : Nat
  /-- XE beside its registers (04–07). -/
  xe : Xe
  /-- TE beside its registers (08). -/
  te : Te
  /-- The segment controllers beside their registers, by segment (09, 10). -/
  rmts : SMap Rmt
  /-- The stations, at 32 × segment + station (10). -/
  stns : SMap StSt
  /-- Downlink messages pending, at 32 × segment + station (10 R217). -/
  svc : SMap (List SvcMsg)
  /-- RMC beside its registers (09). -/
  rmc : Rmc
  /-- The flush at an entry into HOLD or at the power-fail warning is due (03 Table 3.1, 14 R320). -/
  crtFlush : Bool
  /-- PAIR and the links beside their registers (11). -/
  pr : PairSt
  /-- TIM beside its registers (12). -/
  tim : TimSt
  /-- The backup domain beside its registers (13). -/
  bk : Bk
  /-- CRT beside its registers, and the fitted cartridge but for its MRAM (14, 20). -/
  crt : CrtSt
  /-- ER beside its registers (15). -/
  er : ErSt
  /-- LIO beside its registers (16). -/
  lio : LioSt
  /-- The rack-bus controllers beside their registers (17). -/
  racks : SMap RbSt
  /-- NCP, which runs on the control cores (19). -/
  ncp : Ncp
  /-- The MACs beside their registers (12, 19). -/
  emacs : SMap Emac
  /-- UPD beside its registers (20). -/
  upd : UpdSt
  deriving DecidableEq, Repr

/-- The module right after a power-on reset: every field at its reset value. The registers are listed only where
they differ from the reset value of their row, so none is listed but those of pins and of the die. -/
def State.reset : State where
  regs := []
  mem := []
  bus := ⟨[], false, 0, false, 0⟩
  outs := []
  free := 0
  pending := []
  evcOwner := []
  sys := ⟨true, 0, false, 0, false, none⟩
  pwr := ⟨true, true, false, false, 0, false, 0, none, 0⟩
  saf := ⟨Wd.idle, Wd.idle, false, false, 0, none, 0, 1000000000⟩
  gates := []
  chalFresh := false
  act := 0
  mt := 0
  xe := ⟨[], [], [], [], [], [], [], [], [], [], [], [], [], ⟨0, 0, 0, false, false, false, 0, 0, false⟩, [], none, [], 0⟩
  te := ⟨[], false, 0, 0, 0, [], [], [], 0⟩
  rmts := []
  stns := []
  svc := []
  rmc := ⟨[], [], 0, 0, 0, false, 0, 0, false, false, 0, false, 0, 0, 0, false, 0, []⟩
  crtFlush := false
  pr := {}
  tim := ⟨0, 0, none, [], [], [], 0⟩
  bk := Bk.lost
  crt := CrtSt.none
  er := ⟨[], 0, false, 0, false, false, none, 0, 0, 0, 0, none, 0, none, [], []⟩
  lio := ⟨0, 0, [], 0, [], 0, [], 0, []⟩
  racks := []
  ncp := {}
  emacs := []
  upd := ⟨0, [], false, [], false, 0, 0, [], []⟩

/-- The same module of variant S08 (00 Table 0.1, 03 Table 3.9). -/
def State.resetS08 : State := { State.reset with regs := [(R.SYS_IDENT_VARIANT.key 0 0 0, 2)] }

end Sys2Proof.Machine
end

