-- ==== Sys2Proof/Machine/Ops.lean ====
section
/-! DEFINITION. The operations every unit shares: reading and writing a register field, recording an error, raising an
event, reading and writing memory, drawing a free value. -/

namespace Sys2Proof.Machine

/-- What a command answers. -/
abbrev Res := Host.Outcome State Fault Refusal

/-! Register fields. `k` is the entry of an array, `u` the unit instance, `m` the fabric master. -/

/-- The value a field holds. -/
def State.rd (s : State) (r : Row) (k u m : Nat := 0) : Nat := smGet (r.reset k u) s.regs (r.key k u m) % 2 ^ r.width

/-- The field set to `v`, cut to its width. -/
def State.wr (s : State) (r : Row) (v : Nat) (k u m : Nat := 0) : State :=
  { s with regs := smSet (r.reset k u) s.regs (r.key k u m) (v % 2 ^ r.width) }

/-- A one-bit field as a truth value. -/
def State.flag (s : State) (r : Row) (k u m : Nat := 0) : Bool := s.rd r k u m != 0

/-- A one-bit field set from a truth value. -/
def State.put (s : State) (r : Row) (b : Bool) (k u m : Nat := 0) : State := s.wr r (b2n b) k u m

/-- A counter field counted up, saturating or wrapping at its width. -/
def State.sat (s : State) (r : Row) (k u m : Nat := 0) (d : Nat := 1) : State :=
  s.wr r (satAdd r.width (s.rd r k u m) d) k u m
def State.wrap (s : State) (r : Row) (k u m : Nat := 0) (d : Nat := 1) : State :=
  s.wr r (wrapAdd r.width (s.rd r k u m) d) k u m

/-- Bit `i` of a field set to `b`. -/
def State.bitTo (s : State) (r : Row) (i : Nat) (b : Bool) (k u m : Nat := 0) : State :=
  s.wr r (nsetBit (s.rd r k u m) i b) k u m

/-- A two-word field written from one number, low word first. -/
def State.wr2 (s : State) (lo hi : Row) (v : Nat) (k u m : Nat := 0) : State :=
  (s.wr lo (v % 2 ^ 32) k u m).wr hi (v / 2 ^ 32) k u m
def State.rd2 (s : State) (lo hi : Row) (k u m : Nat := 0) : Nat :=
  s.rd lo k u m + s.rd hi k u m * 2 ^ 32

/-- A choice between two states. -/
def State.cond (b : Bool) (t e : State) : State := if b then t else e

/-- A list of updates, one after the other. -/
def State.each (s : State) (xs : List α) (f : State → α → State) : State := xs.foldl f s

/-! Pages and presence. -/

/-- The first page of the unit that holds page `p` (02 Table 2.2). -/
def firstPage (p : Nat) : Nat := if p = 0x04 then 0x03 else if 0x10 ≤ p ∧ p ≤ 0x13 then 0x10 else p

/-- The presence bit of a page's unit in SYS.UNITS0 (below 32) or SYS.UNITS1 (from 32 up), 03 Table 3.9. -/
def unitBit (p : Nat) : Option Nat :=
  let q := firstPage p
  if 0x20 ≤ q ∧ q ≤ 0x2F then some (q - 0x20)
  else match q with
    | 0x30 => some 16 | 0x38 => some 17 | 0x39 => some 18 | 0x3A => some 19 | 0x40 => some 20
    | 0x41 => some 21 | 0x42 => some 22 | 0x43 => some 23 | 0x48 => some 24 | 0x50 => some 25
    | 0x51 => some 26 | 0x58 => some 27 | 0x60 => some 28 | 0x61 => some 29 | 0x68 => some 30
    | 0x70 => some 31 | 0x00 => some 32 | 0x01 => some 33 | 0x02 => some 34 | 0x03 => some 35
    | 0x05 => some 36 | 0x06 => some 37 | 0x10 => some 38 | 0x18 => some 39
    | _ => none

/-- SYS.UNITS0 and SYS.UNITS1: the values of the variant, F16 or S08 (03 Table 3.9); of a reserved variant code the die's own (00 R4). -/
def State.units0 (s : State) : Nat :=
  match s.rd R.SYS_IDENT_VARIANT with
  | 1 => 0xFFFFFFFF
  | 2 => 0xD7FF00FF
  | _ => s.rd R.SYS_UNITS0
def State.units1 (s : State) : Nat :=
  match s.rd R.SYS_IDENT_VARIANT with
  | 1 => 0xFFF
  | 2 => 0x3FF
  | _ => s.rd R.SYS_UNITS1

/-- The unit of page `p` is present (00 R3, 02 R23, R26): its bit in SYS.UNITS is 1. -/
def State.present (s : State) (p : Nat) : Bool :=
  match unitBit p with
  | some b => if b < 32 then nbit s.units0 b else nbit s.units1 (b - 32)
  | none => false

/-- An ERRINFO record: the first error's code and offset, and MORE for a further one (02 Table 2.3). -/
def State.err (s : State) (page code off : Nat) : State :=
  let p := firstPage page
  if s.rd R.H_ERR_CODE 0 p = 0 then (s.wr R.H_ERR_CODE code 0 p).wr R.H_ERR_OFFSET off 0 p
  else s.wr R.H_ERR_MORE 1 0 p

/-! Events within a unit (02 R30). -/

/-- The local event condition `bit` of page `p` takes the level `b`; a rise sets the EVSTAT bit. -/
def State.evLevel (s : State) (p bit : Nat) (b : Bool) : State :=
  let raw := s.rd R.H_EVRAW 0 p
  let s1 := s.wr R.H_EVRAW (nsetBit raw bit b) 0 p
  if b && !nbit raw bit then s1.wr R.H_EVSTAT (nsetBit (s1.rd R.H_EVSTAT 0 p) bit true) 0 p else s1

/-- An event that is reported while its EVRAW bit is already at 1: the EVSTAT bit is set (03 R45). -/
def State.report (s : State) (p bit : Nat) : State := s.wr R.H_EVSTAT (nsetBit (s.rd R.H_EVSTAT 0 p) bit true) 0 p

/-- A condition that lasts for the instant of its event only: the EVRAW bit rises and falls. -/
def State.ev (s : State) (p bit : Nat) : State := (s.evLevel p bit true).evLevel p bit false

/-- The EVRAW bits of each unit that assert an event source (each chapter's mapping; 02 Table 2.8). CLK's bits
are the model's choice (log entry 7). -/
def srcBits (n : Nat) : List (Nat × Nat) :=
  if n ≤ 4 then [(0x05, n)]
  else if n = 5 then [(0x01, 0)]
  else if n = 6 then [(0x02, 0)]
  else if n = 7 then [(0x01, 1)]
  else if n = 8 then [(0x00, 0), (0x00, 2), (0x00, 3)]
  else if n = 9 then [(0x00, 1)]
  else if n = 10 then [(0x01, 2)]
  else if n = 11 then [(0x01, 3)]
  else if n = 12 then [(0x02, 1)]
  else if n ≤ 15 then [(0x05, n - 8)]
  else if n ≤ 23 then [(0x10, n - 16)]
  else if n ≤ 31 then [(0x18, n - 24)]
  else if n ≤ 159 then
    let p := 0x20 + (n - 32) / 8
    match (n - 32) % 8 with
    | 0 => [(p, 0)] | 1 => [(p, 1)] | 2 => [(p, 2), (p, 3)] | 3 => [(p, 4)]
    | 4 => [(p, 5)] | 5 => [(p, 6)] | 6 => [(p, 7)] | _ => [(p, 8)]
  else if n ≤ 161 then [(0x38, n - 160)]
  else if n ≤ 163 then [(0x39, n - 162)]
  else if n ≤ 174 then [(0x3A, n - 164)]
  else if n = 175 then []
  else if n ≤ 187 then [(0x40, n - 176)]
  else if n ≤ 190 then [(n - 123, 0), (n - 123, 1), (n - 123, 2), (n - 123, 3), (n - 123, 4)]
  else if n = 191 then [(0x40, 12)]
  else if n ≤ 199 then [(0x48, n - 192)]
  else if n ≤ 205 then [(0x50, n - 200)]
  else if n ≤ 207 then [(0x51, n - 206)]
  else if n ≤ 219 then [(0x58, n - 208)]
  else if n ≤ 223 then []
  else if n ≤ 227 then [(0x60, n - 224)]
  else if n ≤ 231 then [(0x61, n - 228)]
  else if n ≤ 235 then [(0x68, n - 232)]
  else if n ≤ 238 then [(n - 171, 5)]
  else if n = 239 then []
  else if n ≤ 247 then [(0x06, n - 240)]
  else if n ≤ 251 then [(0x70, n - 248)]
  else if n ≤ 253 then [(0x30, n - 252)]
  else []

/-- Event source `n` is raised: its (first) EVRAW bit rises and falls. -/
def State.raise (s : State) (n : Nat) : State :=
  match srcBits n with
  | (p, b) :: _ => s.ev p b
  | [] => s

/-- The EVEN bits of a page that are mapped to the non-maskable sources 0–7 and read 1 (02 R30). -/
def evenFixed (p : Nat) : Nat :=
  (upTo 8).foldl (fun a n => (srcBits n).foldl (fun a e => if e.1 = p then nsetBit a e.2 true else a) a) 0

/-- A source asserts while an EVSTAT bit mapped to it is set with its EVEN bit set, in a present unit (R26, R30). -/
def State.asserts (s : State) (n : Nat) : Bool :=
  (srcBits n).any fun e =>
    s.present e.1 && nbit (s.rd R.H_EVSTAT 0 e.1) e.2 && nbit (s.rd R.H_EVEN 0 e.1 ||| evenFixed e.1) e.2

/-! Wires, free values. -/

def State.out (s : State) (o : Out) : State := { s with outs := o :: s.outs }

/-- Both SEATED contacts are made (22 R448). -/
def State.contactsMade (s : State) : Bool := s.pwr.seated1 && s.pwr.seated2

/-- Frames in transmission on the rack buses are cut (17 R377; 22 R448). -/
def State.rbCut (s : State) : State := { s with outs := ((s.racks.filter fun e => e.2.tx.isSome).map fun e => Out.canCut e.1) ++ s.outs }

/-- A fresh free value (log entry 2) and the state with the counter advanced. -/
def State.draw (s : State) : Nat × State := (Config.free s.free, { s with free := s.free + 1 })

/-! Memory. An unlisted byte reads 0 (log entry 3). -/

/-- What an unlisted byte reads as. -/
def memDefault : BitVec 8 := 0

abbrev Memory.wf (m : List Host.Cell) : Prop := smWf memDefault m = true

def State.rb (s : State) (a : Nat) : BitVec 8 := smGet memDefault s.mem a
def State.wb (s : State) (a : Nat) (v : BitVec 8) : State := { s with mem := smSet memDefault s.mem a v }

/-- `n` bytes from address `a` up. -/
def State.rbs (s : State) (a : Nat) : Nat → List (BitVec 8)
  | 0 => []
  | n + 1 => s.rb a :: s.rbs (a + 1) n

/-- Bytes stored from address `a` up. -/
def State.wbs (s : State) (a : Nat) : List (BitVec 8) → State
  | [] => s
  | b :: bs => (s.wb a b).wbs (a + 1) bs

/-- Little-endian numbers in memory (00 Conventions). -/
def State.rdLe (s : State) (a n : Nat) : Nat := leNat (s.rbs a n)
def State.wrLe (s : State) (a n v : Nat) : State := s.wbs a (leBytes n v)

/-- Bytes copied within memory. -/
def State.copy (s : State) (src dst n : Nat) : State := s.wbs dst (s.rbs src n)

/-! The base addresses of 02 Table 2.1. -/

def romBase : Nat := 0x000000000
def instBase : Nat := 0x010000000
def moveBase (half : Nat) : Nat := 0x018000000 + half * 0x001000000
def constBase (half : Nat) : Nat := 0x01C000000 + half * 0x000200000
def sramBase : Nat := 0x020000000
def pageBase : Nat := 0x040000000
def stBase (seg : Nat) : Nat := 0x050000000 + seg * 0x000100000
def cartBase : Nat := 0x060000000
def dramBase : Nat := 0x080000000

/-! Frequently read state. -/

/-- The major mode (03 Table 3.1): 0 DORMANT, 1 START, 2 TRACK, 3 LEAD, 4 HOLD, 5 SERVICE. -/
def State.mode (s : State) : Nat := s.rd R.SYS_MODE_MODE
def State.isLead (s : State) : Bool := s.mode == 3
def State.isTrack (s : State) : Bool := s.mode == 2
def State.isHold (s : State) : Bool := s.mode == 4
def State.isService (s : State) : Bool := s.mode == 5

/-- The variant is S08 (00 Table 0.1). -/
def State.isS08 (s : State) : Bool := s.rd R.SYS_IDENT_VARIANT == 2

/-- The module is side B (22 R447). -/
def State.side (s : State) : Nat := s.rd R.SYS_SLOT_SIDE

/-- The state of a unit: 0 OFF, 1 STARTING, 2 ON, 3 DRAINING, 4 FAULT (02 Table 2.3). -/
def State.unit (s : State) (p : Nat) : Nat := s.rd R.H_STATE 0 (firstPage p)
def State.unitOn (s : State) (p : Nat) : Bool := s.unit p == 2

/-- The units that the flush-only phase keeps powered: AON, BKD, the fabric with its gates, CRT, and ER, whose flush it serves (01 R17,
22 R451; log entry 42). -/
def flushKeeps (p : Nat) : Bool := [0x00, 0x01, 0x02, 0x03, 0x05, 0x06, 0x40, 0x48, 0x50, 0x51].contains (firstPage p)
/-- The power domain of the unit of page `p` is on, as far as the flush-only phase switches it off (01 R17). -/
def State.powered (s : State) (p : Nat) : Bool := !s.pwr.off || flushKeeps p

/-- The unit of page `p` runs: present, powered, and ON, or DRAINING, in which it finishes what it has begun. -/
def State.running (s : State) (p : Nat) : Bool := s.present p && s.powered p && (s.unit p == 2 || s.unit p == 3)

/-- The unit of page `p` is present, powered and ON: it begins new work. -/
def State.on (s : State) (p : Nat) : Bool := s.present p && s.powered p && s.unit p == 2

/-- The safe state is driven (21 R428). -/
def State.safe (s : State) : Bool := s.flag R.SAF_STAT_SAFE

end Sys2Proof.Machine
end

