-- ==== Sys2Proof/Machine/Units.lean ====
section
/-! DEFINITION. What every unit page does alike (02 R25–R37): the lock sequence, EVFORCE, enabling and draining, the soft
reset of the register fields. -/

namespace Sys2Proof.Machine

/-- An access to any page of a unit between the two keys of its LOCK breaks the sequence (02 R33). -/
def State.touch (s : State) (page : Nat) : State :=
  let p := firstPage page
  if s.flag R.H_LOCK_ARMED 0 p then (s.wr R.H_LOCK_ARMED 0 0 p).err p 0x05 0x028 else s

/-- A register access to page `page`: nothing happens on the page of an absent unit (02 R26). -/
def State.onPage (s : State) (page : Nat) (f : State → State) : State :=
  if s.present page then f (s.touch page) else s

/-- A write to LOCK (02 R33): the first key arms, the second locks, anything else breaks the sequence. -/
def State.lockWrite (s : State) (page v : Nat) : State :=
  let p := firstPage page
  if !s.present p || s.flag R.H_LOCK_LOCKED 0 p then s
  else if v = 0x4C4F then s.wr R.H_LOCK_ARMED 1 0 p
  else if v = 0x434B ∧ s.flag R.H_LOCK_ARMED 0 p then (s.wr R.H_LOCK_ARMED 0 0 p).wr R.H_LOCK_LOCKED 1 0 p
  else (s.wr R.H_LOCK_ARMED 0 0 p).err p 0x05 0x028

/-- A write to EVFORCE (02 R31). -/
def State.evforce (s : State) (page v : Nat) : State :=
  let p := firstPage page
  if s.flag R.H_LOCK_LOCKED 0 p && !s.isService then s.err p 0x06 0x024
  else s.wr R.H_EVSTAT (s.rd R.H_EVSTAT 0 p ||| v) 0 p

/-- Units whose CTRL.EN is RO: the AON units (02 R464) and those whose chapter says so. -/
def enRo (page : Nat) : Bool :=
  [0x00, 0x01, 0x02, 0x03, 0x05, 0x06, 0x18, 0x30, 0x3A, 0x40, 0x48, 0x50, 0x68].contains (firstPage page)

def State.setUnit (s : State) (page st : Nat) : State := s.wr R.H_STATE st 0 (firstPage page)

/-- The register part of a write to CTRL.EN by 02 Table 2.5 (R35, R37). -/
def State.enTransition (s : State) (page : Nat) (en : Bool) : State :=
  let p := firstPage page
  let s := s.put R.H_CTRL_EN en 0 p
  match s.unit p, en with
  | 0, true => s.setUnit p 1
  | 2, false => s.setUnit p 3
  | 3, true => s.wr R.H_EN_PENDING 1 0 p
  | 3, false => s.wr R.H_EN_PENDING 0 0 p
  | 4, false => s.setUnit p 0
  | _, _ => s

/-- The end of draining (02 Table 2.5). -/
def State.drained (s : State) (page : Nat) : State :=
  let p := firstPage page
  if s.flag R.H_EN_PENDING 0 p then (s.setUnit p 1).wr R.H_EN_PENDING 0 0 p else s.setUnit p 0

/-- The unit enters FAULT (02 Table 2.5). -/
def State.toFault (s : State) (page : Nat) : State :=
  let p := firstPage page
  (s.setUnit p 4).wr R.H_EN_PENDING 0 0 p

/-- The pages of the unit whose first page is `p`. -/
def unitPages (p : Nat) : List Nat :=
  if p = 0x03 then [0x03, 0x04] else if p = 0x10 then [0x10, 0x11, 0x12, 0x13] else [p]

/-- A stored field that a soft reset returns to its reset value: a block-specific RW field of the unit, or an RWL
field of a unit that is not locked (02 R32). Of BKD, fields whose reset column reads 'backup loss' keep their value, as they do across
every reset (DESIGN CHOICE, log entry 13). -/
def srstClears (p : Nat) (locked : Bool) (key : Nat) : Bool :=
  (unitPages p).contains (keyPage key) && keyCls key == 0 && (keyAcc key == 1 || (keyAcc key == 2 && !locked)) &&
    !(keyPage key == p && decide (key / 32 % 4096 < 0x100))

/-- The register part of a soft reset (02 R32, R29). -/
def State.srstRegs (s : State) (page : Nat) : State :=
  let p := firstPage page
  let locked := s.flag R.H_LOCK_LOCKED 0 p
  let s := { s with regs := s.regs.filter fun e => !srstClears p locked e.1 }
  let s := ((s.wr R.H_EVSTAT 0 0 p).wrap R.H_CFGGEN 0 p).wr R.H_EN_PENDING 0 0 p
  s.setUnit p (if s.flag R.H_CTRL_EN 0 p then 1 else 0)

/-- A bus read that returned a register word. -/
def State.answer (s : State) (w : Nat) : State :=
  { s with bus := ⟨leBytes 4 w, false, s.bus.memtype, s.bus.share, 0⟩ }

/-- A read of a word of page `page` that gives a word and a state; the page of an absent unit reads 0 (02 R26). -/
def State.onRead (s : State) (page : Nat) (f : State → Nat × State) : State :=
  if s.present page then
    let r := f (s.touch page)
    r.2.answer r.1
  else s.answer 0

end Sys2Proof.Machine
end

