-- ==== Sys2Proof/Machine/Fields.lean ====
section
/-! DEFINITION. The words of a page as its fields make them: which fields lie at an offset, the word they read as, and a word
written to them (02 R24; 00 Table 0.4). -/

namespace Sys2Proof.Machine

/-- A field at an offset: its row, array entry and unit instance. -/
structure Field where
  row : Row
  k : Nat
  u : Nat
  deriving DecidableEq, Repr

/-- The entry of row `r` that lies at byte offset `off`, if one does. -/
def Row.entryAt (r : Row) (off : Nat) : Option Nat :=
  if r.count ≤ 1 then (if r.off = off then some 0 else none)
  else if r.off ≤ off ∧ r.stride ≠ 0 ∧ (off - r.off) % r.stride = 0 ∧ (off - r.off) / r.stride < r.count then
    some ((off - r.off) / r.stride)
  else none

/-- The fields of the word at byte offset `off` of page `page`: the common header below 0x100 of a unit's first page, else the
block's own rows. -/
def fieldsAt (page off : Nat) : List Field :=
  let p := firstPage page
  if page = p ∧ off < 0x100 then
    headerRows.filterMap fun r => (r.entryAt off).map fun k => ⟨r, k, p⟩
  else
    (blockRows page).filterMap fun r => (r.entryAt off).map fun k => ⟨r, k, page - basePage page⟩

/-- The value a field reads as: 0 for a WO field; a WS field holds 1 while its operation runs (00 Table 0.4). -/
def State.fieldRead (s : State) (m : Nat) (f : Field) : Nat := if f.row.acc = .wo then 0 else s.rd f.row f.k f.u m

/-- The word its fields make, reserved bits 0. -/
def State.wordOf (s : State) (m : Nat) (fs : List Field) : Nat :=
  fs.foldl (fun a f => a + s.fieldRead m f * 2 ^ f.row.lo) 0

/-- The bits a word holds for a field. -/
def Field.bits (f : Field) (v : Nat) : Nat := nfield v f.row.lo f.row.width

/-- A written word takes effect on the fields of the given access codes: RW and RWL take the bits, W1C clears those written 1. -/
def State.fieldWrite (s : State) (m v : Nat) (locked : Bool) (f : Field) : State :=
  match f.row.acc with
  | .rw => s.wr f.row (f.bits v) f.k f.u m
  | .rwl => if locked then s else s.wr f.row (f.bits v) f.k f.u m
  | .w1c => let c := s.rd f.row f.k f.u m; s.wr f.row (c - (c &&& f.bits v)) f.k f.u m
  | _ => s
def State.wordWrite (s : State) (m v : Nat) (locked : Bool) (fs : List Field) : State :=
  s.each fs fun s f => s.fieldWrite m v locked f

/-- The bits of a word that no field holds are 0 (02 R25). -/
def reservedOk (fs : List Field) (v : Nat) : Bool :=
  fs.foldl (fun a f => a - f.bits v * 2 ^ f.row.lo) v == 0

/-- Reserved bits of a written word that are not 0 record code 0x04 (R25). -/
def State.rsvErr (s : State) (page off v : Nat) : State :=
  if reservedOk (fieldsAt page off) v then s else s.err page 0x04 off

/-- The CFGGEN of the unit counts when an RW or RWL field of the word changed between two states (R29). -/
def State.cfgBump (s : State) (old : State) (page off m : Nat) : State :=
  let fs := (fieldsAt page off).filter fun f => f.row.acc == .rw || f.row.acc == .rwl
  if old.wordOf m fs = s.wordOf m fs then s else s.wrap R.H_CFGGEN 0 (firstPage page)

/-- A register word that firmware writes, with its CFGGEN. -/
def State.fwWrite (s : State) (page off v : Nat) : State := (s.wordWrite 0 v false (fieldsAt page off)).cfgBump s page off 0

end Sys2Proof.Machine
end

