-- ==== Sys2Proof/Machine/Book.lean ====
section
/-! DEFINITION. The image book and its slot directory (20 R418, R423). -/

namespace Sys2Proof

/-- The slot with number `i`, and the directory with another in its place. -/
def TypeDir.slot (d : TypeDir) (i : Nat) : ImgSlot := if i = 0 then d.a else d.b
def TypeDir.setSlot (d : TypeDir) (i : Nat) (x : ImgSlot) : TypeDir := if i = 0 then { d with a := x } else { d with b := x }

/-- The target slot (R419): the one that is not ACTIVE, or A. -/
def TypeDir.target (d : TypeDir) : Nat := if d.a.state = 4 then 1 else 0

/-- Step 0x03 on one type: LOADING becomes EMPTY; a PENDING slot is tried, or reverted when its count has reached 3. -/
def TypeDir.start (d : TypeDir) : TypeDir × Bool × Bool :=
  let clean (x : ImgSlot) : ImgSlot := if x.state = 1 then ImgSlot.empty else x
  let d := { d with a := clean d.a, b := clean d.b }
  if d.a.state ≠ 3 ∧ d.b.state ≠ 3 then (d, false, false)
  else
    let t := if d.a.state = 3 then 0 else 1
    if d.att < 3 then ({ d with att := d.att + 1 }, true, false)
    else ({ (d.setSlot t { d.slot t with state := 5 }) with att := 0 }, false, true)

/-- The slot a start loads: the pending one where it is tried, else the active one; 3 none. -/
def TypeDir.loads (d : TypeDir) (tried : Bool) : Nat := if tried then (if d.a.state = 3 then 0 else 1) else d.act

end Sys2Proof

namespace Sys2Proof.Machine

def State.setCrt (s : State) (c : CrtSt) : State := { s with crt := c }
def State.setUpd (s : State) (u : UpdSt) : State := { s with upd := u }

/-- Slot capacity in bytes (Table 20.1), by type. -/
def slotCap (k : Nat) : Nat :=
  match k with
  | 1 => 96 * 0x100000
  | 2 => 8 * 0x100000
  | 3 => 8 * 0x100000
  | 4 => 4 * 0x100000
  | 5 => 4 * 0x100000
  | _ => 0

/-- Where byte `off` of slot `slot` of type `k` stands in the book. -/
def bookKey (k slot off : Nat) : Nat := ((k - 1) * 2 + slot) * 2 ^ 27 + off

/-- UPD's registers show the directory (20 Table 20.8). -/
def State.updView (s : State) : State :=
  s.each (upTo 5) fun s k =>
    let d := s.crt.dir.getD k TypeDir.empty
    let s := ((s.wr R.UPD_SLOT_A d.a.state k).wr R.UPD_SLOT_B d.b.state k).wr R.UPD_SLOT_ACT d.act k
    ((s.wr R.UPD_SLOT_ATT d.att k).wr R.UPD_VER_A d.a.ver k).wr R.UPD_VER_B d.b.ver k

/-- The directory in use: the cartridge's, or that of the images held in LPDDR5 while the recovery service runs (R424). -/
def State.updDir (s : State) : List TypeDir := if s.sys.recovery then s.upd.copyDir else s.crt.dir
def State.updBook (s : State) : SMap (BitVec 8) := if s.sys.recovery then s.upd.copies else s.crt.book
def State.setBook (s : State) (b : SMap (BitVec 8)) : State :=
  if s.sys.recovery then s.setUpd { s.upd with copies := b } else s.setCrt { s.crt with book := b }
def State.typeDir (s : State) (k : Nat) : TypeDir := s.updDir.getD (k - 1) TypeDir.empty
def putDir (l : List TypeDir) (k : Nat) (d : TypeDir) : List TypeDir := (upTo 5).map fun i => if i + 1 = k then d else l.getD i TypeDir.empty
def State.setDir (s : State) (k : Nat) (d : TypeDir) : State :=
  if s.sys.recovery then s.setUpd { s.upd with copyDir := putDir s.upd.copyDir k d }
  else (s.setCrt { s.crt with dir := putDir s.crt.dir k d }).updView

/-- Bytes of a slot, unlisted ones 0. -/
def bookBytes (b : SMap (BitVec 8)) (k slot off n : Nat) : List (BitVec 8) := (upTo n).map fun i => smGet 0 b (bookKey k slot (off + i))
def bookPut (b : SMap (BitVec 8)) (k slot off : Nat) : List (BitVec 8) → SMap (BitVec 8)
  | [] => b
  | x :: xs => bookPut (smSet 0 b (bookKey k slot off) x) k slot (off + 1) xs

/-- A successful attempt (R423): tried pending slots become ACTIVE, the ones active before VALID. -/
def State.bookSuccess (s : State) : State :=
  let s := s.each (upTo 5) fun s i =>
    if nbit s.upd.tried i then
      let d := s.crt.dir.getD i TypeDir.empty
      let t := if d.a.state = 3 then 0 else 1
      let o := d.slot (1 - t)
      let d := d.setSlot t { d.slot t with state := 4 }
      s.setDir (i + 1) { (d.setSlot (1 - t) (if o.state = 4 then { o with state := 2 } else o)) with act := t, att := 0 }
    else s
  s.setUpd { s.upd with tried := 0 }

end Sys2Proof.Machine
end

