-- ==== Sys2Proof/Machine/Clock.lean ====
section
/-! DEFINITION. The time base (12 R265–R272): the ticks of MT and NT, a SET and steps at their tick, time brought up to the instant of
an event, and the lane clocks (05 R85) on it. -/

namespace Sys2Proof.Machine

def State.setTim (s : State) (t : TimSt) : State := { s with tim := t }

/-- The class that owns compare channel `k` (R274), as its number plus 1; 0 none. -/
def State.ownerOf (s : State) (k : Nat) : Nat :=
  match (upTo 3).find? fun n => s.flag R.XE_CLS_CFG_EN n && s.rd R.XE_CLS_CFG_TRIGCH n == k with
  | some n => n + 1
  | none => 0

/-- NT and its fraction as one number, in 2⁻²⁸ ns. -/
def State.ntFull (s : State) : Nat := s.tim.nt * 2 ^ 28 + s.tim.frac
/-- NT becomes `v` with its fraction; source 185 when NTHI changes. -/
def State.setNtFull (s : State) (v : Nat) : State :=
  let nt := v / 2 ^ 28 % 2 ^ 64
  let t := s.setTim { s.tim with nt := nt, frac := v % 2 ^ 28 }
  if nt / 2 ^ 32 = s.tim.nt / 2 ^ 32 then t else t.ev 0x40 9

/-- The target of every channel that an enabled class owns in network time moves with a step (R271). -/
def State.shiftTargets (s : State) (val : Int) : State :=
  s.each (upTo 3) fun s n =>
    let p := smGet PlySt.idle s.xe.works n
    if s.flag R.XE_CLS_CFG_EN n ∧ s.ownerOf (s.rd R.XE_CLS_CFG_TRIGCH n) = n + 1 ∧ p.aligned then
      { s with xe := { s.xe with works := smSet PlySt.idle s.xe.works n { p with next := p.next.map fun t => unsgn 64 ((t : Int) + val) } } }
    else s

/-- Accepted steps wait for the end of a switch (R270 point 3). -/
def State.stepsHeld (s : State) : Bool := s.flag R.TIM_NTSTAT_STEPPEND && s.rd R.XE_SM_STAT_STATE == 4
/-- The next tick has a SET or steps to apply. -/
def State.tickWork (s : State) : Bool := s.tim.set.isSome || (s.tim.steps != [] && !s.stepsHeld)

/-- A SET loads NT and NTHI with fraction 0 and raises no wrap event (R269). -/
def State.applySet (s : State) : State :=
  match s.tim.set with
  | some v => s.setTim { s.tim with nt := v, frac := 0, set := none }
  | none => s

/-- One tick of the two clocks: MT advances by 4; the SET applies first, then the steps, then the advance by NTINC (R265, R267, R270). -/
def State.clockTick (s : State) : State :=
  let s := { s with mt := (s.mt + 4) % 2 ^ 64 }.applySet
  let inc := s.rd R.TIM_NTINC
  if s.tim.steps = [] ∨ s.stepsHeld then s.setNtFull (s.ntFull + inc)
  else
    let v := (s.tim.steps.map (sgn 32)).sum
    let n := s.tim.steps.length
    let s := (s.shiftTargets v).setNtFull (s.ntFull + unsgn 64 v * 2 ^ 28 + inc)
    let s := ((s.wr R.TIM_NTSTAT_STEPPEND 0).wr R.TIM_NTSTEP_CMD_GO 0).wrap R.TIM_NTSTAT_GEN 0 0 0 n
    s.setTim { s.tim with steps := [] }

/-- `n` ticks in which nothing but the advance happens. -/
def State.clockRun (s : State) (n : Nat) : State :=
  if n = 0 then s
  else { s with mt := (s.mt + 4 * n) % 2 ^ 64 }.setNtFull (s.ntFull + n * s.rd R.TIM_NTINC)

/-- `n` ticks. -/
def State.clockTicks (s : State) (n : Nat) : State :=
  if n = 0 then s else if s.tickWork then s.clockTick.clockRun (n - 1) else s.clockRun n

/-- Time goes on to the first tick at or after MT `t`; where that has passed, none goes by. -/
def State.awaitMt (s : State) (t : Nat) : State := s.clockTicks ((t - s.mt + 3) / 4)

/-- Ticks to the first in which NTHI:NT is at or above `t`, where nothing but the advance happens. -/
def State.ntTicks (s : State) (t : Nat) : Nat :=
  if t ≤ s.tim.nt then 0 else (t * 2 ^ 28 - s.ntFull + s.rd R.TIM_NTINC - 1) / s.rd R.TIM_NTINC

/-- Time goes on to the first tick in which NTHI:NT is at or above `t`. -/
def State.awaitNt (s : State) (t : Nat) : State :=
  if t ≤ s.tim.nt then s
  else
    let s := if s.tickWork then s.clockTick else s
    s.clockRun (s.ntTicks t)

/-! Lane clocks of 1.25 ns, counted from MT 0. -/

/-- The first lane clock at or after MT `t`, and the value of MT in lane clock `c`. -/
def laneClk (t : Nat) : Nat := (4 * t + 4) / 5
def mtAt (c : Nat) : Nat := 5 * c / 16 * 4

/-- The lane clock that the engine has reached. -/
def State.clk (s : State) : Nat := max (laneClk s.mt) s.xe.clk
/-- Time goes on to lane clock `c`, up to which the engine is taken. -/
def State.awaitClk (s : State) (c : Nat) : State :=
  let s := s.awaitMt (mtAt c)
  if c ≤ s.xe.clk then s else { s with xe := { s.xe with clk := c } }

end Sys2Proof.Machine
end

