-- ==== Sys2Proof/Machine/Mirror.lean ====
section
/-! DEFINITION. The mirror list and PAIR's taps on the writes of instance memory (11 R236, R238, R240, R242). -/

namespace Sys2Proof.Machine

/-- One entry of a mirror list (11 Table 11.4). -/
structure MlEntry where
  start : Nat
  lines : Nat
  writer : Nat
  last : Nat
  deriving DecidableEq, Repr

/-- The words of a list, its entry count and its entries (R236). -/
def mlCount (l : SMap Nat) : Nat := min 8192 (smGet 0 l 0)
def mlEntry (l : SMap Nat) (i : Nat) : MlEntry :=
  let w (j : Nat) := smGet 0 l (4 + 4 * i + j)
  ⟨w 0, w 1, w 2 % 256, w 3 % 2 ^ 20⟩
def mlEntries (l : SMap Nat) : List MlEntry := (upTo (mlCount l)).map (mlEntry l)

/-- Line `ln` (64 bytes) lies in the range of an entry. -/
def MlEntry.covers (e : MlEntry) (ln : Nat) : Bool := decide (e.start / 64 ≤ ln) && decide (ln < e.start / 64 + e.lines)

/-- Writer codes: 1–3 the classes, 0x10–0x1F the event tasks, 0x20 HOST. -/
def writerOf (w : Nat) : Nat := if w < 3 then w + 1 else 0x10 + (w - 3)
def workOf (writer : Nat) : Option Nat :=
  if 1 ≤ writer ∧ writer ≤ 3 then some (writer - 1) else if 0x10 ≤ writer ∧ writer < 0x20 then some (writer - 0x10 + 3) else none
def writerHost : Nat := 0x20
def isTaskWriter (a : Nat) : Bool := decide (0x10 ≤ a) && decide (a < 0x20)
/-- Two writers run at one level (04 R65). -/
def sameLevel (a b : Nat) : Bool := a == b || (isTaskWriter a && isTaskWriter b)

/-- A rising list with `x` in it. -/
def insertNat (l : List Nat) (x : Nat) : List Nat := if l.contains x then l else l.filter (· < x) ++ x :: l.filter (x < ·)

/-- The 64-byte lines that `n` bytes at an offset touch. -/
def linesOf (off n : Nat) : List Nat := if n = 0 then [] else (upTo ((off + n - 1) / 64 - off / 64 + 1)).map (· + off / 64)

/-- A mirror escape is recorded (R240); its reaction is due. -/
def State.escape (s : State) (off writer master : Nat) : State :=
  let s := if s.rd R.PAIR_ESC_COUNT = 0 then
      ((s.wr R.PAIR_ESC_ADDR off).wr R.PAIR_ESC_WRITER writer).wr R.PAIR_ESC_MASTER master
    else s
  { s.sat R.PAIR_ESC_COUNT with pr := { s.pr with esc := true } }

/-- The lines of a write that no range of the writer's level covers. -/
def State.uncovered (s : State) (off n writer : Nat) : List Nat :=
  let es := (mlEntries s.pr.active).filter fun e => sameLevel e.writer writer
  (linesOf off n).filter fun ln => !es.any (·.covers ln)

/-- The lead of a join marks the lines written from its phase 2 on (R242). -/
def State.dirtyMark (s : State) (off n : Nat) : State :=
  if s.pr.joinLead && decide (2 ≤ s.rd R.PAIR_SYNC_STAT_PHASE) then
    { s with pr := { s.pr with dirty := (linesOf off n).foldl insertNat s.pr.dirty } }
  else s

/-- A write of `n` bytes to instance memory passes the taps: by the work with code `writer`, or, with `writer` HOST, through the
fabric port by `master` (R238, R240, R242); master 0x08 on that port is PAIR's own reception (18 Table 18.1). -/
def State.tap (s : State) (off n writer master : Nat) : State :=
  let lns := linesOf off n
  let s := s.dirtyMark off n
  let code := if writer = writerHost then 0 else writer
  if s.isLead then
    let out := s.uncovered off n writer
    let s := if writer = writerHost then
        { s with pr := { s.pr with host := (lns.filter fun ln => !out.contains ln).foldl insertNat s.pr.host } }
      else s
    match out with
    | ln :: _ => s.escape (max off (64 * ln)) code master
    | [] => s
  else if s.isTrack && s.flag R.SYS_MODE_SYNC && !(writer == writerHost && master == 0x08) then s.escape off code master
  else s

/-! The pair links (11 R231). -/

def plPage (l : Nat) : Nat := 0x38 + l
def State.linkUp (s : State) (l : Nat) : Bool := s.flag R.PL_STAT_UP 0 l
/-- The links that carry frames: up, and powered (01 R17). -/
def State.upLinks (s : State) : List Nat := (upTo 2).filter fun l => s.linkUp l && !s.pwr.off

/-- SEQ counts per link and type: the next of a link and type, and the state after it. -/
def State.seqOf (s : State) (l type : Nat) : Nat := smGet 0 s.pr.txSeq (16 * l + type)
def State.seqTaken (s : State) (l type : Nat) : State :=
  { s with pr := { s.pr with txSeq := smSet 0 s.pr.txSeq (16 * l + type) ((s.seqOf l type + 1) % 2 ^ 32) } }

/-- A frame of a pair link: TYPE, FLAGS, LEN, SEQ, the payload and the CRC-32 over all of it (R231). -/
def plFrame (type flags seq : Nat) (payload : List (BitVec 8)) : List (BitVec 8) :=
  let b := leBytes 1 type ++ leBytes 1 flags ++ leBytes 2 payload.length ++ leBytes 4 seq ++ payload
  b ++ leBytes 4 (crc32 b)

/-- A frame is sent on link `l`. -/
def State.plSend (s : State) (l type flags : Nat) (payload : List (BitVec 8)) : State :=
  (s.out (.pl l (plFrame type flags (s.seqOf l type) payload))).seqTaken l type

/-- A MIRROR or BULK frame is sent, and kept until the next ply in case the link goes down under it (R237). -/
def State.chunkSend (s : State) (l type flags : Nat) (payload : List (BitVec 8)) : State :=
  let s := s.plSend l type flags payload
  { s with pr := { s.pr with flight := s.pr.flight ++ [(l, type, flags, payload)] } }
/-- The last `n` such frames on link `l` are sent again on the other link. -/
def State.chunksAgain (s : State) (l n : Nat) : State :=
  let fs := s.pr.flight.filter fun x => x.1 == l
  if s.upLinks.contains (1 - l) then s.each (fs.drop (fs.length - n)) fun s x => s.plSend (1 - l) x.2.1 x.2.2.1 x.2.2.2 else s

/-- A frame on every link that is up. -/
def State.plSendAll (s : State) (type flags : Nat) (payload : List (BitVec 8)) : State :=
  s.each s.upLinks fun s l => s.plSend l type flags payload

/-- A firmware message to the partner goes out on the first link that is up (R231, TYPE 0x08). -/
def State.fwdSend (s : State) (msg : FwdMsg) : State :=
  match s.upLinks with
  | l :: _ => (s.out (.fwd l (s.seqOf l 0x08) msg)).seqTaken l 0x08
  | [] => s

/-- The payload of a MIRROR or BULK frame (11 Table 11.1). -/
def chunkBytes (writer ply off count : Nat) (data : List (BitVec 8)) : List (BitVec 8) :=
  leBytes 4 writer ++ leBytes 4 ply ++ leBytes 4 off ++ leBytes 4 data.length ++ leBytes 4 count ++ data

/-- The pieces of at most 4,096 bytes of a range: offset and length. -/
def pieces (off n : Nat) : List (Nat × Nat) := (upTo ((n + 4095) / 4096)).map fun i => (off + 4096 * i, min 4096 (n - 4096 * i))

end Sys2Proof.Machine
end

