-- ==== Sys2Proof/Machine/Float.lean ====
section
/-! DEFINITION. IEEE 754-2019 binary64 and binary32 on bit patterns (05 R92): exact arithmetic on integers, then one
rounding to nearest, ties to even. Subnormals are kept; nothing traps. -/

namespace Sys2Proof.Machine

/-- A binary format: exponent bits and stored significand bits. -/
structure Fmt where
  eb : Nat
  mb : Nat
  deriving DecidableEq, Repr

def f64 : Fmt := ⟨11, 52⟩
def f32 : Fmt := ⟨8, 23⟩

/-- The exponent of the smallest normal number. -/
def Fmt.emin (f : Fmt) : Int := 2 - (2 ^ (f.eb - 1) : Nat)
/-- The pattern of +∞. -/
def Fmt.inf (f : Fmt) : Nat := (2 ^ f.eb - 1) * 2 ^ f.mb
/-- The place of the sign bit. -/
def Fmt.sb (f : Fmt) : Nat := f.eb + f.mb
def Fmt.signed (f : Fmt) (neg : Bool) (v : Nat) : Nat := if neg then v + 2 ^ f.sb else v

/-- A number taken apart: the finite value is `m × 2 ^ e`, with its sign. -/
inductive FVal where
  | nan
  | inf (neg : Bool)
  | fin (neg : Bool) (m : Nat) (e : Int)
  deriving DecidableEq, Repr

def Fmt.unpack (f : Fmt) (v : Nat) : FVal :=
  let neg := nbit v f.sb
  let ex := nfield v f.mb f.eb
  let mant := nfield v 0 f.mb
  if ex = 2 ^ f.eb - 1 then (if mant = 0 then .inf neg else .nan)
  else if ex = 0 then .fin neg mant (f.emin - f.mb)
  else .fin neg (mant + 2 ^ f.mb) (f.emin - f.mb + (ex - 1 : Nat))

def Fmt.isNan (f : Fmt) (v : Nat) : Bool := nfield v 0 f.sb > f.inf
def Fmt.isInf (f : Fmt) (v : Nat) : Bool := nfield v 0 f.sb == f.inf

/-- `m / 2 ^ k` rounded to nearest, ties to even. -/
def rne (m k : Nat) : Nat :=
  let q := m / 2 ^ k
  let r := m % 2 ^ k
  if 2 * r > 2 ^ k ∨ (2 * r = 2 ^ k ∧ q % 2 = 1) then q + 1 else q

/-- The pattern nearest to `m × 2 ^ e`. A sticky lowest bit may stand for what lies below it. -/
def Fmt.round (f : Fmt) (neg : Bool) (m : Nat) (e : Int) : Nat :=
  if m = 0 then f.signed neg 0
  else
    let top := max (e + (Nat.log2 m : Nat)) f.emin
    let shift := top - f.mb - e
    let mant := if shift ≤ 0 then m * 2 ^ (-shift).toNat else rne m shift.toNat
    let v := (top - f.emin).toNat * 2 ^ f.mb + mant
    f.signed neg (if v ≥ f.inf then f.inf else v)

/-- A quiet NaN; the spec leaves its sign and payload open (log entry 9). -/
def Fmt.qnan (f : Fmt) (op a b d : Nat) : Nat :=
  let p := Config.nanBits op a b d
  f.signed (nbit p f.mb) (f.inf + 2 ^ (f.mb - 1) + p % 2 ^ (f.mb - 1))

/-- The sum of two finite numbers, rounded once; an exact zero is +0 unless both are negative. -/
def Fmt.sum (f : Fmt) (na : Bool) (ma : Nat) (ea : Int) (nb : Bool) (mb : Nat) (eb : Int) : Nat :=
  let e := min ea eb
  let a : Int := (ma * 2 ^ (ea - e).toNat : Nat)
  let b : Int := (mb * 2 ^ (eb - e).toNat : Nat)
  let t := (if na then -a else a) + (if nb then -b else b)
  if t = 0 then f.signed (na && nb) 0 else f.round (t < 0) t.natAbs e

def Fmt.add (f : Fmt) (op a b : Nat) : Nat :=
  match f.unpack a, f.unpack b with
  | .fin na ma ea, .fin nb mb eb => f.sum na ma ea nb mb eb
  | .inf n, .fin _ _ _ => f.signed n f.inf
  | .fin _ _ _, .inf n => f.signed n f.inf
  | .inf n, .inf k => if n = k then f.signed n f.inf else f.qnan op a b 0
  | _, _ => f.qnan op a b 0

def Fmt.flip (f : Fmt) (a : Nat) : Nat := nsetBit a f.sb (!nbit a f.sb)

def Fmt.sub (f : Fmt) (op a b : Nat) : Nat := if f.isNan b then f.qnan op a b 0 else f.add op a (f.flip b)

def Fmt.mul (f : Fmt) (op a b : Nat) : Nat :=
  match f.unpack a, f.unpack b with
  | .fin na ma ea, .fin nb mb eb => f.round (na != nb) (ma * mb) (ea + eb)
  | .inf n, .fin k m _ => if m = 0 then f.qnan op a b 0 else f.signed (n != k) f.inf
  | .fin k m _, .inf n => if m = 0 then f.qnan op a b 0 else f.signed (n != k) f.inf
  | .inf n, .inf k => f.signed (n != k) f.inf
  | _, _ => f.qnan op a b 0

/-- `d + a × b` with one rounding. -/
def Fmt.fma (f : Fmt) (op d a b : Nat) : Nat :=
  match f.unpack a, f.unpack b, f.unpack d with
  | .fin na ma ea, .fin nb mb eb, .fin nd md ed => f.sum (na != nb) (ma * mb) (ea + eb) nd md ed
  | .fin _ _ _, .fin _ _ _, .inf n => f.signed n f.inf
  | x, y, z =>
    let prod : FVal := match x, y with
      | .inf n, .fin k m _ => if m = 0 then .nan else .inf (n != k)
      | .fin k m _, .inf n => if m = 0 then .nan else .inf (n != k)
      | .inf n, .inf k => .inf (n != k)
      | _, _ => .nan
    match prod, z with
    | .inf n, .fin _ _ _ => f.signed n f.inf
    | .inf n, .inf k => if n = k then f.signed n f.inf else f.qnan op a b d
    | _, _ => f.qnan op a b d

def Fmt.div (f : Fmt) (op a b : Nat) : Nat :=
  match f.unpack a, f.unpack b with
  | .fin na ma ea, .fin nb mb eb =>
    if mb = 0 then (if ma = 0 then f.qnan op a b 0 else f.signed (na != nb) f.inf)
    else
      let k := 2 * f.mb + 6
      let q := ma * 2 ^ k / mb
      f.round (na != nb) (2 * q + b2n (ma * 2 ^ k % mb ≠ 0)) (ea - eb - k - 1)
  | .inf n, .fin k _ _ => f.signed (n != k) f.inf
  | .fin n _ _, .inf k => f.signed (n != k) 0
  | _, _ => f.qnan op a b 0

/-- The integer square root, bit by bit from bit `k - 1` down. -/
def isqrt (n : Nat) : Nat → Nat → Nat
  | 0, r => r
  | k + 1, r => if (r + 2 ^ k) * (r + 2 ^ k) ≤ n then isqrt n k (r + 2 ^ k) else isqrt n k r

def Fmt.sqrt (f : Fmt) (op a : Nat) : Nat :=
  match f.unpack a with
  | .fin n m e =>
    if m = 0 then f.signed n 0
    else if n then f.qnan op a 0 0
    else
      let k := 2 * f.mb + 6 + ((e + 1000000) % 2).toNat
      let big := m * 2 ^ k
      let r := isqrt big (2 * f.mb + 8) 0
      f.round false (2 * r + b2n (r * r ≠ big)) ((e - k) / 2 - 1)
  | .inf false => f.inf
  | _ => f.qnan op a 0 0

/-- The order of two numbers: none where one is NaN; −0 equals +0. -/
def Fmt.cmp (f : Fmt) (a b : Nat) : Option Ordering :=
  match f.unpack a, f.unpack b with
  | .nan, _ => none
  | _, .nan => none
  | .inf n, .inf k => some (if n = k then .eq else if n then .lt else .gt)
  | .inf n, _ => some (if n then .lt else .gt)
  | _, .inf n => some (if n then .gt else .lt)
  | .fin na ma ea, .fin nb mb eb =>
    let e := min ea eb
    let x : Int := (ma * 2 ^ (ea - e).toNat : Nat)
    let y : Int := (mb * 2 ^ (eb - e).toNat : Nat)
    some (compare (if na then -x else x) (if nb then -y else y))

/-- The minimum and maximum operations of clause 9.6: NaN gives a quiet NaN, −0 counts below +0. -/
def Fmt.min (f : Fmt) (op a b : Nat) : Nat :=
  match f.cmp a b with
  | none => f.qnan op a b 0
  | some .lt => a
  | some .gt => b
  | some .eq => if nbit a f.sb then a else b
def Fmt.max (f : Fmt) (op a b : Nat) : Nat :=
  match f.cmp a b with
  | none => f.qnan op a b 0
  | some .lt => b
  | some .gt => a
  | some .eq => if nbit a f.sb then b else a

/-- The nearest number of the format to an integer. -/
def Fmt.ofInt (f : Fmt) (i : Int) : Nat := f.round (i < 0) i.natAbs 0

/-- An integer from a number, rounded toward zero and cut to `lo … hi`; NaN gives 0. -/
def Fmt.toInt (f : Fmt) (a : Nat) (lo hi : Int) : Int :=
  match f.unpack a with
  | .nan => 0
  | .inf n => if n then lo else hi
  | .fin n m e =>
    let v : Int := ((if e ≥ 0 then m * 2 ^ e.toNat else m / 2 ^ (-e).toNat) : Nat)
    let v := if n then -v else v
    if v < lo then lo else if v > hi then hi else v

/-- The number of one format in another. -/
def Fmt.conv (f g : Fmt) (op a : Nat) : Nat :=
  match f.unpack a with
  | .nan => g.qnan op a 0 0
  | .inf n => g.signed n g.inf
  | .fin n m e => g.round n m e

end Sys2Proof.Machine
end

