-- ==== Sys2Proof/Machine/Tag.lean ====
section
/-! DEFINITION. The tagged value (06 R116–R123): its fields, and how the tag of a result is formed. -/

namespace Sys2Proof.Machine

/-- The parts of a tagged value as a little-endian number of 16 bytes (06 Table 6.1). -/
def tvVal (t : Nat) : Nat := nfield t 0 64
def tvQ (t : Nat) : Nat := nfield t 64 16
def tvAge (t : Nat) : Nat := nfield t 96 32

def ageMax : Nat := 0xFFFFFFFF

/-- A tagged value; the reserved quality bits and bytes are written 0 (06 R116, R117). -/
def mkTv (v q age : Nat) : Nat := v % 2 ^ 64 + (q % 2 ^ 16 / 4 * 4) * 2 ^ 64 + min age ageMax * 2 ^ 96

/-- The fields of a quality word (06 Table 6.2). STATE: 0 BAD, 1 UNCERTAIN, 2 GOOD, 3 GOOD-OVERRIDDEN. -/
def qState (q : Nat) : Nat := nfield q 14 2
def qSub (q : Nat) : Nat := nfield q 8 6
def qFlags (q : Nat) : Nat := nfield q 4 4
def qLimit (q : Nat) : Nat := nfield q 2 2
def mkQ (st sub flags lim : Nat) : Nat := st * 2 ^ 14 + sub * 2 ^ 8 + flags * 2 ^ 4 + lim * 4

/-- Flag masks within `qFlags`: SIM, STALE, FORCED, SUBST. -/
def qfSim : Nat := 1
def qfStale : Nat := 2
def qfForced : Nat := 4
def qfSubst : Nat := 8

/-- GOOD, substatus 0, no flags, LIMIT 0. -/
def qGood : Nat := mkQ 2 0 0 0

/-- The rank of a state, the worst lowest (06 R119). -/
def qRank (st : Nat) : Nat := if st = 0 then 0 else if st = 1 then 1 else if st = 3 then 2 else 3

/-- A tag: quality word and age. -/
abbrev Tag := Nat × Nat

def tvTag (t : Nat) : Tag := (tvQ t, tvAge t)

/-- The combined tag of the contributing operands in the order d, a, b (06 R119). -/
def combine : List Tag → Tag
  | [] => (qGood, 0)
  | t :: ts =>
    let worst := ts.foldl (fun w x => if qRank (qState x.1) < qRank (qState w.1) then x else w) t
    let flags := ts.foldl (fun f x => f ||| qFlags x.1) (qFlags t.1)
    let age := ts.foldl (fun a x => max a x.2) t.2
    (mkQ (qState worst.1) (qSub worst.1) flags (qLimit worst.1), age)

/-- The worse of UNCERTAIN 0x01 and the state of `prev` (06 R460), with the given flags and LIMIT. -/
def qHeld (prev flags lim : Nat) : Nat :=
  if qState prev = 0 then mkQ 0 (qSub prev) flags lim else mkQ 1 1 flags lim

/-- GOOD and GOOD-OVERRIDDEN demoted to UNCERTAIN with a substatus (06, after Table 6.3). -/
def qDemote (sub q : Nat) : Nat :=
  if qState q ≥ 2 then mkQ 1 sub (qFlags q) (qLimit q) else q

/-- What an operation met: nothing, a clamp at the minimum or maximum, an arithmetic fault (06 R122). -/
inductive Exc where
  | none | low | high | fault
  deriving DecidableEq, Repr

/-- R122 on a quality word. -/
def qExc (e : Exc) (q : Nat) : Nat :=
  match e with
  | .none => q
  | .fault => mkQ 0 6 (qFlags q) 0
  | .low => let r := qDemote 3 q; mkQ (qState r) (qSub r) (qFlags r) 1
  | .high => let r := qDemote 3 q; mkQ (qState r) (qSub r) (qFlags r) 2

/-- The age of a value at an instant: the stored age plus the time since the stamp in whole µs, rounded down, which is negative for a
stamp after the instant (06 R125); from 0 to the highest age. -/
def ageAt (age now since : Nat) : Nat := min ageMax ((age : Int) + ((now : Int) - since) / 1000).toNat

end Sys2Proof.Machine
end

