-- ==== Sys2Proof/Machine/Move.lean ====
section
/-! DEFINITION. The move word (05 R86–R93): its fields, which forms Table 5.4 allows, latencies, and the value and tag each
opcode computes. -/

namespace Sys2Proof.Machine

/-! Fields of a move (05 Tables 5.1, 5.3). -/

def mvOp (m : Nat) : Nat := nfield m 120 8
def mvPred (m : Nat) : Nat := nfield m 116 4
def mvNeg (m : Nat) : Bool := nbit m 115
def mvRsv (m : Nat) : Nat := nfield m 112 3
def mvDst (m : Nat) : Nat := nfield m 80 32
def mvA (m : Nat) : Nat := nfield m 48 32
def mvB (m : Nat) : Nat := nfield m 16 32
def mvTm (m : Nat) : Nat := nfield m 0 16
def mvType (m : Nat) : Nat := nfield m 12 4
def mvMod (m : Nat) : Nat := nfield m 8 4
def mvAux (m : Nat) : Nat := nfield m 0 8

/-- The base type of a tagged type. Codes: 1 I64, 2 U64, 3 F64, 4 F32, 5 B64, 9 I32, 0 RAW. -/
def baseOf (t : Nat) : Nat := if t = 6 then 3 else if t = 7 then 1 else if t = 8 then 5 else t
def isTv (t : Nat) : Bool := decide (6 ≤ t ∧ t ≤ 8)
def isFloat (b : Nat) : Bool := b == 3 || b == 4
def tyBits (b : Nat) : Nat := if b = 4 ∨ b = 9 then 32 else 64
def tySize (t : Nat) : Nat := if t = 0 ∨ isTv t then 16 else tyBits t / 8
def fmtOf (b : Nat) : Fmt := if b = 4 then f32 else f64

def tyAny : List Nat := [0, 1, 2, 3, 4, 5, 6, 7, 8, 9]
def tyNum : List Nat := [1, 2, 3, 4, 6, 7, 9]
def tySignedFloat : List Nat := [1, 3, 4, 6, 7, 9]
def tyFloat : List Nat := [3, 4, 6]
def tyBitw : List Nat := [1, 2, 5, 8, 9]
def tyTv : List Nat := [6, 7, 8]

/-- An opcode of 05 Table 5.4: the types it allows, whether it reads d, a, b, and whether it writes a predicate (1), an
operand (2) or nothing (0). -/
structure OpInfo where
  types : List Nat
  rd : Bool
  ra : Bool
  rb : Bool
  dst : Nat
  deriving DecidableEq, Repr

def opInfo (op : Nat) : Option OpInfo :=
  match op with
  | 0x00 => some ⟨tyAny, false, false, false, 0⟩
  | 0x01 => some ⟨[0], false, false, false, 0⟩
  | 0x02 => some ⟨[0], false, false, false, 0⟩
  | 0x08 => some ⟨tyAny, false, true, false, 2⟩
  | 0x10 => some ⟨tyNum, false, true, true, 2⟩
  | 0x11 => some ⟨tyNum, false, true, true, 2⟩
  | 0x12 => some ⟨tyNum, false, true, true, 2⟩
  | 0x13 => some ⟨tyFloat, true, true, true, 2⟩
  | 0x14 => some ⟨tyNum, false, true, true, 2⟩
  | 0x15 => some ⟨tyFloat, false, true, false, 2⟩
  | 0x16 => some ⟨tySignedFloat, false, true, false, 2⟩
  | 0x17 => some ⟨tySignedFloat, false, true, false, 2⟩
  | 0x18 => some ⟨tyNum, false, true, true, 2⟩
  | 0x19 => some ⟨tyNum, false, true, true, 2⟩
  | 0x1A => some ⟨tyNum, false, true, true, 2⟩
  | 0x1B => some ⟨tyNum, false, true, false, 2⟩
  | 0x20 => some ⟨tyBitw, false, true, true, 2⟩
  | 0x21 => some ⟨tyBitw, false, true, true, 2⟩
  | 0x22 => some ⟨tyBitw, false, true, true, 2⟩
  | 0x23 => some ⟨tyBitw, false, true, false, 2⟩
  | 0x24 => some ⟨tyBitw, false, true, false, 2⟩
  | 0x25 => some ⟨tyBitw, false, true, false, 2⟩
  | 0x26 => some ⟨tyBitw, false, true, false, 2⟩
  | 0x27 => some ⟨tyBitw, true, true, false, 2⟩
  | 0x30 => some ⟨tyNum, false, true, true, 1⟩
  | 0x31 => some ⟨[0], false, true, true, 1⟩
  | 0x38 => some ⟨tyAny, false, true, true, 2⟩
  | 0x40 => some ⟨[2], false, false, false, 2⟩
  | 0x48 => some ⟨[2], false, true, false, 2⟩
  | 0x49 => some ⟨tyTv, false, true, true, 2⟩
  | 0x4A => some ⟨[2], false, true, false, 2⟩
  | _ => none

/-- The latency in lane clocks (05 Table 5.4), without the 4 clocks of a foreign read. -/
def opLat (op ty : Nat) : Nat :=
  let fl := isFloat (baseOf ty)
  match op with
  | 0x00 => 1 | 0x01 => 1 | 0x02 => 1 | 0x03 => 1
  | 0x10 => if fl then 4 else 2
  | 0x11 => if fl then 4 else 2
  | 0x12 => if fl then 4 else 3
  | 0x13 => 5 | 0x14 => 12 | 0x15 => 12 | 0x1B => 3 | 0x31 => 1
  | _ => 2

/-- MOD and AUX hold values Table 5.4 defines for the opcode (05 R89). -/
def modAuxOk (op mod aux : Nat) : Bool :=
  match op with
  | 0x01 => mod == 0
  | 0x10 => decide (mod ≤ 1 ∧ aux = 0)
  | 0x11 => decide (mod ≤ 1 ∧ aux = 0)
  | 0x12 => decide (mod ≤ 1 ∧ aux = 0)
  | 0x1B => tyNum.contains mod && aux == 0
  | 0x24 => decide (mod = 0 ∧ aux ≤ 63)
  | 0x25 => decide (mod ≤ 1 ∧ aux ≤ 63)
  | 0x26 => decide (aux ≤ 63)
  | 0x27 => decide (aux ≤ 63)
  | 0x30 => decide (mod ≤ 7 ∧ aux = 0)
  | 0x31 => aux == 0
  | 0x40 => decide (mod ≤ 3 ∧ aux = 0)
  | 0x49 => mod == 0
  | _ => decide (mod = 0 ∧ aux = 0)

/-- The size of source a: CVT reads its own source type, QGET and AGET a tagged value. -/
def sizeA (op ty mod : Nat) : Nat :=
  if op = 0x1B then tySize mod else if op = 0x48 ∨ op = 0x4A then 16 else tySize ty
/-- The size of source b: LIM's limits take 16 bytes (05 R87). -/
def sizeB (op ty : Nat) : Nat := if op = 0x1A then 16 else tySize ty

/-! Integer ranges of a base type. -/

def iLo (b : Nat) : Int := if b = 1 then -(2 ^ 63 : Nat) else if b = 9 then -(2 ^ 31 : Nat) else 0
def iHi (b : Nat) : Int :=
  if b = 1 then (2 ^ 63 - 1 : Nat) else if b = 9 then (2 ^ 31 - 1 : Nat) else (2 ^ 64 - 1 : Nat)
def iVal (b v : Nat) : Int := if b = 1 then sgn 64 v else if b = 9 then sgn 32 v else (v % 2 ^ 64 : Nat)
def iPat (b : Nat) (i : Int) : Nat := unsgn (tyBits b) i

/-- An integer cut to the range of the base type (05 R92). -/
def iSat (b : Nat) (i : Int) : Nat × Exc :=
  if i < iLo b then (iPat b (iLo b), .low) else if i > iHi b then (iPat b (iHi b), .high) else (iPat b i, .none)

/-- The quotient of two integers: exact where it divides, else one of its two neighbours; which one is open for a negative
quotient (log entry 10). -/
def iQuot (op b x y : Nat) : Nat × Exc :=
  let i := iVal b x
  let j := iVal b y
  if j = 0 then (0, .fault)
  else
    let t := Int.tdiv i j
    if t > iHi b then (Config.intOpen op x y % 2 ^ tyBits b, .none)
    else if Int.tmod i j = 0 ∨ (i < 0 ↔ j < 0) then (iPat b t, .none)
    else (iPat b (t - (Config.intOpen op x y % 2 : Nat)), .none)

/-- The exceptional outcome of a float result (06 R122 step 1). -/
def fExc (b v : Nat) : Exc := if (fmtOf b).isNan v || (fmtOf b).isInf v then .fault else .none

/-- Arithmetic of a base type: value and what it met. -/
def arith (op b mod d x y : Nat) : Nat × Exc :=
  if isFloat b then
    let f := fmtOf b
    let v := match op with
      | 0x10 => f.add op x y
      | 0x11 => f.sub op x y
      | 0x12 => f.mul op x y
      | 0x13 => f.fma op d x y
      | 0x14 => f.div op x y
      | 0x15 => f.sqrt op x
      | 0x16 => nsetBit x f.sb false
      | 0x17 => f.flip x
      | 0x18 => f.min op x y
      | _ => f.max op x y
    (v, fExc b v)
  else
    let i := iVal b x
    let j := iVal b y
    let r : Int → Nat × Exc := fun t => if mod % 2 = 1 then iSat b t else (iPat b t, .none)
    match op with
    | 0x10 => r (i + j)
    | 0x11 => r (i - j)
    | 0x12 => r (i * j)
    | 0x14 => iQuot op b x y
    | 0x16 => if i = iLo b then (Config.intOpen op x 0 % 2 ^ tyBits b, .none) else (iPat b i.natAbs, .none)
    | 0x17 => if i = iLo b then (Config.intOpen op x 0 % 2 ^ tyBits b, .none) else (iPat b (-i), .none)
    | 0x18 => (if i ≤ j then x else y, .none)
    | _ => (if i ≤ j then y else x, .none)

/-- LIM (05 Table 5.4): the value, and the limit it clamped to (06 R123). `l` holds lo in its low 8 bytes. -/
def limOf (b x l : Nat) : Nat × Nat :=
  let w := tyBits b
  let lo := nfield l 0 w
  let hi := nfield l 64 w
  let t := (arith 0x19 b 0 0 x lo).1
  let r := (arith 0x18 b 0 0 t hi).1
  let hiCut : Bool := if isFloat b then (fmtOf b).cmp t hi == some .gt else decide (iVal b t > iVal b hi)
  let loCut : Bool := if isFloat b then (fmtOf b).cmp x lo == some .lt else decide (iVal b x < iVal b lo)
  (r, if hiCut then 2 else if loCut then 1 else 0)

/-- CVT from base type `c` to base type `b` (05 R92). -/
def cvt (op c b x : Nat) : Nat × Exc :=
  if isFloat c then
    if isFloat b then
      let v := (fmtOf c).conv (fmtOf b) op x
      (v, fExc b v)
    else
      let f := fmtOf c
      let big := f.toInt x (iLo b - 1) (iHi b + 1)
      let v := iPat b (f.toInt x (iLo b) (iHi b))
      (v, if f.isNan x then .fault else if big < iLo b then .low else if big > iHi b then .high else .none)
  else if isFloat b then ((fmtOf b).ofInt (iVal c x), .none)
  else iSat b (iVal c x)

/-- Bitwise operations of a base type. -/
def bitw (op b mod aux d x y : Nat) : Nat :=
  let w := tyBits b
  match op with
  | 0x20 => x &&& y
  | 0x21 => x ||| y
  | 0x22 => x ^^^ y
  | 0x23 => 2 ^ w - 1 - x % 2 ^ w
  | 0x24 => x * 2 ^ aux % 2 ^ w
  | 0x25 => if mod % 2 = 1 then unsgn w (sgn w x / ((2 ^ aux : Nat) : Int)) else x / 2 ^ aux
  | 0x26 => nfield x aux (mod + 1)
  | _ =>
    let m := (2 ^ (mod + 1) - 1) * 2 ^ aux % 2 ^ w
    (d % 2 ^ w - (d % 2 ^ w &&& m)) + (x % 2 ^ (mod + 1) * 2 ^ aux &&& m)

/-- The condition of CMP (05 R93): values only; an unordered pair is true for NE and UN. -/
def cmpOf (b cond x y : Nat) : Bool :=
  let o : Option Ordering := if isFloat b then (fmtOf b).cmp x y else some (compare (iVal b x) (iVal b y))
  match o with
  | none => cond == 1 || cond == 6
  | some r =>
    match cond with
    | 0 => r == .eq | 1 => r != .eq | 2 => r == .lt | 3 => r != .gt | 4 => r == .gt | 5 => r != .lt
    | 6 => false | _ => true

/-- The quality bits that AUX selects: bit n stands for quality bits 2n + 1 and 2n (05 Table 5.4, QSET). -/
def qsetMask (aux : Nat) : Nat := (upTo 8).foldl (fun a n => if nbit aux n then a + 3 * 2 ^ (2 * n) else a) 0

/-- The value and tag of a move under a tagged type (06 Table 6.4). -/
def tvResult (op ty mod aux d a b : Nat) (p : Bool) : Nat :=
  let bt := baseOf ty
  let ta := tvTag a
  let tb := tvTag b
  let vd := tvVal d
  let va := tvVal a
  let vb := tvVal b
  match op with
  | 0x08 => mkTv va ta.1 ta.2
  | 0x13 =>
    let r := arith op bt mod vd va vb
    let t := combine [tvTag d, ta, tb]
    mkTv r.1 (qExc r.2 t.1) t.2
  | 0x15 => let r := arith op bt mod vd va vb; mkTv r.1 (qExc r.2 ta.1) ta.2
  | 0x16 => let r := arith op bt mod vd va vb; mkTv r.1 (qExc r.2 ta.1) ta.2
  | 0x17 =>
    let r := arith op bt mod vd va vb
    let lim := qLimit ta.1
    let q := mkQ (qState ta.1) (qSub ta.1) (qFlags ta.1) (if lim = 1 then 2 else if lim = 2 then 1 else lim)
    mkTv r.1 (qExc r.2 q) ta.2
  | 0x1A =>
    let r := limOf bt va b
    let q := if r.2 = 0 then ta.1 else mkQ (qState ta.1) (qSub ta.1) (qFlags ta.1) r.2
    mkTv r.1 q ta.2
  | 0x1B =>
    let t : Tag := if isTv mod then ta else (qGood, 0)
    let r := cvt op (baseOf mod) bt (if isTv mod then va else a)
    mkTv r.1 (qExc r.2 t.1) t.2
  | 0x20 => let t := combine [ta, tb]; mkTv (bitw op bt mod aux vd va vb) t.1 t.2
  | 0x21 => let t := combine [ta, tb]; mkTv (bitw op bt mod aux vd va vb) t.1 t.2
  | 0x22 => let t := combine [ta, tb]; mkTv (bitw op bt mod aux vd va vb) t.1 t.2
  | 0x27 => let t := combine [tvTag d, ta]; mkTv (bitw op bt mod aux vd va vb) t.1 t.2
  | 0x38 => let t := combine [ta, tb]; mkTv (if p then va else vb) t.1 t.2
  | 0x49 =>
    let m := qsetMask aux
    mkTv va ((ta.1 - (ta.1 &&& m)) + (b % 2 ^ 16 &&& m)) ta.2
  | _ =>
    if decide (0x23 ≤ op ∧ op ≤ 0x26) then mkTv (bitw op bt mod aux vd va vb) ta.1 ta.2
    else
      let r := arith op bt mod vd va vb
      let t := combine [ta, tb]
      mkTv r.1 (qExc r.2 t.1) t.2

/-- The value of a move under an untagged type. -/
def rawResult (op ty mod aux d a b : Nat) (p : Bool) : Nat :=
  match op with
  | 0x08 => a
  | 0x1A => (limOf ty a b).1
  | 0x1B => (cvt op (baseOf mod) ty (if isTv mod then tvVal a else a)).1
  | 0x38 => if p then a else b
  | 0x48 => tvQ a
  | 0x4A => tvAge a
  | _ =>
    if decide (0x20 ≤ op ∧ op ≤ 0x27) then bitw op ty mod aux d a b else (arith op ty mod d a b).1

end Sys2Proof.Machine
end

