-- ==== Sys2Proof/Machine/Lanes.lean ====
section
/-! DEFINITION. The lanes and the sequencer (05): operands, the checks of a row, its issue, and a partition run to its end.
Instance memory is read and written through the active force table (07 R156). -/

namespace Sys2Proof.Machine

/-! The module's size (00 Table 0.1, 01 Table 1.2) and the active halves. -/

def State.lanePairs (s : State) : Nat := if s.isS08 then 2 else 4
def bankSize : Nat := 0x800000
def State.instSize (s : State) : Nat := s.lanePairs * bankSize
def constSize : Nat := 0x200000
def State.half (s : State) : Nat := s.rd R.XE_ENG_STAT_ACTIVE

/-- Fields of the header of a move-memory half and of its partition descriptors (05 Tables 5.5, 5.6). -/
def State.hdr (s : State) (h off n : Nat) : Nat := s.rdLe (moveBase h + off) n
def State.hdrLanes (s : State) (h : Nat) : Nat := s.hdr h 0x006 1
def State.hdrUsed (s : State) (h : Nat) : Nat := s.hdr h 0x008 4
def State.desc (s : State) (h p off n : Nat) : Nat := s.hdr h (0x040 + 32 * p + off) n
def State.biBase (s : State) (h p c : Nat) : Nat := s.desc h p (0x10 + 4 * c) 4
def listNone : Nat := 0xFFFFFFFF

/-- Level of a work (0 C1, 1 event tasks, 2 C2, 3 C3; 04 R65) and its main partition (05 R102). -/
def levelOf (w : Nat) : Nat := if w = 0 then 0 else if w = 1 then 2 else if w = 2 then 3 else 1
def mainPart (w : Nat) : Nat := if w < 3 then 2 * w else w + 3

/-- Entries of the XE maps. -/
def State.ply (s : State) (w : Nat) : PlySt := smGet PlySt.idle s.xe.works w
def State.setPly (s : State) (w : Nat) (p : PlySt) : State :=
  { s with xe := { s.xe with works := smSet PlySt.idle s.xe.works w p } }
def State.modPly (s : State) (w : Nat) (f : PlySt → PlySt) : State := s.setPly w (f (s.ply w))
def State.seq (s : State) (l : Nat) : Seq := smGet Seq.idle s.xe.seqs l
def State.setSeq (s : State) (l : Nat) (q : Seq) : State :=
  { s with xe := { s.xe with seqs := smSet Seq.idle s.xe.seqs l q } }

/-! Forces (07 R156). -/

/-- The valid active entry of a granule. -/
def State.forceAt (s : State) (gran : Nat) : Option Force :=
  (s.xe.forces.find? fun e => e.2.valid && e.2.offset == gran).map (·.2)

/-- Byte `j` of a granule under a force entry: the VALUE bits where MASK is 1, and FORCED (quality bit 6). -/
def Force.byte (f : Force) (j : Nat) (b : BitVec 8) : BitVec 8 :=
  let m := nfield f.mask (8 * j) 8
  let v := nfield f.value (8 * j) 8
  let r := (b.toNat - (b.toNat &&& m)) + (v &&& m)
  BitVec.ofNat 8 (if f.tvf ∧ j = 8 then nsetBit r 6 true else r)

def State.forced (s : State) (off : Nat) (b : BitVec 8) : BitVec 8 :=
  match s.forceAt (off / 16 * 16) with
  | some f => f.byte (off % 16) b
  | none => b

/-- Bytes at instance offset `off` up as the force table leaves them. -/
def State.forcedAll (s : State) (off : Nat) : List (BitVec 8) → List (BitVec 8)
  | [] => []
  | b :: bs => s.forced off b :: s.forcedAll (off + 1) bs

/-- A store to instance memory by any writer, and a read by a lane or by COMMIT (07 R156). -/
def State.iStore (s : State) (off : Nat) (bs : List (BitVec 8)) : State := s.wbs (instBase + off) (s.forcedAll off bs)
def State.iLoad (s : State) (off n : Nat) : List (BitVec 8) := s.forcedAll off (s.rbs (instBase + off) n)
def State.iWr (s : State) (off n v : Nat) : State := s.iStore off (leBytes n v)
def State.iRd (s : State) (off n : Nat) : Nat := leNat (s.iLoad off n)

/-- Valid entries of the active table (07 Table 7.9). -/
def State.ftView (s : State) : State :=
  (s.wr R.XE_FT_STAT_USED ((s.xe.forces.filter fun e => e.2.valid).length)).put R.XE_FT_STAT_PEND (s.xe.ftPend != [])

/-- The apply write of an entry (07 R157). -/
def State.applyForce (s : State) (f : Force) : State :=
  if f.valid then s.iStore f.offset (s.rbs (instBase + f.offset) 16) else s

/-- The pending writes to the active table take effect (07 R157). -/
def State.applyForces (s : State) : State :=
  if s.xe.ftPend = [] then s
  else
    let s1 := s.xe.ftPend.foldl (fun s e => { s with xe := { s.xe with forces := smSet Force.none s.xe.forces e.1 e.2 } }.applyForce e.2) s
    { s1 with xe := { s1.xe with ftPend := [] } }.ftView

/-- The 64-byte retain lines that a C2 ply writes are marked (05 R109). -/
def State.markRetain (s : State) (off n : Nat) : State :=
  let rb := s.rd R.XE_RET_BASE
  let rs := s.rd R.XE_RET_SIZE
  let ls := (linesOf off n).filter fun ln => decide (rb ≤ 64 * ln) && decide (64 * ln < rb + rs)
  if ls = [] then s else { s with xe := { s.xe with marks := ls.foldl insertNat s.xe.marks } }

/-- The 16-byte granules that work `w` writes: PLY_T of the ply that wrote them (01 R14). -/
def State.wroteBy (s : State) (w off n : Nat) : State :=
  let gs := (upTo ((off % 16 + n + 15) / 16)).map (off / 16 + ·)
  { s with xe := { s.xe with wrote := gs.foldl (fun m g => smSet 0 m g ((s.ply w).plyT + 1)) s.xe.wrote } }

/-- Stores of FREEZE by work `w` (05 R107). -/
def State.fWr (s : State) (w off n v : Nat) : State :=
  let t := ((s.iWr off n v).tap off n (writerOf w) 0).wroteBy w off n
  if w = 1 then t.markRetain off n else t

/-! Operands (05 R87, Table 5.2). -/

/-- Where an operand lies. -/
inductive Loc where
  | inst (off : Nat)
  | const (off : Nat)
  | lane (r : Nat)
  | pred (r : Nat)
  deriving DecidableEq, Repr

/-- What a row needs to know of the level that issues it. -/
structure Ctx where
  level : Nat
  work : Nat
  half : Nat
  part : Nat
  main : Nat
  lanes : Nat
  iter : Nat
  istride : List Nat
  cstride : List Nat
  deriving DecidableEq, Repr

/-- The operand fields' reserved bits are 0 (05 Table 5.2). -/
def opRsvOk (v : Nat) : Bool :=
  match nfield v 30 2 with
  | 0 => nfield v 25 4 == 0
  | 1 => nfield v 20 9 == 0
  | 2 => nfield v 21 8 == 0
  | _ => nfield v 9 21 == 0

/-- The location an operand names for column `c`, or none for a reserved lane value. -/
def State.resolve (s : State) (x : Ctx) (c v : Nat) : Option Loc :=
  let it := if nbit v 29 then x.iter else 0
  match nfield v 30 2 with
  | 0 => some (.inst (nfield v 0 25 + it * x.istride.getD c 0))
  | 1 => some (.inst (s.biBase x.half x.main c + nfield v 0 20 + it * x.istride.getD c 0))
  | 2 => some (.const (nfield v 0 21 + it * x.cstride.getD c 0 * 16))
  | _ =>
    let r := nfield v 0 9
    if r < 64 then some (.lane r) else if 0x100 ≤ r ∧ r < 0x110 then some (.pred (r - 0x100)) else none

/-- The location holds an operand of `n` bytes: aligned, inside its space, populated (05 R87). -/
def State.locOk (s : State) (l : Loc) (n : Nat) : Bool :=
  match l with
  | .inst o => o % n == 0 && decide (o + n ≤ s.instSize)
  | .const o => o % n == 0 && decide (o + n ≤ constSize)
  | _ => true

def Loc.isPred : Loc → Bool
  | .pred _ => true
  | _ => false

/-- The instance bank of a location, where it has one. -/
def Loc.bank : Loc → Option Nat
  | .inst o => some (o / bankSize)
  | _ => none

/-- A source in another column's bank (05 R90). -/
def Loc.foreign (l : Loc) (c : Nat) : Bool :=
  match l.bank with
  | some b => b != c
  | none => false

def State.lane (s : State) (l c r : Nat) : Nat := smGet 0 s.xe.lanes ((l * 4 + c) * 64 + r)
/-- P00 always reads 1 (05 R93). -/
def State.predBit (s : State) (l c r : Nat) : Bool := r == 0 || nbit (smGet 0 s.xe.preds (l * 4 + c)) r

/-- The value of a source of `n` bytes. -/
def State.source (s : State) (x : Ctx) (c n : Nat) : Loc → Nat
  | .inst o => s.iRd o n
  | .const o => s.rdLe (constBase x.half + o) n
  | .lane r => nfield (s.lane x.level c r) 0 (8 * n)
  | .pred r => b2n (s.predBit x.level c r)

/-! The checks of one move (05 Table 5.8): 0 where it passes, else the kind of the schedule fault. -/

/-- The source operand is allowed in its position, and lies where it may. -/
def State.srcFault (s : State) (x : Ctx) (c op v n : Nat) : Nat :=
  match s.resolve x c v with
  | none => 4
  | some l =>
    if l.isPred ≠ (op = 0x31) then 1
    else if s.locOk l n then 0 else 4

/-- The destination is allowed, and lies in the column's own bank. `retain`: the retain area's bounds. -/
def State.dstFault (s : State) (x : Ctx) (c op ty v : Nat) : Nat :=
  let wantsPred := op = 0x30 ∨ op = 0x31
  match s.resolve x c v with
  | none => 2
  | some l =>
    if l.isPred ≠ wantsPred then 2
    else
      match l with
      | .const _ => 2
      | .inst o =>
        if !s.locOk l (tySize ty) then 4
        else if o / bankSize ≠ c then 2
        else
          let rb := s.rd R.XE_RET_BASE
          let rs := s.rd R.XE_RET_SIZE
          if o + tySize ty > rb ∧ o < rb + rs ∧ x.work ≠ 1 then 9 else 0
      | _ => 0

/-- The kind of the fault of move `mv` in column `c`, other than RUN, and of the row's mixes. -/
def State.moveFault (s : State) (x : Ctx) (c mv : Nat) : Nat :=
  let op := mvOp mv
  let ty := mvType mv
  match opInfo op with
  | none => 1
  | some info =>
    if mvRsv mv ≠ 0 ∨ !info.types.contains ty ∨ !modAuxOk op (mvMod mv) (mvAux mv) then 1
    else if (op = 0x01 ∨ op = 0x02) ∧ (mvPred mv ≠ 0 ∨ mvNeg mv) then 5
    else if (!info.ra && mvA mv != 0) || (!info.rb && mvB mv != 0) || (info.dst == 0 && mvDst mv != 0) then 1
    else if (info.ra && !opRsvOk (mvA mv)) || (info.rb && !opRsvOk (mvB mv)) || (info.dst != 0 && !opRsvOk (mvDst mv)) then 1
    else
      let fa := if info.ra then s.srcFault x c op (mvA mv) (sizeA op ty (mvMod mv)) else 0
      let fb := if info.rb then s.srcFault x c op (mvB mv) (sizeB op ty) else 0
      let fd := if info.dst = 0 then 0 else s.dstFault x c op ty (mvDst mv)
      if fa ≠ 0 then fa else if fb ≠ 0 then fb else fd

/-- RUN's own checks (05 R93, R96). -/
def runOk (mv : Nat) : Bool :=
  mvPred mv == 0 && !mvNeg mv && nfield (mvDst mv) 20 12 == 0 && nfield (mvA mv) 16 16 == 0 &&
    nfield (mvB mv) 24 8 == 0 && nfield (mvB mv) 0 24 % 16 == 0 && mvDst mv != 0 && mvA mv != 0

/-- The sources of a move that lie in memory. -/
def State.memSources (s : State) (x : Ctx) (c mv : Nat) : List Loc :=
  match opInfo (mvOp mv) with
  | none => []
  | some info =>
    ((if info.ra then [s.resolve x c (mvA mv)] else []) ++ (if info.rb then [s.resolve x c (mvB mv)] else [])).filterMap id

/-- The latency of a move with the 4 clocks of a foreign read (05 R90). -/
def State.latency (s : State) (x : Ctx) (c mv : Nat) : Nat :=
  opLat (mvOp mv) (mvType mv) + (if (s.memSources x c mv).any (·.foreign c) then 4 else 0)

/-- A row: the move of every column with its number. -/
abbrev RowMvs := List (Nat × Nat)

/-- The column of the third foreign read of one bank in a row (05 R95), if there is one. -/
def State.exchangeOver (s : State) (x : Ctx) (mvs : RowMvs) : Option Nat :=
  (upTo 4).findSome? fun b =>
    (mvs.flatMap fun e => ((s.memSources x e.1 e.2).filter fun l => l.foreign e.1 && l.bank == some b).map fun _ => e.1)[2]?

/-- The checks of a row: 0 and column 0, or the kind of its first fault and that column. Mixes of BAR, END and RUN come
first (R94, R96), then each column's own checks, then the loads of the exchange port (log entry 11). `inBody`: inside a RUN body. -/
def State.rowFault (s : State) (x : Ctx) (inBody : Bool) (mvs : RowMvs) : Nat × Nat :=
  let has (op : Nat) := mvs.any fun e => mvOp e.2 == op
  let all (op : Nat) := mvs.all fun e => mvOp e.2 == op
  let head := match mvs with | e :: _ => e.2 | [] => 0
  if has 0x03 then
    if !all 0x03 || inBody then (6, (findIdx (fun e => mvOp e.2 == 0x03) mvs 0).getD 0)
    else
      match mvs.find? fun e => mvRsv e.2 != 0 with
      | some e => (1, e.1)
      | none =>
        match mvs.find? fun e => !runOk e.2 || mvDst e.2 != mvDst head || mvA e.2 != mvA head with
        | some e => (6, e.1)
        | none => (0, 0)
  else if (has 0x01 && !all 0x01) || (has 0x02 && !all 0x02) ||
      (has 0x01 && mvs.any fun e => mvAux e.2 != mvAux head) then
    (5, (findIdx (fun e => mvOp e.2 == 0x01 || mvOp e.2 == 0x02) mvs 0).getD 0)
  else if has 0x02 && inBody then (6, 0)
  else
    match (mvs.map fun e => (s.moveFault x e.1 e.2, e.1)).find? fun e => e.1 != 0 with
    | some e => e
    | none => match s.exchangeOver x mvs with | some c => (3, c) | none => (0, 0)

/-! Issue. -/

/-- The flight of a move issued in lane clock `now`, where it writes anything (05 R89, R93). -/
def State.compute (s : State) (x : Ctx) (row now c mv : Nat) : Option Flight :=
  let op := mvOp mv
  let ty := mvType mv
  match opInfo op with
  | none => none
  | some info =>
    if info.dst = 0 then none
    else
      let get (v n : Nat) : Nat := match s.resolve x c v with | some l => s.source x c n l | none => 0
      let a := if info.ra then get (mvA mv) (sizeA op ty (mvMod mv)) else 0
      let b := if info.rb then get (mvB mv) (sizeB op ty) else 0
      let d := if info.rd then get (mvDst mv) (tySize ty) else 0
      let p := s.predBit x.level c (mvPred mv) != mvNeg mv
      let pl := s.ply x.work
      let value : Nat :=
        match op with
        | 0x30 => b2n (cmpOf (baseOf ty) (mvMod mv) (if isTv ty then tvVal a else a) (if isTv ty then tvVal b else b))
        | 0x31 => b2n (nbit (mvMod mv) (2 * a + b))
        | 0x40 =>
          match mvMod mv with
          | 0 => pl.plyT
          | 1 => mtAt now
          | 2 => pl.prevT
          | _ => if x.work < 3 then s.rd R.XE_CLS_PER_PERIOD x.work * plyStep x.work else 0
        | _ => if isTv ty then tvResult op ty (mvMod mv) (mvAux mv) d a b p
               else rawResult op ty (mvMod mv) (mvAux mv) d a b p
      let on := p || op == 0x38
      let fl (k addr n : Nat) : Option Flight :=
        some ⟨row, mvDst mv, now + s.latency x c mv, c, k, addr, n, value % 2 ^ (8 * n), on⟩
      match s.resolve x c (mvDst mv) with
      | some (.inst o) => fl 0 o (tySize ty)
      | some (.lane r) => fl 1 r (tySize ty)
      | some (.pred r) => fl 2 r 1
      | _ => none
where
  /-- The step of a class's period in ns (04 Table 4.1). -/
  plyStep (w : Nat) : Nat := if w = 0 then 50000 else if w = 1 then 250000 else 1000000

/-- The column of a third completion of one kind in one column and clock (05 R91), if there is one. -/
def flightOver (fs : List Flight) : Option Nat :=
  (fs.find? fun f =>
    f.kind < 2 && decide (2 < (fs.filter fun g => g.at_ == f.at_ && g.col == f.col && g.kind == f.kind).length)).map (·.col)

/-- The writer code of the work that holds a level's sequencer (11 Table 11.4). -/
def State.levelWriter (s : State) (lvl : Nat) : Nat :=
  if lvl = 0 then 1 else if lvl = 1 then 0x10 + ((s.seq 1).part - 6) else lvl
/-- The work that holds a level's sequencer. -/
def State.levelWork (s : State) (lvl : Nat) : Nat := if lvl = 0 then 0 else if lvl = 1 then (s.seq 1).part - 3 else lvl - 1

/-- A result completes: its write is made unless its predicate suppressed it; P00 ignores writes (05 R93). A C2 write inside
the retain area marks its 64-byte lines (05 R109). -/
def State.land (s : State) (lvl : Nat) (f : Flight) : State :=
  if !f.on then s
  else
    match f.kind with
    | 0 =>
      let s1 := ((s.iWr f.addr f.size f.value).tap f.addr f.size (s.levelWriter lvl) 0).wroteBy (s.levelWork lvl) f.addr f.size
      if lvl = 2 then s1.markRetain f.addr f.size else s1
    | 1 => { s with xe := { s.xe with lanes := smSet 0 s.xe.lanes ((lvl * 4 + f.col) * 64 + f.addr) f.value } }
    | _ =>
      if f.addr = 0 then s
      else
        let k := lvl * 4 + f.col
        { s with xe := { s.xe with preds := smSet 0 s.xe.preds k (nsetBit (smGet 0 s.xe.preds k) f.addr (f.value == 1)) } }

/-- The results of the given levels that complete by lane clock `c` complete, in the order of completion, an earlier-issued one of a
level first (05 R89, R91, R99). -/
def State.landBy (s : State) (lvls : List Nat) (c : Nat) : State :=
  let due := lvls.flatMap fun l => ((s.seq l).flight.filter fun f => decide (f.at_ ≤ c)).map fun f => (l, f)
  if due = [] then s
  else
    let s := s.each lvls fun s l => s.setSeq l { s.seq l with flight := (s.seq l).flight.filter fun f => decide (c < f.at_) }
    s.each (due.insertionSort fun a b => a.2.at_ ≤ b.2.at_) fun s e => s.land e.1 e.2
def allLevels : List Nat := [0, 1, 2, 3]
/-- Every result of a level in flight completes. -/
def State.landAll (s : State) (lvl : Nat) : State := s.landBy [lvl] ((s.seq lvl).flight.foldl (fun a f => max a f.at_) 0)

/-- A schedule fault found in a row: kind and column. -/
abbrev SchedFault := Nat × Nat

/-- The context of a level's work at its sequencer position. -/
def State.ctx (s : State) (w : Nat) (q : Seq) : Ctx :=
  let h := s.half
  ⟨levelOf w, w, h, q.part, mainPart w, s.hdrLanes h, q.iter, q.istride, q.cstride⟩

/-- The moves of row `r` of the active half. -/
def State.rowMvs (s : State) (r : Nat) : RowMvs :=
  let h := s.half
  let w := s.hdrLanes h
  (upTo w).map fun c => (c, s.rdLe (moveBase h + 16 * (64 + r * w + c)) 16)

/-- The sequencer position after a row that is not RUN (05 R96): the next row of the body, its next iteration, or the row
after it. -/
def Seq.advance (q : Seq) : Seq :=
  if q.rows = 0 then { q with row := q.row + 1 }
  else if q.row + 1 < q.first + q.rows then { q with row := q.row + 1 }
  else if 1 < q.count then { q with row := q.first, iter := q.iter + 1, count := q.count - 1 }
  else { q with row := q.row + 1, iter := 0, rows := 0, count := 0, istride := [], cstride := [] }

/-- The lane clock in which the next row of a work issues (R97). -/
def State.rowClk (s : State) (w : Nat) : Nat := (s.ply w).base + (s.seq (levelOf w)).clock

/-- One row issues (05 R85). `bad` is a fault the row is corrupted with, kind 0 for none. A RUN body that ends at the last row of the
half, with no END row behind it, is a body past the partition's last row (kind 6; log entry 43). -/
def State.issueRow (s : State) (w : Nat) (bad : SchedFault) : State × SchedFault :=
  let l := levelOf w
  let now := s.rowClk w
  let s := s.landBy allLevels now
  let q := s.seq l
  let h := s.half
  let n := s.hdrLanes h
  let s := (s.wr R.XE_ENG_ROW_ROW q.row).wr R.XE_ENG_ROW_PART q.part |>.wr R.XE_ENG_ITER_ITER q.iter
  if s.hdrUsed h < 64 + (q.row + 1) * n then (s.setSeq l q, (8, 0))
  else
    let mvs := s.rowMvs q.row
    let x := s.ctx w q
    let f := if bad.1 ≠ 0 then bad else s.rowFault x (q.rows != 0) mvs
    if f.1 ≠ 0 then (s.setSeq l q, f)
    else
      let q := { q with issued := q.issued + 1, clock := q.clock + 1 }
      let head := match mvs with | e :: _ => e.2 | [] => 0
      if mvOp head = 0x03 then
        let k := nfield (mvA head) 0 16
        if s.hdrUsed h < 64 + (q.row + k + 2) * n then (s.setSeq l q, (6, 0))
        else
          (s.setSeq l { q with
            first := q.row + 1, rows := k, count := nfield (mvDst head) 0 20, row := q.row + 1, iter := 0
            istride := mvs.map (fun e => nfield (mvB e.2) 0 24), cstride := mvs.map (fun e => mvTm e.2) }, (0, 0))
      else if mvOp head = 0x02 then
        if q.issued ≠ s.desc h q.part 4 4 then (s.setSeq l q, (7, 0))
        else (s.setSeq l { q with ended := true }, (0, 0))
      else
        let fs := q.flight ++ mvs.filterMap fun e => s.compute x q.row now e.1 e.2
        match flightOver fs with
        | some c => (s.setSeq l q, (3, c))
        | none => (s.setSeq l ({ q with flight := fs }.advance), (0, 0))

/-- The entry of a partition by work `w` in lane clock `c` (05 R97): 4 clocks, in which the level's lane registers and predicates are
cleared. -/
def State.enterPart (s : State) (w part c before : Nat) (follows : Bool) : State :=
  let l := levelOf w
  let s := s.modPly w fun p => { p with base := c }
  let s := { s with xe := { s.xe with
    lanes := s.xe.lanes.filter (fun e => e.1 / 256 ≠ l), preds := s.xe.preds.filter (fun e => e.1 / 4 ≠ l) } }
  s.setSeq l { Seq.idle with part := part, row := s.desc s.half part 0 4, clock := 4, begun := true, follows := follows, ended := false, before := before }

/-- The error causes of class `w` and its lists of lost and returned stations are done with, in the engine and in the freeze status of
every window (04 R81). -/
def State.clearCauses (s : State) (w : Nat) : State :=
  let s := s.modPly w fun p => { p with causeF := 0, lostF := 0, backF := 0 }
  if 3 ≤ w then s
  else
    let h := s.half
    s.each ((upTo (s.hdrLanes h)).filter fun c => s.biBase h (mainPart w) c != listNone) fun s c =>
      let b := s.biBase h (mainPart w) c
      ((s.fWr w b 4 0).fWr w (b + 0x40) 0x40 0).fWr w (b + 0x80) 0x40 0

/-- The drain of a partition whose END row has issued ends 16 clocks after it (R97); 0 clocks where none was entered. -/
def State.drainClk (s : State) (w : Nat) : Nat :=
  if (s.seq (levelOf w)).begun then s.rowClk w + 16 else (s.ply w).base

/-- Rows of a work issue in lane clocks up to `lim`, `fuel` at most; it stops at the END of its last partition or at a fault. An error
task that has run is done with its causes and leads into the main partition (04 R81). -/
def State.runRows (s : State) (w lim : Nat) : Nat → State × SchedFault
  | 0 => (s, (0, 0))
  | n + 1 =>
    let l := levelOf w
    let q := s.seq l
    if q.ended then
      if q.follows ∧ s.drainClk w ≤ lim then
        (((s.landAll l).clearCauses w).enterPart w (mainPart w) (s.drainClk w) q.issued false).runRows w lim n
      else (s, (0, 0))
    else if lim < s.rowClk w then (s, (0, 0))
    else
      match s.issueRow w (0, 0) with
      | (s1, (0, _)) => s1.runRows w lim n
      | r => r

/-- More rows than any program issues: no row can be left when they run out; a lane clock that none reaches. -/
def rowFuel : Nat := 2 ^ 60
def noLimit : Nat := 2 ^ 80

end Sys2Proof.Machine
end

