-- ==== Sys2Proof/Machine/Seg.lean ====
section
/-! DEFINITION. The segment controllers' shared operations (09, 10): pages, the schedule in use, error counters, station fields. -/

namespace Sys2Proof.Machine

def segPage (seg : Nat) : Nat := 0x20 + seg
def State.rmt (s : State) (seg : Nat) : Rmt := smGet Rmt.idle s.rmts seg
def State.setRmt (s : State) (seg : Nat) (r : Rmt) : State := { s with rmts := smSet Rmt.idle s.rmts seg r }
def State.stn (s : State) (seg st : Nat) : StSt := smGet StSt.idle s.stns (32 * seg + st)
def State.setStn (s : State) (seg st : Nat) (t : StSt) : State := { s with stns := smSet StSt.idle s.stns (32 * seg + st) t }

/-- The region of a station in its segment's station buffer (10 Table 10.7). -/
def mboxBase (seg st : Nat) : Nat := stBase seg + 0x7C00 * st

/-- The segment takes part: its unit is ON, or DRAINING, in which it sends normally (10 R225), and its domain was not switched off with
the forced HOLD (03 R61). -/
def State.segOn (s : State) (seg : Nat) : Bool :=
  s.present (segPage seg) && (s.unit (segPage seg) == 2 || s.unit (segPage seg) == 3) && !s.flag R.PWR_STATUS_FORCEDHOLD
def segs : List Nat := upTo 16
def State.onSegs (s : State) : List Nat := segs.filter s.segOn

/-- RMC's start-up state (09 Table 9.9): 0 OFF, 1 LISTEN, 2 COLDSTART, 3 BACKOFF, 4 INTEGRATE, 5 ACTIVE, 6 PASSIVE. -/
def State.cstate (s : State) : Nat := s.rd R.RMC_STAT_CSTATE
/-- Frames enter mailboxes and reflex registers, and station states are evaluated (09 R462). -/
def State.busLive (s : State) : Bool := s.cstate == 5 || s.cstate == 6

/-- An event of a segment: its EVRAW bit (10, RMT registers). Source offsets 0–7 are EVRAW bits 0, 1, 2, 4, 5, 6, 7, 8. -/
def State.segEv (s : State) (seg bit : Nat) : State := s.ev (segPage seg) bit

/-- An error of a frame, counted against station `st` (09 Table 9.5). `kind` 0 timing, 1 format, 2 CRC. A timing error raises
offset 3 (10 R210); format and CRC errors above ERRTHR in 256 cycles assert offset 4 (10 Table 10.9). -/
def State.stErr (s : State) (seg st kind : Nat) : State :=
  let s1 := s.sat (if kind = 0 then R.RMT_ERR_TIMING else if kind = 1 then R.RMT_ERR_FORMAT else R.RMT_ERR_CRC) st seg
  if kind = 0 then s1.segEv seg 4
  else
    let r := s1.rmt seg
    let s2 := s1.setRmt seg { r with errs := r.errs + 1 }
    s2.evLevel (segPage seg) 5 (decide (s2.rd R.RMT_CFG_ERRTHR 0 seg < r.errs + 1))

/-- The station that owns minislot `m` (0–5) of a round (09 R187). -/
def State.miniOwner (s : State) (seg round m : Nat) : Option Nat :=
  match (s.rmt seg).mini[6 * round + m]? with
  | some st => if st < 32 then some st else none
  | none => none

/-- Slot `n` of the schedule in use. -/
def State.slotAt (s : State) (seg n : Nat) : Option Slot := (s.rmt seg).slots[n]?

/-- A channel of a segment may send: enabled (10 Table 10.9), its guardian not blocked (10 R211). -/
def State.chanOpen (s : State) (seg : Nat) (b : Bool) : Bool :=
  nbit (s.rd R.RMT_CFG_CHEN 0 seg) (b2n b) && !nbit (s.rd R.RMT_STAT_GBLK 0 seg) (b2n b)

/-- Downlink messages pending for a station (10 R217), with their SVCPEND bit. -/
def State.svcList (s : State) (g k : Nat) : List SvcMsg := smGet [] s.svc (32 * g + k)
def State.setSvc (s : State) (g k : Nat) (l : List SvcMsg) : State :=
  { s with svc := smSet [] s.svc (32 * g + k) l }.bitTo R.RMT_SVCPEND k (!l.isEmpty) 0 g

end Sys2Proof.Machine
end

