-- ==== Sys2Proof/Machine/Ncp0.lean ====
section
/-! DEFINITION. The answers of NCP (19): packets, tags, the responses that other units' events complete; the publication keys. -/

namespace Sys2Proof.Machine

def State.modNcp (s : State) (f : Ncp → Ncp) : State := { s with ncp := f s.ncp }

/-- The publication key in a key slot is set at MT `at_` (R414). -/
def Ncp.setPubKey (n : Ncp) (slot : Bool) (key at_ : Nat) : Ncp :=
  if slot then { n with key1 := key, hasKeys := true, keyAt := at_ } else { n with key0 := key, hasKeys := true, keyAt := at_ }

/-- Status codes (Table 19.5). -/
def eLength : Nat := 0x0101
def eTrunc : Nat := 0x0102
def eOffset : Nat := 0x0103
def eAuth : Nat := 0x0201
def eRole : Nat := 0x0202
def eState : Nat := 0x0301
def eBusy : Nat := 0x0302
def eHeader : Nat := 0x0401
def eVerify : Nat := 0x0402
def eSlot : Nat := 0x0403
def eForce : Nat := 0x0501
def eCarry : Nat := 0x0502
def eSession : Nat := 0x0601
def eObject : Nat := 0x0603
def eStation : Nat := 0x0604

/-- Header and payload of a packet (Table 19.1). -/
def ncpBytes (cmd flags status session seq object offset total : Nat) (pay : List (BitVec 8)) : List (BitVec 8) :=
  beBytes 2 0x4E43 ++ [3, BitVec.ofNat 8 flags] ++ beBytes 2 cmd ++ beBytes 2 status ++ beBytes 4 session ++ beBytes 4 seq ++
    beBytes 4 object ++ beBytes 4 offset ++ beBytes 2 pay.length ++ [0, 0] ++ beBytes 4 total ++ pay

/-- The tag of a packet (R399): the first 16 bytes of HMAC-SHA-256. -/
def ncpTag (key : Nat) (bytes : List (BitVec 8)) : Nat := Config.hmac256 key bytes % 2 ^ 256 / 2 ^ 128

def State.session (s : State) (id : Nat) : Option Sess := s.ncp.sess.find? fun x => x.id == id
def Ncp.putSess (n : Ncp) (x : Sess) : Ncp := { n with sess := n.sess.map fun y => if y.id = x.id then x else y }

/-- The response to a request in its session (R401), kept among the last eight (R404); none once the session is closed (R415). -/
def State.ncpAnswer (s : State) (w : Waiting) (status flags offset total : Nat) (pay : List (BitVec 8)) : State :=
  match s.session w.session with
  | none => s
  | some x =>
    let tag := ncpTag x.m2h (ncpBytes w.cmd (1 + flags) status w.session w.seq w.object offset total pay)
    let o := Out.ncp w.mac w.host w.cmd (1 + flags) status w.session w.seq w.object offset total pay tag
    (s.out o).modNcp fun n => n.putSess { x with cache := ((w.seq, o) :: x.cache).take 8 }

/-- A response of STATUS and payload alone. -/
def State.ncpDone (s : State) (w : Option Waiting) (status : Nat) (pay : List (BitVec 8)) : State :=
  match w with
  | some w => s.ncpAnswer w status 0 0 0 pay
  | none => s

/-- CASTLE is answered when castling ends or is abandoned (Table 19.3). -/
def State.castReply (s : State) : State :=
  (s.ncpDone s.ncp.castle 0 [BitVec.ofNat 8 (s.rd R.PAIR_CASTLE_STAT_RESULT)]).modNcp fun n => { n with castle := none }

/-- SEAL and UNSEAL are answered at the switch, with the symbol IDs of the dropped forces, or at the lapse (07, after R151). -/
def State.sealReply (s : State) (ok : Bool) : State :=
  let ids := match s.ncp.seal_ with | some w => w.list | none => []
  (s.ncpDone s.ncp.seal_ (if ok then 0 else eState) (if ok then ids.flatMap (beBytes 4) else [])).modNcp fun n =>
    { n with seal_ := none, sealGo := none }

/-- VERIFY is answered when the verification ends (07 R147). -/
def State.verifyReply (s : State) (check : Nat) : State :=
  (if check = 0 then s.ncpDone s.ncp.verify 0 []
   else s.ncpDone s.ncp.verify (if check ≤ 12 then eVerify else eCarry) [BitVec.ofNat 8 check]).modNcp fun n => { n with verify := none }

/-- FORCE and the completing IMGLOAD block are answered. -/
def State.forceReplied (s : State) (status : Nat) : State :=
  (s.ncpDone s.ncp.force status []).modNcp fun n => { n with force := none, forceGo := none }
def State.imgReply (s : State) (ok : Bool) : State :=
  (match s.ncp.img with
   | some w => s.ncpAnswer w (if ok then 0 else eVerify) (if ok then 4 else 0) 0 0 []
   | none => s).modNcp fun n => { n with img := none }

/-- What waits for a reply of the partner is refused when the partner is not synchronised any more or the lead leaves LEAD (log entry 37). -/
def State.ncpAlone (s : State) : State :=
  let s := if s.ncp.forceGo.isSome then s.forceReplied eState else s
  if s.ncp.sealGo.isSome then s.sealReply false else s

/-- ACYC is answered with the station's next ACYC uplink (R411). -/
def State.uplinkDone (s : State) (g k mtype len : Nat) : State :=
  if mtype ≠ 0x10 then s
  else
    let w := smGet none s.ncp.acyc (32 * g + k)
    let t := if len ≤ 1024 then s.ncpDone w 0 (s.rbs (mboxBase g k + 0x7000) len) else s.ncpDone w eStation []
    t.modNcp fun n => { n with acyc := smSet none n.acyc (32 * g + k) none }

end Sys2Proof.Machine
end

