-- ==== Sys2Proof/Machine/Works.lean ====
section
/-! DEFINITION. Which ply or event task has the lanes (04 R65, R75, R461), the start of FREEZE and of COMMIT, abandonment (R80),
and the registers that show them. -/

namespace Sys2Proof.Machine

/-- The works, highest level first, event tasks in task-number order (04 R65, R82). -/
def workOrder : List Nat := 0 :: (upTo 16).map (· + 3) ++ [1, 2]

/-- The work that has the lanes or the mailbox path: the highest that is in FREEZE, EXECUTE or COMMIT. -/
def State.current (s : State) : Option Nat :=
  workOrder.find? fun w => let p := (s.ply w).phase; p == 2 || p == 3 || p == 5

/-- An event task is in progress (R83): tasks share one level, so no other starts. -/
def State.taskBusy (s : State) : Bool := (upTo 16).any fun k => decide (2 ≤ (s.ply (k + 3)).phase)

/-- The task may start again by MININT (R82). -/
def State.taskPermitted (s : State) (k : Nat) : Bool :=
  let p := s.ply (k + 3)
  p.startAt == 0 || decide (p.startAt + s.rd R.XE_ET_CFG_MININT k * 10000 ≤ s.mt)

/-- Work of a higher level has the lanes or the mailbox path (R75). -/
def State.outranked (s : State) (w : Nat) : Bool :=
  match s.current with
  | some c => decide (levelOf c < levelOf w)
  | none => false

/-- STAT.PHASE of a class (Table 4.6): 6 while it is preempted; a class in MIRROR-WAIT is so while higher work has the lanes (log entry
44). -/
def State.clsPhase (s : State) (w : Nat) : Nat :=
  let p := (s.ply w).phase
  if ((p == 2 || p == 3 || p == 5) && s.current != some w) || (p == 4 && s.outranked w) then 6 else p

/-- The fields that show plies and tasks as they stand (04 Table 4.6, 05 Table 5.11). -/
def State.xeView (s : State) : State :=
  let s := s.each (upTo 3) fun s w =>
    ((s.wr R.XE_CLS_STAT_PHASE (s.clsPhase w) w).put R.XE_CLS_STAT_ALIGNED (s.ply w).aligned w).put
      R.XE_CLS_STAT_ERRPEND ((s.ply w).cause != 0 || (s.ply w).causeF != 0) w
  let run := (upTo 16).foldl (fun a k => nsetBit a k (decide (2 ≤ (s.ply (k + 3)).phase))) 0
  (s.wr R.XE_ET_RUN run).wr R.XE_ENG_STAT_LEVEL (match s.current with | some w => levelOf w + 1 | none => 0)

/-- A capture channel sees an edge of source `src` (12 R276). -/
def State.captureOn (s : State) (k : Nat) (rising : Bool) : State :=
  if s.flag R.TIM_CAP_STAT_VALID k then (s.wr R.TIM_CAP_STAT_OVF 1 k).sat R.TIM_CAP_STAT_LOST k
  else
    let s := (s.wr2 R.TIM_CAP_MTLO R.TIM_CAP_MTHI s.mt k).wr2 R.TIM_CAP_NTLO R.TIM_CAP_NTHI s.tim.nt k
    let s := ((s.wr R.TIM_CAP_STAT_VALID 1 k).put R.TIM_CAP_STAT_RISE rising k).wr R.TIM_CAP_STAT_GEN (s.rd R.TIM_NTSTAT_GEN) k
    s.ev 0x40 8
def State.captureSource (s : State) (src : Nat) : State :=
  s.each (upTo 8) fun s k =>
    if s.flag R.TIM_CAP_CFG_EN k && s.rd R.TIM_CAP_CFG_SRC k == src && s.rd R.TIM_CAP_CFG_EDGE k != 0 then s.captureOn k true else s

/-- BAD 0x05 with value 0 and age 0xFFFF_FFFF. -/
def tvOutOfService : Nat := mkTv 0 (mkQ 0 5 0 0) ageMax

/-- The local input image at a FREEZE (16 R348), and TE.SWOUT as a tagged value (08). -/
def State.lioImage (s : State) : Nat :=
  if !s.present 0x58 || s.unit 0x58 != 2 then tvOutOfService
  else if s.lio.sampled != 15 then mkTv 0 (mkQ 0 1 0 0) ageMax
  else mkTv (s.rd R.LIO_DISTAT) qGood ((upTo 4).foldl (fun a g => max a ((s.mt - smGet 0 s.lio.at_ g) / 1000)) 0)
def State.teImage (s : State) : Nat :=
  if s.flag R.TE_CFGSTAT_LOCKED then mkTv (s.rd R.TE_SWOUT) qGood 0 else tvOutOfService

/-- FREEZE begins once the lanes and the mailbox path are free, 4 clocks after the trigger at the earliest (R461): pending force writes
take effect (07 R157), PLY_T is latched (R69, R83), the ply-start captures are taken (12 Table 12.2), the local input image and the
trip-engine image go into column 0's window (05 R107). -/
def State.beginFreeze (s : State) (w : Nat) : State :=
  let c := max s.clk ((s.ply w).ready + 4)
  let s := (s.awaitClk c).applyForces
  let p := s.ply w
  let s := s.setPly w { p with
    phase := 2, acked := false, prevT := (if p.fresh then 0 else p.plyT), plyT := s.mt, fresh := false, startAt := s.mt
    base := c, stop := none, pos := 0, news := 0 }
  let s := if w < 3 then s.captureSource (0x21 + w) else s
  let s := if s.pr.joinLead && s.rd R.PAIR_SYNC_STAT_PHASE == 4 && s.pr.finalW == 0 && decide (w < 3) then { s with pr := { s.pr with finalW := w + 1 } } else s
  let s := { s with pr := { s.pr with sent := smSet (0, 0) s.pr.sent (writerOf w) (0, 0), flight := [] } }
  let base := s.biBase s.half (mainPart w) 0
  if base = listNone then s
  else (s.fWr w (base + 0x100) 16 s.lioImage).fWr w (base + 0x110) 16 s.teImage

/-- COMMIT begins: a ply that reaches it by its deadline clears FF.CONSEC (R78). -/
def State.beginCommit (s : State) (w : Nat) : State :=
  let p := s.ply w
  let s := if p.phase = 4 then s else s.wr R.XE_MW_STAT_LASTTAIL 0
  let s := if w < 3 ∧ !p.fell then s.wr R.XE_CLS_FF_CONSEC 0 w else s
  s.setPly w { p with phase := 5, acked := false, base := s.clk, stop := none, pos := 0, since := none }

/-- MIRROR-WAIT of a work ends (R71): its length is recorded; COMMIT begins when the work has the lanes. -/
def State.ackWork (s : State) (w : Nat) : State :=
  let p := s.ply w
  if p.phase = 4 ∧ !p.acked then
    (s.wr R.XE_MW_STAT_LASTTAIL (min 0xFFFF ((s.mt - p.execEnd) / 10))).setPly w { p with acked := true, since := none }
  else s

/-- A pending event task waits for the lanes: enabled, permitted by MININT, no other in progress, no switch (R82, 07 R152). -/
def State.taskWaits (s : State) (k : Nat) : Bool :=
  nbit (s.rd R.XE_ET_PEND) k && s.flag R.XE_ET_CFG_EN k && !s.taskBusy && s.taskPermitted k && s.rd R.XE_SM_STAT_STATE != 4

/-- A stopped work goes on in lane clock `clk` (R75, R99, R461). -/
def State.resume (s : State) (w : Nat) : State :=
  match (s.ply w).stop with
  | some o => s.modPly w fun p => { p with base := s.clk - o, stop := none }
  | none => s

/-- The lanes are given to the highest waiting work (R65, R461): a stopped work goes on, a pending class starts, an acknowledged ply
begins COMMIT; a pending event task that may start keeps lower levels waiting until it is started. -/
def State.promoteIn (s : State) : List Nat → State
  | [] => s
  | w :: ws =>
    let p := s.ply w
    if p.phase = 2 ∨ p.phase = 3 ∨ p.phase = 5 then s.resume w
    else if p.phase = 1 then s.beginFreeze w
    else if p.phase = 4 ∧ p.acked then s.beginCommit w
    else if 3 ≤ w ∧ s.taskWaits (w - 3) then s
    else s.promoteIn ws

/-- The MIRROR-WAIT time-out of a work runs while the work is not preempted (R72). -/
def State.waitClock (s : State) (w : Nat) : State :=
  let p := s.ply w
  if p.phase ≠ 4 || p.acked then s
  else
    match p.since, s.outranked w with
    | some t, true => s.setPly w { p with since := none, ran := p.ran + (s.mt - t) }
    | none, false => s.setPly w { p with since := some s.mt }
    | _, _ => s
def State.promote (s : State) : State := (s.promoteIn workOrder).each workOrder State.waitClock

/-- A work is abandoned (R80): its rows in flight complete, nothing is committed, its retain marks are dropped. -/
def State.abandon (s : State) (w : Nat) : State :=
  let p := s.ply w
  if p.phase = 0 then s
  else
    let l := levelOf w
    let s := if p.phase = 3 then s.landAll l else s
    let s := (s.setPly w { p with phase := 0, acked := false, fell := false, stop := none, since := none }).setSeq l Seq.idle
    if w = 1 then { s with xe := { s.xe with marks := [] } } else s

/-- Every ply and task in progress is abandoned; with `keep`, a COMMIT already begun completes (R80). -/
def State.abandonAll (s : State) (keep : Bool) : State :=
  s.each workOrder fun s w => if keep && (s.ply w).phase == 5 then s else s.abandon w

/-! Classes (04 R64, R66, R67). Class `n` is 0–2 here. -/

def stepNs (n : Nat) : Nat := if n = 0 then 50000 else if n = 1 then 250000 else 1000000
def State.periodNs (s : State) (n : Nat) : Nat := s.rd R.XE_CLS_PER_PERIOD n * stepNs n
def State.phaseNs (s : State) (n : Nat) : Nat := s.rd R.XE_CLS_PER_PHASE n * stepNs n
/-- The class's triggers fall in network time (R66). -/
def State.usesNet (s : State) (n : Nat) : Bool := s.rd R.XE_CLS_CFG_TBASE n == 0 && s.flag R.TIM_NTCTL_LOCKED
def State.baseNow (s : State) (net : Bool) : Nat := if net then s.tim.nt else s.mt
/-- The first instant at or after `lb` that satisfies R66. -/
def State.firstAt (s : State) (n lb : Nat) : Nat :=
  let per := s.periodNs n
  if per = 0 then lb else lb + (s.phaseNs n % per + per - lb % per) % per

/-- Re-anchoring (R67): at enabling the first trigger lies at least 10 µs ahead; otherwise the trigger already scheduled
still occurs and the next is placed anew when it does. It sets cause bit 4 (R81). -/
def State.reanchor (s : State) (n : Nat) : State :=
  let s := s.sat R.XE_CLS_SKIP_REANCHOR n
  s.modPly n fun p =>
    match p.next with
    | some _ => { p with reanch := true, cause := nsetBit p.cause 4 true }
    | none => { p with next := some (s.firstAt n (s.baseNow (s.usesNet n) + 10000)), aligned := s.usesNet n,
                       cause := nsetBit p.cause 4 true }

/-- A class is enabled, or the classes are enabled anew at an entry into LEAD (11 R256). -/
def State.anchorNew (s : State) (n : Nat) : State := (s.modPly n fun p => { p with next := none, reanch := false }).reanchor n

/-- The next trigger of a class is placed when one falls (R67). -/
def State.advanceTrigger (s : State) (n : Nat) : State :=
  s.modPly n fun p =>
    match p.next with
    | some t =>
      if p.reanch then
        let from_ := if p.aligned = s.usesNet n then t else s.baseNow (s.usesNet n)
        { p with next := some (s.firstAt n (from_ + s.periodNs n)), aligned := s.usesNet n, reanch := false }
      else { p with next := some (t + s.periodNs n) }
    | none => p

end Sys2Proof.Machine
end

