-- ==== Sys2Proof/Machine/Modes.lean ====
section
/-! DEFINITION. Changes of the major mode and what they carry with them (03 R43–R48), the safety fault reaction (21 R428–R433) and
resets (03 R57–R59). -/

namespace Sys2Proof.Machine

/-! The sealed move as mode changes meet it (07 Table 7.7). -/

/-- A cancelled seal: VERIFIED, or IDLE with REVOK kept; source 23 (07, after Table 7.7). A lead tells a synchronised partner (R151). -/
def State.sealCancel (s : State) : State :=
  if s.rd R.XE_SM_STAT_STATE = 3 then
    let s := ((s.wr R.XE_SM_STAT_STATE (if s.xe.sl.fromVerified then 2 else 0)).sat R.XE_SM_COUNT_LAPSES).ev 0x10 7
    let s := s.sealReply false
    if s.flag R.PAIR_STAT_PSYNC then s.fwdSend .sealCancel else s
  else s

/-! Pair links as mode changes need them. -/

/-- The partner's MT minus the module's own (11 R232), and an instant of the module's MT in the partner's. -/
def State.mtOff (s : State) : Int := sgn 64 (s.rd2 R.PAIR_MTOFFLO R.PAIR_MTOFFHI)
def State.toPartnerMt (s : State) (t : Nat) : Nat := unsgn 64 ((t : Int) + s.mtOff)

/-- A HANDOVER on every link that is up (11 R261, R262). -/
def State.sendHandover (s : State) (abrupt : Bool) : State :=
  let plies := (upTo 3).map fun n => (s.rd R.XE_CLS_PLY n + 1) % 2 ^ 32
  let nexts := (upTo 3).map fun n =>
    let p := s.ply n
    if s.flag R.XE_CLS_CFG_EN n then p.next.map (fun t => if p.aligned then t else s.toPartnerMt t) else none
  let nets := (upTo 3).map fun n => (s.ply n).aligned
  s.each s.upLinks fun s l => (s.out (.handover l (s.seqOf l 0x05) abrupt plies nexts nets (s.rd R.XE_ET_PEND))).seqTaken l 0x05

/-- Own claim (11 R245). -/
def State.ownClaim (s : State) : Nat := s.rd2 R.PAIR_CLAIMLO R.PAIR_CLAIMHI
def State.setClaim (s : State) (c : Nat) : State := s.wr2 R.PAIR_CLAIMLO R.PAIR_CLAIMHI c

/-- PSYNC changes, unless a safety fault froze it (21 R431). When it falls, no ply waits for an acknowledgment any more (04 R71); when it falls in a lead, its claim is raised (11 R255). -/
def State.setPsync (s : State) (b : Bool) : State :=
  if s.safe then s
  else
    let s1 := s.put R.PAIR_STAT_PSYNC b
    let s1 := if b then s1 else s1.each workOrder fun s w => s.ackWork w
    let s1 := if b then s1 else s1.ncpAlone
    if s.flag R.PAIR_STAT_PSYNC && !b && s.isLead && s.flag R.PAIR_STAT_LEASE then
      if s.rd R.PAIR_EPOCH ≥ 0xFFFFFFFE then s1.err 0x3A 0x56 0x104
      else s1.setClaim ((s.rd R.PAIR_EPOCH + 2) * 2 + s.side)
    else s1
def State.setSync (s : State) (b : Bool) : State := (s.put R.PAIR_STAT_SYNC b).put R.SYS_MODE_SYNC (b && s.isTrack)

/-- A join in progress fails (11 R244). -/
def State.joinFails (s : State) (cause : Nat) : State :=
  let ph := s.rd R.PAIR_SYNC_STAT_PHASE
  if 1 ≤ ph ∧ ph ≤ 4 then
    { (s.wr R.PAIR_SYNC_STAT_PHASE 5).wr R.PAIR_SYNC_STAT_FAIL cause with pr := { s.pr with dirty := [], joinLead := false, finalW := 0, finalLines := [], failedAt := s.mt + 1 } }
  else s

/-- The publication keys go to the partner, and are generated at the first entry into LEAD (19 R414). -/
def State.sendKeys (s : State) : State :=
  if s.ncp.hasKeys then
    (s.fwdSend (.publicationKey false (BitVec.ofNat 256 s.ncp.key0))).fwdSend (.publicationKey true (BitVec.ofNat 256 s.ncp.key1))
  else s
def State.firstKeys (s : State) : State :=
  if s.ncp.hasKeys then s
  else
    let a := s.draw
    let b := a.2.draw
    (b.2.modNcp fun n => (n.setPubKey false (a.1 % 2 ^ 256) s.mt).setPubKey true (b.1 % 2 ^ 256) s.mt).sendKeys

/-- A join completes in the lead (11 R242 step 4): PSYNC, source 172; lines marked since go with the next ply; the next plies are the
first after a join (04 R81 bit 5). -/
def State.joinDone (s : State) : State :=
  let s := (s.wr R.PAIR_SYNC_STAT_PHASE 0).setPsync true
  let s := { s with pr := { s.pr with joinLead := false, finalW := 0, finalLines := [], host := s.pr.dirty.foldl insertNat s.pr.host, dirty := [] } }
  let s := s.each (upTo 3) fun s w => s.modPly w fun p => { p with cause := nsetBit p.cause 5 true }
  (s.ev 0x3A 8).sendKeys

/-- An ongoing castling of the outgoing module ends with a result (11 R260, R262). -/
def State.castEnd (s : State) (result : Nat) : State :=
  let s := if result = 0 then s else s.wr R.PAIR_CASTLE_STAT_RESULT result
  { s.wr R.PAIR_STAT_CASTLE 0 with pr := { s.pr with castKind := 0, castRecv := 0, castMaj := false } }.castReply

/-- A claim that has not led to LEAD is dropped, and with it the lease it won (11 R252, R253). -/
def State.dropClaim (s : State) : State :=
  if s.pr.claimKind = 0 then s
  else
    let s := if s.pr.claimKind = 2 then s.castEnd 0 else s
    { (s.setClaim 0).wr R.PAIR_STAT_LEASE 0 with pr := { s.pr with claimKind := 0, claimCyc := 0 }, sys := { s.sys with restart := 0 } }

/-! Local outputs and mode changes (16 R349, R463). -/

/-- Row 2 of Table 16.1, and what ranks above it but for the contacts. -/
def State.outputsOff (s : State) : Bool :=
  s.sys.resetHeld || s.safe || s.mode == 0 || s.mode == 1 || s.mode == 5 ||
    (s.isHold && (s.rd R.SYS_MODE_HOLDCAUSE == 4 || s.rd R.SYS_MODE_HOLDCAUSE == 9))

/-- A 2-bit field of LIO.DQHOLD or LIO.DQSRC. -/
def State.dqHold (s : State) (k : Nat) : Nat := nfield (s.rd R.LIO_DQHOLD) (2 * k) 2
def State.dqSrc (s : State) (k : Nat) : Nat := nfield (s.rd R.LIO_DQSRC) (2 * k) 2

/-- The after-effect of an open contact ends at a change of mode or HOLDCAUSE, but for an output that stays in row 6 under
FOLLOW (16 R463). -/
def State.seatRelease (s : State) (wasRow6 : Bool) : State :=
  let row6 := !s.outputsOff && (s.isTrack || s.isHold)
  let keep := (upTo 16).foldl (fun a k => nsetBit a k (wasRow6 && row6 && s.dqHold k == 3)) 0
  if s.pwr.seated1 && s.pwr.seated2 then { s with lio := { s.lio with seat := s.lio.seat &&& keep } } else s

/-! Mode changes. -/

/-- What leaving LEAD does (04 R80, 07 Table 7.7, 11 R244, R253, R262). `castled`: by castling. -/
def State.leaveLead (s : State) (castled keep : Bool) : State :=
  let s := if castled then s.each (upTo 3) fun s n => s.wr R.XE_CLS_FF_CONSEC 0 n
           else
             let s := if s.pr.castKind != 0 && !s.pr.handed then s.sendHandover true |>.castEnd 0 else s.castEnd 0
             (s.abandonAll keep).sealCancel
  let s := (s.joinFails 3).ncpAlone
  let s := (s.wr R.PAIR_STAT_LEASE 0).setClaim 0
  let s := { s with pr := { s.pr with claimKind := 0, handed := false }, xe := { s.xe with wrote := [] } }
  if s.safe then s else s.wr R.PAIR_STAT_PSYNC 0

/-- The mode becomes `target` with HOLDCAUSE `cause` (03 R45, Table 3.9). In HOLD a request for HOLD changes HOLDCAUSE alone.
Leaving SERVICE ends debug unlock (18 R393); an end of START other than HOLD with HOLDCAUSE 4 is a successful attempt of the pending
images (R51, 20 R423).
`castled`: LEAD is left by castling; `keep`: a COMMIT already begun completes (R80), but after a safety fault (21 R430). -/
def State.setMode (s : State) (target cause : Nat) (castled : Bool := false) (keep : Bool := true) : State :=
  let row6 := !s.outputsOff && (s.isTrack || s.isHold)
  if s.mode = target then
    if target = 4 then (s.wr R.SYS_MODE_HOLDCAUSE cause).seatRelease row6 else s
  else
    let old := s.mode
    let s := (s.wr R.SYS_MODE_MODE target).wrap R.SYS_MODE_CHANGES
    let s := if old = 5 then s.wr R.DBG_STAT_UNLOCKED 0 else s
    let s := s.wr R.SYS_MODE_HOLDCAUSE (if target = 4 then cause else 0)
    let s := if old = 1 ∧ (target = 2 ∨ target = 3 ∨ (target = 4 ∧ cause ≠ 4)) then s.bookSuccess else s
    let s := if old = 1 then s.wr R.SYS_STARTSTEP_STEP 0 else s
    let s := if old = 3 then s.leaveLead castled keep else if target = 3 then s else s.dropClaim
    let s := if target = 2 then s.put R.SYS_MODE_SYNC (s.flag R.PAIR_STAT_SYNC)
             else (s.wr R.SYS_MODE_SYNC 0).wr R.PAIR_STAT_SYNC 0
    let s := s.wr R.PAIR_STAT_ROLE (if target = 3 then 1 else if target = 2 then 2 else 0)
    let s := if target = 4 then { s with crtFlush := true } else s
    let s := if target = 2 then s else { s with sys := { s.sys with partnerWait := false } }
    (s.ev 0x00 0).seatRelease row6

/-! Resets (03 R57–R59, R432). -/

/-- A register survives a reset: power-on-only fields unless the reset is a power-on reset, the backup domain's, pins and the
values of the die (R57). -/
def keepsReset (powerOn : Bool) (key : Nat) : Bool :=
  let c := keyCls key
  c == 2 || c == 3 || c == 4 || (c == 1 && !powerOn)

/-- Memory that a loss of power keeps: the boot ROM and the cartridge's MRAM (01 Table 1.2). -/
def keepsPower (a : Nat) : Bool := decide (a < instBase) || (decide (cartBase ≤ a) && decide (a < dramBase))

/-- The lowest cause of a set (R58). -/
def lowestCause (causes : Nat) : Nat := ((upTo 6).find? fun i => nbit causes i).getD 0

/-- The prescaler of the calendar at the latest tick (13; log entry 13), and that of OPSEC. -/
def prescAt (base : Int) (at_ mt : Nat) : Nat := (min 32767 (base + (((mt - at_) * 32768 / 1000000000 : Nat) : Int))).toNat
def State.presc (s : State) : Nat := prescAt s.bk.base s.bk.at_ s.mt
def State.opPresc (s : State) : Nat := prescAt s.bk.opBase s.bk.opAt s.mt

/-- The MT of the next tick of the domain, and of the tick at which a prescaler that is `base` at `at_` wraps. -/
def State.bkNext (s : State) : Nat := s.bk.at_ + (((s.mt - s.bk.at_) * 32768 / 1000000000 + 1) * 1000000000 + 32767) / 32768
def wrapAt (base : Int) (at_ : Nat) : Nat := at_ + ((32768 - base).toNat * 1000000000 + 32767) / 32768

/-- The backup domain across a restart of MT: its prescalers go on from where they are; a write or commit on its way is taken
by no tick of a domain that AON left. -/
def State.bkAcross (s : State) : Bk :=
  { s.bk with base := (s.presc : Int), at_ := 0, opBase := (if s.mode = 0 then s.bk.opBase else (s.opPresc : Int)), opAt := 0, wpend := none, commit := none }

/-- The cartridge across a reset: its identity, NAND, directory and image book stay in it. -/
def State.crtAcross (s : State) : CrtSt :=
  { CrtSt.none with ident := s.crt.ident, nand := s.crt.nand, dir := s.crt.dir, book := s.crt.book }

/-- Everything but what the reset keeps is at its reset value; with `lost`, the volatile memories have lost their contents.
Frames in transmission on the rack buses are cut (17 R377). -/
def State.cleared (s : State) (powerOn lost : Bool) : State :=
  { State.reset with
    regs := s.regs.filter (fun e => keepsReset powerOn e.1)
    mem := if lost then s.mem.filter (fun e => keepsPower e.1) else s.mem
    outs := s.rbCut.outs
    free := s.free
    pending := s.pending
    pwr := { s.pwr with returned := false, warnAt := 0, off := false, openAt := 0, madeAt := none, flushAt := 0 }
    bk := s.bkAcross
    crt := s.crtAcross }

/-- AON rises: the power cycle is counted (13 R298), and a backup state that is not valid is reported (R288). -/
def State.aonRise (s : State) : State :=
  let s := s.sat R.BKD_PWRCYC_COUNT
  if s.flag R.BKD_STAT_BK_VALID then s else (s.wr R.BKD_STAT_LOSTSEEN 1).ev 0x48 7

/-- The supply and the levels that outlast a reset: of BKD (13 R284, EVRAW bits 0, 1 and 6), and of PWR's feeds (R63, bits 2 and 3). -/
def State.bkLevels (s : State) : State :=
  let s := (s.wr R.PWR_STATUS_BKSRC (s.rd R.BKD_STAT_SRC)).wr R.H_EVRAW (s.rd R.BKD_ALMFLAG + 64 * s.rd R.BKD_STAT_CELLLOW) 0 0x48
  s.wr R.H_EVRAW (4 * (1 - s.rd R.PWR_STATUS_P1OK) + 8 * (1 - s.rd R.PWR_STATUS_P2OK)) 0 0x01

/-- A reset of the given causes (bit n: LAST code n) is asserted: every unit outside the backup domain is at its reset values,
the mode is START, and nothing runs until the release (R57–R59). -/
def State.resetAssert (s : State) (causes : Nat) : State :=
  let po := nbit causes 0
  let hist := if po then causes else s.rd R.SYS_RSTCAUSE_HIST ||| causes
  let cnt := if po then 0 else satAdd 16 (s.rd R.SYS_RSTCOUNT_COUNT) 1
  let t := (s.cleared po po).bkLevels
  let t := if po then t.aonRise else t
  let t := if po then t else { t with sys := { t.sys with cut := some (s.mt, s.mode, decide (s.saf.faultAt = s.mt + 1)) } }
  let t := ((t.wr R.SYS_RSTCAUSE_HIST hist).wr R.SYS_RSTCAUSE_LAST (lowestCause causes)).wr R.SYS_RSTCOUNT_COUNT cnt
  t.ev 0x00 1

/-- The AON supply is lost (03 R61, 22 R450): DORMANT; only the backup domain, the cartridge and the pins keep their state. -/
def State.powerOff (s : State) : State :=
  let t := (s.cleared false true).bkLevels.wr R.SYS_MODE_MODE 0 |>.wr R.SYS_STARTSTEP_STEP 0
  { t with pwr := { t.pwr with stored := false } }

/-- A castling request of the lead (11 R259, R260 step 1): CASTLE on every link that is up. Not accepted: none. -/
def State.castleRequest (s : State) (forced : Bool) : Option State :=
  if s.isLead && s.flag R.PAIR_STAT_PSYNC && s.upLinks != [] && s.pr.castKind == 0 && !s.pr.handed &&
      s.rd R.XE_SM_STAT_STATE != 4 then
    let s := { s.wr R.PAIR_STAT_CASTLE 1 with pr := { s.pr with castKind := if forced then 2 else 1, castMaj := false } }
    some (s.plSendAll 0x06 0 [if forced then 2 else 1])
  else none

/-! The safety fault (21 R428–R433, Table 21.2). -/

/-- The reactions of 21 R429. -/
inductive Reaction where
  | hold | safetyReset | watchdogReset
  deriving DecidableEq, Repr

/-- MT and mode of a fault, before a reset of the same clock, and whether FIRST was filled in that clock (R433; Table 21.6). -/
def State.faultClock (s : State) : Nat × Nat × Bool := s.sys.cut.getD (s.mt, s.mode, decide (s.saf.faultAt = s.mt + 1))

/-- SAF records a cause: the first since power-on, of one clock the lowest, all of them, and the count (R430, R433). -/
def State.recordFault (s : State) (cause unit info : Nat) : State :=
  let c := s.faultClock
  let s :=
    if s.rd R.SAF_FIRST_CAUSE = 0 || (c.2.2 && decide (cause < s.rd R.SAF_FIRST_CAUSE)) then
      let s := ((s.wr R.SAF_FIRST_CAUSE cause).wr R.SAF_FIRST_UNIT unit).wr R.SAF_FIRST_MODE c.2.1
      let s := (s.wr2 R.SAF_FIRST_MTLO R.SAF_FIRST_MTHI c.1).wr R.SAF_FIRST_INFO info
      { s with saf := { s.saf with faultAt := c.1 + 1 }, sys := { s.sys with cut := s.sys.cut.map fun c => (c.1, c.2.1, true) } }
    else s
  (s.bitTo R.SAF_CAUSES (cause - 1) true).sat R.SAF_COUNT_SF

/-- TE's outputs (08 R165, R171, R180; Table 3.1): commands are 0 where the mode keeps the outputs off and in the safe state; the
reflex bits demand a trip in the safe state and in HOLD with HOLDCAUSE 4. Source 24 where one changes. -/
def State.teOutputs (s : State) (dq rx : Nat) : State :=
  let dq := if s.outputsOff then 0 else dq &&& s.rd R.TE_DQASSIGN
  let rx := if s.safe || (s.isHold && s.rd R.SYS_MODE_HOLDCAUSE == 4) then 0 else rx
  let changed : Bool := dq != s.rd R.TE_DQOUT || rx != s.rd2 R.TE_RXOUT0 R.TE_RXOUT1
  let s := (s.wr R.TE_DQOUT dq).wr2 R.TE_RXOUT0 R.TE_RXOUT1 rx
  if changed then s.ev 0x18 0 else s

/-- The safe state is driven: safe-state lines, TE and LIO commands 0 (R428, R180). -/
def State.driveSafe (s : State) : State :=
  let s := ((s.wr R.SAF_STAT_SAFE 1).wr R.SAF_STAT_FAULTED 1).wr R.SAF_SSL_DRIVE 7 |>.wr R.SAF_SSL_READ 7
  let s := (s.teOutputs 0 0).wr R.TE_CFGSTAT_SAFE 1
  s.ev 0x05 0

/-- HOLD with HOLDCAUSE 4 from any mode but DORMANT; plies are abandoned, a COMMIT in progress with them; the copy engine of a
switch stops; START ends with its step failed (R430, 07 Table 7.7, 21 Table 21.6). -/
def State.faultHold (s : State) : State :=
  let s := if s.mode = 1 ∧ s.rd R.SYS_STARTSTEP_FAIL = 0 then s.wr R.SYS_STARTSTEP_FAIL (s.rd R.SYS_STARTSTEP_STEP) else s
  let s := ((if s.pr.claimKind = 2 then s.castEnd 5 else s).dropClaim).setMode 4 4 (keep := false)
  let s := (s.abandonAll false).sealCancel
  if s.rd R.XE_SM_STAT_STATE = 4 then (s.wr R.XE_SM_STAT_STATE 0).sealReply false else s

/-- A safety fault of a cause with its reaction (R429, R430, R432); a flush of the recorder is due (15 R334). An asserted reset ranks above it (03 R48):
a fault in the clock of the assertion is recorded (Table 21.6), a later one is none. -/
def State.safetyFault (s : State) (cause : Nat) (kind : Reaction) (unit info : Nat) : State :=
  if s.mode = 0 then s
  else if s.sys.resetHeld then (if s.mt = 0 && s.sys.cut.isSome then s.recordFault cause unit info else s)
  else
    let s := (s.recordFault cause unit info).driveSafe.faultHold
    let s := { s with er := { s.er with due := true } }
    let srst := s.rd R.SAF_COUNT_SRST
    let mayReset : Bool := decide (srst < s.rd R.SAF_CFG_MAXRST)
    match kind with
    | .watchdogReset => (s.sat R.SAF_COUNT_SRST).resetAssert (2 ^ 2)
    | .safetyReset => if mayReset then (s.sat R.SAF_COUNT_SRST).resetAssert (2 ^ 3) else s
    | .hold => if s.flag R.SAF_CFG_RSTALL && mayReset then (s.sat R.SAF_COUNT_SRST).resetAssert (2 ^ 3) else s

/-- The reaction to mirror escapes that a command's writes made (11 R240): source 4 and a safety fault of cause 0x0C. -/
def State.escReact (s : State) : State :=
  if s.pr.esc then
    ({ s with pr := { s.pr with esc := false } }.ev 0x05 4).safetyFault 0x0C .hold 0x3A (s.rd R.PAIR_ESC_ADDR)
  else s

end Sys2Proof.Machine
end

