-- ==== Sys2Proof/Machine/Half.lean ====
section
/-! DEFINITION. A loaded program: the checks of a move-memory half and its constant half (05 R101–R108), activation, the freeze and
commit lists. -/

namespace Sys2Proof.Machine

/-- One entry of a freeze or commit list (05 R108). -/
structure ListEntry where
  seg : Nat
  st : Nat
  lines : Nat
  area : Nat
  deriving DecidableEq, Repr

/-- The partitions that have lists and windows: class mains and event tasks. -/
def listParts : List Nat := [0, 2, 4] ++ (upTo 16).map (· + 6)
def errParts : List Nat := [1, 3, 5]

/-- Constant offset of a partition's freeze list and commit list. -/
def State.freezeList (s : State) (h p : Nat) : Nat := s.desc h p 0x08 4
def State.commitList (s : State) (h p : Nat) : Nat := s.desc h p 0x0C 4

/-- The entries of the list at constant offset `o`; none where there is no list. -/
def State.listAt (s : State) (h o : Nat) : List ListEntry :=
  if o = listNone then []
  else
    let c := constBase h + o
    (upTo (min 512 (s.rdLe c 4))).map fun i =>
      let e := c + 8 + 8 * i
      ⟨s.rdLe e 1, s.rdLe (e + 1) 1, s.rdLe (e + 2) 1, s.rdLe (e + 4) 4⟩

/-- A list is valid by R108. `lim`: the highest line count; `w`: LANES where it is a commit list, else 0. -/
def State.listOk (s : State) (h o lim w : Nat) : Bool :=
  o == listNone ||
    (let c := constBase h + o
     let n := s.rdLe c 4
     let used := s.hdr h 0x024 4
     o % 8 == 0 && decide (o + 8 ≤ used) && decide (n ≤ 512) && decide (o + 8 + 8 * n ≤ used) && s.rdLe (c + 4) 4 == 0 &&
      ((upTo n).all fun i =>
        let e := c + 8 + 8 * i
        let seg := s.rdLe e 1
        let lines := s.rdLe (e + 2) 1
        let area := s.rdLe (e + 4) 4
        decide (seg < 16) && s.present (segPage seg) && decide (s.rdLe (e + 1) 1 < 32) && decide (1 ≤ lines ∧ lines ≤ lim) &&
          s.rdLe (e + 3) 1 == 0 && area % 16 == 0 && decide (area + 16 * lines ≤ s.instSize) &&
          (w == 0 || (decide (area / bankSize < w) && area / bankSize == (area + 16 * lines - 1) / bankSize))) &&
      (((s.listAt h o).map fun e => 32 * e.seg + e.st).Nodup : Bool))

/-- The rows of a partition that starts at row `r`, up to its END row, lie within USEDMOVES. -/
def State.rowsWithin (s : State) (h r : Nat) : Bool :=
  let w := s.hdrLanes h
  (upTo ((s.hdrUsed h - 64) / w)).any fun k => decide (r ≤ k) && mvOp (s.rdLe (moveBase h + 16 * (64 + k * w)) 16) == 0x02

/-- MOVECRC and CONSTCRC as the used bytes give them (05 Table 5.5). -/
def State.moveCrc (s : State) (h : Nat) : Nat := crc32 (s.rbs (moveBase h + 0x010) (16 * s.hdrUsed h - 0x010))
def State.constCrc (s : State) (h : Nat) : Nat := crc32 (s.rbs (constBase h) (s.hdr h 0x024 4))

/-- The first failed check of R103 on a half, 0 where all pass. -/
def State.halfCheck (s : State) (h : Nat) : Nat :=
  let w := s.hdrLanes h
  let used := s.hdrUsed h
  let cu := s.hdr h 0x024 4
  let rb := s.hdr h 0x02C 4
  let rs := s.hdr h 0x030 4
  if s.hdr h 0 4 ≠ 0x4C344B4D then 1
  else if s.hdr h 4 2 ≠ 1 then 2
  else if w = 0 ∨ s.lanePairs < w then 3
  else if used < 64 ∨ (used - 64) % w ≠ 0 ∨ 1048576 < used ∨ s.moveCrc h ≠ s.hdr h 0x00C 4 then 4
  else if cu % 16 ≠ 0 ∨ constSize < cu ∨ s.constCrc h ≠ s.hdr h 0x028 4 then 5
  else if !((upTo 22).all fun p => s.desc h p 4 4 == 0 || s.rowsWithin h (s.desc h p 0 4)) ||
      !(errParts.all fun p => s.desc h p 8 24 == 0) then 6
  else if !(listParts.all fun p => s.desc h p 4 4 == 0 || ((upTo 4).all fun c =>
      let b := s.biBase h p c
      if c < w then b % 4096 == 0 && b / bankSize == c else b == listNone)) then 7
  else if rb % 64 ≠ 0 ∨ rs % 64 ≠ 0 ∨ 0x400000 < rs ∨ bankSize < rb + rs then 8
  else if !(listParts.all fun p => s.listOk h (s.freezeList h p) 32 0 && s.listOk h (s.commitList h p) 15 w) then 9
  else if !((listParts.flatMap fun p => (s.listAt h (s.commitList h p)).map fun e => 32 * e.seg + e.st).Nodup : Bool) then 10
  else 0

/-- A half holds a header that passes every check. -/
def State.halfValid (s : State) (h : Nat) : Bool := s.flag R.XE_MM_HDR_VALID h

/-- STAGEDOK follows the staged half's VALID bit (05 Table 5.11). -/
def State.stagedView (s : State) : State := s.put R.XE_ENG_STAT_STAGEDOK (s.halfValid (1 - s.half))

/-- Page 0x13 and the active half as activation or a switch leaves them (05 R115); the lane pairs allocated. -/
def State.loadActive (s : State) (h : Nat) : State :=
  let s := (s.wr R.XE_ENG_STAT_ACTIVE h).wr R.XE_ENG_STAT_LANES (2 ^ s.hdrLanes h - 1)
  let s := (upTo 22).foldl (fun s p => (s.wr R.XE_PART_START (s.desc h p 0 4) p).wr R.XE_PART_EXROWS (s.desc h p 4 4) p) s
  let s := (s.wr R.XE_RET_BASE (s.hdr h 0x02C 4)).wr R.XE_RET_SIZE (s.hdr h 0x030 4)
  let s := ((s.wr R.XE_LAYOUT_ID0 (s.hdr h 0x010 4)).wr R.XE_LAYOUT_ID1 (s.hdr h 0x014 4)).wr R.XE_LAYOUT_ID2 (s.hdr h 0x018 4)
    |>.wr R.XE_LAYOUT_ID3 (s.hdr h 0x01C 4) |>.wr R.XE_LAYOUT_MIRRORFMT (s.hdr h 0x020 2)
  (s.wr R.PWR_DOMAIN_XE (2 ^ s.hdrLanes h - 1)).stagedView

/-- The LAYOUTID of the active half (05 R115). -/
def State.layoutId (s : State) : Nat :=
  s.rd R.XE_LAYOUT_ID0 + s.rd R.XE_LAYOUT_ID1 * 2 ^ 32 + s.rd R.XE_LAYOUT_ID2 * 2 ^ 64 + s.rd R.XE_LAYOUT_ID3 * 2 ^ 96

/-- The modes in which ACTIVATE is accepted (R103). -/
def State.activateMode (s : State) : Bool :=
  s.mode == 1 || s.isHold || s.isService || (s.isTrack && !s.flag R.SYS_MODE_SYNC)

/-- MLVOL of an enabled class is above what one link carries in its period: firmware does not activate such a program (11 R241). -/
def State.volumeShown (s : State) : Bool :=
  (upTo 3).any fun n => s.flag R.XE_CLS_CFG_EN n && decide (8 * 2900 * s.periodNs n < 10 * 1000 * s.rd R.PAIR_MLVOL n)

/-- ACTIVATE (R103): a write of XE.MM.CTRL with ACTIVATE 1 and SEL. While an activation runs it has no effect but on SEL (00 Table 0.4). -/
def execActivate (m : BitVec 6) (sel : Fin 2) (s : State) : Res :=
  .next <| s.onPage 0x10 fun s =>
    let s := (s.wr R.XE_MM_CTRL_SEL sel).cfgBump s 0x10 0x110 m.toNat
    if s.act ≠ 0 then s
    else if m.toNat < 2 ∧ s.volumeShown then s
    else if s.activateMode then { s with act := sel + 1 } else s.err 0x10 0x25 0x110

/-- The outcome of the checks (R103): the half becomes active, or the first failed check is recorded. -/
def State.activated (s : State) (h : Nat) : State :=
  let c := s.halfCheck h
  let s := (s.wr R.XE_MM_HDR_CHECK c h).put R.XE_MM_HDR_VALID (c == 0) h
  if c = 0 then s.loadActive h else (s.err 0x10 (if c = 10 then 0x24 else 0x26) 0x110).stagedView

/-- ACTIVATION_COMPLETE (R103). In the Program phase of a join a refused activation fails the join (11 R243). -/
def execActivationComplete (s : State) : Res :=
  .next <|
    if s.act = 0 then s
    else
      let h := s.act - 1
      let s := { s with act := 0 }
      let s := s.activated h
      if s.rd R.XE_MM_HDR_CHECK h ≠ 0 ∧ s.rd R.PAIR_SYNC_STAT_PHASE = 1 then s.joinFails 4 else s

end Sys2Proof.Machine
end

