-- ==== Sys2Proof/Machine/Te.lean ====
section
/-! DEFINITION. The trip engine (08): the matrix, timers and latches of a pass, the reflex inputs, the configuration store and its lock,
the self-test. -/

namespace Sys2Proof.Machine

/-! The configuration store (08 Table 8.6). -/

def State.teWord (s : State) (i : Nat) : Nat := smGet 0 s.te.store i

/-- `n` words from word `i` up as one little-endian number. -/
def State.teWords (s : State) (i : Nat) : Nat → Nat
  | 0 => 0
  | n + 1 => s.teWord i + 2 ^ 32 * s.teWords (i + 1) n

def litMask : Nat := 2 ^ 176
/-- The literals term `k` selects true and complemented. -/
def State.teTrue (s : State) (k : Nat) : Nat := s.teWords (12 * k) 6 % litMask
def State.teComp (s : State) (k : Nat) : Nat := s.teWords (12 * k) 12 / 2 ^ 192 % litMask
/-- The terms sum `k` selects, and whether it is inverted. -/
def State.teSumMask (s : State) (k : Nat) : Nat := s.teWords (0x1800 + 16 * k) 16
def State.teInv (s : State) (k : Nat) : Bool := nbit (s.teWord (0x1F00 + k)) 0
/-- Timer `k`: PT in µs and mode. Latch `k`: its word. Reflex map entry `k`: its word (08 Table 8.4). -/
def State.tePt (s : State) (k : Nat) : Nat := nfield (s.teWord (0x1F80 + 2 * k)) 0 24
def State.teMode (s : State) (k : Nat) : Nat := nfield (s.teWord (0x1F81 + 2 * k)) 0 2
def State.teLatch (s : State) (k : Nat) : Nat := s.teWord (0x1FA0 + k)
def State.teMap (s : State) (k : Nat) : Nat := s.teWord (0x1FC0 + k)
def mapSeg (w : Nat) : Nat := nfield w 0 4
def mapSt (w : Nat) : Nat := nfield w 8 5
def mapBit (w : Nat) : Nat := nfield w 16 6
def mapTmo (w : Nat) : Nat := nfield w 24 4
def mapEn (w : Nat) : Bool := nbit w 31

/-- A term (R164): 0 when it selects nothing, or a literal both ways. -/
def termOf (t c lits : Nat) : Bool :=
  (t != 0 || c != 0) && (t &&& lits) == t && (c &&& lits) == 0

/-- The 512 terms and the 112 sums over the literals (R164), bit k for term or sum k. -/
def State.teTerms (s : State) (lits : Nat) : Nat :=
  (upTo 512).foldl (fun a k => if termOf (s.teTrue k) (s.teComp k) lits then a + 2 ^ k else a) 0
def State.teSums (s : State) (terms : Nat) : Nat :=
  (upTo 112).foldl (fun a k => if ((s.teSumMask k &&& terms) != 0) != s.teInv k then a + 2 ^ k else a) 0

/-- A timer at the end of a pass (R166): its input, the input of the pass before, TQ, whether its count runs and has reached PT
before this pass began; the new TQ and whether the count runs. -/
def timerStep (mode : Nat) (f pf tq run reached : Bool) : Bool × Bool :=
  match mode with
  | 0 => if !f then (false, false) else if run && reached then (true, false) else (tq, run || !tq)
  | 1 => if f then (true, false) else if run && reached then (false, false) else (tq, run || (pf && tq))
  | 2 => if run && reached then (false, false) else if !tq && f && !pf then (true, true) else (tq, run)
  | _ => (false, false)

/-- A latch at the end of a pass (R167). -/
def latchStep (word : Nat) (terms : Nat) (lq : Bool) : Bool :=
  match nbit terms (nfield word 0 9), nbit terms (nfield word 16 9) with
  | true, false => true
  | false, true => false
  | true, true => nbit word 12
  | false, false => lq

/-- Reflex input `k` is timed out, disabled, or on a segment that is not enabled (R172): its station's last valid frame ended TMO
rounds ago or more. -/
def State.rxStaleAt (s : State) (k : Nat) : Bool :=
  let w := s.teMap k
  let t := smGet 0 s.te.rxAt (32 * mapSeg w + mapSt w)
  !mapEn w || !s.segOn (mapSeg w) || t == 0 || decide (t + mapTmo w * 125000 ≤ s.mt + 1)
def State.rxStale (s : State) : Nat := (upTo 64).foldl (fun a k => if s.rxStaleAt k then nsetBit a k true else a) 0
/-- RX00–RX63 (R172). -/
def State.rxNow (s : State) : Nat :=
  (upTo 64).foldl (fun a k =>
    let w := s.teMap k
    if !s.rxStaleAt k && nbit (smGet 0 s.te.rxPay (32 * mapSeg w + mapSt w)) (mapBit w) then nsetBit a k true else a) 0

/-- The literals at the first clock of a pass (R163). -/
def State.literals (s : State) (di rx : Nat) : Nat :=
  (if s.isS08 then 0 else di &&& s.rd R.TE_DIASSIGN) + rx * 2 ^ 32 + s.rd R.TE_SWIN * 2 ^ 96 + s.rd R.TE_TQ * 2 ^ 112 +
    s.rd R.TE_LQ * 2 ^ 128 + s.te.f * 2 ^ 160

/-- The timers at the end of a pass that began at MT `t` (R166): TQ, the counts that run, and the MT plus 1 at which each began. The tick
at which a count reaches PT must lie before the pass. -/
def State.teTimers (s : State) (t f : Nat) : Nat × Nat × SMap Nat :=
  let tq := s.rd R.TE_TQ
  (upTo 16).foldl (fun (a : Nat × Nat × SMap Nat) k =>
    let t0 := smGet 0 s.te.tFrom k
    let r := timerStep (s.teMode k) (nbit f k) (nbit s.te.f k) (nbit tq k) (nbit s.te.counting k) (decide (t0 + s.tePt k * 1000 < t + 1))
    let begun := r.2 && !nbit s.te.counting k
    (nsetBit a.1 k r.1, nsetBit a.2.1 k r.2, if begun then smSet 0 a.2.2 k (t + 81) else if r.2 then a.2.2 else smSet 0 a.2.2 k 0))
    (0, 0, s.te.tFrom)

/-- TE_PASS (R164–R168, R182): a pass of 80 ns that latches its literals now and updates everything at its last clock. -/
def execTePass (di : BitVec 32) (s : State) : Res :=
  .next <|
    if !s.running 0x18 || !s.flag R.TE_CFGSTAT_LOCKED || s.sys.resetHeld then s
    else
      let stale := s.rxStale
      let rx := s.rxNow
      let terms := s.teTerms (s.literals di.toNat rx)
      let sums := s.teSums terms
      let f := nfield sums 96 16
      let tm := s.teTimers s.mt f
      let lq := (upTo 32).foldl (fun a k => nsetBit a k (latchStep (s.teLatch k) terms (nbit (s.rd R.TE_LQ) k))) 0
      let sw := nfield sums 80 16
      let old := s.te.sums
      let s := s.awaitMt (s.mt + 80)
      let s := if sw ≠ s.rd R.TE_SWOUT then (s.wr R.TE_SWOUT sw).ev 0x18 1 else s
      let s := (upTo 4).foldl (fun s i =>
        let sel := nfield (s.rd R.TE_EVSEL) (8 * i) 8
        if sel < 112 ∧ nbit sums sel ∧ !nbit old sel then s.ev 0x18 (4 + i) else s) s
      let s := s.teOutputs (nfield sums 0 16) (nfield sums 16 64)
      let s := (s.wr2 R.TE_RXIN0 R.TE_RXIN1 rx).wr2 R.TE_RXSTALE0 R.TE_RXSTALE1 stale
      let s := ((s.wr R.TE_TQ tm.1).wr R.TE_LQ lq).wrap R.TE_PASSCNT
      { s with te := { s.te with sums := sums, f := f, counting := tm.2.1, tFrom := tm.2.2 } }

/-- TE_TIMER_EXPIRY (R166): the tick at which the count of a running timer reaches PT; the first pass that begins after it changes TQ. -/
def execTeTimerExpiry (k : Fin 16) (s : State) : Res :=
  .next <|
    if s.flag R.TE_CFGSTAT_LOCKED && nbit s.te.counting k then s.awaitMt (smGet 0 s.te.tFrom k - 1 + s.tePt k * 1000) else s

/-- The bursts of a diagnostic pass end (R179). -/
def State.burstsEnd (s : State) : State := { s.wr R.TE_CFGSTAT_BURST 0 with te := { s.te with bursts := 0 } }

/-- A mismatch of the two matrices, of a signature or of a store CRC (R178, R179): FAULT, safe outputs, source 26 and the safety
fault reaction with the given cause. -/
def State.teFault (s : State) (cause : Nat) : State :=
  let s := ((s.sat R.TE_ST_FAILS).toFault 0x18).burstsEnd
  let s := (s.teOutputs 0 0).ev 0x18 2
  s.safetyFault cause .hold 0x18 (s.rd R.TE_ST_LASTSIG)

/-- TE evaluates: it is ON and its configuration locked (R176). -/
def State.teRuns (s : State) : Bool := s.running 0x18 && s.flag R.TE_CFGSTAT_LOCKED

/-- TE_COMPARE_MISMATCH (R178). -/
def execTeCompareMismatch (s : State) : Res :=
  .next <| if s.teRuns then s.teFault 0x05 else s

/-- TE_BURST_COMPLETE (R179): the signature is compared with SIG of the store; a burst that passes swaps the matrices. -/
def execTeBurstComplete (sig : BitVec 32) (s : State) : Res :=
  .next <|
    if s.te.bursts = 0 ∨ !s.teRuns then s
    else
      let s := s.wr R.TE_ST_LASTSIG sig.toNat
      if sig.toNat = s.teWord 0x2002 then
        let left := s.te.bursts - 1
        let s := ((s.wrap R.TE_ST_PASSES).wr R.TE_CFGSTAT_FUNC (1 - s.rd R.TE_CFGSTAT_FUNC)).put R.TE_CFGSTAT_BURST (left != 0)
        { s with te := { s.te with bursts := left } }
      else s.teFault 0x06

/-! Configuration and lock (R176, R177). -/

/-- Every zero field of Tables 8.6 and 8.4 is 0. -/
def State.teZeroOk (s : State) : Bool :=
  ((upTo 512).all fun k => s.teWord (12 * k + 5) / 2 ^ 16 == 0 && s.teWord (12 * k + 11) / 2 ^ 16 == 0) &&
    ((upTo 112).all fun k => s.teWord (0x1F00 + k) / 2 == 0) &&
    ((upTo 16).all fun k => s.teWord (0x1F70 + k) == 0) &&
    ((upTo 32).all fun k => let w := s.teLatch k; nfield w 9 3 == 0 && nfield w 14 2 == 0 && nfield w 25 7 == 0) &&
    ((upTo 64).all fun k => let w := s.teMap k; nfield w 4 4 == 0 && nfield w 13 3 == 0 && nfield w 22 2 == 0 && nfield w 28 3 == 0) &&
    s.teWord 0x2003 == 0

/-- The lock checks in the order of Table 8.7: 0, or the first that fails. -/
def State.teCheck (s : State) : Nat :=
  firstFail [
    (1, s.teWord 0x2000 == 0x54524950 && s.teWord 0x2001 % 2 ^ 16 == s.rd R.TE_BASEVER),
    (2, s.teZeroOk),
    (3, !s.isS08 || (((upTo 512).all fun k => s.teTrue k % 2 ^ 32 == 0 && s.teComp k % 2 ^ 32 == 0) &&
          ((upTo 16).all fun k => s.teSumMask k == 0))),
    (4, (upTo 64).all fun k => let w := s.teMap k; !mapEn w || (s.present (segPage (mapSeg w)) && mapTmo w != 0)),
    (5, (upTo 16).all fun k => s.teMode k == 3 || s.tePt k != 0),
    (6, true),
    (7, (upTo 4).all fun i => let f := nfield (s.rd R.TE_EVSEL) (8 * i) 8; decide (f < 112) || f == 0xFF)]

/-- The bytes of the store. -/
def State.teBytes (s : State) : List (BitVec 8) := (upTo 8196).flatMap fun i => leBytes 4 (s.teWord i)

/-- The CRC of both stores is recomputed in a diagnostic pass; a difference from TE.CFGCRC is a mismatch (R179). -/
def State.teScan (s : State) : State :=
  if s.teRuns && crc32 s.teBytes != s.rd R.TE_CFGCRC then s.teFault 0x06 else s

/-- TE_LOCK (R177). -/
def execTeLock (_m : BitVec 6) (key : BitVec 16) (unlock : Bool) (s : State) : Res :=
  .next <| s.onPage 0x18 fun s =>
    if unlock then s.err 0x18 0x37 0x100
    else if key.toNat ≠ 0x7E1C then s.err 0x18 0x30 0x100
    else if s.flag R.TE_CFGSTAT_LOCKED || s.te.locking then s.err 0x18 0x36 0x100
    else
      let c := s.teCheck
      let s := s.wr R.TE_CFGSTAT_CHECK c
      if c ≠ 0 then s.err 0x18 0x33 0x100 else { s with te := { s.te with locking := true } }

/-- TE_LOCK_COMPLETE (R177): CFGCRC, timers, latches and F bits, LOCKED, source 27; passes begin. -/
def execTeLockComplete (s : State) : Res :=
  .next <|
    if !s.te.locking then s
    else
      let lq := (upTo 32).foldl (fun a k => nsetBit a k (nbit (s.teLatch k) 13)) 0
      let s := (((s.wr R.TE_CFGCRC (crc32 s.teBytes)).wr R.TE_TQ 0).wr R.TE_LQ lq).wr R.TE_PASSCNT 0
      let s := { s with te := { s.te with locking := false, sums := 0, f := 0, counting := 0, tFrom := [] } }
      (s.wr R.TE_CFGSTAT_LOCKED 1).ev 0x18 3

/-- LOCKED is cleared (R176, R177): no pass runs, every TE output is 0. -/
def State.teUnlocked (s : State) : State :=
  if s.flag R.TE_CFGSTAT_LOCKED then (((s.wr R.TE_CFGSTAT_LOCKED 0).burstsEnd).teOutputs 0 0).ev 0x18 3 else s

/-- TE_UNLOCK (R177). -/
def execTeUnlock (_m : BitVec 6) (key : BitVec 16) (s : State) : Res :=
  .next <| s.onPage 0x18 fun s =>
    if key.toNat ≠ 0x7E1C then s.err 0x18 0x30 0x100
    else if !s.isService then s.err 0x18 0x32 0x100
    else s.teUnlocked

/-- One access to TE.CFGDATA (R176): the word read, and the state after it. A write changes TE.CFGADDR at least, which CFGGEN counts (02
R29). -/
def State.teData (s : State) (write : Bool) (v : Nat) : Nat × State :=
  let i := s.rd R.TE_CFGADDR_WORD
  let r := if i < 8196 then s.teWord i else 0
  let s1 :=
    if !write then s
    else if s.flag R.TE_CFGSTAT_LOCKED then s.err 0x18 0x31 0x10C
    else if 8196 ≤ i then s.err 0x18 0x35 0x10C
    else if s.te.locking then s.err 0x18 0x31 0x10C
    else { s with te := { s.te with store := smSet 0 s.te.store i v } }
  let s1 := if write then s1.wrap R.H_CFGGEN 0 0x18 else s1
  (r, s1.wrap R.TE_CFGADDR_WORD)

/-- TE_CFGDATA_ACCESS (R176). -/
def execTeCfgdataAccess (_m : BitVec 6) (write : Bool) (value : BitVec 32) (s : State) : Res :=
  .next <| if write then s.onPage 0x18 fun s => (s.teData true value.toNat).2 else s.onRead 0x18 fun s => s.teData false 0

/-! The reflex outputs (R173, 09 R187). -/

/-- The module sends REFLEX frames (R173, 09 R197, R202). -/
def State.reflexSends (s : State) : Bool :=
  s.flag R.TE_CFGSTAT_LOCKED && !s.sys.resetHeld && s.cstate == 5 &&
    (s.mode == 1 || s.isTrack || s.isLead || (s.isHold && s.rd R.SYS_MODE_HOLDCAUSE != 9)) && !s.flag R.PWR_STATUS_FLUSHONLY

end Sys2Proof.Machine
end

