-- ==== Sys2Proof/Machine/Wire.lean ====
section
/-! DEFINITION. The Ramette wire (09 R183–R188, R202; 10 R209–R213): cycle time, path delays, acceptance windows, the bus guardians,
the bytes of a frame and their way out. -/

namespace Sys2Proof.Machine

def State.setRmc (s : State) (r : Rmc) : State := { s with rmc := r }
def State.modRmc (s : State) (f : Rmc → Rmc) : State := { s with rmc := f s.rmc }
def State.modStn (s : State) (g k : Nat) (f : StSt → StSt) : State := s.setStn g k (f (s.stn g k))
def State.modRmt (s : State) (g : Nat) (f : Rmt → Rmt) : State := s.setRmt g (f (s.rmt g))

/-! Cycle time (R185, R202). -/

/-- The nominal cycle length in ns (R185), and the cycle count. -/
def State.cycleNs (s : State) : Nat := s.rd R.RMC_STAT_ROUNDS * 125000
def State.rmCycle (s : State) : Nat := s.rd R.RMC_STAT_CYCLE
/-- ρ in 0.001 ppm (10 Table 10.10). -/
def State.rho (s : State) : Int := sgn 32 (s.rd R.RMC_RATE)

/-- `n` ns of cycle time in the node's own time, stretched by 1 + ρ, and own time in cycle time (R202). -/
def State.stretch (s : State) (n : Nat) : Nat := ((n : Int) * (1000000000 + s.rho) / 1000000000).toNat
def State.cycleTime (s : State) (t : Int) : Int := t * 1000000000 / (1000000000 + s.rho)

/-- The MT of an offset in the current cycle, and the offset of an MT. -/
def State.mtIn (s : State) (n : Nat) : Nat := s.rmc.start + s.stretch n
def State.offsetOf (s : State) (t : Nat) : Int := s.cycleTime ((t : Int) - s.rmc.start)
/-- The MT of the next cycle start: the shift o of the last NIT acts on it (R202, 10 R211). -/
def State.nextStart (s : State) : Nat := ((s.mtIn s.cycleNs : Int) + s.rmc.shift).toNat

/-- The module has a cycle time (R462). -/
def State.hasCycle (s : State) : Bool :=
  s.cstate == 2 || s.cstate == 5 || s.cstate == 6 || (s.cstate == 4 && s.rmc.step != 0)

/-! Slots (R186) and their senders. -/

/-- A frame of `n` payload bytes lasts (14 + n) × 80 ns (R186). -/
def frameNs (n : Nat) : Nat := (14 + n) * 80
/-- Slot start within the cycle, length, end and action point, in ns (R186). -/
def Slot.at_ (e : Slot) : Nat := e.round * 125000 + e.start * 10
def Slot.ns (e : Slot) : Nat := 3000 + frameNs e.p
def Slot.end_ (e : Slot) : Nat := e.at_ + e.ns
def Slot.action (e : Slot) : Nat := e.at_ + 1000

/-- The side that owns out-slots on a channel (R195), and the owner of a SERVICE downlink (R198). -/
def outOwner (cyc : Nat) (b : Bool) : Nat := (cyc + b2n b) % 2
def svcOwner (cyc : Nat) (b : Bool) : Nat := (cyc / 2 + b2n b) % 2

/-- Who is scheduled to send: a station, or the module of a side. -/
inductive Sender where
  | station (k : Nat)
  | side (x : Nat)
  deriving DecidableEq, Repr

/-- The scheduled sender of slot `e` of segment `g` on channel `b` (Table 9.1, R195, R198). -/
def State.senderOf (s : State) (g : Nat) (b : Bool) (e : Slot) : Sender :=
  match e.kind with
  | 0 => .station e.station
  | 1 => .side (if (s.rmt g).ownall then s.side else outOwner s.rmCycle b)
  | 2 => .side 0
  | 3 => .side 1
  | _ => if s.rmCycle % 2 = 1 then .station (s.rmCycle / 2 % 32) else .side (svcOwner s.rmCycle b)

/-- The scheduled sender of minislot `m` of a round (R187); none where MINI names no station. -/
def State.miniSender (s : State) (g round m : Nat) : Option Sender :=
  if m < 6 then (s.miniOwner g round m).map .station else some (.side (m - 6))

/-! Path delays and acceptance windows (10 R209, R210). -/

/-- Own echo delay on a channel in 10 ns, 0 before any is measured. -/
def State.ownEcho (s : State) (g : Nat) (b : Bool) : Nat := s.rd (if b then R.RMT_ECHO_B else R.RMT_ECHO_A) 0 g
/-- The path delay d of a sender on a channel, in ns. -/
def State.pathNs (s : State) (g : Nat) (b : Bool) : Sender → Nat
  | .station k => 10 * s.rd (if b then R.RMT_PD_B else R.RMT_PD_A) k g
  | .side x =>
    let own := s.ownEcho g b
    if own = 0 then 900
    else if x = s.side then 10 * own
    else 5 * (s.rd (if b then R.RMT_PECHO_B else R.RMT_PECHO_A) 0 g + own)

/-- The deviation in ns of a frame start from where it is due: `n` is that offset in the cycle without the path delay (R201). -/
def State.devFrom (s : State) (g : Nat) (b : Bool) (x : Sender) (n start : Nat) : Int :=
  s.offsetOf start - ((n + s.pathNs g b x : Nat) : Int)
/-- The start lies in the acceptance window (10 R210). -/
def inWindow (m : Int) : Bool := decide (m.natAbs ≤ 500)

/-- What the schedule has at an offset of the cycle on a channel: a minislot with its round and number, a slot with its number. -/
inductive Place where
  | mini (round m : Nat)
  | slot (n : Nat) (e : Slot)
  | none
  deriving DecidableEq, Repr

def miniAt (round m : Nat) : Nat := round * 125000 + m * 2000
/-- The deviation of a start from where the owner's REFLEX frame of a minislot is due (10 R210); none without an owner. -/
def State.miniDev (s : State) (g : Nat) (b : Bool) (round m start : Nat) : Option Int :=
  (s.miniSender g round m).map fun x => s.devFrom g b x (miniAt round m + 250) start
/-- The slot of the channel at an offset in the cycle. -/
def State.slotOver (s : State) (g : Nat) (b : Bool) (o : Nat) : Place :=
  match findIdx (fun e : Slot => nbit e.chan (b2n b) && decide (e.at_ ≤ o) && decide (o < e.end_)) (s.rmt g).slots 0 with
  | some n => match s.slotAt g n with | some e => .slot n e | Option.none => .none
  | Option.none => .none
/-- A long path takes the window of a minislot into the next: a start belongs to the minislot before where it lies in that one's
window. -/
def State.placeOf (s : State) (g : Nat) (b : Bool) (start : Nat) : Place :=
  let o := s.offsetOf start
  if o < 0 ∨ (s.cycleNs : Int) ≤ o then .none
  else
    let o := o.toNat
    let m := o % 125000 / 2000
    if 1 ≤ m ∧ m ≤ 8 ∧ (s.miniDev g b (o / 125000) (m - 1) start).any inWindow then .mini (o / 125000) (m - 1)
    else if m < 8 then .mini (o / 125000) m
    else s.slotOver g b o

/-! The bytes of a frame (R187, R188). -/

/-- The header with its HCRC (Table 9.3), and a long-form frame between its delimiters. -/
def headBytes (seg slot cycle type len flags : Nat) : List (BitVec 8) :=
  let h := beBytes 2 (seg * 2 ^ 12 + slot) ++ [BitVec.ofNat 8 cycle, BitVec.ofNat 8 type, BitVec.ofNat 8 len, BitVec.ofNat 8 flags]
  h ++ beBytes 2 (crc16 h)
def longFrame (seg slot cycle type flags : Nat) (payload : List (BitVec 8)) : List (BitVec 8) :=
  let b := headBytes seg slot cycle type payload.length flags ++ payload
  b ++ beBytes 4 (crc32 b)
/-- The short form: the reflex bits from bit 63 down, and their CRC-16. -/
def shortFrame (bits : Nat) : List (BitVec 8) := let b := beBytes 8 bits; b ++ beBytes 2 (crc16 b)
/-- How long bytes with their two delimiters last (R183). -/
def wireNs (bs : List (BitVec 8)) : Nat := (bs.length + 2) * 80

end Sys2Proof.Machine

namespace Sys2Proof

open Machine

/-- The fields of a received frame's header (Table 9.3), by its bytes. -/
def Frame.byte (f : Frame) (i : Nat) : Nat := (f.bytes.getD i 0).toNat
def Frame.slotSeg (f : Frame) : Nat := f.byte 0 / 16
def Frame.slot (f : Frame) : Nat := f.byte 0 % 16 * 256 + f.byte 1
def Frame.cycle (f : Frame) : Nat := f.byte 2
def Frame.type (f : Frame) : Nat := f.byte 3
def Frame.length (f : Frame) : Nat := f.byte 4
def Frame.flags (f : Frame) : Nat := f.byte 5
def Frame.hcrcOk (f : Frame) : Bool := beNat ((f.bytes.drop 6).take 2) == crc16 (f.bytes.take 6)
def Frame.payload (f : Frame) : List (BitVec 8) := (f.bytes.drop 8).take f.length
def Frame.crcOk (f : Frame) : Bool :=
  let n := 8 + f.length
  decide (n + 4 ≤ f.bytes.length) && beNat ((f.bytes.drop n).take 4) == crc32 (f.bytes.take n)
/-- The MT in which the frame has ended. -/
def Frame.endAt (f : Frame) : Nat := f.start.toNat + wireNs f.bytes

/-- Check 10: T/R directly after the CRC-32. -/
def Frame.tailRight (f : Frame) : Bool := f.tailOk && f.bytes.length == 12 + f.length

/-- Check 2: the whole header has come, its code groups valid. -/
def Frame.headRight (f : Frame) : Bool := f.headOk && decide (8 ≤ f.bytes.length)

/-- CSFLEFT of a module-slot frame. -/
def Frame.csfLeft (f : Frame) : Nat := (f.payload.getD 14 0).toNat

end Sys2Proof

namespace Sys2Proof.Machine

/-! The bus guardians (10 R211–R213). -/

def Rmt.guard (r : Rmt) (b : Bool) : Guard := if b then r.gb else r.ga
def State.setGuard (s : State) (g : Nat) (b : Bool) (x : Guard) : State :=
  s.modRmt g fun r => if b then { r with gb := x } else { r with ga := x }
def State.blocked (s : State) (g : Nat) (b : Bool) : Bool := nbit (s.rd R.RMT_STAT_GBLK 0 g) (b2n b)

/-- A cut is counted with its kind, and source offset 2 raised (R211, R213). -/
def State.guardCut (s : State) (g : Nat) (b : Bool) (kind : Nat) : State :=
  ((s.sat (if b then R.RMT_GCUT_B else R.RMT_GCUT_A) 0 g).wr (if b then R.RMT_GKIND_B else R.RMT_GKIND_A) kind 0 g).segEv g (2 + b2n b)
/-- The guardian blocks: its driver off, a cut of kind SYNC (R211). -/
def State.guardBlock (s : State) (g : Nat) (b : Bool) : State :=
  let s := (s.guardCut g b 1).bitTo R.RMT_STAT_GBLK (b2n b) true 0 g
  s.setGuard g b { (s.rmt g).guard b with clean := 0, cal := 0 }
/-- The guardian is seeded: cycle `c` began at MT `t`. Its calibration is kept (R212). -/
def State.guardSeed (s : State) (g : Nat) (b : Bool) (c t : Nat) : State :=
  s.setGuard g b { (s.rmt g).guard b with at_ := t, cyc := c }

/-- The pulse of a cycle start passes the checks of R211: within 60 ns of where the guardian expects it, the count one higher. -/
def pulseOk (x : Guard) (expect : Int) (c t : Nat) : Bool :=
  decide (((t : Int) - expect).natAbs ≤ 60) && (x.cyc + 1) % 256 == c % 256

/-- A guardian takes the pulse of the start of cycle `c` at MT `t` (R211): a blocked one re-seeds from the first and counts those that
pass after it; one that fails blocks. `len` is the length of the cycle before by ρ and o. -/
def State.guardPulse (s : State) (g : Nat) (b : Bool) (c t : Nat) (len : Int) : State :=
  let x := (s.rmt g).guard b
  let ok := pulseOk x ((x.at_ : Int) + len) c t
  if s.blocked g b then
    let n := if x.clean = 0 then 1 else if ok then x.clean + 1 else 0
    s.setGuard g b { x with at_ := t, cyc := c, clean := n, cal := (if n ≤ 1 then 0 else x.cal + 1) }
  else if ok then s.setGuard g b { x with at_ := t, cyc := c, cal := x.cal + 1 }
  else s.guardBlock g b

/-! Sending. -/

/-- A channel interface puts a frame of `bytes` on the wire: it is due at MT `due`, and goes out then or, where that has passed, now.
The guardian's driver is on to MT `close` only; what lies beyond is cut, and a frame none of which lies within is not seen (R213). A
whole frame is kept for its echo. -/
def State.transmit (s : State) (g : Nat) (b short : Bool) (due close : Nat) (bytes : List (BitVec 8)) : State :=
  let t := max due s.mt
  let s := s.awaitMt due
  if t + wireNs bytes ≤ close then
    (s.modRmt g fun r => if b then { r with sentB := some (t, bytes) } else { r with sentA := some (t, bytes) }).out (.wire g b short bytes true)
  else
    let n := (close - t) / 80
    let s := s.guardCut g b 0
    if n = 0 then s else s.out (.wire g b short (bytes.take (n - 1)) false)

/-- The guardian's closing edge of a slot, and of a minislot, in its own reckoning (Table 10.1). -/
def State.slotClose (s : State) (g : Nat) (b : Bool) (e : Slot) : Nat := ((s.rmt g).guard b).at_ + s.stretch (e.end_ - 250)
def State.miniClose (s : State) (g : Nat) (b : Bool) (n : Nat) : Nat := ((s.rmt g).guard b).at_ + s.stretch (n + 1750)

/-- A long-form frame of slot `n`, entry `e`, on channel `b`, at the action point of the slot (R186). -/
def State.sendSlot (s : State) (g : Nat) (b : Bool) (n : Nat) (e : Slot) (type flags : Nat) (payload : List (BitVec 8)) : State :=
  s.transmit g b false (s.mtIn e.action) (s.slotClose g b e) (longFrame g n s.rmCycle type flags payload)

/-- The echo of the last frame that the module sent on the channel (R209): its delay in ns. -/
def State.echoOf (s : State) (g : Nat) (b : Bool) (start : Nat) (bytes : List (BitVec 8)) : Option Nat :=
  match (if b then (s.rmt g).sentB else (s.rmt g).sentA) with
  | some x => if x.2 = bytes ∧ x.1 ≤ start then some (start - x.1) else none
  | none => none
/-- An echo is added to those of the cycle. -/
def State.takeEcho (s : State) (g : Nat) (b : Bool) (e : Nat) : State :=
  s.modRmt g fun r =>
    if b then { r with sentB := none, echoB := (r.echoB.1 + e, r.echoB.2 + 1) }
    else { r with sentA := none, echoA := (r.echoA.1 + e, r.echoA.2 + 1) }

/-- The path delay of a station on a channel, once both echo delays are known (R209). -/
def State.learnPath (s : State) (g k : Nat) (b : Bool) : State :=
  let own := s.ownEcho g b
  match (if b then (s.stn g k).echoB else (s.stn g k).echoA) with
  | some e => if own = 0 then s else s.wr (if b then R.RMT_PD_B else R.RMT_PD_A) ((4 * e + own) / 2) k g
  | none => s
/-- The own echo delay of a channel becomes the mean over the frames of the cycle, and every path delay follows it (R209). -/
def State.remeasure (s : State) (g : Nat) (b : Bool) : State :=
  let x := if b then (s.rmt g).echoB else (s.rmt g).echoA
  let s := s.modRmt g fun r => if b then { r with sentB := none, echoB := (0, 0) } else { r with sentA := none, echoA := (0, 0) }
  if x.2 = 0 then s
  else
    let e := min 255 (x.1 / x.2 / 10)
    if e = s.ownEcho g b then s
    else (s.wr (if b then R.RMT_ECHO_B else R.RMT_ECHO_A) e 0 g).each (upTo 32) fun s k => s.learnPath g k b

/-! Downlink messages that the controller queues (10 R217). -/

/-- A downlink message is queued for a station (10 R217). -/
def State.queueMsg (s : State) (g k mtype : Nat) (bytes : List (BitVec 8)) : State :=
  let n := ((s.stn g k).downSeq + 1) % 2 ^ 16
  let s := s.modStn g k fun t => { t with downSeq := n }
  s.setSvc g k (s.svcList g k ++ [{ mtype := mtype, bytes := bytes, seq := n }])

/-- A TIMING message's bytes: the echo delays of module A and of module B on both channels, in 40 ns (10 Table 10.4). -/
def State.timingBytes (s : State) (g : Nat) : List (BitVec 8) :=
  let own := [s.rd R.RMT_ECHO_A 0 g, s.rd R.RMT_ECHO_B 0 g]
  let oth := [s.rd R.RMT_PECHO_A 0 g, s.rd R.RMT_PECHO_B 0 g]
  ((if s.side = 0 then own ++ oth else oth ++ own).map fun x => BitVec.ofNat 8 (x / 4))

/-- A change of an own echo value by 40 ns or more is told to every station that takes part (10, after Table 10.4). -/
def State.tellEcho (s : State) (g : Nat) : State :=
  let a := s.rd R.RMT_ECHO_A 0 g
  let b := s.rd R.RMT_ECHO_B 0 g
  let r := s.rmt g
  let far (x y : Nat) : Bool := decide (y + 4 ≤ x) || decide (x + 4 ≤ y)
  if s.isLead && (far a r.toldA || far b r.toldB) then
    let s := s.modRmt g fun r => { r with toldA := a, toldB := b }
    s.each ((upTo 32).filter fun k => let st := s.rd R.RMT_ST_STATE k g; st == 2 || st == 3) fun s k => s.queueMsg g k 2 (s.timingBytes g)
  else s

end Sys2Proof.Machine
end

