-- ==== Sys2Proof/Machine/Saf.lean ====
section
/-! DEFINITION. SAF (21): the diagnostics and their reactions, the diagnostic schedule, the watchdogs, test injection. -/

namespace Sys2Proof.Machine

/-! Diagnostics that are found at an instant (21 Table 21.1). -/

/-- SAF and its monitors work: with power (01 R17), and with no reset asserted (03 R57). -/
def State.safRuns (s : State) : Bool := s.mode != 0 && !s.sys.resetHeld

/-- A finding of a diagnostic: while SAF works `note` is what it shows beside the fault; a fault in the clock of a reset is recorded all the
same (Table 21.6). -/
def State.finding (s : State) (note : State → State) (cause : Nat) (kind : Reaction) (unit info : Nat) : State :=
  (if s.safRuns then note s else s).safetyFault cause kind unit info

/-- CORE_LOCKSTEP_ERROR: causes 0x01 and 0x02, source 2. -/
def execCoreLockstepError (pair : Fin 2) (info : BitVec 32) (s : State) : Res :=
  .next <| s.finding (·.ev 0x05 2) (1 + pair) .safetyReset 0x05 info.toNat

/-- The cause and reaction of an uncorrectable error by memory. -/
def eccCause : EccSite → Nat × Reaction
  | .instance_ => (0x07, .hold)
  | .move => (0x07, .hold)
  | .constant => (0x07, .hold)
  | .station => (0x07, .hold)
  | .dram => (0x08, .hold)
  | .sram => (0x09, .safetyReset)
  | .rom => (0x0A, .safetyReset)

/-- UNCORRECTABLE_ECC: source 3. -/
def execUncorrectableEcc (site : EccSite) (addr : BitVec 36) (s : State) : Res :=
  .next <| s.finding (·.ev 0x05 3) (eccCause site).1 (eccCause site).2 0x05 (addr.toNat % 2 ^ 32)

/-- The bit of SAF.CLKERR of a clock. -/
def clockBit : ClockId → Nat
  | .reference => 0
  | .core => 1
  | .lane => 2
  | .trip => 3
  | .fabric => 4
  | .timeBase => 5
  | .pairLink => 6
  | .pllLock c => c
  | .guardian _ _ => 7

/-- CLOCK_MONITOR_FAULT (R436): a guardian blocks; every other clock is cause 0x0D; a lost PLL lock raises source 12 too. -/
def execClockMonitorFault (clock : ClockId) (s : State) : Res :=
  .next <|
    let note (s : State) : State := (s.bitTo R.SAF_CLKERR (clockBit clock) true).ev 0x02 0
    match clock with
    | .guardian g b => if s.safRuns then (note s).guardBlock g b else s
    | .pllLock c => s.finding (fun s => (note s).ev 0x02 1) 0x0D .hold 0x02 (2 ^ c.val)
    | c => s.finding note 0x0D .hold 0x02 (2 ^ clockBit c)

/-- VOLTAGE_MONITOR_FAULT (R437). The lane and SerDes rails are ignored after a forced HOLD while R17 has their domains off; a deep drop gives a
supply reset after the cause is latched. -/
def execVoltageMonitorFault (rail : Fin 6) (deep : Bool) (s : State) : Res :=
  .next <|
    if s.mode = 0 ∨ (s.flag R.PWR_STATUS_FORCEDHOLD && s.pwr.off && (rail.val == 1 || rail.val == 5)) then s
    else
      let s := s.finding (fun s => (s.bitTo R.PWR_RAILERR rail true).evLevel 0x01 1 true) 0x0E .hold 0x01 (2 ^ rail.val)
      if deep then s.resetAssert (2 ^ 1) else s

/-- TEMPERATURE_FAULT (22 R456). -/
def execTemperatureFault (s : State) : Res := .next <| s.safetyFault 0x0E .hold 0x01 0

/-- SAFE_STATE_READBACK_FAULT: cause 0x11. -/
def execSafeStateReadbackFault (s : State) : Res := .next <| s.safetyFault 0x11 .safetyReset 0x05 0

/-- SAF_CHANNEL_MISMATCH (R440): cause 0x12. -/
def execSafChannelMismatch (s : State) : Res := .next <| s.safetyFault 0x12 .safetyReset 0x05 0

/-- SAF_INJECT (R444). -/
def execSafInject (_m : BitVec 6) (s : State) : Res :=
  .next <| s.onPage 0x05 fun s =>
    if s.isService then s.safetyFault 0x15 .hold 0x05 0 else s.err 0x05 0x11 0x164

/-! The diagnostic schedule (R434). -/

def State.item (s : State) (i : Nat) : Bool := nbit (s.rd R.SAF_DS_EN) i

/-- The MT of the next start of a pass is that of the last and 10 ms. -/
def State.passBegins (s : State) : State :=
  let s := match s.saf.passAt with | some t => s.awaitMt (t + 10000000) | none => s
  { s with saf := { s.saf with passAt := some s.mt } }

/-- DIAG_PASS_START (R434, R179): 10 ms after the start of the pass before; a pass that has not ended goes on. -/
def execDiagPassStart (s : State) : Res :=
  .next <|
    if !s.safRuns then s else
    let s := s.passBegins
    if s.saf.passing then
      let s := ((s.sat R.SAF_DS_STAT_OVERRUNS).sat R.SAF_DS_STAT_CONSEC).ev 0x05 5
      let s := { s with saf := { s.saf with late := true } }
      if s.rd R.SAF_DS_STAT_CONSEC ≥ s.rd R.SAF_CFG_OVRLIM then s.safetyFault 0x10 .hold 0x05 0 else s
    else
      let s := { s with saf := { s.saf with passing := true, late := false, start := s.mt } }
      if s.item 4 && s.teRuns then
        { s.wr R.TE_CFGSTAT_BURST 1 with te := { s.te with bursts := 2 } }
      else s

/-- The CRC scan of move memory and constant pool (05 R105): the half that has been made active, and the staged half while its header is
valid. Before the first activation, shown by no allocated lanes, no half is active (log entry 49). -/
def State.crcScan (s : State) : State :=
  let a := s.half
  let b := 1 - a
  let ok (h : Nat) : Bool := s.moveCrc h == s.hdr h 0x00C 4 && s.constCrc h == s.hdr h 0x028 4
  let s := s.wrap R.XE_MM_SCAN_PASSES
  let s := if s.halfValid b && !ok b then ((s.sat R.XE_MM_SCAN_MISMATCH).wr R.XE_MM_HDR_VALID 0 b).stagedView else s
  if s.rd R.XE_ENG_STAT_LANES ≠ 0 then
    let s := s.wr R.XE_MM_CRCA (s.moveCrc a)
    if ok a then s else (s.sat R.XE_MM_SCAN_MISMATCH).safetyFault 0x0B .hold 0x10 (s.moveCrc a)
  else s

/-- DIAG_PASS_COMPLETE (R434, R440): `durUs` after its start or later. -/
def execDiagPassComplete (durUs : BitVec 16) (checkersOk : Bool) (s : State) : Res :=
  .next <|
    if !s.saf.passing then s
    else
      let s := s.awaitMt (s.saf.start + durUs.toNat * 1000)
      let s := ((s.wrap R.SAF_DS_STAT_PASSES).wr R.SAF_DS_LASTDUR (min 0xFFFF ((s.mt - s.saf.start) / 1000))).ev 0x05 7
      let s := if s.saf.late then s else s.wr R.SAF_DS_STAT_CONSEC 0
      let s := { s with saf := { s.saf with passing := false, late := false } }
      let s := if s.item 3 then s.crcScan else s
      let s := if s.item 4 then s.teScan else s
      if !checkersOk && (s.item 7 || s.item 8) then s.safetyFault 0x13 .hold 0x05 0 else s

/-- ECC_COUNT_SECOND (R440): at the end of a second. How many of the corrected errors were reads of XE's memories (05 R100, R113) no command says: XE.ECC takes
free shares of the count (log entry 50). -/
def execEccCountSecond (count : BitVec 16) (s : State) : Res :=
  .next <|
    if !s.safRuns then s else
    let s := s.awaitMt s.saf.eccDue
    let a := { s with saf := { s.saf with eccDue := s.saf.eccDue + 1000000000 } }.draw
    let lane := a.1 % (count.toNat + 1)
    let b := a.2.draw
    let s := (b.2.sat R.XE_ECC_CORR_LANE 0 0 0 lane).sat R.XE_ECC_CORR_FETCH 0 0 0 (b.1 % (count.toNat - lane + 1))
    let s := s.wr R.SAF_ECC_CORR count.toNat
    if count.toNat > s.rd R.SAF_CFG_ECCTHR then s.ev 0x05 6 else s

/-! Watchdogs (R438). -/

def State.wd (s : State) (n : Nat) : Wd := if n = 0 then s.saf.wd0 else s.saf.wd1
def State.setWd (s : State) (n : Nat) (w : Wd) : State :=
  { s with saf := if n = 0 then { s.saf with wd0 := w } else { s.saf with wd1 := w } }
def State.wdRuns (s : State) (n : Nat) : Bool := s.flag R.SAF_WD_CFG_EN n && !s.flag R.SAF_WD_STAT_PAUSED n
def State.wdFault (s : State) (n : Nat) : State := s.safetyFault 0x0F .watchdogReset 0x05 n
/-- TMO in ns. -/
def State.wdTmo (s : State) (n : Nat) : Nat := s.rd R.SAF_WD_CFG_TMO n * 10000

/-- The instant up to which a watchdog has counted: it stands while it is paused. -/
def State.wdNow (s : State) (n : Nat) : Nat := if s.flag R.SAF_WD_STAT_PAUSED n then (s.wd n).pausedAt else s.mt

/-- A write to SAF.WDn.SVC (R438). -/
def State.wdService (s : State) (n v : Nat) : State :=
  let w := s.wd n
  let now := s.wdNow n
  if !s.flag R.SAF_WD_CFG_EN n then s
  else if !w.keyed then
    if v = 0xC35A then s.setWd n { w with keyed := true, keyAt := now } else s.wdFault n
  else if v ≠ 0x3CA5 ∨ now > w.keyAt + 10000 ∨ (now - w.since) * 100 < s.rd R.SAF_WD_CFG_WIN n * s.wdTmo n ∨
      now > w.since + s.wdTmo n then s.wdFault n
  else s.setWd n { w with keyed := false, since := now, warned := false }

/-- WATCHDOG_SERVICE (R438). -/
def execWatchdogService (n : Fin 2) (value : BitVec 32) (s : State) : Res :=
  .next <| s.onPage 0x05 fun s => s.wdService n value.toNat

/-- WATCHDOG_PRE_EXPIRY (R438): 75 % of TMO; source 1. -/
def execWatchdogPreExpiry (n : Fin 2) (s : State) : Res :=
  .next <|
    if s.wdRuns n && !(s.wd n).warned then
      ((s.awaitMt ((s.wd n).since + s.wdTmo n * 3 / 4)).setWd n { s.wd n with warned := true }).ev 0x05 1
    else s

/-- WATCHDOG_EXPIRY (R438): TMO after the last service. -/
def execWatchdogExpiry (n : Fin 2) (s : State) : Res :=
  .next <| if s.wdRuns n then (s.awaitMt ((s.wd n).since + s.wdTmo n)).wdFault n else s

/-- WATCHDOG_KEY_TIMEOUT (R438): 10 µs after the first key. -/
def execWatchdogKeyTimeout (n : Fin 2) (s : State) : Res :=
  .next <| if s.wdRuns n && (s.wd n).keyed then (s.awaitMt ((s.wd n).keyAt + 10000)).wdFault n else s

/-- A watchdog pauses while its core pair is halted, and its count resumes at the release (R438; 18 R394). -/
def State.wdPause (s : State) (n : Nat) : State :=
  (s.setWd n { s.wd n with pausedAt := s.mt }).wr R.SAF_WD_STAT_PAUSED 1 n
def State.wdResume (s : State) (n : Nat) : State :=
  let w := s.wd n
  let d := s.mt - w.pausedAt
  (s.setWd n { w with since := w.since + d, keyAt := w.keyAt + d }).wr R.SAF_WD_STAT_PAUSED 0 n

end Sys2Proof.Machine
end

