-- ==== Sys2Proof/Machine/Dbg.lean ====
section
/-! DEFINITION. The debug unit (18 R391–R394): challenge, unlock, halt and reset. -/

namespace Sys2Proof.Machine

/-- A fresh challenge: eight words of free value (R392; log entry 2). -/
def State.drawChal (s : State) : State :=
  { s.each (upTo 8) fun s j => (s.draw.2).wr R.DBG_CHAL (s.draw.1 % 2 ^ 32) j with chalFresh := true }

/-- The words of an array as bytes, little-endian. -/
def State.rowWordBytes (s : State) (r : Row) (n : Nat) : List (BitVec 8) := (upTo n).flatMap fun j => leBytes 4 (s.rd r j)

/-- The response of the device key to the challenge (R392). -/
def State.dbgResponse (s : State) : Nat :=
  Config.hmac256 Config.deviceKey
    (s.rowWordBytes R.DBG_CHAL 8 ++ leBytes 4 (s.rd R.CRT_MODIDLO) ++ leBytes 4 (s.rd R.CRT_MODIDHI)) % 2 ^ 256

/-- DBG_NEWCHAL (R392). -/
def execDbgNewchal (_m : BitVec 6) (s : State) : Res := .next <| s.onPage 0x70 State.drawChal

/-- An UNLOCK (R392). A request refused by mode, lease or EN records 0xD0, one with FAILS at 3 0xD2, a wrong response 0xD1; each
raises source 249, a grant 248. The challenge has served in every case. The bytes of a digest stand in RESP0–RESP7 in their order,
the first in the low byte. -/
def State.dbgTry (s : State) : State :=
  let fresh := s.chalFresh
  let s := { s with chalFresh := false }
  if !s.isService || s.flag R.PAIR_STAT_LEASE || !s.flag R.H_CTRL_EN 0 0x70 then (s.err 0x70 0xD0 0x104).ev 0x70 1
  else if s.rd R.DBG_STAT_FAILS = 3 then (s.err 0x70 0xD2 0x104).ev 0x70 1
  else if fresh ∧ beNat (s.rowWordBytes R.DBG_RESP 8) = s.dbgResponse then (s.wr R.DBG_STAT_UNLOCKED 1).ev 0x70 0
  else ((s.sat R.DBG_STAT_FAILS).err 0x70 0xD1 0x104).ev 0x70 1

/-- DBG_UNLOCK (R392). -/
def execDbgUnlock (_m : BitVec 6) (s : State) : Res := .next <| s.onPage 0x70 State.dbgTry

/-- DBG_RELOCK (R393). -/
def execDbgRelock (_m : BitVec 6) (s : State) : Res := .next <| s.onPage 0x70 fun s => s.wr R.DBG_STAT_UNLOCKED 0

/-- A command that debug unlock allows; while locked it does nothing and records 0xD3 (R394). -/
def State.dbgWhen (s : State) (f : State → State) : State :=
  if s.flag R.DBG_STAT_UNLOCKED then f s else s.err 0x70 0xD3 0x104

/-- DBG_RESET (R394): a reset of cause 5. -/
def execDbgReset (_m : BitVec 6) (s : State) : Res :=
  .next <| s.onPage 0x70 fun s => s.dbgWhen fun s => s.resetAssert (2 ^ 5)

/-- Core pairs are asked to halt (R394): source 251. The watchdog of each pauses (21 R438). -/
def State.dbgHalts (s : State) (cores : Nat) : State :=
  if cores = 0 then s
  else
    let s := s.each (upTo 2) fun s n =>
      if nbit cores n then
        let s := s.out (.haltRequest n)
        if nbit (s.rd R.DBG_STAT_HALTED) n then s else (s.bitTo R.DBG_STAT_HALTED n true).wdPause n
      else s
    s.ev 0x70 3

/-- Halted core pairs are released (R394), and their watchdogs count on. -/
def State.dbgResumes (s : State) (cores : Nat) : State :=
  s.each (upTo 2) fun s n =>
    if nbit cores n && nbit (s.rd R.DBG_STAT_HALTED) n then (s.bitTo R.DBG_STAT_HALTED n false).wdResume n else s

/-- DBG_HALT (R394). -/
def execDbgHalt (_m : BitVec 6) (cores : BitVec 2) (s : State) : Res :=
  .next <| s.onPage 0x70 fun s => s.dbgWhen fun s => s.dbgHalts cores.toNat

/-- DBG_RESUME (R394). -/
def execDbgResume (_m : BitVec 6) (cores : BitVec 2) (s : State) : Res :=
  .next <| s.onPage 0x70 fun s => s.dbgWhen fun s => s.dbgResumes cores.toNat

end Sys2Proof.Machine
end

