-- ==== Sys2Proof/Machine/Gate.lean ====
section
/-! DEFINITION. The physical address map (02 R21, R22; 01 R11) and the access gates (18): region entries, the check of an access,
fault records, and the commands that write and read entries. -/

namespace Sys2Proof.Machine

/-! The map. -/

/-- The row ranges of 18 Table 18.2: gate, first and last byte. -/
def gateRanges : List (Nat × Nat × Nat) :=
  [(0, 0x000000000, 0x00003FFFF), (1, 0x020000000, 0x0201FFFFF), (2, 0x010000000, 0x011FFFFFF), (3, 0x018000000, 0x019FFFFFF),
   (3, 0x01C000000, 0x01C3FFFFF), (4, 0x080000000, 0x27FFFFFFF), (5, 0x040000000, 0x040004FFF), (5, 0x040006000, 0x04000FFFF),
   (6, 0x040010000, 0x04001FFFF), (7, 0x040020000, 0x040037FFF), (7, 0x050000000, 0x050FFFFFF), (8, 0x040038000, 0x04003FFFF),
   (9, 0x040040000, 0x040047FFF), (10, 0x040048000, 0x040057FFF), (10, 0x040068000, 0x04006FFFF), (10, 0x060000000, 0x063FFFFFF),
   (11, 0x040058000, 0x040067FFF), (12, 0x040005000, 0x040005FFF), (12, 0x040070000, 0x0400FFFFF)]

def gateIn (a : Nat) : List (Nat × Nat × Nat) → Option Nat
  | [] => none
  | (g, lo, hi) :: rs => if lo ≤ a ∧ a ≤ hi then some g else gateIn a rs
/-- The gate of a byte's target by 18 Table 18.2; none where 02 Table 2.1 has no row. -/
def gateOf (a : Nat) : Option Nat := gateIn a gateRanges

/-- The byte is decoded: inside a row, and not in the range that is unpopulated on S08 (01 R11, 02 R22). -/
def State.decodes (s : State) (a : Nat) : Bool :=
  (gateOf a).isSome && !(s.isS08 && ((decide (0x011000000 ≤ a) && decide (a ≤ 0x011FFFFFF)) || (decide (0x050800000 ≤ a) && decide (a ≤ 0x050FFFFFF))))

def isPageByte (a : Nat) : Bool := decide (pageBase ≤ a) && decide (a < pageBase + 0x100000)
def isCartByte (a : Nat) : Bool := decide (cartBase ≤ a) && decide (a < cartBase + 0x4000000)
def isRomByte (a : Nat) : Bool := decide (a < 0x40000)

/-! Region entries (R384, R390). -/

/-- Entry `i` of gate `g`. -/
def State.gate (s : State) (g i : Nat) : GateEntry := smGet GateEntry.none s.gates (16 * g + i)
def GateEntry.first (e : GateEntry) : Nat := e.base * 64
def GateEntry.last (e : GateEntry) : Nat := e.limit * 64 + 63
def GateEntry.covers (e : GateEntry) (a : Nat) : Bool := e.valid && decide (e.first ≤ a) && decide (a ≤ e.last)

/-- The lowest-numbered valid entry of gate `g` that contains byte `a` (R385). -/
def State.gateEntryAt (s : State) (g a : Nat) : Option Nat := (upTo 16).find? fun i => (s.gate g i).covers a

/-- The range lies wholly inside one row range of gate `g` (R383). -/
def inRow (g lo hi : Nat) : Bool := gateRanges.any fun r => r.1 == g && decide (r.2.1 ≤ lo) && decide (hi ≤ r.2.2)

/-- An entry that is written with VALID is well formed (R383, R384, R390). -/
def GateEntry.okIn (e : GateEntry) (g : Nat) : Bool :=
  decide (e.base ≤ e.limit) && inRow g e.first e.last && decide (e.memtype < 5) &&
    (!isPageByte e.first || (e.first % 4096 == 0 && (e.last + 1) % 4096 == 0 && decide (e.memtype < 2) && !nbit e.p 2 && !nbit e.u 2))

/-! One access and its check (R385–R387). -/

/-- The codes of INFO.TYPE (Table 18.9). -/
def kindCode : AccessKind → Nat
  | .read => 0 | .write => 1 | .fetch => 2 | .amo => 3 | .lr => 3 | .sc => 3
def isAtomic (k : AccessKind) : Bool := kindCode k == 3
/-- The access changes what it reaches. -/
def isStore : AccessKind → Bool
  | .write => true | .amo => true | .sc => true | _ => false
/-- The rights bits grant the access type (R385): R bit 0, W bit 1, X bit 2. -/
def grants (rights : Nat) : AccessKind → Bool
  | .read => nbit rights 0
  | .write => nbit rights 1
  | .fetch => nbit rights 2
  | _ => nbit rights 0 && nbit rights 1

/-- The default map (Table 18.4): rights, MEMTYPE, SHARE. -/
def defaultMap (a : Nat) : Nat × Nat × Bool :=
  if isRomByte a then (5, 4, true) else if isPageByte a then (3, 0, true) else if isCartByte a then (3, 1, true) else (7, 4, true)

def dbgMaster : Nat := 0x3F

/-- What the gate finds for one byte: the cause of a refusal by its entry, 0 allowed (Table 18.5); the entry; the attributes. -/
structure ByteCheck where
  cause : Nat
  entry : Option Nat
  memtype : Nat
  share : Bool
  deriving DecidableEq, Repr

/-- The check of one decoded byte by its entry or the default map (R385, R386, R391). With DBG.CTRL.EN 0 no entry
lets the debug master through (R393). -/
def State.byteCheck (s : State) (m : Nat) (priv : Bool) (k : AccessKind) (a : Nat) : ByteCheck :=
  let g := (gateOf a).getD 0
  let grant (rights mt : Nat) : Nat := if isAtomic k ∧ mt < 2 then 5 else if grants rights k then 0 else 3
  match s.gateEntryAt g a with
  | some i =>
    let e := s.gate g i
    let c :=
      if !nbit e.mask m ∨ (m = dbgMaster ∧ !s.flag R.H_CTRL_EN 0 0x70) then 2
      else if m = dbgMaster ∧ e.lock ∧ !(e.dbg && s.flag R.DBG_STAT_UNLOCKED) then 3
      else grant (if priv then e.p else e.u) e.memtype
    ⟨c, some i, e.memtype, e.share⟩
  | none =>
    let d := defaultMap a
    ⟨if m = dbgMaster ∨ !priv then 1 else grant d.1 d.2.1, none, d.2.1, d.2.2⟩

/-- A fabric write to a staged half is refused in VERIFYING, ARMED and SWITCHING (07 R148). -/
def State.stagedShut (s : State) : Bool :=
  let t := s.rd R.XE_SM_STAT_STATE
  t == 1 || t == 3 || t == 4
/-- A write to a staged half that is made drops VERIFIED and REVOK (07 R148). -/
def State.stagedTouched (s : State) : State :=
  if s.rd R.XE_SM_STAT_STATE = 2 ∨ s.flag R.XE_SM_STAT_REVOK then (s.wr R.XE_SM_STAT_STATE 0).wr R.XE_SM_STAT_REVOK 0 else s

/-- The half of a byte of move memory or constant pool. -/
def halfOf (a : Nat) : Option Nat :=
  if moveBase 0 ≤ a ∧ a < moveBase 2 then some ((a - moveBase 0) / 0x1000000)
  else if constBase 0 ≤ a ∧ a < constBase 2 then some ((a - constBase 0) / 0x200000)
  else none

/-- G3 takes a store to the byte (05 R104, 07 R148): into the active half only in START and SERVICE, and in the Program phase of a module
that joins (11 R243). -/
def State.g3Takes (s : State) (a : Nat) : Bool :=
  match halfOf a with
  | some h =>
    if h = s.rd R.XE_ENG_STAT_ACTIVE then
      s.mode == 1 || s.isService || (s.isTrack && !s.flag R.SYS_MODE_SYNC && s.rd R.PAIR_SYNC_STAT_PHASE == 1)
    else !s.stagedShut
  | none => true

/-- The cause for which byte `a` of an access fails, 0 where it passes (R387): by its entry, by the page rule of R24, by attributes
that differ from those of the access's first byte, by G3. -/
def State.byteCause (s : State) (m : Nat) (priv : Bool) (k : AccessKind) (a0 n a : Nat) : Nat :=
  let c := s.byteCheck m priv k a
  let f := s.byteCheck m priv k a0
  if c.cause ≠ 0 then c.cause
  else if isPageByte a ∧ (n ≠ 4 ∨ a0 % 4 ≠ 0) then 4
  else if c.memtype ≠ f.memtype ∨ c.share ≠ f.share then 6
  else if isStore k ∧ !s.g3Takes a then 7
  else 0

/-- How an access ends at its gate. -/
inductive Verdict where
  | allowed (memtype : Nat) (share : Bool)
  | undecoded (a : Nat)
  | refused (a cause : Nat)
  deriving DecidableEq, Repr

/-- The check of the bytes from `a` on: the lowest byte that fails decides. -/
def State.verdictFrom (s : State) (m : Nat) (priv : Bool) (k : AccessKind) (a0 n a : Nat) : Nat → Verdict
  | 0 => let c := s.byteCheck m priv k a0; .allowed c.memtype c.share
  | r + 1 =>
    if !s.decodes a then .undecoded a
    else
      let c := s.byteCause m priv k a0 n a
      if c ≠ 0 then .refused a c else s.verdictFrom m priv k a0 n (a + 1) r

/-- The gate's decision on an access of `n` bytes at `a` (R387). -/
def State.verdict (s : State) (m : Nat) (priv : Bool) (k : AccessKind) (a n : Nat) : Verdict := s.verdictFrom m priv k a n a n

/-! Records (R388, R391). -/

/-- GATE.EVRAW bits 0–5 follow the VALID bits of the records. -/
def State.gateLevels (s : State) : State :=
  let anyOf (lo n : Nat) : Bool := (upTo n).any fun i => s.flag R.GATE_FLT_INFO_VALID (lo + i)
  (((((s.evLevel 0x06 0 (anyOf 0 5)).evLevel 0x06 1 (anyOf 5 2)).evLevel 0x06 2 (anyOf 7 2)).evLevel 0x06 3 (anyOf 9 3)).evLevel
    0x06 4 (anyOf 12 1)).evLevel 0x06 5 (s.flag R.GATE_DEC_INFO_VALID)

/-- A refusal fills the gate's record, or sets MORE, and counts (R388). -/
def State.fltRecord (s : State) (g m : Nat) (priv : Bool) (k : AccessKind) (a0 a cause : Nat) : State :=
  let s := s.sat R.GATE_FLT_COUNT g
  let s :=
    if s.flag R.GATE_FLT_INFO_VALID g then s.wr R.GATE_FLT_INFO_MORE 1 g
    else
      let s : State := s.wr2 R.GATE_FLT_ADDRLO R.GATE_FLT_ADDRHI a g
      let s : State := ((s.wr R.GATE_FLT_INFO_MASTER m g).put R.GATE_FLT_INFO_PRIV priv g).wr R.GATE_FLT_INFO_TYPE (kindCode k) g
      let s : State := (s.wr R.GATE_FLT_INFO_CAUSE cause g).put R.GATE_FLT_INFO_STRADDLE (a != a0) g
      let e := s.gateEntryAt g a
      ((s.wr R.GATE_FLT_INFO_ENTRY (e.getD 0) g).put R.GATE_FLT_INFO_NOENT e.isNone g).wr R.GATE_FLT_INFO_VALID 1 g
  s.gateLevels

/-- A decode fault fills the decode record (R387): source 245. -/
def State.decRecord (s : State) (m : Nat) (k : AccessKind) (a : Nat) : State :=
  let s := s.sat R.GATE_DEC_COUNT
  let s :=
    if s.flag R.GATE_DEC_INFO_VALID then s.wr R.GATE_DEC_INFO_MORE 1
    else
      let s : State := s.wr2 R.GATE_DEC_ADDRLO R.GATE_DEC_ADDRHI a
      ((s.wr R.GATE_DEC_INFO_MASTER m).wr R.GATE_DEC_INFO_TYPE (kindCode k)).wr R.GATE_DEC_INFO_VALID 1
  s.gateLevels

/-- A refused access of the debug master (R391): sources 246 and 250. -/
def State.dbgRefused (s : State) (a : Nat) : State :=
  let s := (s.sat R.DBG_ERRCOUNT).ev 0x06 6
  if s.flag R.DBG_ERR_STICKY then s
  else ((s.wr2 R.DBG_ERRADDRLO R.DBG_ERRADDRHI a).wr R.DBG_ERR_STICKY 1)

/-- DBG.EVRAW bit 2 rises at every refusal of the debug master. -/
def State.dbgRefusal (s : State) (a : Nat) : State := (s.dbgRefused a).ev 0x70 2

/-- The refusal of an access is recorded (R387, R388, R391). -/
def State.refusal (s : State) (m : Nat) (priv : Bool) (k : AccessKind) (a0 : Nat) : Verdict → State
  | .allowed _ _ => s
  | .undecoded a => s.decRecord m k a
  | .refused a c => if m = dbgMaster then s.dbgRefusal a else s.fltRecord ((gateOf a).getD 0) m priv k a0 a c

/-- An access of a hardware master (R382): whether it passes, and the state with a refusal recorded. -/
def State.dma (s : State) (m : Nat) (k : AccessKind) (a n : Nat) : Bool × State :=
  match s.verdict m true k a n with
  | .allowed _ _ => (true, s)
  | v => (false, s.refusal m true k a v)

/-! GATE.CMD (R390). -/

/-- The staged entry of a master. -/
def State.stagedEntry (s : State) (m : Nat) : GateEntry :=
  { base := s.rd R.GATE_BASELO 0 0 m + s.rd R.GATE_BASEHI 0 0 m * 2 ^ 26
    limit := s.rd R.GATE_LIMLO 0 0 m + s.rd R.GATE_LIMHI 0 0 m * 2 ^ 26
    mask := s.rd R.GATE_MASKLO 0 0 m + s.rd R.GATE_MASKHI 0 0 m * 2 ^ 32
    p := s.rd R.GATE_ATTR_P 0 0 m
    u := s.rd R.GATE_ATTR_U 0 0 m
    memtype := s.rd R.GATE_ATTR_MEMTYPE 0 0 m
    share := s.flag R.GATE_ATTR_SHARE 0 0 m
    dbg := s.flag R.GATE_ATTR_DBG 0 0 m
    lock := s.flag R.GATE_ATTR_LOCK 0 0 m
    valid := s.flag R.GATE_ATTR_VALID 0 0 m }

/-- A WRITE by master `m` (R390). A gate number that no gate has is refused as invalid. -/
def State.gateWrite (s : State) (m : Nat) : State :=
  let g := s.rd R.GATE_SEL_GATE 0 0 m
  let i := s.rd R.GATE_SEL_ENTRY 0 0 m
  let e := s.stagedEntry m
  if 13 ≤ g then s.err 0x06 0xC0 0x120
  else if (s.gate g i).lock then (s.err 0x06 0xC1 0x120).ev 0x06 7
  else if e.valid && !e.okIn g then s.err 0x06 0xC0 0x120
  else
    let s := { s with gates := smSet GateEntry.none s.gates (16 * g + i) e }
    if e.lock then s.bitTo R.GATE_LOCKED g true else s

/-- A READ by master `m`; of a gate that does not exist the entry reads 0. -/
def State.gateRead (s : State) (m : Nat) : State :=
  let g := s.rd R.GATE_SEL_GATE 0 0 m
  let e := if 13 ≤ g then GateEntry.none else s.gate g (s.rd R.GATE_SEL_ENTRY 0 0 m)
  let s : State := (s.wr R.GATE_BASELO (e.base % 2 ^ 26) 0 0 m).wr R.GATE_BASEHI (e.base / 2 ^ 26) 0 0 m
  let s : State := (s.wr R.GATE_LIMLO (e.limit % 2 ^ 26) 0 0 m).wr R.GATE_LIMHI (e.limit / 2 ^ 26) 0 0 m
  let s : State := (s.wr R.GATE_MASKLO (e.mask % 2 ^ 32) 0 0 m).wr R.GATE_MASKHI (e.mask / 2 ^ 32) 0 0 m
  let s : State := ((s.wr R.GATE_ATTR_P e.p 0 0 m).wr R.GATE_ATTR_U e.u 0 0 m).wr R.GATE_ATTR_MEMTYPE e.memtype 0 0 m
  let s : State := ((s.put R.GATE_ATTR_SHARE e.share 0 0 m).put R.GATE_ATTR_DBG e.dbg 0 0 m).put R.GATE_ATTR_LOCK e.lock 0 0 m
  s.put R.GATE_ATTR_VALID e.valid 0 0 m

/-- GATE_CMD_WRITE (R390). -/
def execGateCmdWrite (m : BitVec 6) (s : State) : Res := .next <| s.onPage 0x06 fun s => s.gateWrite m.toNat

/-- GATE_CMD_READ (R390, Table 18.9). -/
def execGateCmdRead (m : BitVec 6) (s : State) : Res := .next <| s.onPage 0x06 fun s => s.gateRead m.toNat

end Sys2Proof.Machine
end

