-- ==== Sys2Proof/Machine/Target.lean ====
section
/-! DEFINITION. What an access that its gate allows does at a memory target (02 Table 2.1): instance memory, move memory and constant
pool, a station buffer, the cartridge window, plain memory; the same for the DMA of the hardware masters (18 R382); accesses that wait
for the end of a switch (07 R152). -/

namespace Sys2Proof.Machine

def State.crtState (s : State) : Nat := s.rd R.CRT_STAT_STATE
def State.crtActive (s : State) : Bool := s.crtState == 3

/-- `n` bytes of the cartridge's identity block from offset `o`, as a number, and the size of its MRAM (14 Table 14.2). -/
def State.idNum (s : State) (o n : Nat) : Nat := leNat ((s.crt.ident.drop o).take n)
def State.mramSize (s : State) : Nat := s.idNum 0x14 2 * 0x100000

/-- The answer of the fabric to an access. -/
def State.answerBus (s : State) (data : List (BitVec 8)) (refused : Bool) (memtype : Nat) (share : Bool) : State :=
  { s with bus := ⟨data, refused, memtype, share, 0⟩ }

/-- An access to the cartridge window that CRT ignores (14 R310): none ACTIVE, beyond the MRAM, or a store to the checkpoint slots or
the journal. -/
def State.cartBars (s : State) (store : Bool) (off n : Nat) : Bool :=
  !s.crtActive || decide (s.mramSize < off + n) || (store && decide (0x100000 < off + n))

def isInstByte (a : Nat) : Bool := decide (instBase ≤ a) && decide (a < instBase + 0x2000000)
def isStationByte (a : Nat) : Bool := decide (stBase 0 ≤ a) && decide (a < stBase 16)

/-- A byte of an in-mailbox or of a mailbox-control area, which ignores fabric writes (10 R228). -/
def mailByte (a : Nat) : Bool :=
  let o := (a - stBase 0) % 0x100000
  decide (o < 32 * 0x7C00) && decide (o % 0x7C00 < 0x610)

/-- Bytes stored to a station buffer. -/
def State.stationStore (s : State) (a : Nat) : List (BitVec 8) → State
  | [] => s
  | b :: bs => (if mailByte a then s else s.wb a b).stationStore (a + 1) bs

/-- An allowed store to memory by master `m`. A write through the fabric port to instance memory passes the force table and PAIR's taps
(07 R156, 11 R238, R240). During a switch one to instance memory, move memory or constant pool waits for its end (07 R152 step 1). -/
def State.memStore (s : State) (m a : Nat) (bs : List (BitVec 8)) : State :=
  if isRomByte a then s
  else if s.rd R.XE_SM_STAT_STATE == 4 && (isInstByte a || (halfOf a).isSome) then
    { s with xe := { s.xe with waits := s.xe.waits ++ [⟨m, true, .write, a, bs.length, bs⟩] } }
  else if isInstByte a then (s.iStore (a - instBase) bs).tap (a - instBase) bs.length writerHost m
  else if isStationByte a then s.stationStore a bs
  else if isCartByte a then (if s.cartBars true (a - cartBase) bs.length then s.err 0x50 0x80 0 else s.wbs a bs)
  else
    match halfOf a with
    | some h => (if h = s.half then s else s.stagedTouched).wbs a bs
    | none => s.wbs a bs

/-- An allowed load from memory: the bytes, and the state after it. -/
def State.memLoad (s : State) (a n : Nat) : List (BitVec 8) × State :=
  if isCartByte a && s.cartBars false (a - cartBase) n then ((upTo n).map fun _ => 0, s.err 0x50 0x80 0) else (s.rbs a n, s)

/-! The hardware masters (18 R382): a refused access moves nothing and fails the operation of its unit. -/

/-- A store by hardware master `m`: whether it was made, and the state. -/
def State.dmaStore (s : State) (m a : Nat) (bs : List (BitVec 8)) : Bool × State :=
  let r := s.dma m .write a bs.length
  (r.1, if r.1 then (r.2.memStore m a bs).escReact else r.2)

/-- A load by hardware master `m`: the bytes where it was allowed, and the state. -/
def State.dmaLoad (s : State) (m a n : Nat) : Option (List (BitVec 8)) × State :=
  let r := s.dma m .read a n
  if r.1 then (some (r.2.memLoad a n).1, (r.2.memLoad a n).2) else (none, r.2)

/-! Accesses by the fabric's masters to memory (18 R385, R387–R389). -/

/-- What an access answers with data: reads, fetches, load-reserved, and the old value of an atomic operation. -/
def loads : AccessKind → Bool
  | .write => false | .sc => false | _ => true

/-- The fault address of a decision (R387). -/
def Verdict.fault : Verdict → Nat
  | .allowed _ _ => 0
  | .undecoded a => a
  | .refused a _ => a

/-- A refused access: a read returns zero and a write changes nothing; the fault address goes back with it (R387, R388, R391). -/
def State.accessRefused (s : State) (x : Access) (v : Verdict) : State :=
  { s.refusal x.m x.priv x.kind x.addr v with bus := ⟨if loads x.kind then (upTo x.size).map fun _ => 0 else [], true, 0, false, v.fault⟩ }

/-- An allowed access to memory. -/
def State.accessMem (s : State) (x : Access) (memtype : Nat) (share : Bool) : State :=
  let r := if loads x.kind then s.memLoad x.addr x.size else ([], s)
  (if isStore x.kind then r.2.memStore x.m x.addr x.data else r.2).answerBus r.1 false memtype share

/-- The access meets instance memory, move memory or the constant pool, whose fabric port is held during a switch (07 R152 step 1). -/
def State.waitsSwitch (s : State) (x : Access) : Bool :=
  s.rd R.XE_SM_STAT_STATE == 4 && ((upTo x.size).any fun i => isInstByte (x.addr + i) || (halfOf (x.addr + i)).isSome)

/-- The accesses that waited for the end of the switch are made, in their order. -/
def State.waitedAccesses (s : State) : State :=
  { s with xe := { s.xe with waits := [] } }.each s.xe.waits fun s x =>
    match s.verdict x.m x.priv x.kind x.addr x.size with
    | .allowed mt sh => (s.accessMem x mt sh).escReact
    | v => s.accessRefused x v

end Sys2Proof.Machine
end

