-- ==== Sys2Proof/Machine/Cal.lean ====
section
/-! DEFINITION. The calendar of the backup domain (13 R290): dates, weekdays, counts of days and seconds. -/

namespace Sys2Proof.Machine

/-- A leap year, `y` from 2000. -/
def leap (y : Nat) : Bool := ((2000 + y) % 4 == 0 && (2000 + y) % 100 != 0) || (2000 + y) % 400 == 0

def monthDays (y m : Nat) : Nat :=
  match m with
  | 2 => if leap y then 29 else 28
  | 4 => 30
  | 6 => 30
  | 9 => 30
  | 11 => 30
  | _ => 31

/-- Days of the years before `y`, and of the months of `y` before `m`. -/
def daysBeforeYear : Nat → Nat
  | 0 => 0
  | y + 1 => daysBeforeYear y + (if leap y then 366 else 365)
def daysBeforeMonth (y m : Nat) : Nat := (upTo (m - 1)).foldl (fun a k => a + monthDays y (k + 1)) 0

/-- Days since 2000-01-01, and the weekday: 2000-01-01 is a Saturday, 6 (R290). -/
def Cal.days (c : Cal) : Nat := daysBeforeYear c.year + daysBeforeMonth c.year c.month + (c.day - 1)
def Cal.wday (c : Cal) : Nat := (c.days + 5) % 7 + 1

/-- Seconds since 2000-01-01 00:00:00 (14 Table 14.5). -/
def Cal.seconds (c : Cal) : Nat := ((c.days * 24 + c.hour) * 60 + c.min) * 60 + c.sec

/-- The Gregorian days before 1 January of a year, and days from 2000-01-01 to a date, which may lie before it (14 Table 14.3). -/
def daysBefore (year : Nat) : Int := 365 * (year : Int) + (((year - 1) / 4 - (year - 1) / 100 + (year - 1) / 400 : Nat) : Int)
def daysOf (year month day : Nat) : Int :=
  daysBefore year - daysBefore 2000 + ((daysBeforeMonth (year % 400) month + (day - 1) : Nat) : Int)

/-- The staged fields are in range, and DAY within the month (R292). -/
def Cal.ok (c : Cal) : Bool :=
  decide (c.year ≤ 199) && decide (1 ≤ c.month ∧ c.month ≤ 12) && decide (1 ≤ c.day ∧ c.day ≤ monthDays c.year c.month) &&
    decide (c.hour ≤ 23) && decide (c.min ≤ 59) && decide (c.sec ≤ 59)

/-- The next second, and whether the range ended (R290). -/
def Cal.next (c : Cal) : Cal × Bool :=
  if c.sec < 59 then ({ c with sec := c.sec + 1 }, false)
  else if c.min < 59 then ({ c with sec := 0, min := c.min + 1 }, false)
  else if c.hour < 23 then ({ c with sec := 0, min := 0, hour := c.hour + 1 }, false)
  else if c.day < monthDays c.year c.month then ({ c with sec := 0, min := 0, hour := 0, day := c.day + 1 }, false)
  else if c.month < 12 then ({ c with sec := 0, min := 0, hour := 0, day := 1, month := c.month + 1 }, false)
  else if c.year < 199 then (⟨c.year + 1, 1, 1, 0, 0, 0⟩, false)
  else (Cal.start, true)

/-- The words of SHD.DATE and SHD.TIME. -/
def Cal.dateWord (c : Cal) : Nat := c.year + c.month * 2 ^ 8 + c.day * 2 ^ 16 + c.wday * 2 ^ 24
def Cal.timeWord (c : Cal) : Nat := c.hour + c.min * 2 ^ 8 + c.sec * 2 ^ 16

end Sys2Proof.Machine
end

