-- ==== Sys2Proof/Machine/Life.lean ====
section
/-! DEFINITION. The life of the cartridge (14 R307); what gives up a checkpoint. -/

namespace Sys2Proof.Machine

/-- The type of the fitted cartridge (14 Table 14.2). -/
def State.cartType (s : State) : Nat := s.idNum 0x06 1

/-- The used per cent of each limit of Table 14.3; a limit whose 100 % is 0 counts as unused. -/
def State.lifeParts (s : State) : List Nat :=
  let cap := s.idNum 0x1A 2 * 1000
  let nom := s.idNum 0x18 2 * 10
  let d := s.idNum 0x10 4
  let age := (s.bk.cal.days : Int) - daysOf (d / 2 ^ 16) (nfield d 8 8) (nfield d 0 8)
  [if cap = 0 then 0 else s.rd R.CRT_LIFE_CELL * 100 / cap,
   s.rd R.CRT_LIFE_ERASEMAX * 100 / 60000,
   if s.cartType = 2 then (nom - s.rd R.CRT_LIFE_SCAP) * 1000 / (3 * nom) else 0,
   s.rd R.CRT_LIFE_INSERT * 100 / 500,
   if s.flag R.BKD_STAT_RTC_VALID then age.toNat * 100 / 5479 else 0]

/-- PCT, WHICH and the sources of R307, while a cartridge that was not refused is fitted. -/
def State.lifeView (s : State) : State :=
  if s.crtState = 2 ∨ s.crtState = 3 ∨ s.crtState = 5 then
    let l := s.lifeParts
    let top := l.foldl max 0
    let s := (s.wr R.CRT_LIFE_PCT (min 100 top)).wr R.CRT_LIFE_WHICH ((findIdx (· == top) l 0).getD 0)
    let s := if 80 ≤ top ∧ !s.crt.warned then (s.ev 0x50 3).setCrt { s.crt with warned := true } else s
    if 100 ≤ top ∧ !s.flag R.CRT_STAT_EOL then (s.wr R.CRT_STAT_EOL 1).ev 0x50 4 else s
  else s

/-- A running checkpoint is given up without COMPLETE (R320, R325). That of a format is made anew (R323, log entry 14). -/
def State.ckDrop (s : State) : State :=
  (s.setCrt { s.crt with ck := none, cmd := nsetBit s.crt.cmd 3 false, want := s.crt.want || (s.crt.ck.isSome && s.crtState == 2) }).wr R.CRT_STAT_CKPT 0

end Sys2Proof.Machine
end

