-- ==== Sys2Proof/Machine/Bkd.lean ====
section
/-! DEFINITION. The backup domain (13): seconds and commits of the calendar, alarms, event inputs, counters, the cell, and writes through the isolation cells. -/

namespace Sys2Proof.Machine

/-! Events: a source is raised while AON is up (R284, R295, R296). -/

def State.aonUp (s : State) : Bool := s.mode != 0
/-- An event that lasts one tick. -/
def State.bkPulse (s : State) (bit : Nat) : State := if s.aonUp then s.ev 0x48 bit else s
/-- A condition that stays at its level, raised at this instant whether or not the level was up. -/
def State.bkHold (s : State) (bit : Nat) : State :=
  if s.aonUp then (s.evLevel 0x48 bit true).wr R.H_EVSTAT (nsetBit (s.rd R.H_EVSTAT 0 0x48) bit true) 0 0x48 else s

/-- Alarm `a` matches the calendar (R295). -/
def State.alarmMatch (s : State) (a : Nat) : Bool :=
  let c := s.bk.cal
  let f := s.rd R.BKD_ALM_MASK_FIELDS a
  let t := s.rd R.BKD_ALM_TIME a
  (nbit f 0 || nfield t 16 6 == c.sec) && (nbit f 1 || nfield t 8 6 == c.min) && (nbit f 2 || nfield t 0 5 == c.hour) &&
    (nbit f 3 || s.rd R.BKD_ALM_DATE_DAY a == c.day) && (nbit f 4 || s.rd R.BKD_ALM_DATE_MONTH a == c.month) &&
    (nbit f 5 || s.rd R.BKD_ALM_DATE_YEAR a == c.year) && (nbit f 6 || s.rd R.BKD_ALM_DATE_WDAY a == c.wday)

/-- The alarms at a tick at which the second changed (R295). -/
def State.alarms (s : State) : State :=
  s.each [0, 1] fun s a =>
    if s.flag R.BKD_ALM_MASK_EN a && s.alarmMatch a then (s.bitTo R.BKD_ALMFLAG a true).bkHold a else s

/-- The calendar takes the value `c` with prescaler 0 at the tick of MT `at_`; the tick before is remembered for the stamps. -/
def State.setCal (s : State) (c : Cal) (at_ prevSub : Nat) : State :=
  { s with bk := { s.bk with cal := c, base := 0, at_ := at_, prev := s.bk.cal, prevSub := prevSub } }

/-- RTC_SECOND (R290, R295), at the tick at which the prescaler wraps. -/
def execRtcSecond (s : State) : Res :=
  .next <|
    let n := s.bk.cal.next
    let at_ := wrapAt s.bk.base s.bk.at_
    let s := (s.awaitMt at_).setCal n.1 at_ 32767
    let s := if n.2 then s.wr R.BKD_STAT_RTC_VALID 0 else s
    (s.alarms.bkPulse 4).lifeView

/-! Writes through the isolation cells (R289). -/

/-- CMD takes effect (R288, R300, R301): VALIDATE, CCTAKE, then LOADTEST, which loads the cell from here on. -/
def State.bkCommands (s : State) (v : Nat) : State :=
  let s := if nbit v 0 then s.wr R.BKD_STAT_BK_VALID 1 else s
  let s := if nbit v 2 then (s.wr R.BKD_CCTAKEN (s.rd R.BKD_COUL)).wr R.BKD_COUL 0 else s
  if nbit v 1 then { s.wr R.BKD_STAT_LOADBUSY 1 with bk := { s.bk with loadAt := s.mt } } else s

/-- The pending write is taken into the domain. -/
def State.bkTake (s : State) : State :=
  match s.bk.wpend with
  | none => s
  | some w =>
    let s := { s.wr R.BKD_STAT_WPEND 0 with bk := { s.bk with wpend := none } }
    if w.1 = 0x104 then s.bkCommands w.2
    else
      let s := s.wordWrite 0 w.2 false (fieldsAt 0x48 w.1)
      (s.evLevel 0x48 0 (nbit (s.rd R.BKD_ALMFLAG) 0)).evLevel 0x48 1 (nbit (s.rd R.BKD_ALMFLAG) 1)

/-- The pending commit is applied (R292, R293): no roll-over event, and OPSEC is not disturbed. -/
def State.bkCommit (s : State) : State :=
  match s.bk.commit with
  | none => s
  | some c =>
    let s := s.setCal c s.bk.cdue s.presc
    let s := { s with bk := { s.bk with commit := none } }
    ((s.wr R.BKD_STAT_COMMITPEND 0).wr R.BKD_STAT_RTC_VALID 1).alarms.lifeView

/-- A write while another is pending stalls its master up to the tick that takes that one, and a commit due at that tick with it (R289).
Whether it stalled. -/
def State.bkStall (s : State) : Bool × State :=
  if s.bk.wpend = none then (false, s)
  else
    let s := (s.awaitMt s.bk.due).bkTake
    (true, if s.bk.commit.isSome && decide (s.bk.cdue ≤ s.mt) then s.bkCommit else s)

/-- A write of word `v` at offset `off` of the page, its checks passed: the next tick takes it. One that has stalled is taken at the tick
that ends its stall, which is the next one after it was made (Table 13.2; log entry 53). -/
def State.bkWrite (s : State) (stalled : Bool) (off v : Nat) : State :=
  let t := { s.wr R.BKD_STAT_WPEND 1 with bk := { s.bk with wpend := some (off, v), due := s.bkNext } }
  if stalled then t.bkTake else t

/-- BK_WRITE_TAKEN (R289), at the next tick after the write. -/
def execBkWriteTaken (s : State) : Res := .next (if s.bk.wpend = none then s else (s.awaitMt s.bk.due).bkTake)

/-- Bits `v` of CMD are written: a load test on the cell is refused, one during a load test has no effect (00 Table 0.4). -/
def State.bkCommand (s : State) (v : Nat) : State :=
  let r := s.bkStall
  let s := r.2
  let test := nbit v 1
  let s := if test && s.flag R.BKD_STAT_SRC then s.err 0x48 0x73 0x104 else s
  let go := if test && (s.flag R.BKD_STAT_SRC || s.flag R.BKD_STAT_LOADBUSY) then v - 2 else v
  if go = 0 then s else s.bkWrite r.1 0x104 go

/-- The calendar that the staging registers and a written second name. -/
def State.staged (s : State) (sec : Nat) : Cal :=
  ⟨s.rd R.BKD_RTC_DATE_YEAR, s.rd R.BKD_RTC_DATE_MONTH, s.rd R.BKD_RTC_DATE_DAY, s.rd R.BKD_RTC_TIME_HOUR, s.rd R.BKD_RTC_TIME_MIN, sec⟩

/-- RTC_SEC_WRITE (R292). -/
def execRtcSecWrite (_m : BitVec 6) (value : BitVec 32) (s : State) : Res :=
  .next <| s.onPage 0x48 fun s =>
    let s := s.bkStall.2
    let c := s.staged (nfield value.toNat 0 6)
    if s.flag R.BKD_STAT_COMMITPEND then s.err 0x48 0x71 0x124
    else if !c.ok then s.err 0x48 0x70 0x124
    else { s.wr R.BKD_STAT_COMMITPEND 1 with bk := { s.bk with commit := some c, cdue := s.bkNext } }

/-- RTC_COMMIT (R292, R293), at the next tick after the write of RTC_SEC. -/
def execRtcCommit (s : State) : Res := .next (if s.bk.commit = none then s else (s.awaitMt s.bk.cdue).bkCommit)

/-- RTC_SNAPSHOT (R291): a read of RTC_SNAP copies one tick into the master's shadow registers. -/
def State.rtcSnap (s : State) (m : Nat) : State :=
  let c := s.bk.cal
  let sub := s.presc
  let back := ((s.mt - s.bk.at_) * 32768 / 1000000000 * 1000000000 + 32767) / 32768
  let s := (s.wr R.BKD_RTC_SNAP_SUBSEC sub 0 0 m).wr R.BKD_RTC_SNAP_VALID (s.rd R.BKD_STAT_RTC_VALID) 0 0 m
  let s := ((s.wr R.BKD_SHD_DATE_YEAR c.year 0 0 m).wr R.BKD_SHD_DATE_MONTH c.month 0 0 m).wr R.BKD_SHD_DATE_DAY c.day 0 0 m
  let s := (s.wr R.BKD_SHD_DATE_WDAY c.wday 0 0 m).wr R.BKD_SHD_TIME_HOUR c.hour 0 0 m
  let s := (s.wr R.BKD_SHD_TIME_MIN c.min 0 0 m).wr R.BKD_SHD_TIME_SEC c.sec 0 0 m
  s.wr2 R.BKD_SHD_MTLO R.BKD_SHD_MTHI (s.bk.at_ + back) 0 0 m
def execRtcSnapshot (m : BitVec 6) (s : State) : Res :=
  .next <| s.onRead 0x48 fun s =>
    let s := s.rtcSnap m.toNat
    (s.rd R.BKD_RTC_SNAP_SUBSEC 0 0 m.toNat + 2 ^ 31 * s.rd R.BKD_RTC_SNAP_VALID 0 0 m.toNat, s)

/-- RTC_TRIM (R294): T ticks more or fewer on both prescalers. -/
def execRtcTrim (s : State) : Res :=
  .next <|
    let t := sgn 8 (s.rd R.BKD_RTC_TRIM)
    { s with bk := { s.bk with base := s.bk.base + t, opBase := s.bk.opBase + t } }

/-- EVI_EDGE (R296): the filtered level changes; the stamp is the tick at which the new level was first sampled. -/
def execEviEdge (k : Fin 2) (rising : Bool) (s : State) : Res :=
  .next <|
    let s := s.put R.BKD_EVI_CFG_LEVEL rising k
    let e := s.rd R.BKD_EVI_CFG_EDGE k
    if e = 3 || (e == 1 && rising) || (e == 2 && !rising) then
      let f := s.rd R.BKD_EVI_CFG_FILT k
      let sub := s.presc
      let at_ := if f ≤ sub then (s.bk.cal, sub - f) else (s.bk.prev, s.bk.prevSub + 1 + sub - f)
      let s := ((s.wr R.BKD_EVI_TSDATE at_.1.dateWord k).wr R.BKD_EVI_TSTIME at_.1.timeWord k).wr R.BKD_EVI_TSSUB_SUBSEC at_.2 k
      (s.wrap R.BKD_EVI_TSSUB_COUNT k).bkPulse (2 + k)
    else s

/-- An operating second (R297), at the tick at which its prescaler wraps. -/
def State.opsec (s : State) : State :=
  let at_ := wrapAt s.bk.opBase s.bk.opAt
  let s := s.awaitMt at_
  { s.sat R.BKD_OPSEC with bk := { s.bk with opBase := 0, opAt := at_ } }

/-- BK_VALIDATE (R288): the next tick sets BK_VALID (R289). -/
def execBkValidate (_m : BitVec 6) (s : State) : Res := .next <| s.onPage 0x48 fun s => s.bkCommand 1

/-- BK_CHANGEOVER (R284): the source in use changes; the charge drawn while on the cell is counted (R300). -/
def execBkChangeover (nah : BitVec 32) (s : State) : Res :=
  .next <|
    let src := s.rd R.BKD_STAT_SRC
    let s := if src = 1 then s.sat R.BKD_COUL (d := nah.toNat) else s
    let s := (s.wr R.BKD_STAT_SRC (1 - src)).wr R.PWR_STATUS_BKSRC (1 - src)
    (s.wrap R.BKD_CHGOVR).bkPulse 5

/-- BACKUP_STATE_LOST (R285, R286, R288). -/
def execBackupStateLost (s : State) : Res :=
  .next <|
    let s := { s with regs := s.regs.filter (fun e => keyCls e.1 ≠ 2), bk := { Bk.lost with at_ := s.mt, opAt := s.mt, wpend := s.bk.wpend, due := s.bk.due, commit := s.bk.commit, cdue := s.bk.cdue, loadAt := s.bk.loadAt } }
    if s.aonUp then
      (((s.wr R.BKD_STAT_LOSTSEEN 1).evLevel 0x48 0 false).evLevel 0x48 1 false |>.evLevel 0x48 6 false).ev 0x48 7
    else s

/-- COULOMB_TAKE (R300), CELL_LOAD_TEST (R301): the next tick takes them (R289). -/
def execCoulombTake (_m : BitVec 6) (s : State) : Res := .next <| s.onPage 0x48 fun s => s.bkCommand 4
def execCellLoadTest (_m : BitVec 6) (s : State) : Res := .next <| s.onPage 0x48 fun s => s.bkCommand 2

/-- LOAD_TEST_COMPLETE (R301, R300), 10 ms after the load began. -/
def execLoadTestComplete (mv : BitVec 16) (nah : BitVec 16) (s : State) : Res :=
  .next <|
    if !s.flag R.BKD_STAT_LOADBUSY then s
    else
      let s := s.awaitMt (s.bk.loadAt + 10000000)
      let s := ((s.wr R.BKD_STAT_LOADBUSY 0).wr R.BKD_CELL_MV mv.toNat).sat R.BKD_COUL (d := nah.toNat)
      if mv.toNat < 2600 then (s.wr R.BKD_STAT_CELLLOW 1).bkHold 6
      else (s.wr R.BKD_STAT_CELLLOW 0).evLevel 0x48 6 false

end Sys2Proof.Machine
end

