-- ==== Sys2Proof/Machine/SegOff.lean ====
section
/-! DEFINITION. What the end of a segment, of the cluster time and of a station's OPERATE does (09 Table 9.9, 10 R218, R219, R225). -/

namespace Sys2Proof.Machine

/-- RMC's state changes: source 252, and offset 6 of every enabled segment (09, Table 9.9). -/
def State.setCstate (s : State) (c : Nat) : State :=
  if s.cstate = c then s
  else ((s.wr R.RMC_STAT_CSTATE c).ev 0x30 0).each s.onSegs fun s g => s.segEv g 7

/-- RMC returns to OFF and drops its cycle count, its corrections and any integration (09, Table 9.9). -/
def State.rmcOff (s : State) : State :=
  let s := s.setCstate 0
  let s := (((s.wr R.RMC_STAT_CYCLE 0).wr R.RMC_OFFSET 0).wr R.RMC_RATE 0).wr R.RMC_STAT_NSYNC 0
  { s.wr R.RMC_STAT_ROUNDS 0 with rmc := State.reset.rmc }

/-- The works that take the inputs of a station. -/
def State.worksOf (s : State) (g k : Nat) : List Nat :=
  workOrder.filter fun w =>
    let p := mainPart w
    s.desc s.half p 4 4 != 0 && (s.listAt s.half (s.freezeList s.half p)).any fun e => e.seg == g && e.st == k

/-- A station that was OPERATE is lost: it enters the LOST list of every work that takes it, with cause bit 0 in classes (04 R81). -/
def State.markLost (s : State) (g k : Nat) : State :=
  s.each (s.worksOf g k) fun s w => s.modPly w fun p =>
    { p with lost := nsetBit p.lost (32 * g + k) true, cause := if w < 3 then nsetBit p.cause 0 true else p.cause }

/-- A downlink message in progress is abandoned: it is sent again whole after the station is next in PARAMETERISING (R224). -/
def SvcMsg.abandoned (m : SvcMsg) : SvcMsg := if m.count = 0 ∧ m.sends = 0 then m else { m with frag := 0, count := 0, sends := 0, held := true }

/-- The station's state becomes `st` (R218, R219, R224): offset 0, and for LOST offset 1; OUTEN falls with OPERATE. -/
def State.setStation (s : State) (g k st : Nat) : State :=
  let old := s.rd R.RMT_ST_STATE k g
  if old = st then s
  else
    let s := (s.wr R.RMT_ST_STATE st k g).segEv g 0
    let s := if st = 4 then (s.sat R.RMT_ERR_LOSTS k g).segEv g 1 else s
    let s := if old = 3 then s.wr R.RMT_ST_OUTEN 0 k g else s
    let s := if st = 3 then s.setStn g k { s.stn g k with ended := false } else s
    let s := if st = 2 then s.setStn g k { s.stn g k with timed := false } else s
    let s := if old = 3 ∧ (st = 4 ∨ st = 0) then s.markLost g k else s
    let s := if old = 2 ∨ old = 3 then s.setSvc g k ((s.svcList g k).map SvcMsg.abandoned) else s
    if st = 2 then s.setSvc g k ((s.svcList g k).map fun m => { m with held := false }) else s

/-- Segment `g` leaves ON (R225): its stations are ABSENT, and RMC is OFF when it was the last. -/
def State.segLeaves (s : State) (g : Nat) : State :=
  let s := s.each (upTo 32) fun s k =>
    let t := s.stn g k
    let s := (s.setStation g k 0).wr R.RMT_ST_HSUB 0 k g
    s.setStn g k { fillA := t.fillA, fillB := t.fillB, downSeq := t.downSeq, echoA := t.echoA, echoB := t.echoB }
  let s := ((s.setRmt g Rmt.idle).wr R.RMT_STAT_PASSIVE 0 0 g).wr R.RMT_STAT_CYCLE 0 0 g
  let s := s.evLevel (segPage g) 5 false
  if s.onSegs = [] then s.rmcOff else s

end Sys2Proof.Machine
end

