-- ==== Sys2Proof/Machine/Pwr.lean ====
section
/-! DEFINITION. PWR (03 R45, R61, R63; 22 R448–R451): feeds, the power-fail warning and what follows it, the SEATED contacts. -/

namespace Sys2Proof.Machine

/-- FEED_GOOD (R45, R448): DORMANT to START by a power-on reset, once both contacts have been made for 20 ms. -/
def execFeedGood (s : State) : Res :=
  .next <|
    if s.mode = 0 ∧ s.contactsMade then
      (match s.pwr.madeAt with | some t => s.awaitMt (t + 20000000) | none => s).resetAssert (2 ^ 0)
    else s

/-- AON_SUPPLY_LOST (R61, R450). -/
def execAonSupplyLost (s : State) : Res := .next s.powerOff

/-- A flush of the cartridge and the recorder is in progress (R61). -/
def State.flushing (s : State) : Bool := s.crtFlush || s.er.flushing || s.flag R.PWR_STATUS_FLUSHONLY

/-- POWER_FAIL_WARNING (R61): with a SEATED contact open 200 µs after it opened (22 R448); the flushes start, a checkpoint ends (14 R320), a flush of the recorder is due (15 R334); a lead with a synchronised partner requests forced castling, and a planned one
becomes forced (11 R262); an armed seal is cancelled (07 Table 7.7). -/
def execPowerFailWarning (s : State) : Res :=
  .next <|
    if s.mode = 0 || s.flag R.PWR_STATUS_PFW then s
    else
      let s := if s.contactsMade then s else s.awaitMt (s.pwr.openAt + 200000)
      let s := ((s.wr R.PWR_STATUS_PFW 1).sat R.PWR_PFCOUNT_COUNT).evLevel 0x01 0 true
      let s := { s.ckDrop with crtFlush := true, pwr := { s.pwr with warnAt := s.mt }, er := { s.er with due := true } }.sealCancel
      if s.pr.castKind ≠ 0 then { s with pr := { s.pr with castKind := 2 } }
      else if s.isLead && s.flag R.PAIR_STAT_PSYNC then (s.castleRequest true).getD (s.err 0x3A 0x52 0x1A4)
      else s

/-- POWER_FAIL_CLEAR (R61): the warning ends, which it does not while a SEATED contact is open (22 R448); after a forced HOLD the mode
stays. -/
def execPowerFailClear (s : State) : Res :=
  .next <| if s.contactsMade then (s.wr R.PWR_STATUS_PFW 0).evLevel 0x01 0 false else s

/-- POWER_FAIL_HOLD (R61 step 3, R17): 15 ms after the warning, HOLD with HOLDCAUSE 9 unless it is 4 already, outputs and segment domains off, and the
flush-only phase with a BC-2 cartridge whose energy is available, which switches every other domain off. In HOLD already, source 5
reports the change (R45). -/
def execPowerFailHold (s : State) : Res :=
  .next <|
    if s.mode = 0 || !s.flag R.PWR_STATUS_PFW || s.flag R.PWR_STATUS_FORCEDHOLD then s
    else
      let s := (s.awaitMt (s.pwr.warnAt + 15000000)).wr R.PWR_STATUS_FORCEDHOLD 1
      let s :=
        if s.isHold then (if s.rd R.SYS_MODE_HOLDCAUSE = 4 then s else (s.dropClaim.setMode 4 9).report 0x01 0)
        else s.dropClaim.setMode 4 9
      let s := s.wr R.PWR_DOMAIN_SEG 0
      if s.flag R.PWR_PFCTL_FOEN && s.flag R.PWR_STATUS_SCAP then
        let s := ((s.wr R.PWR_STATUS_FLUSHONLY 1).wr R.PWR_DOMAIN_XE 0).wr R.PWR_DOMAIN_PL 0
        { s with pwr := { s.pwr with off := true, flushAt := s.mt } }
      else s

/-- The supply reset that follows the flush when the feeds have returned (R61 step 4). -/
def State.supplyResetDue (s : State) : State :=
  if s.pwr.returned && !s.flushing then s.resetAssert (2 ^ 1) else s

/-- FLUSH_ONLY_END (R451): when the flushes are complete, or 2 s after the phase began. -/
def execFlushOnlyEnd (s : State) : Res :=
  .next <|
    if s.flag R.PWR_STATUS_FLUSHONLY then
      let s := if s.crtFlush || s.er.flushing then s.awaitMt (s.pwr.flushAt + 2000000000) else s
      ({ (s.wr R.PWR_STATUS_FLUSHONLY 0).wr R.PWR_STATUS_SCAP 0 with crtFlush := false, er := { s.er with flushing := false } }).supplyResetDue
    else s

/-- FEEDS_RETURN (R61 step 4). -/
def execFeedsReturn (s : State) : Res :=
  .next <|
    if s.flag R.PWR_STATUS_FORCEDHOLD then { s with pwr := { s.pwr with returned := true } }.supplyResetDue else s

/-- FEED_LOW (R63): sources 10 and 11. -/
def execFeedLow (feed : Fin 2) (low : Bool) (s : State) : Res :=
  .next <| (s.put (if feed = 0 then R.PWR_STATUS_P1OK else R.PWR_STATUS_P2OK) !low).evLevel 0x01 (2 + feed) low

/-- FEED_MEAN_UPDATE (R63). -/
def execFeedMeanUpdate (p1 p2 : BitVec 16) (s : State) : Res :=
  .next <| (s.wr R.PWR_FEED_P1MV p1.toNat).wr R.PWR_FEED_P2MV p2.toNat

/-- HOLDUP_STORE_CHARGED (R450). -/
def execHoldupStoreCharged (s : State) : Res := .next { s with pwr := { s.pwr with stored := true } }

def State.setSeated (s : State) (c : Nat) (b : Bool) : State :=
  { s with pwr := if c = 0 then { s.pwr with seated1 := b } else { s.pwr with seated2 := b } }

/-- SEATED_OPEN (R448, R463): every local output is held at 0, and the rack-bus transceivers drive recessive. -/
def execSeatedOpen (contact : Fin 2) (s : State) : Res :=
  .next <|
    let s := if s.contactsMade then { s with pwr := { s.pwr with openAt := s.mt } } else s
    let s := s.setSeated contact false
    if s.mode = 0 then s else { s with lio := { s.lio with seat := 0xFFFF } }.rbCut

/-- SEATED_MADE (R463): with both contacts made, the after-effect stays for the outputs of rows 4 to 6 of Table 16.1. -/
def execSeatedMade (contact : Fin 2) (s : State) : Res :=
  .next <|
    let s := s.setSeated contact true
    let s := if s.contactsMade then { s with pwr := { s.pwr with madeAt := some s.mt } } else s
    if s.contactsMade then
      { s with lio := { s.lio with seat := if s.outputsOff then 0 else s.lio.seat - (s.lio.seat &&& s.rd R.TE_DQASSIGN) } }
    else s

end Sys2Proof.Machine
end

