-- ==== Sys2Proof/Machine/Rec.lean ====
section
/-! DEFINITION. Event records (15 R327–R330, R337, R338): their words, the recorder's unit table and view registers, acceptance and drops. -/

namespace Sys2Proof.Machine

def State.setEr (s : State) (e : ErSt) : State := { s with er := e }

/-- The bytes of a record's words in storage order. -/
def wordBytes (ws : List Nat) : List (BitVec 8) := ws.flatMap (leBytes 4)
/-- The seal word over the words before it (Table 15.1). -/
def sealOf (ws : List Nat) : Nat := 0x5EA1 * 2 ^ 16 + crc16 (wordBytes ws)

/-! Fields of a record (Table 15.1). -/

def recLen (w0 : Nat) : Nat := nfield w0 24 8
def recSev (w0 : Nat) : Nat := nfield w0 20 4
def recClass (w0 : Nat) : Nat := nfield w0 16 4
def recW0 (r : List Nat) : Nat := r.getD 0 0
def recSeq (r : List Nat) : Nat := r.getD 2 0

/-- The buffer holds 4 MiB; the queue of a BC-1 cartridge 16 KiB (R333, R334, R335). -/
def State.erBuffered (s : State) : Bool := !s.crtActive || s.rd R.CRT_STAT_TYPE == 2 || s.flag R.ER_STAT_HELD
def State.erBytes (s : State) : Nat := (s.er.queue.map fun r => 4 * r.length).sum
def State.erCap (s : State) : Nat := if s.erBuffered then 0x400000 else 0x4000

/-- The registers that show the queue and the units. -/
def State.utAddr (s : State) : Nat := s.rd R.ER_UTLO * 64 + s.rd R.ER_UTHI * 2 ^ 32
def State.unitState (s : State) (i : Nat) : Nat := nfield (s.rdLe (s.utAddr + 8 * i + 4) 1) 4 2
def State.unitHi (s : State) (i : Nat) : Nat := nfield (s.rdLe (s.utAddr + 8 * i + 4) 1) 0 4
def State.unitFirst (s : State) (i : Nat) : Nat := s.rdLe (s.utAddr + 8 * i) 4
def State.unitBlock (s : State) (i : Nat) : Nat := s.rdLe (s.utAddr + 8 * i + 5) 3
def State.unitSet (s : State) (i first hi st : Nat) : State :=
  (s.wrLe (s.utAddr + 8 * i) 4 first).wrLe (s.utAddr + 8 * i + 4) 1 (hi + 16 * st)
def State.erUnits (s : State) : List Nat := upTo (s.rd R.ER_UNITS)
def State.erView (s : State) : State :=
  let s := s.wr R.ER_BUF_LEVEL ((s.erBytes + 1023) / 1024)
  let s := s.put R.ER_STAT_FULL (decide (0 < s.rd R.ER_UNITS) && !(s.erUnits.any fun i => s.unitState i == 0))
  let s := s.put R.ER_STAT_BUFMODE (s.rd R.CRT_STAT_TYPE == 2)
  let s := if s.er.queue = [] then s.wr R.ER_STAT_HELD 0 else if s.crtActive then s else s.wr R.ER_STAT_HELD 1
  s.wr R.ER_STAT_OP (if s.er.clearing ≠ none then 4 else if s.er.flushing then 2 else if s.er.queue ≠ [] ∧ s.crtActive ∧ s.running 0x51 then 1 else 0)

/-- A record is dropped (R338). -/
def State.erDrop (s : State) (sev : Nat) : State :=
  (if sev % 2 = 0 then s.sat R.ER_DROP_LOW (sev / 2) else s.sat R.ER_DROP_HIGH (sev / 2)).ev 0x51 0

/-- R337: no closed unit qualifies. -/
def State.erStop (s : State) (sev : Nat) : State :=
  (s.wr R.ER_STOP_LEVEL (max sev (s.rd R.ER_STOP_LEVEL))).wr R.ER_STOP_ACTIVE 1

/-- ER fills words 2–6, FLAGS.ER and the seal (R329, Table 15.1), and the record joins the queue with its SEQ (R330). -/
def State.erFill (s : State) (w0 w1 : Nat) (body : List Nat) (ergen : Bool) : List Nat :=
  let locked := s.flag R.TIM_NTCTL_LOCKED
  let fl := b2n locked + 2 * b2n s.erBuffered + 4 * b2n (s.flag R.PWR_STATUS_PFW) + 8 * b2n ergen
  let nt := if locked then s.tim.nt else 0
  let ws := [w0, w1 / 256 * 256 + fl, s.rd R.ER_SEQNEXT, s.rd R.BKD_OPSEC, s.rd R.BKD_PWRCYC_COUNT * 256, nt % 2 ^ 32, nt / 2 ^ 32 % 2 ^ 32] ++ body
  ws ++ [sealOf ws]
/-- A flush falls due by a record's severity, or by the level of the buffer (R334). -/
def State.flushDue (s : State) (r : List Nat) : Bool :=
  decide (s.rd R.ER_CFG_FLUSHSEV ≤ recSev (recW0 r)) || decide (0x300000 ≤ s.erBytes + 4 * r.length)
def State.erAccept (s : State) (r : List Nat) : State :=
  ((s.setEr { s.er with queue := s.er.queue ++ [r], accepted := true, due := s.er.due || s.flushDue r }).wrap R.ER_SEQNEXT).erView

/-- A record of ER's own (Table 15.3). -/
def State.erOwn (s : State) (code sev len : Nat) (body : List Nat) : State :=
  s.erAccept (s.erFill (len * 2 ^ 24 + sev * 2 ^ 20 + 4 * 2 ^ 16 + code) (0x51 * 2 ^ 16) body true)

/-- The layout of ER.DROP0–3. -/
def State.dropWords (s : State) : List Nat := (upTo 4).map fun k => s.rd R.ER_DROP_LOW k + 2 ^ 16 * s.rd R.ER_DROP_HIGH k

/-- A request is submitted for a class-4 or foreign class record (R329): 0 accepted, 1 refused, 2 dropped. -/
def State.erSubmit (s : State) (ws : List Nat) (n : Nat) : Nat × State :=
  let w0 := ws.getD 0 0
  let sev := recSev w0
  if n < 8 ∨ 255 < n ∨ recLen w0 ≠ n ∨ 8 ≤ sev ∨ (4 ≤ recClass w0 ∧ recClass w0 ≤ 7) then (1, s.err 0x51 0x90 0x118)
  else if s.flag R.ER_STOP_ACTIVE ∧ sev ≤ s.rd R.ER_STOP_LEVEL then (2, s.erDrop sev)
  else if s.erCap < s.erBytes + 4 * n then (2, s.erDrop sev)
  else (0, s.erAccept (s.erFill w0 (ws.getD 1 0) ((ws.drop 7).take (n - 8)) false))

/-- A record that firmware writes for what it has met (00 R5; 07 R160; 14 R323; 19 R405): SRCCLASS 1; the spec gives no code below
0x8000, severity, source or body, which are free (log entry 55). -/
def State.fwRecord (s : State) : State :=
  let d := s.draw
  let n := 8 + d.1 % 248
  let w0 := n * 2 ^ 24 + d.1 / 2 ^ 8 % 8 * 2 ^ 20 + 2 ^ 16 + d.1 / 2 ^ 16 % 2 ^ 15
  let ws := (upTo n).map fun j => if j = 0 then w0 else d.1 / 2 ^ (32 * j) % 2 ^ 32
  (d.2.erSubmit ws n).2

end Sys2Proof.Machine
end

