-- ==== Sys2Proof/Machine/Crt.lean ====
section
/-! DEFINITION. The cartridge (14): identity and ownership, the MRAM layout, the journal, checkpoints and restore, removal and
insertion, the NAND controller. Layout choices the spec leaves open are in log entries 14 and 15. -/

namespace Sys2Proof.Machine

/-! Identity (R304, Table 14.2). -/

/-- The Nogestad identity key, by number. -/
def identityKey : Nat := 1

/-- The block verifies, and its type and sizes are those of Table 14.1. -/
def State.identOk (s : State) : Bool :=
  let t := s.cartType
  s.idNum 0 4 == 0x594C4942 && s.idNum 4 2 == 1 && (t == 1 || t == 2) && s.idNum 0x14 2 == (if t = 1 then 16 else 64) &&
    s.idNum 0x16 2 == (if t = 1 then 4 else 16) &&
    Config.verify identityKey (s.crt.ident.take 64) ((s.crt.ident.drop 64).take 64)

/-- The device identity CRT.MODID. -/
def State.modId (s : State) : Nat := s.rd2 R.CRT_MODIDLO R.CRT_MODIDHI

/-! Two-copy areas (R309): the copy in force, and the copy to write with its GEN. -/

/-- MRAM bytes. -/
def State.mr (s : State) (off n : Nat) : Nat := s.rdLe (cartBase + off) n
def State.mrBytes (s : State) (off n : Nat) : List (BitVec 8) := s.rbs (cartBase + off) n
def State.mw (s : State) (off : Nat) (bs : List (BitVec 8)) : State := s.wbs (cartBase + off) bs

/-- The valid copy with the higher GEN of copies 0 and 1, given as validity and GEN. -/
def pickCopy (v0 v1 : Bool) (g0 g1 : Nat) : Option Nat :=
  if v0 && v1 then some (if g0 < g1 then 1 else 0) else if v0 then some 0 else if v1 then some 1 else none
/-- The copy that is rewritten, and its new GEN. -/
def nextCopy (v0 v1 : Bool) (g0 g1 : Nat) : Nat × Nat :=
  match pickCopy v0 v1 g0 g1 with
  | none => (0, 1)
  | some c => (1 - c, (if c = 0 then g0 else g1) + 1)

/-- Superblock (Table 14.4): MAGIC 4, FORMAT 2, STATE 2, OWNER 8, SERIAL 8, GEN 4, REMOVEDPLY 4, CRC-32. -/
def sbOff (c : Nat) : Nat := 0x1000 * c
def State.sbOk (s : State) (c : Nat) : Bool :=
  s.mr (sbOff c) 4 == 0x53594C42 && s.mr (sbOff c + 4) 2 == 1 && s.mr (sbOff c + 32) 4 == crc32 (s.mrBytes (sbOff c) 32)
def State.sbGen (s : State) (c : Nat) : Nat := s.mr (sbOff c + 24) 4
def State.sbCur (s : State) : Option Nat := pickCopy (s.sbOk 0) (s.sbOk 1) (s.sbGen 0) (s.sbGen 1)
def State.sbWrite (s : State) (state removed : Nat) : State :=
  let n := nextCopy (s.sbOk 0) (s.sbOk 1) (s.sbGen 0) (s.sbGen 1)
  let b := leBytes 4 0x53594C42 ++ leBytes 2 1 ++ leBytes 2 state ++ leBytes 8 s.modId ++ leBytes 8 (s.idNum 8 8) ++
    leBytes 4 n.2 ++ leBytes 4 removed
  s.mw (sbOff n.1) (b ++ leBytes 4 (crc32 b))

/-- Classification by the superblock (R305): 1 OWNED, 2 BLANK, 3 REMOVED, 4 FOREIGN. -/
def State.classify (s : State) : Nat :=
  match s.sbCur with
  | none => 2
  | some c =>
    if s.mr (sbOff c + 8) 8 ≠ s.modId then 4
    else if s.mr (sbOff c + 6) 2 = 2 then 3 else 1

/-- Life record: GEN 4, cell µAh 8, erase maximum and mean 4 each, capacitance 2, insertions 2, CRC-32. -/
def lifeOff (c : Nat) : Nat := 0x2000 + 0x1000 * c
def State.lifeOk (s : State) (c : Nat) : Bool := s.mr (lifeOff c + 24) 4 == crc32 (s.mrBytes (lifeOff c) 24)
def State.lifeCur (s : State) : Option Nat := pickCopy (s.lifeOk 0) (s.lifeOk 1) (s.mr (lifeOff 0) 4) (s.mr (lifeOff 1) 4)
def State.lifeWrite (s : State) : State :=
  let n := nextCopy (s.lifeOk 0) (s.lifeOk 1) (s.mr (lifeOff 0) 4) (s.mr (lifeOff 1) 4)
  let b := leBytes 4 n.2 ++ leBytes 8 (s.rd R.CRT_LIFE_CELL) ++ leBytes 4 (s.rd R.CRT_LIFE_ERASEMAX) ++
    leBytes 4 (s.rd R.CRT_LIFE_ERASEMEAN) ++ leBytes 2 (s.rd R.CRT_LIFE_SCAP) ++ leBytes 2 (s.rd R.CRT_LIFE_INSERT)
  s.mw (lifeOff n.1) (b ++ leBytes 4 (crc32 b))
/-- Firmware writes the LIFE registers from the record in force, zero where there is none, or where the cartridge starts anew (R307,
R323). -/
def State.lifeLoad (s : State) (anew : Bool) : State :=
  let n (o l : Nat) : Nat := match (if anew then none else s.lifeCur) with | none => 0 | some c => s.mr (lifeOff c + o) l
  ((s.fwWrite 0x50 0x130 (n 4 8)).fwWrite 0x50 0x134 (n 12 2 + n 16 2 * 2 ^ 16)).fwWrite 0x50 0x13C (n 22 2)

/-- The counter ring: 64 entries of SEQ 8, OPSEC 4, PWRCYC 4, OWNER 8, CRC-32 (R309, 13 R299). -/
def ringOff (i : Nat) : Nat := 0x4000 + 64 * i
def State.ringOk (s : State) (i : Nat) : Bool := s.mr (ringOff i + 24) 4 == crc32 (s.mrBytes (ringOff i) 24)
/-- The valid entry with the highest SEQ among those a test admits. -/
def State.ringBest (s : State) (p : Nat → Bool) : Option Nat :=
  (upTo 64).foldl (fun a i =>
    if s.ringOk i && p i then
      match a with
      | some j => if s.mr (ringOff j) 8 < s.mr (ringOff i) 8 then some i else some j
      | none => some i
    else a) none
def State.ringOwn (s : State) : Option Nat := s.ringBest fun i => s.mr (ringOff i + 16) 8 == s.modId
def State.ringWrite (s : State) : State :=
  let at_ := match s.ringBest fun _ => true with
    | some i => ((i + 1) % 64, s.mr (ringOff i) 8 + 1)
    | none => (0, 1)
  let b := leBytes 8 at_.2 ++ leBytes 4 (s.rd R.BKD_OPSEC) ++ leBytes 4 (s.rd R.BKD_PWRCYC_COUNT) ++ leBytes 8 s.modId
  s.mw (ringOff at_.1) (b ++ leBytes 4 (crc32 b))
/-- OPSEC_TICK (13 R297): while AON is up. Every 360 operating seconds the counters are checkpointed (13 R299). -/
def execOpsecTick (s : State) : Res :=
  .next <|
    if !s.aonUp then s
    else
      let s := s.opsec
      if s.rd R.BKD_OPSEC % 360 = 0 && s.rd R.CRT_STAT_STATE == 3 then s.ringWrite else s
/-- Every entry's OWNER becomes this module (R324). -/
def State.ringAdopt (s : State) : State :=
  s.each (upTo 64) fun s i =>
    if s.ringOk i then
      let b := s.mrBytes (ringOff i) 16 ++ leBytes 8 s.modId
      s.mw (ringOff i) (b ++ leBytes 4 (crc32 b))
    else s

/-- The force record: GEN, USED, CRC-32, 4 bytes 0, then 1,024 entries of 48 bytes in the order of 07 Table 7.9. Its CRC covers
GEN, USED and the entries. -/
def frOff (c : Nat) : Nat := 0x8000 + 0xD000 * c
def Force.bytes (f : Force) : List (BitVec 8) :=
  leBytes 4 f.symid ++ leBytes 4 (f.offset + 2 ^ 30 * b2n f.tvf + 2 ^ 31 * b2n f.valid) ++ leBytes 4 f.type ++ leBytes 16 f.value ++
    leBytes 16 f.mask ++ leBytes 4 0
def Force.ofBytes (bs : List (BitVec 8)) : Force :=
  let a := leNat ((bs.drop 4).take 4)
  ⟨leNat (bs.take 4), nfield a 0 25, nbit a 30, nbit a 31, leNat ((bs.drop 8).take 2), leNat ((bs.drop 12).take 16), leNat ((bs.drop 28).take 16)⟩
def State.frCrc (s : State) (c : Nat) : Nat := crc32 (s.mrBytes (frOff c) 8 ++ s.mrBytes (frOff c + 16) 49152)
def State.frOk (s : State) (c : Nat) : Bool := s.mr (frOff c + 8) 4 == s.frCrc c
def State.frCur (s : State) : Option Nat := pickCopy (s.frOk 0) (s.frOk 1) (s.mr (frOff 0) 4) (s.mr (frOff 1) 4)
/-- The active force table with its pending writes, as the record holds it (07 R159). -/
def State.forcesNow (s : State) : SMap Force := s.xe.ftPend.foldl (fun t e => smSet Force.none t e.1 e.2) s.xe.forces
def State.frWrite (s : State) : State :=
  let n := nextCopy (s.frOk 0) (s.frOk 1) (s.mr (frOff 0) 4) (s.mr (frOff 1) 4)
  let t := s.forcesNow
  let body := (upTo 1024).flatMap fun i => (smGet Force.none t i).bytes
  let h := leBytes 4 n.2 ++ leBytes 4 ((t.filter fun e => e.2.valid).length)
  s.mw (frOff n.1) (h ++ leBytes 4 (crc32 (h ++ body)) ++ leBytes 4 0 ++ body)
/-- The force table of the record in force (R318): none where there is none. -/
def State.frLoad (s : State) : SMap Force :=
  match s.frCur with
  | none => []
  | some c => (upTo 1024).foldl (fun m i => smSet Force.none m i (Force.ofBytes (s.mrBytes (frOff c + 16 + 48 * i) 48))) []

/-! The journal (R311–R313, R316). -/

def jBase : Nat := 0x920000
def State.jArea (s : State) : Nat := s.mramSize - jBase
def State.heldLines (s : State) : Nat := (s.crt.hold.map fun h => h.lines.length).sum

/-- BACKLOG and USE as the engine leaves them. -/
def State.jView (s : State) : State :=
  (s.wr R.CRT_JNL_BACKLOG s.heldLines).wr R.CRT_JNL_USE (s.crt.used / 65536)

/-- An entry's bytes (Table 14.5). `body` is the body of a switch entry. -/
def entryBytes (kind : Nat) (last : Bool) (seq ply sec sub layout : Nat) (lines : List (Nat × List (BitVec 8))) (body : List (BitVec 8)) :
    List (BitVec 8) :=
  let n := lines.length
  let addr := lines.flatMap fun l => leBytes 4 l.1
  let b := leBytes 4 0x4C4E524A ++ leBytes 1 kind ++ leBytes 1 (b2n last) ++ leBytes 2 n ++ leBytes 8 seq ++ leBytes 4 ply ++
    leBytes 4 sec ++ leBytes 2 sub ++ leBytes 6 0 ++ leBytes 16 layout ++ leBytes 16 0 ++ addr ++
    leBytes ((64 - 4 * n % 64) % 64) 0 ++ lines.flatMap (·.2) ++ body
  b ++ leBytes 4 0x5EA15EA1 ++ leBytes 4 0 ++ leBytes 8 seq ++ leBytes 4 (crc32 b) ++ leBytes 44 0

/-- An entry is appended; none where it would overwrite journal that the last valid checkpoint needs (R316). An entry never
wraps (R313). The first entry above the BEGIN of a running checkpoint is noted for its JSEQ and JOFF (R315). -/
def State.jAppend (s : State) (kind : Nat) (last : Bool) (ply sec sub : Nat) (lines : List (Nat × List (BitVec 8)))
    (body : List (BitVec 8)) : Option State :=
  let c := s.crt
  let bs := entryBytes kind last c.seq ply sec sub s.layoutId lines body
  let skip := if s.mramSize < c.pos + bs.length then s.mramSize - c.pos else 0
  let at_ := if skip = 0 then c.pos else jBase
  if s.jArea < c.used + skip + bs.length then none
  else
    let s := s.mw at_ bs
    let ck := c.ck.map fun k => if k.first = none ∧ k.begin_ < ply then { k with first := some (c.seq, at_) } else k
    some (s.setCrt { c with pos := at_ + bs.length, seq := c.seq + 1, used := c.used + skip + bs.length, ck := ck })

/-- A journal break (R316) whose newest discarded ply is `ply`: the backlog goes, a break entry is written where it fits, and a
checkpoint is due. One that runs lacks the discarded plies and is given up. -/
def State.jBreak (s : State) (ply sec sub : Nat) : State :=
  let s := s.setCrt { s.crt with hold := [], broken := true, want := true, ck := none }
  let s := (s.wr R.CRT_STAT_CKPT 0).sat R.CRT_JNL_BREAKS
  ((s.jAppend 3 true ply sec sub [] []).getD s).jView
/-- A break that discards all that is held, if anything is. -/
def State.jBreakHeld (s : State) : State :=
  match s.crt.hold.getLast? with
  | none => s
  | some h => s.jBreak h.ply h.sec h.sub

/-! Checkpoints (R315). -/

def slotOff (slot : Nat) : Nat := if slot = 0 then 0x100000 else 0x510000
def slotData (slot : Nat) : Nat := slotOff slot + 0x10000

/-- A slot header: MAGIC 4, SEQ 8, BEGIN 4, END 4, LAYOUTID 16, RETBASE 4, RETSIZE 4, JSEQ 8, JOFF 4, DATACRC 4, HDRCRC 4,
COMPLETE 4; HDRCRC covers what stands before it. -/
def State.ckHead (s : State) (seq begin_ end_ jseq joff dcrc : Nat) : List (BitVec 8) :=
  leBytes 4 0x54504B43 ++ leBytes 8 seq ++ leBytes 4 begin_ ++ leBytes 4 end_ ++ leBytes 16 s.layoutId ++
    leBytes 4 (s.rd R.XE_RET_BASE) ++ leBytes 4 (s.rd R.XE_RET_SIZE) ++ leBytes 8 jseq ++ leBytes 4 joff ++ leBytes 4 dcrc

/-- A slot holds a complete checkpoint with correct CRCs (R317). -/
def State.ckOk (s : State) (slot : Nat) : Bool :=
  let o := slotOff slot
  s.mr o 4 == 0x54504B43 && s.mr (o + 60) 4 == crc32 (s.mrBytes o 60) && s.mr (o + 64) 4 == 1 &&
    decide (s.mr (o + 40) 4 ≤ 0x400000) && s.mr (o + 56) 4 == crc32 (s.mrBytes (slotData slot) (s.mr (o + 40) 4))
def State.ckSeqOf (s : State) (slot : Nat) : Nat := s.mr (slotOff slot + 4) 8
def State.ckNewest (s : State) : Option Nat := pickCopy (s.ckOk 0) (s.ckOk 1) (s.ckSeqOf 0) (s.ckSeqOf 1)

/-- A checkpoint starts: the header with BEGIN and COMPLETE 0 (R315). -/
def State.ckStart (s : State) (slot begin_ : Nat) (format : Bool) : State :=
  let seq := s.crt.ckSeq + 1
  let h := s.ckHead seq begin_ 0 0 0 0
  let s := s.mw (slotOff slot) (h ++ leBytes 4 0 ++ leBytes 4 0)
  (s.setCrt { s.crt with ck := some ⟨slot, seq, begin_, none, none, format⟩, want := false }).wr R.CRT_STAT_CKPT 1

/-- The cartridge is in use (R305, R323). -/
def State.crtUse (s : State) : State := s.wr R.CRT_STAT_STATE 3

/-- A checkpoint is complete: END, DATACRC and HDRCRC, then COMPLETE (R315); the first one after a format makes the cartridge
ACTIVE, with the images this module holds and a first event record (R323); a break ends (R316). -/
def State.ckFinish (s : State) (k : Ckpt) (end_ : Nat) : State :=
  let j := k.first.getD (s.crt.seq, s.crt.pos)
  let d := crc32 (s.mrBytes (slotData k.slot) (s.rd R.XE_RET_SIZE))
  let h := s.ckHead k.seq k.begin_ end_ j.1 j.2 d
  let s := (s.mw (slotOff k.slot) (h ++ leBytes 4 (crc32 h))).mw (slotOff k.slot + 64) (leBytes 4 1)
  let s := ((s.wr R.CRT_CKPT_BEGIN k.begin_).wr R.CRT_CKPT_END end_).wr R.CRT_CKPT_SLOT k.slot |>.wr R.CRT_STAT_CKPT 0
  let used := match k.first with
    | none => 0
    | some f => if f.2 ≤ s.crt.pos then s.crt.pos - f.2 else s.jArea - (f.2 - s.crt.pos)
  let s := if s.crt.broken then s.wr R.CRT_JNL_LASTPLY s.crt.sealed_ else s
  let s := s.setCrt { s.crt with ck := none, ckSeq := k.seq, used := used, broken := false }
  let s := s.jView
  if k.format then ((s.setCrt { s.crt with dir := s.upd.copyDir, book := s.upd.copies, cls := 1, cmd := 0 }).crtUse).updView.fwRecord
  else s.setCrt { s.crt with cmd := nsetBit s.crt.cmd 3 false }

/-- CHECKPOINT_COMPLETE: the copy of the retain area ends (the lines as they stand then, log entry 16); the header waits until
the journal has sealed the ply in progress. -/
def execCheckpointComplete (s : State) : Res :=
  .next <|
    match s.crt.ck with
    | none => s
    | some k =>
      if k.end_ ≠ none then s
      else
        let s := s.mw (slotData k.slot) (s.rbs (instBase + s.rd R.XE_RET_BASE) (s.rd R.XE_RET_SIZE))
        let e := if s.isLead ∧ 2 ≤ (s.ply 1).phase ∧ !k.format then s.rd R.XE_CLS_PLY 1 else s.crt.lastC2
        if k.format || (s.crt.hold == [] && decide (e ≤ s.crt.lastC2)) then s.ckFinish k e
        else s.setCrt { s.crt with ck := some { k with end_ := some e } }

/-- CKPT_COMMAND (R315): CMD.CKPT reads 1 until its checkpoint is complete. -/
def execCkptCommand (_m : BitVec 6) (s : State) : Res :=
  .next <| s.onPage 0x50 fun s => if nbit s.crt.cmd 3 then s else s.setCrt { s.crt with want := true, cmd := nsetBit s.crt.cmd 3 true }

/-- The conditions of R315 at the end of a C2 COMMIT; none starts while the power-fail warning stands, which ends them (R320). -/
def State.ckDue (s : State) (ply : Nat) : Bool :=
  s.crt.ck == none && !s.flag R.PWR_STATUS_PFW && (s.crt.want || (s.rd R.CRT_JNL_CFG_CKPTINT != 0 && ply % s.rd R.CRT_JNL_CFG_CKPTINT == 0) ||
    decide (s.jArea < 2 * s.crt.used))

/-- The retain lines of a C2 ply are handed over at its COMMIT end (R311, R314): the hold buffer takes them as they stand. -/
def State.crtHand (s : State) (ply : Nat) (marks : List Nat) : State :=
  let s := s.setCrt { s.crt with lastC2 := ply, budget := s.rd R.CRT_JNL_CFG_BUDGET * 16 }
  if !s.crtActive then (if s.crtState = 2 && s.crt.ck == none then s.ckStart 0 ply true else s)
  else
    let rb := s.rd R.XE_RET_BASE / 64
    let lines := marks.map fun l => (l - rb, s.rbs (instBase + 64 * l) 64)
    let s := s.setCrt { s.crt with hold := s.crt.hold ++ [⟨ply, s.bk.cal.seconds, s.presc, lines⟩] }
    let s := if 49152 < s.heldLines then s.jBreakHeld else s.jView
    if s.ckDue ply then s.ckStart (if s.crt.ckSeq = 0 then 0 else 1 - s.rd R.CRT_CKPT_SLOT) ply false else s

/-- A ply's LAST entry is on MRAM: the ply is sealed, and a checkpoint that waited for it is finished (R312, R315). -/
def State.jSealed (s : State) (ply : Nat) : State :=
  let s := s.setCrt { s.crt with sealed_ := ply }
  let s := if s.crt.broken then s else s.wr R.CRT_JNL_LASTPLY ply
  match s.crt.ck with
  | some k => match k.end_ with
    | some e => if e ≤ ply then s.ckFinish k e else s.jView
    | none => s.jView
  | none => s.jView

/-- The oldest held ply after an entry of `n` of its lines was written. -/
def State.jTaken (s : State) (h : Held) (rest : List Held) (n : Nat) : State :=
  if h.lines.length ≤ n then (s.setCrt { s.crt with hold := rest, budget := s.crt.budget - n }).jSealed h.ply
  else (s.setCrt { s.crt with hold := { h with lines := h.lines.drop n } :: rest, budget := s.crt.budget - n }).jView

/-- The next entry of the oldest held ply, of at most `most` lines (R312). -/
def State.jNext (s : State) (most : Nat) : State :=
  match s.crt.hold with
  | [] => s
  | h :: rest =>
    let n := min 2048 (min most h.lines.length)
    if n = 0 ∧ h.lines ≠ [] then s
    else
      match s.jAppend 1 (decide (h.lines.length ≤ n)) h.ply h.sec h.sub (h.lines.take n) [] with
      | none => s.jBreakHeld
      | some s => s.jTaken h rest n

/-- JOURNAL_ENTRY_WRITTEN (R312): within the budget of the period. -/
def execJournalEntryWritten (s : State) : Res :=
  .next <| if s.crtActive then s.jNext s.crt.budget else s

/-- Everything held is written and sealed (R320). -/
def State.jAll (s : State) : Nat → State
  | 0 => s
  | n + 1 => if s.crt.hold = [] then s else (s.jNext 2048).jAll n

/-- The switch record (07 R152 step 5). -/
def State.jSwitch (s : State) (ply dir oldId newId : Nat) : State :=
  if !s.crtActive then s
  else
    let s := s.jAll (s.heldLines + s.crt.hold.length)
    let sec := s.bk.cal.seconds
    match s.jAppend 2 true ply sec s.presc [] (leBytes 1 dir ++ leBytes 3 0 ++ leBytes 16 oldId ++ leBytes 16 newId ++ leBytes 28 0) with
    | some t => t.jView
    | none => s.jBreak ply sec s.presc

/-- The end of a switch (R315, R325). -/
def State.ckAfterSwitch (s : State) : State :=
  let s := if s.crt.ck ≠ none ∧ s.crtActive then s.ckDrop else s
  s.setCrt { s.crt with want := true }

/-- CRT_FLUSH_COMPLETE (R320, R321): a power-fail flush, a removal flush, or the flush at an entry into HOLD is on MRAM. -/
def execCrtFlushComplete (s : State) : Res :=
  .next <|
    if !s.crtFlush then s
    else
      let s := if s.crtState = 3 ∨ s.crtState = 5 then
          let s := s.jAll (s.heldLines + s.crt.hold.length)
          (s.ringWrite.lifeWrite).ev 0x50 2
        else s
      let s := if s.flag R.PWR_STATUS_PFW then s.wr R.PWR_LASTPF_FLUSH (min 0xFFFF ((s.mt - s.pwr.warnAt) / 100000)) else s
      ({ s with crtFlush := false }).supplyResetDue

/-! Restore (R313, R317). -/

/-- An entry as a reader finds it. -/
structure JEntry where
  off : Nat
  len : Nat
  kind : Nat
  last : Bool
  ply : Nat
  sec : Nat
  sub : Nat
  layout : Nat
  count : Nat
  whole : Bool
  crcOk : Bool
  deriving DecidableEq, Repr

/-- The entry with SEQ `expect` at `off`, if its header stands there. -/
def State.entryAt (s : State) (off expect : Nat) : Option JEntry :=
  if s.mr off 4 ≠ 0x4C4E524A ∨ s.mr (off + 8) 8 ≠ expect ∨ 2048 < s.mr (off + 6) 2 then none
  else
    let n := s.mr (off + 6) 2
    let kind := s.mr (off + 4) 1
    let body := 64 + (4 * n + 63) / 64 * 64 + 64 * n + (if kind = 2 then 64 else 0)
    if s.mramSize < off + body + 64 then none
    else
      let sl := off + body
      some ⟨off, body + 64, kind, nbit (s.mr (off + 5) 1) 0, s.mr (off + 0x10) 4, s.mr (off + 0x14) 4, s.mr (off + 0x18) 2,
        s.mr (off + 0x20) 16, n, s.mr sl 4 == 0x5EA15EA1 && s.mr (sl + 8) 8 == expect, s.mr (sl + 16) 4 == crc32 (s.mrBytes off body)⟩

/-- Directly after the current one, and otherwise at the start of the journal (R313). -/
def State.entryNear (s : State) (off expect : Nat) : Option JEntry :=
  match s.entryAt off expect with
  | some e => some e
  | none => s.entryAt jBase expect

/-- Where the next entry goes: past the last whole one. -/
def State.jEnd (s : State) (off expect : Nat) : Nat → Nat × Nat
  | 0 => (off, expect)
  | n + 1 =>
    match s.entryNear off expect with
    | some e => if e.whole then s.jEnd (e.off + e.len) (expect + 1) n else (off, expect)
    | none => (off, expect)
/-- Every entry takes at least 128 bytes. -/
def State.jFuel (s : State) : Nat := s.jArea / 128 + 1

/-- What a replay has so far: the state, the lines of the open ply, the last sealed ply and its calendar time. -/
structure Replay where
  s : State
  pend : List (Nat × List (BitVec 8))
  sealed_ : Nat
  sec : Nat
  sub : Nat

/-- The lines of an entry. -/
def State.entryLines (s : State) (e : JEntry) : List (Nat × List (BitVec 8)) :=
  let data := e.off + 64 + (4 * e.count + 63) / 64 * 64
  (upTo e.count).map fun i => (s.mr (e.off + 64 + 4 * i) 4, s.mrBytes (data + 64 * i) 64)

/-- The lines of an entry are taken; its LAST entry puts the lines of its ply into the retain area (R317). -/
def Replay.take (r : Replay) (e : JEntry) : Replay :=
  let pend := r.pend ++ r.s.entryLines e
  let rb := r.s.rd R.XE_RET_BASE
  let rs := r.s.rd R.XE_RET_SIZE
  if e.last then
    { r with s := pend.foldl (fun s l => if 64 * l.1 < rs then s.wbs (instBase + rb + 64 * l.1) l.2 else s) r.s, pend := [], sealed_ := e.ply, sec := e.sec, sub := e.sub }
  else { r with pend := pend }

/-- The replay of R317; none where the warm restart is not possible. -/
def Replay.run (r : Replay) (layout off expect : Nat) : Nat → Option Replay
  | 0 => some r
  | n + 1 =>
    match r.s.entryNear off expect with
    | none => some r
    | some e =>
      if !e.whole then some r
      else if !e.crcOk then none
      else if e.kind ≠ 1 then some r
      else if e.layout ≠ layout then none
      else (r.take e).run layout (e.off + e.len) (expect + 1) n

/-- A slot holds a complete checkpoint of the loaded layout (R317). -/
def State.ckFits (s : State) (slot : Nat) : Bool := s.ckOk slot && s.mr (slotOff slot + 20) 16 == s.layoutId

/-- The entry that sealed the ply at which a checkpoint begins, where the journal still holds it: it ends at JOFF. -/
def State.beginEntry (s : State) (begin_ jseq joff : Nat) : Option JEntry :=
  let ends (e : Nat) : Option JEntry :=
    (upTo 2178).foldl (fun a k =>
      match a with
      | some x => some x
      | none =>
        match s.entryAt (e - 64 * (k + 2)) (jseq - 1) with
        | some x => if jBase ≤ x.off && x.off + x.len == e && x.whole && x.crcOk && x.kind == 1 && x.last && x.ply == begin_ then some x else none
        | none => none) none
  if joff = jBase then none else ends joff

/-- Where the replay from checkpoint slot `c` starts: the retain area copied, and the RTC time of the entry that sealed the ply at which it
begins; a free time where the journal no longer holds that (log entry 56). -/
def State.replayStart (s : State) (c : Nat) : Replay :=
  let o := slotOff c
  let t := s.copy (cartBase + slotData c) (instBase + s.rd R.XE_RET_BASE) (min (s.mr (o + 40) 4) (s.rd R.XE_RET_SIZE))
  let d := t.draw
  match s.beginEntry (s.mr (o + 12) 4) (s.mr (o + 44) 8) (s.mr (o + 52) 4) with
  | some e => ⟨t, [], s.mr (o + 12) 4, e.sec, e.sub⟩
  | none => ⟨d.2, [], s.mr (o + 12) 4, d.1 % 2 ^ 32, d.1 / 2 ^ 32 % 2 ^ 15⟩

/-- The replay from checkpoint slot `c`, by the journal position in its header. -/
def State.replay (s : State) (c : Nat) : Option Replay :=
  (s.replayStart c).run s.layoutId (s.mr (slotOff c + 52) 4) (s.mr (slotOff c + 44) 8) s.jFuel

/-- The restore of R317 with R54 and R306: the state with the retain area restored, the last sealed ply and its calendar time. Where no
entry is replayed, the time is that of the entry that sealed BEGIN, and free where the journal does not hold it (log entry 56). -/
def State.restore (s : State) : Option Replay :=
  if !s.crtActive || s.crt.cls != 1 then none
  else
    (pickCopy (s.ckFits 0) (s.ckFits 1) (s.ckSeqOf 0) (s.ckSeqOf 1)).bind fun c =>
      (s.replay c).filter fun r => decide (s.mr (slotOff c + 16) 4 ≤ r.sealed_)

/-! Insertion, formatting, adoption, removal (R321–R325). -/

/-- Journal position and checkpoint registers of a cartridge taken into use as it stands. -/
def State.crtResume (s : State) : State :=
  match s.ckNewest with
  | none => s.setCrt { s.crt with pos := jBase, seq := 1, used := 0, ckSeq := 0 }
  | some c =>
    let o := slotOff c
    let e := s.jEnd (s.mr (o + 52) 4) (s.mr (o + 44) 8) s.jFuel
    let j := s.mr (o + 52) 4
    let s := ((s.wr R.CRT_CKPT_BEGIN (s.mr (o + 12) 4)).wr R.CRT_CKPT_END (s.mr (o + 16) 4)).wr R.CRT_CKPT_SLOT c
    (s.setCrt { s.crt with pos := e.1, seq := e.2, used := (if j ≤ e.1 then e.1 - j else s.jArea - (j - e.1)), ckSeq := s.ckSeqOf c }).jView

/-- Formatting (R323): superblock, life record, counters and force record, an empty journal, no checkpoint in slot 1, and one in slot
0. -/
def State.crtFormat (s : State) : State :=
  let seq := match s.ckNewest with | some c => s.ckSeqOf c | none => 0
  let s := ((s.sbWrite 1 0).lifeWrite).ringWrite.frWrite
  let s := (s.mw (slotOff 1) (leBytes 68 0))
  let s := { s with mem := s.mem.filter fun e => !(decide (cartBase + jBase ≤ e.1) && decide (e.1 < dramBase)) }
  let s := s.setCrt { s.crt with hold := [], pos := jBase, seq := 1, used := 0, ckSeq := seq, broken := false, ck := none }
  ((s.wr R.CRT_STAT_STATE 2).ckStart 0 s.crt.lastC2 true).jView

/-- R304, R305, R308, R322: the identity is read and checked and the cartridge classified. `ins`: an insertion, which counts. -/
def State.crtIdentify (s : State) (scap : Nat) (ins : Bool) : State :=
  let s := s.each (upTo 32) fun s j => s.wr R.CRT_ID (s.idNum (4 * j) 4) j
  let s := ((s.wr R.CRT_STAT_WHY 0).wr R.CRT_STAT_EOL 0).wr R.CRT_LIFE_PCT 0
  let s := s.setCrt { s.crt with warned := false, cls := 0 }
  if !s.identOk then ((s.wr R.CRT_STAT_STATE 4).wr R.CRT_STAT_WHY 1).ev 0x50 5
  else
    let s := s.wr R.CRT_STAT_TYPE s.cartType
    let c := s.classify
    let s := s.setCrt { s.crt with cls := c }
    if c = 4 then ((s.wr R.CRT_STAT_STATE 4).wr R.CRT_STAT_WHY 2).ev 0x50 5
    else
      let s := s.lifeLoad (c == 2)
      let s := if ins then (s.sat R.CRT_LIFE_INSERT).ev 0x50 0 else s
      let s := if s.cartType = 2 then (s.wr R.CRT_LIFE_SCAP scap).put R.PWR_STATUS_SCAP (decide (1400 ≤ scap)) else s
      let s := if c = 1 then (s.crtResume.crtUse).updView else s.crtFormat
      s.lifeView

/-- The image transfer that a removal discards (20 R426). -/
def State.xferDrop (s : State) : State :=
  { ((s.wr R.UPD_STAT_TYPE 0).wr R.UPD_XFER_RECV 0).wr R.UPD_STAT_BUSY 0 with
    upd := { s.upd with total := 0, got := [], head := false, early := [], verifying := false } }

/-- The cartridge is out of use: no state of it stays in CRT. -/
def State.crtGone (s : State) : State :=
  let s := (((s.wr R.CRT_STAT_STATE 0).wr R.CRT_STAT_TYPE 0).wr R.CRT_STAT_WHY 0).wr R.CRT_STAT_EOL 0
  let s := (s.wr R.PWR_STATUS_SCAP 0).wr R.CRT_STAT_CKPT 0
  let s := (s.wr R.CRT_NAND_CMD_GO 0).setCrt { s.crt with hold := [], ck := none, want := false, cls := 0, warned := false, op := 0, cmd := 0 }
  let s := { s with er := { s.er with unit := none, sector := 0, count := 0, torn := 0, clearing := none } }
  s.jView.xferDrop.erView

/-- CARTRIDGE_INSERT (R322): the cartridge's contents come with it; a latch that closes again before the contacts break meets
the cartridge that is still there (R325). -/
def execCartridgeInsert (c : Cartridge) (s : State) : Res :=
  .next <|
    let s :=
      if s.flag R.CRT_STAT_LATCH then s
      else
        let s := s.setCrt { CrtSt.none with lastC2 := s.crt.lastC2, ident := c.ident, dir := c.dir
                                            nand := c.nand.foldl (fun m e => smSet 0xFF m e.1 e.2) []
                                            book := c.book.foldl (fun m e => smSet 0 m e.1 e.2) [] }
        s.each c.mram fun s e => if e.1 < 0x20000000 then s.wb (cartBase + e.1) e.2 else s
    let s := if s.crtState = 5 then { s.crtGone with crtFlush := s.flag R.PWR_STATUS_PFW } else s
    let s := (s.wr R.CRT_STAT_LATCH 1).setCrt { s.crt with shutAt := s.mt }
    if s.mode = 0 ∨ (s.mode = 1 ∧ s.rd R.SYS_STARTSTEP_STEP < 7) then s else s.wr R.CRT_STAT_STATE 1

/-- CARTRIDGE_IDENTIFY (R304, R305, R322), 100 ms after the latch closed. -/
def execCartridgeIdentify (scap : BitVec 16) (s : State) : Res :=
  .next <|
    if s.crtState = 1 ∧ s.flag R.CRT_STAT_LATCH then (s.awaitMt (s.crt.shutAt + 100000000)).crtIdentify scap.toNat true else s

/-- CARTRIDGE_RELEASE (R321 steps 1 and 2): CMD.RELEASE reads 1 until the removal; a clear of the log is abandoned (15 R342). -/
def execCartridgeRelease (_m : BitVec 6) (s : State) : Res :=
  .next <| s.onPage 0x50 fun s =>
    if nbit s.crt.cmd 2 then s
    else if s.crtState = 2 ∨ s.crtState = 3 then
      let s := (s.ckDrop.sbWrite 2 s.crt.lastC2).wr R.CRT_STAT_STATE 5
      { s.setCrt { s.crt with cmd := 4, want := false } with crtFlush := true, er := { s.er with due := true, clearing := none } }.erView
    else s.err 0x50 0x82 0x10C

/-- CARTRIDGE_REMOVED (R321 step 3), behind the flushes. -/
def execCartridgeRemoved (s : State) : Res :=
  .next <| if s.crtState = 5 ∧ !s.crtFlush ∧ !s.er.flushing then (s.crtGone).ev 0x50 1 else s

/-- CARTRIDGE_CONTACT_BREAK (R325): the cartridge and all it holds leave. -/
def execCartridgeContactBreak (s : State) : Res :=
  .next <|
    let s := s.crtGone
    let s := { s with mem := s.mem.filter fun e => !(decide (cartBase ≤ e.1) && decide (e.1 < dramBase)) }
    (s.setCrt { CrtSt.none with lastC2 := s.crt.lastC2 }).wr R.CRT_STAT_LATCH 0

def formatKey : Nat := 0x42C7

/-- A bit of CMD reads 1 while its operation runs. -/
def State.cmdRuns (s : State) (bits : Nat) : State := s.setCrt { s.crt with cmd := s.crt.cmd ||| bits }

/-- The FORMAT command (R323): none where it is refused with code 0x82. -/
def State.formatCmd (s : State) : Option State :=
  if s.crtState = 3 ∧ (s.isService ∨ s.crt.cls = 2 ∨ s.crt.cls = 3) then some (s.crtFormat.cmdRuns 1) else none

/-- CARTRIDGE_FORMAT (R323): refused with code 0x81 on a wrong key, with 0x82 also while a format or an adoption runs (Table 14.8). -/
def execCartridgeFormat (_m : BitVec 6) (key : BitVec 16) (s : State) : Res :=
  .next <| s.onPage 0x50 fun s =>
    if key.toNat ≠ formatKey then s.err 0x50 0x81 0x10C
    else (s.formatCmd).getD (s.err 0x50 0x82 0x10C)

/-- The ADOPT command (R324): none where it is refused with code 0x82. -/
def State.adoptCmd (s : State) : Option State :=
  if s.crtState ≠ 4 ∨ s.rd R.CRT_STAT_WHY ≠ 2 then none
  else if s.isHold ∨ s.isService then
    let gone := match s.sbCur with | some c => s.mr (sbOff c + 28) 4 | none => 0
    let s := ((s.sbWrite 1 gone).ringAdopt).lifeLoad false
    let s := ((s.setCrt { s.crt with cls := 1 }).wr R.CRT_STAT_WHY 0).crtResume.crtUse
    some s.updView.lifeView
  else if s.isLead ∨ s.isTrack then some ((((s.lifeLoad false).wr R.CRT_STAT_WHY 0).crtFormat.lifeView).cmdRuns 2)
  else none

/-- CARTRIDGE_ADOPT (R324): refused with code 0x81 on a wrong key, with 0x82 also while a format or an adoption runs (Table 14.8). -/
def execCartridgeAdopt (_m : BitVec 6) (key : BitVec 16) (s : State) : Res :=
  .next <| s.onPage 0x50 fun s =>
    if key.toNat ≠ formatKey then s.err 0x50 0x81 0x10C
    else (s.adoptCmd).getD (s.err 0x50 0x82 0x10C)

/-! NAND (R319). A page is 4,096 data bytes, then 32 metadata bytes; an erased byte is 0xFF. -/

def nandByte (page i : Nat) : Nat := page * 4128 + i
def State.nb (s : State) (k : Nat) : BitVec 8 := smGet 0xFF s.crt.nand k
def State.nandPut (s : State) (page i : Nat) : List (BitVec 8) → State
  | [] => s
  | b :: bs => (s.setCrt { s.crt with nand := smSet 0xFF s.crt.nand (nandByte page i) b }).nandPut page (i + 1) bs
def State.nandGet (s : State) (page i n : Nat) : List (BitVec 8) := (upTo n).map fun j => s.nb (nandByte page (i + j))
/-- A block of 32 pages is erased. -/
def State.nandErased (s : State) (block : Nat) : State :=
  s.setCrt { s.crt with nand := s.crt.nand.filter fun e => decide (e.1 / (4128 * 32) ≠ block) }
def State.nandPages (s : State) : Nat := s.idNum 0x16 2 * 2 ^ 18

/-- GO with an operation. -/
def State.nandGo (s : State) (op : Nat) : State :=
  let s := (s.wr R.CRT_NAND_CMD_OP op).cfgBump s 0x50 0x14C 0
  if s.crt.op ≠ 0 then s
  else if !(s.crtState == 2 || s.crtState == 3 || s.crtState == 5) || decide (s.nandPages ≤ s.rd R.CRT_NAND_PAGE) then s.err 0x50 0x82 0x14C
  else
    (s.wr R.CRT_NAND_CMD_GO 1).setCrt { s.crt with op := op, opPage := s.rd R.CRT_NAND_PAGE, opDma := s.rd R.CRT_NAND_DMALO * 64 + s.rd R.CRT_NAND_DMAHI * 2 ^ 32 }

/-- NAND_READ, NAND_PROGRAM, NAND_ERASE (R319). -/
def execNandRead (_m : BitVec 6) (s : State) : Res := .next <| s.onPage 0x50 fun s => s.nandGo 1
def execNandProgram (_m : BitVec 6) (s : State) : Res := .next <| s.onPage 0x50 fun s => s.nandGo 2
def execNandErase (_m : BitVec 6) (s : State) : Res := .next <| s.onPage 0x50 fun s => s.nandGo 3

/-- The bytes a read finds: those of an uncorrectable codeword are free. -/
def State.nandRead4 (s : State) (uncorr drawn : Nat) : List (BitVec 8) :=
  let p := s.crt.opPage
  let cw (c base n : Nat) : List (BitVec 8) :=
    if nbit uncorr c then leBytes n (drawn / 2 ^ (8 * 1032 * c) / 2 ^ (if base < 4096 then 0 else 8192)) else s.nandGet p base n
  (upTo 4).flatMap (fun c => cw c (1024 * c) 1024) ++ (upTo 4).flatMap (fun c => cw c (4096 + 8 * c) 8)

/-- The fabric master of CRT (18 Table 18.1). -/
def crtMaster : Nat := 0x18

/-- NAND_OP_COMPLETE (R319). What a failed program or erase leaves in its page or block is free. An operation whose buffer its gate
refuses ends with FAIL and moves nothing (log entry 47). -/
def execNandOpComplete (fail : Bool) (uncorr : BitVec 4) (maxflip : Fin 41) (corr : BitVec 16) (s : State) : Res :=
  .next <|
    let op := s.crt.op
    let page := s.crt.opPage
    if op = 0 then s
    else
      let d := s.draw
      let s := (s.wr R.CRT_NAND_CMD_GO 0).setCrt { s.crt with op := 0 }
      if op = 1 then
        let bad := uncorr.toNat ≠ 0
        let r := s.dmaStore crtMaster s.crt.opDma (s.nandRead4 uncorr.toNat d.1)
        let t := if bad then { r.2 with free := d.2.free } else r.2
        let t := ((t.put R.CRT_NAND_STAT_FAIL (!r.1)).put R.CRT_NAND_STAT_UNCORR (decide bad)).wr R.CRT_NAND_STAT_MAXFLIP maxflip
        let t := t.wrap R.CRT_NAND_CORR (d := corr.toNat)
        if bad then t.err 0x50 0x84 0x14C else t
      else
        let s := ((s.put R.CRT_NAND_STAT_FAIL fail).wr R.CRT_NAND_STAT_UNCORR 0).wr R.CRT_NAND_STAT_MAXFLIP 0
        if op = 2 then
          match s.dmaLoad crtMaster s.crt.opDma 4128 with
          | (some bs, t) => if fail then { t.nandPut page 0 (leBytes 4128 d.1) with free := d.2.free } else t.nandPut page 0 bs
          | (none, t) => t.wr R.CRT_NAND_STAT_FAIL 1
        else if fail then { s.nandPut (page / 32 * 32) 0 (leBytes (4128 * 32) d.1) with free := d.2.free }
        else s.nandErased (page / 32)

end Sys2Proof.Machine
end

