-- ==== Sys2Proof/Machine/Links.lean ====
section
/-! DEFINITION. The sending side of the mirror (11 R237, R238, R242): ranges, chunks, the lines that go with a ply's last range. -/

namespace Sys2Proof.Machine

/-- Ranges of a writer in the active mirror list. -/
def State.ranges (s : State) (writer : Nat) : List MlEntry := (mlEntries s.pr.active).filter fun e => e.writer == writer

/-- A ply of work `w` waits for the partner (R71): it has ranges to acknowledge, or it is the final ply of a join and has lines
to carry (R242 step 4). -/
def State.waits (s : State) (w : Nat) : Bool :=
  let rs := s.ranges (writerOf w) != []
  s.isLead && ((s.flag R.PAIR_STAT_PSYNC && rs) || (s.pr.finalW == w + 1 && (rs || s.pr.dirty != [] || s.pr.finalLines != [])))

/-- The pieces `ps` of work `w`'s ply go out as chunks, alternately on the links that are up; with `last`, the last of them is the
writer's last chunk. `v` is the state whose memory is sent. -/
def State.sendPieces (s v : State) (w : Nat) (last : Bool) : List (Nat × Nat) → State
  | [] => s
  | p :: ps =>
    let writer := writerOf w
    let n := smGet (0, 0) s.pr.sent writer
    let fin := last && ps.isEmpty
    let data := chunkBytes writer (s.ply w).num p.1 (if fin then n.1 + 1 else 0) (v.rbs (instBase + p.1) p.2)
    let s := match s.upLinks with
      | [] => s
      | [l] => s.chunkSend l 0x02 (b2n fin) data
      | _ => s.chunkSend (n.1 % 2) 0x02 (b2n fin) data
    ({ s with pr := { s.pr with sent := smSet (0, 0) s.pr.sent writer (n.1 + 1, n.2) } }).sendPieces v w last ps

/-- The lines that go with the last range of a class's ply: at most 256 HOST lines (R238), and in the final ply of a join the
lines still marked (R242 step 4). -/
def State.tailLines (s : State) (w : Nat) : List Nat × State :=
  if 3 ≤ w then ([], s)
  else
    let hs := s.pr.host.take 256
    let ds := if s.pr.finalW = w + 1 then s.pr.dirty else []
    (hs ++ ds, { s with pr := { s.pr with
      host := s.pr.host.drop 256, dirty := (if s.pr.finalW = w + 1 then [] else s.pr.dirty),
      finalLines := (if s.pr.finalW = w + 1 then ds else s.pr.finalLines) } })

/-- Range `e` of work `w` is sent; the writer's last range brings the tail. -/
def State.sendRange (s v : State) (w : Nat) (e : MlEntry) : State :=
  let writer := writerOf w
  let n := smGet (0, 0) s.pr.sent writer
  let fin := n.2 + 1 == (s.ranges writer).length
  let t := if fin then s.tailLines w else ([], s)
  let s := { t.2 with pr := { t.2.pr with sent := smSet (0, 0) t.2.pr.sent writer (n.1, n.2 + 1) } }
  s.sendPieces v w fin (pieces e.start (64 * e.lines) ++ t.1.map fun ln => (64 * ln, 64))

/-- The final ply of a join whose writer has no range sends its lines at the end of EXECUTE. -/
def State.sendTail (s : State) (w : Nat) : State :=
  if s.pr.finalW = w + 1 ∧ s.ranges (writerOf w) = [] then
    let t := s.tailLines w
    t.2.sendPieces t.2 w true (t.1.map fun ln => (64 * ln, 64))
  else s

/-- FLAGS of a HEARTBEAT (11 Table 11.2). CLAIMING ends with a castling majority (log entry 31). -/
def State.hbFlags (s : State) : Nat :=
  let ph := s.rd R.PAIR_SYNC_STAT_PHASE
  s.side + 2 * b2n (s.isTrack && s.flag R.PAIR_STAT_SYNC) + 4 * b2n (s.isLead && s.flag R.PAIR_STAT_PSYNC) +
    8 * b2n (s.flag R.PAIR_STAT_LEASE) + 16 * b2n (s.pr.claimKind != 0 && !s.pr.castMaj) +
    32 * b2n (s.rd R.PAIR_STAT_CASTLE != 0) + 64 * b2n (!s.pr.joinLead && decide (1 ≤ ph ∧ ph ≤ 4))

end Sys2Proof.Machine
end

