-- ==== Sys2Proof/Machine/Lio.lean ====
section
/-! DEFINITION. The local I/O (16): input groups and their filters, the command of each output, the output images, thermal shutdown,
field supplies. -/

namespace Sys2Proof.Machine

/-! Outputs (R349–R351). -/

/-- The hold value of output `k` (R351); a value taken under FOLLOW is its LAST value. -/
def State.dqHoldValue (s : State) (k : Nat) : Bool :=
  match s.dqHold k with
  | 0 => false
  | 2 => true
  | _ => nbit s.lio.last k

/-- Row 1 of Table 16.1 for output `k`. -/
def State.dqRow1 (s : State) (k : Nat) : Bool :=
  s.sys.resetHeld || s.safe || s.unit 0x58 != 2 || s.flag R.PWR_STATUS_FLUSHONLY || !s.pwr.seated1 || !s.pwr.seated2 ||
    nbit s.lio.seat k

/-- The driver command of output `k` before thermal gating: the first row of Table 16.1 that applies. -/
def State.dqCommand (s : State) (k : Nat) : Bool :=
  if s.dqRow1 k || s.outputsOff then false
  else if nbit (s.rd R.TE_DQASSIGN) k then nbit (s.rd R.TE_DQOUT) k
  else if s.isLead then
    if s.dqSrc k = 0 then false
    else if nbit s.lio.badImg (s.dqSrc k) then s.dqHoldValue k
    else nbit (smGet 0 s.lio.img (s.dqSrc k)) k
  else s.dqHoldValue k

/-- The driver commands after thermal gating (LIO.DQCMD.DRV; R357). -/
def State.dqDrive (s : State) : Nat :=
  let off := s.rd R.LIO_DQTHERM_HOT ||| s.rd R.LIO_DQTHERM_LATCH
  (upTo 16).foldl (fun a k => nsetBit a k (s.dqCommand k && !nbit off k)) 0

/-- The levels of LIO's event conditions (16, EVRAW bits 0–6 and 11). -/
def State.lioLevels (s : State) : State :=
  let cos := s.rd R.LIO_COS
  let s := s.each (upTo 4) fun s g => s.evLevel 0x58 g (nfield cos (8 * g) 8 != 0)
  (((s.evLevel 0x58 4 (s.rd R.LIO_DQTHERM_HOT != 0)).evLevel 0x58 5 (s.rd R.LIO_DQOL != 0)).evLevel 0x58 6
    (s.rd R.LIO_DQILIM != 0)).evLevel 0x58 11 (s.rd R.LIO_DQRBERR != 0)

/-- Output `k` leaves the after-effect of an open contact once both contacts are made (R463). -/
def State.seatEnds (s : State) (k : Nat) : State :=
  if s.pwr.seated1 && s.pwr.seated2 then { s with lio := { s.lio with seat := nsetBit s.lio.seat k false } } else s

/-- Output `k` takes the value `b` of an image: its LAST value. -/
def State.dqTake (s : State) (k : Nat) (b : Bool) : State :=
  { s with lio := { s.lio with last := nsetBit s.lio.last k b } }.seatEnds k

/-- The local output image of class `n` (1–3) at the end of its COMMIT (R350). -/
def State.lioCommit (s : State) (n image : Nat) : State :=
  if !s.running 0x58 then s
  else
    let bad := qState (tvQ image) == 0
    let s := { s with lio := { s.lio with badImg := nsetBit s.lio.badImg n bad } }
    if bad then s
    else
      let s := { s with lio := { s.lio with img := smSet 0 s.lio.img n (image % 2 ^ 16) } }
      s.each ((upTo 16).filter fun k => s.dqSrc k == n) fun s k => (s.bitTo R.LIO_DQCMD_PROG k (nbit image k)).dqTake k (nbit image k)

/-- The local output image of class `n` as the mirror brought it, at the ACK of the writer (R351, FOLLOW). -/
def State.lioFollow (s : State) (n image : Nat) : State :=
  if !s.running 0x58 || qState (tvQ image) == 0 then s
  else s.each ((upTo 16).filter fun k => s.dqSrc k == n && s.dqHold k == 3) fun s k => s.dqTake k (nbit image k)

/-! Inputs (R344–R347). -/

def State.sper (s : State) (g : Nat) : Nat := nfield (s.rd R.LIO_SPER) (8 * g) 8
def State.filt (s : State) (g : Nat) : Nat := nfield (s.rd R.LIO_FILT) (4 * g) 4
/-- The edge selection of input `k`: bit 0 rising, bit 1 falling. -/
def State.edgeSel (s : State) (k : Nat) : Nat :=
  if k < 16 then nfield (s.rd R.LIO_EDGE0) (2 * k) 2 else nfield (s.rd R.LIO_EDGE1) (2 * (k - 16)) 2

/-- The filtered level of input `k` becomes `b`; a selected change sets its COS bit (R347). -/
def State.diChange (s : State) (k : Nat) (b : Bool) : State :=
  let was := nbit (s.rd R.LIO_DISTAT) k
  let s := s.bitTo R.LIO_DISTAT k b
  if was != b && nbit (s.edgeSel k) (if b then 0 else 1) then s.bitTo R.LIO_COS k true else s

/-- One sample of input `k` (R346): `first` takes it without the filter. -/
def State.diSample (s : State) (k filt : Nat) (first b : Bool) : State :=
  let s := s.bitTo R.LIO_DIRAW k b
  let count (s : State) (n : Nat) : State := { s with lio := { s.lio with agree := smSet 0 s.lio.agree k n } }
  if first then count (s.diChange k b) 0
  else if nbit (s.rd R.LIO_DISTAT) k = b then count s 0
  else
    let n := smGet 0 s.lio.agree k + 1
    if filt < n then count (s.diChange k b) 0 else count s n

/-- The MT of the next sample of group `g`: the first multiple of its period, in ns, after the group's latest sample (R344). -/
def State.nextSample (s : State) (g : Nat) : Nat :=
  let p := 50000 * s.sper g
  let t := if nbit s.lio.sampled g then max s.mt (smGet 0 s.lio.at_ g + 1) else s.mt
  (t + p - 1) / p * p

/-- LIO_GROUP_SAMPLE (R344, R346, R347), at the group's next sample instant. -/
def execLioGroupSample (g : Fin 4) (levels : BitVec 8) (s : State) : Res :=
  .next <|
    if !s.running 0x58 then s
    else
      let s := s.awaitMt (s.nextSample g)
      let first := !nbit s.lio.sampled g
      let f := s.filt g
      let s := s.each (upTo 8) fun s i => s.diSample (8 * g + i) f first (nbit levels.toNat i)
      let s := { s with lio := { s.lio with sampled := nsetBit s.lio.sampled g true, at_ := smSet 0 s.lio.at_ g s.mt } }
      s.lioLevels

/-! Output faults (R354–R359). -/

/-- The field supply of output `k` is missing, or present again for less than 1 ms (R361). -/
def State.supMissing (s : State) (k : Nat) : Bool :=
  s.flag (if k < 8 then R.LIO_SUP_L1MISS else R.LIO_SUP_L2MISS) ||
    (smGet 0 s.lio.supAt (k / 8) != 0 && decide (s.mt + 1 < smGet 0 s.lio.supAt (k / 8) + 1000000))

/-- READBACK_MISMATCH (R354, R361): suspended while the supply is missing and in thermal shutdown. -/
def execReadbackMismatch (k : Fin 16) (s : State) : Res :=
  .next <|
    if !s.running 0x58 || s.supMissing k || nbit (s.rd R.LIO_DQTHERM_HOT) k then s
    else (s.bitTo R.LIO_DQRBERR k true).lioLevels

/-- OPEN_LOAD (R355): the on-state detection of an output that is on, or the off-state test of one that is off. -/
def execOpenLoad (k : Fin 16) (off : Bool) (s : State) : Res :=
  .next <|
    let enabled := nbit (s.rd (if off then R.LIO_DQOLEN_OFF else R.LIO_DQOLEN_ON)) k
    if !s.running 0x58 || !enabled || s.supMissing k || nbit s.dqDrive k == off then s
    else (s.bitTo R.LIO_DQOL k true).lioLevels

/-- CURRENT_LIMIT (R356). -/
def execCurrentLimit (k : Fin 16) (s : State) : Res :=
  .next <| if !s.running 0x58 then s else (s.bitTo R.LIO_DQILIM k true).lioLevels

/-- THERMAL_SHUTDOWN (R357): HOT, and LATCH in latched mode. -/
def execThermalShutdown (k : Fin 16) (s : State) : Res :=
  .next <|
    if !s.running 0x58 || nbit (s.rd R.LIO_DQTHERM_HOT) k then s
    else
      let s := (s.bitTo R.LIO_DQTHERM_HOT k true).sat R.LIO_THCOUNT
      (if nbit s.lio.mode k then s.bitTo R.LIO_DQTHERM_LATCH k true else s).lioLevels

/-- The mode an output runs in follows LIO.DQTMODE, but for outputs that are HOT (R359). -/
def State.tmodeTake (s : State) : State :=
  let hot := s.rd R.LIO_DQTHERM_HOT
  let t := s.rd R.LIO_DQTMODE
  { s with lio := { s.lio with mode := (upTo 16).foldl (fun a k => nsetBit a k (nbit (if nbit hot k then s.lio.mode else t) k)) 0 } }

/-- THERMAL_COOL (R357–R359): HOT clears; a pending clear clears LATCH; an output switched to latched mode while HOT is latched. -/
def execThermalCool (k : Fin 16) (s : State) : Res :=
  .next <|
    if !nbit (s.rd R.LIO_DQTHERM_HOT) k then s
    else
      let latched := nbit s.lio.mode k
      let s := (s.bitTo R.LIO_DQTHERM_HOT k false).tmodeTake
      let s :=
        if nbit (s.rd R.LIO_DQCLRPEND) k then (s.bitTo R.LIO_DQTHERM_LATCH k false).bitTo R.LIO_DQCLRPEND k false
        else if nbit s.lio.mode k && !latched then s.bitTo R.LIO_DQTHERM_LATCH k true
        else s
      s.lioLevels

/-- DQCLR (R358). -/
def execDqclr (_m : BitVec 6) (value : BitVec 16) (s : State) : Res :=
  .next <| s.onPage 0x58 fun s =>
    let w := value.toNat &&& s.rd R.LIO_DQTHERM_LATCH
    let hot := s.rd R.LIO_DQTHERM_HOT
    s.each ((upTo 16).filter (nbit w)) fun s k =>
      if nbit hot k then s.bitTo R.LIO_DQCLRPEND k true else s.bitTo R.LIO_DQTHERM_LATCH k false

/-- A comparator with hysteresis: the state `on` after a measurement of `mv`, entered below `enter` and left at or above `leave`. -/
def hyst (on : Bool) (enter leave mv : Nat) : Bool := if on then decide (mv < leave) else decide (mv < enter)

/-- FIELD_SUPPLY_CHANGE (R360): a state that `mv` has held for 1 ms is taken; a missing supply also counts as low. -/
def execFieldSupplyChange (group : Fin 2) (missing low : Bool) (mv : BitVec 16) (s : State) : Res :=
  .next <|
    if !s.running 0x58 then s
    else
      let g := group.val
      let rm := if g = 0 then R.LIO_SUP_L1MISS else R.LIO_SUP_L2MISS
      let rl := if g = 0 then R.LIO_SUP_L1LOW else R.LIO_SUP_L2LOW
      let was := s.flag rm
      let miss := if missing then hyst was 10000 11000 mv.toNat else was
      let lo := miss || (if low then hyst (s.flag rl) 18000 19000 mv.toNat else s.flag rl)
      let s := ((s.put rm miss).put rl lo).wr (if g = 0 then R.LIO_SUPMV_L1 else R.LIO_SUPMV_L2) mv.toNat
      let s := if was && !miss then { s with lio := { s.lio with supAt := smSet 0 s.lio.supAt g (s.mt + 1) } } else s
      (s.evLevel 0x58 (7 + 2 * g) miss).evLevel 0x58 (8 + 2 * g) lo

end Sys2Proof.Machine
end

