-- ==== Sys2Proof/Machine/Ply.lean ====
section
/-! DEFINITION. The ply (04): triggers, FREEZE, EXECUTE, MIRROR-WAIT and COMMIT, flag falls, event tasks, the class registers; the
seed COMMIT and the entry into LEAD (11 R256). -/

namespace Sys2Proof.Machine

/-! FREEZE (04 R69, 06 R125, R126, 10 R220–R223). -/

/-- The in-slot of a station. -/
def State.inSlotOf (s : State) (g k : Nat) : Option Slot := (s.rmt g).slots.find? fun x => x.kind == 0 && x.station == k

/-- Tagged values that the frames of half A and half B carry (09 R194). -/
def State.halfTvs (s : State) (g k : Nat) : Nat × Nat :=
  match s.inSlotOf g k with
  | none => (0, 0)
  | some x =>
    let n := (x.p - 16) / 16
    if x.dual then (n, 0) else (if nbit x.chan 0 then n else 0, if nbit x.chan 1 then n else 0)

/-- The half and index of line `j`; none beyond the values that the frames carry (06 R125). -/
def lineHalf (n : Nat × Nat) (j : Nat) : Option (Nat × Nat) :=
  if j < n.1 then some (0, j) else if j < n.1 + n.2 then some (1, j - n.1) else none

/-- The key of a mailbox in the records of work `w`. -/
def takeKey (w g k : Nat) : Nat := (w * 16 + g) * 32 + k

/-- The substitute policy of line `j`: 0 HOLD-LAST, 1 FIXED, 2 ZERO (10 R221). -/
def State.policy (s : State) (g k j : Nat) : Nat :=
  let e (i : Nat) := s.rdLe (mboxBase g k + 0xB00 + 4 * i) 4
  match (upTo 16).find? fun i =>
      let v := e i
      nbit v 31 && nfield v 16 2 != 3 && decide (nfield v 0 5 ≤ j) && decide (j < nfield v 0 5 + nfield v 8 6) with
  | some i => nfield (e i) 16 2
  | none => 2

/-- The substitute of a line (06 R126, Table 6.5): `mts` is the stamp of the last buffer taken, none where none was; `old` is the
value last taken, `now` the memory's. -/
def substitute (policy fixed old now plyT : Nat) (mts : Option Nat) : Nat :=
  let age := match mts with | some t => ageAt (tvAge old) plyT t | none => ageMax
  let last := match mts with | some _ => qFlags (tvQ old) | none => 0
  match policy with
  | 0 =>
    match mts with
    | some _ => mkTv (tvVal old) (qHeld (tvQ old) (last - (last &&& qfSubst)) (qLimit (tvQ old))) age
    | none => mkTv (tvVal now) (mkQ 0 1 0 0) ageMax
  | 1 => mkTv fixed (mkQ 0 2 (qfSubst ||| last) 0) age
  | _ => mkTv 0 (mkQ 0 2 (qfSubst ||| last) 0) age

/-- The stamp of the last buffer of a half that work `w` took. -/
def State.takenMts (s : State) (w g k h : Nat) : Option Nat :=
  let i := takeKey w g k * 2 + h
  if smGet 0 s.xe.takes i = 0 then none else some (smGet 0 s.xe.takeMts i - 1)

/-- Line `j` of an area takes its substitute. -/
def State.putSubst (s : State) (w g k j area plyT : Nat) (h : Nat) : State :=
  let old := smGet 0 s.xe.lastTv (takeKey w g k * 32 + j)
  s.fWr w (area + 16 * j) 16
    (substitute (s.policy g k j) (s.rdLe (mboxBase g k + 0xA00 + 8 * j) 8) old (s.iRd (area + 16 * j) 16) plyT (s.takenMts w g k h))

/-- Line `j` takes a value of its half's buffer, whose stamp is `mts`: value and quality, the age brought up to date (R125). -/
def State.putLine (s : State) (w g k j area plyT mts tv : Nat) : State :=
  let s := { s with xe := { s.xe with lastTv := smSet 0 s.xe.lastTv (takeKey w g k * 32 + j) tv } }
  s.fWr w (area + 16 * j) 16 (mkTv (tvVal tv) (tvQ tv) (ageAt (tvAge tv) plyT mts))

/-- The newest complete buffer of a half: its address and number of frames taken (09 R194). -/
def State.halfBuf (s : State) (g k h : Nat) : Nat × Nat :=
  let b := mboxBase g k
  let t := s.stn g k
  (b + 0x300 * h + 0x100 * (s.rb (b + 0x600 + h)).toNat, if h = 0 then t.fillA else t.fillB)

/-- A FREEZE takes the buffers of a mailbox; `sub` has bit h for a half that is substituted. Whether it is fresh, and the state. -/
def State.takeHalf (s : State) (w g k h : Nat) : Bool × State :=
  let i := takeKey w g k * 2 + h
  let b := s.halfBuf g k h
  (smGet 0 s.xe.takes i != b.2 && b.2 != 0,
   if b.2 = 0 then s
   else { s with xe := { s.xe with takes := smSet 0 s.xe.takes i b.2, takeMts := smSet 0 s.xe.takeMts i (s.rdLe b.1 8 + 1) } })

/-- One entry of a freeze list: whether FRESH, and the state (R69, R220, R223). -/
def State.freezeEntry (s : State) (w plyT : Nat) (e : ListEntry) : Bool × State :=
  let g := e.seg
  let k := e.st
  let n := s.halfTvs g k
  let key := takeKey w g k
  if s.rd R.RMT_ST_STATE k g ≠ 3 then
    let s := s.each (upTo e.lines) fun s j => s.putSubst w g k j e.area plyT (match lineHalf n j with | some (h, _) => h | none => 0)
    (false, { s with xe := { s.xe with subst := smSet false s.xe.subst key true } })
  else
    let s := s.setStn g k { s.stn g k with ended := true }
    let s := if smGet false s.xe.subst key then
        let s := s.modPly w fun p =>
          { p with back := nsetBit p.back (32 * g + k) true, cause := if w < 3 then nsetBit p.cause 1 true else p.cause }
        { s with xe := { s.xe with subst := smSet false s.xe.subst key false } }
      else s
    let hsub := s.rd R.RMT_ST_HSUB k g
    let ra := if nbit hsub 0 then (false, s) else s.takeHalf w g k 0
    let rb := if nbit hsub 1 || n.2 == 0 then (false, ra.2) else ra.2.takeHalf w g k 1
    let s := rb.2.each (upTo e.lines) fun s j =>
      match lineHalf n j with
      | none => s.putLine w g k j e.area plyT plyT (mkTv 0 (mkQ 0 4 0 0) ageMax)
      | some (h, i) =>
        if nbit hsub h then s.putSubst w g k j e.area plyT h
        else
          let b := s.halfBuf g k h
          if b.2 = 0 then s.fWr w (e.area + 16 * j) 16 (mkTv 0 (mkQ 0 1 0 0) ageMax)
          else s.putLine w g k j e.area plyT (s.rdLe b.1 8) (s.rdLe (b.1 + 0x10 + 16 * i) 16)
    (ra.1 || rb.1, s)

/-- Retained tagged values at the first FREEZE of C2 after a warm restart (03 R56). GOOD becomes UNCERTAIN with substatus 2 (DESIGN CHOICE,
log entry 62). -/
def State.warmAges (s : State) (plyT : Nat) : State :=
  match s.xe.warm with
  | none => s
  | some x =>
    let s := { s with xe := { s.xe with warm := none } }
    s.each x.offs fun s o =>
      let t := s.rdLe (instBase + o) 16
      let q := if qState (tvQ t) = 2 then mkQ 1 2 (qFlags (tvQ t)) (qLimit (tvQ t)) else tvQ t
      let age := match x.d with | some d => min ageMax (tvAge t + d + (plyT - x.mt) / 1000) | none => ageMax
      s.fWr 1 o 16 (mkTv (tvVal t) q age)

/-- The freeze status goes into every window of the level (05 Table 5.7). -/
def State.putStatus (s : State) (w count fresh : Nat) : State :=
  let p := s.ply w
  let period := if w < 3 then s.periodNs w else 0
  let h := s.half
  s.each ((upTo (s.hdrLanes h)).filter fun c => s.biBase h (mainPart w) c != listNone) fun s c =>
    let b := s.biBase h (mainPart w) c
    let s := s.fWr w b 0x40
      (p.causeF + p.num * 2 ^ 32 + p.plyT * 2 ^ 64 + p.prevT * 2 ^ 128 + period * 2 ^ 192 + count * 2 ^ 256)
    ((s.fWr w (b + 0x40) 0x40 p.lostF).fWr w (b + 0x80) 0x40 p.backF).fWr w (b + 0xC0) 0x40 fresh

/-- The freeze list and the commit list of a work in the active half. -/
def State.freezeEs (s : State) (w : Nat) : List ListEntry := s.listAt s.half (s.freezeList s.half (mainPart w))
def State.commitEs (s : State) (w : Nat) : List ListEntry := s.listAt s.half (s.commitList s.half (mainPart w))

/-- Clocks of FREEZE or COMMIT up to the end of the mailboxes `es` (Table 4.2). -/
def copyClks (es : List ListEntry) : Nat := 8 + (es.map fun e => e.lines + 2).sum

/-- FREEZE copies the mailboxes of `es`, the first of which it begins to read in clock `t`, as far as their reading begins by clock `c`
(R69, R70; 01 R12); the FRESH bits gather. -/
def State.freezeRun (s : State) (w c : Nat) : List ListEntry → Nat → State
  | [], _ => s
  | e :: es, t =>
    if c < t then s
    else
      let r := s.freezeEntry w (s.ply w).plyT e
      (r.2.modPly w fun p => { p with pos := p.pos + 1, news := if r.1 then nsetBit p.news p.pos true else p.news }).freezeRun w c es (t + e.lines + 2)

/-- COMMIT writes the output area of a mailbox into its inactive buffer. -/
def State.commitEntry (s : State) (e : ListEntry) : State :=
  let b := mboxBase e.seg e.st
  s.wbs (b + 0x800 + 0x100 * (1 - (s.rb (b + 0x602)).toNat % 2)) (s.iLoad e.area (16 * e.lines))

/-- COMMIT writes the out-mailboxes of `es` as far as their writing begins by clock `c`. -/
def State.commitRun (s : State) (w c : Nat) : List ListEntry → Nat → State
  | [], _ => s
  | e :: es, t =>
    if c < t then s else ((s.commitEntry e).modPly w fun p => { p with pos := p.pos + 1 }).commitRun w c es (t + e.lines + 2)

/-- The mailbox path of work `w` up to lane clock `c`. -/
def State.copyTo (s : State) (w c : Nat) : State :=
  let p := s.ply w
  let go (es : List ListEntry) := p.base + copyClks (es.take p.pos)
  if p.phase = 2 then s.freezeRun w c ((s.freezeEs w).drop p.pos) (go (s.freezeEs w))
  else if p.phase = 5 then s.commitRun w c ((s.commitEs w).drop p.pos) (go (s.commitEs w))
  else s

/-- What has happened by now on the mailbox path and of the results in flight. -/
def State.pathNow (s : State) : State :=
  let s := s.landBy allLevels s.clk
  match s.current with
  | some w => s.copyTo w s.clk
  | none => s

/-- The error partition of a class is present; the main partition of a work is present. -/
def State.hasErr (s : State) (w : Nat) : Bool := decide (w < 3) && s.desc s.half (2 * w + 1) 4 4 != 0
def State.hasMain (s : State) (w : Nat) : Bool := s.desc s.half (mainPart w) 4 4 != 0

/-- EXECUTE begins in lane clock `clk`, with the error task first when it is due (R81). -/
def State.beginExecute (s : State) (w : Nat) : State :=
  let s := s.modPly w fun p => { p with phase := 3, base := s.clk }
  if (s.ply w).causeF ≠ 0 ∧ s.hasErr w then s.enterPart w (2 * w + 1) s.clk 0 (s.hasMain w)
  else if s.hasMain w then s.enterPart w (mainPart w) s.clk 0 false
  else s.setSeq (levelOf w) Seq.idle

/-- FREEZE of work `w` ends in the clock of Table 4.2: every mailbox is copied, the cause word and lists are latched, the status is
written. -/
def State.endFreeze (s : State) (w : Nat) : State :=
  let es := s.freezeEs w
  let s := (s.awaitClk ((s.ply w).base + copyClks es)).copyTo w noLimit
  let s := if w = 1 then s.warmAges (s.ply w).plyT else s
  let s := s.modPly w fun p =>
    { p with causeF := p.causeF ||| p.cause, lostF := p.lostF ||| p.lost, backF := p.backF ||| p.back, cause := 0, lost := 0, back := 0 }
  (s.putStatus w es.length (s.ply w).news).beginExecute w

/-- What every command of the engine ends with: the reaction to mirror escapes, and the next work with what its start writes. -/
def State.xeDone (s : State) : State := s.escReact.promote.escReact

/-- FREEZE_COMPLETE (R69). -/
def execFreezeComplete (s : State) : Res :=
  .next <|
    match s.current with
    | some w => if (s.ply w).phase = 2 then (s.endFreeze w).xeDone else s
    | none => s

/-! EXECUTE (04 R71, R81; 05 R97, R110). -/

/-- A schedule fault of work `w` (05 R110): recorded, the work abandoned, a safety fault of cause 0x04. -/
def State.scheduleFaultAt (s : State) (w : Nat) (f : SchedFault) : State :=
  let q := s.seq (levelOf w)
  let s := if s.rd R.XE_SF_INFO_KIND = 0 then
      (((s.wr R.XE_SF_INFO_KIND f.1).wr R.XE_SF_INFO_PART q.part).wr R.XE_SF_INFO_COL f.2).wr R.XE_SF_INFO_ROW q.row
    else s
  ((s.sat R.XE_SF_COUNT).abandon w).safetyFault 0x04 .hold 0x10 (f.1 + q.part * 2 ^ 4 + f.2 * 2 ^ 9 + q.row % 2 ^ 20 * 2 ^ 12)

/-- Rows of work `w` issue in clocks up to `lim`, `n` at most; `f` follows unless they meet a schedule fault, whose row's clock has come
then. -/
def State.rowsThen (s : State) (w lim n : Nat) (f : State → State) : State :=
  let r := s.runRows w lim n
  if r.2.1 = 0 then f r.1 else (r.1.awaitClk (r.1.rowClk w)).scheduleFaultAt w r.2

/-- EXECUTE of work `w` has ended. The causes are done with when the error task was the only partition that ran, and where a class has
no error task (R81); a class without any partition keeps them (log entry 45). MIRROR-WAIT or COMMIT follows. -/
def State.endExecute (s : State) (w : Nat) : State :=
  let ran := (s.seq (levelOf w)).part
  let done := if w < 3 then (ran == 2 * w + 1 && (s.seq (levelOf w)).begun) || (!s.hasErr w && s.hasMain w) else true
  let s := s.landAll (levelOf w)
  let s := if done then s.clearCauses w else s
  let s := s.modPly w fun p => { p with execEnd := s.mt }
  if s.waits w && !(s.ply w).acked then (s.sendTail w).modPly w fun p => { p with phase := 4, acked := false, since := none, ran := 0 }
  else s.beginCommit w

/-- EXECUTE_COMPLETE (R97): the rows that are left issue, and the drain ends. -/
def execExecuteComplete (s : State) : Res :=
  .next <|
    match s.current with
    | some w =>
      if (s.ply w).phase = 3 then (s.rowsThen w noLimit rowFuel fun s => (s.awaitClk (s.drainClk w)).endExecute w).xeDone else s
    | none => s

/-- The engine up to now, and up to the clock in which the work in EXECUTE has issued `rows` rows more; what completes by then has
completed. -/
def State.engineRows (s : State) (rows : Nat) : State :=
  let s := s.pathNow
  match s.current with
  | some c =>
    if (s.ply c).phase = 3 then
      (s.rowsThen c s.clk rowFuel fun s =>
        if rows = 0 then s else s.rowsThen c noLimit rows fun s => s.awaitClk (s.rowClk c - 1)).pathNow
    else s
  | none => s

/-- Work `c` stops: in EXECUTE after the row in the current clock, which leaves the lanes 3 clocks later; in FREEZE or COMMIT at the end
of the mailbox being copied (R75, R99). -/
def State.stopWork (s : State) (c : Nat) : State :=
  let p := s.ply c
  let now := s.clk
  if p.phase = 3 then
    let t := s.modPly c fun p => { p with stop := some (now + 1 - p.base) }
    { t with xe := { t.xe with clk := now + 3 } }
  else if p.phase = 2 ∨ p.phase = 5 then
    let at_ := p.base + copyClks ((if p.phase = 2 then s.freezeEs c else s.commitEs c).take p.pos)
    let own := if p.pos = 0 then now - p.base else at_ - p.base
    let t := s.modPly c fun p => { p with stop := some own }
    { t with xe := { t.xe with clk := if p.pos = 0 then now else max now at_ } }
  else s

/-- Work of a higher level than the one that has the lanes becomes ready: that one stops (R75), `rows` rows after now. -/
def State.preempt (s : State) (w rows : Nat) : State :=
  let s := s.engineRows rows
  match s.current with
  | some c => if levelOf w < levelOf c then s.stopWork c else s
  | none => s

/-- SCHEDULE_FAULT (05 R110): the work in EXECUTE meets a corrupted row. -/
def execScheduleFault (rows : Nat) (kind : Fin 9) (col : Fin 4) (s : State) : Res :=
  .next <|
    let s := s.engineRows rows
    match s.current with
    | some w =>
      if (s.ply w).phase = 3 then
        let r := s.issueRow w (kind + 1, col)
        ((r.1.awaitClk (r.1.rowClk w)).scheduleFaultAt w r.2).xeDone
      else s.xeDone
    | none => s.xeDone

/-- A lane or sequencer mismatch is recorded (05 R100, R113): source 2 and a safety fault of cause 0x03. -/
def State.lockstep (s : State) (unit level row : Nat) (dest : Option Nat) : State :=
  let s := if s.rd R.XE_LS_COUNT = 0 then
      let s := ((s.wr R.XE_LS_INFO_UNIT unit).wr R.XE_LS_INFO_LEVEL level).wr R.XE_LS_INFO_ROW row
      match dest with | some d => s.wr R.XE_LS_DEST d | none => s
    else s
  ((s.sat R.XE_LS_COUNT).ev 0x05 2).safetyFault 0x03 .hold 0x10 (unit + level * 2 ^ 4 + row % 2 ^ 20 * 2 ^ 8)

/-- The mismatching result: the oldest in flight of column `c` with the destination operand `dest` (R100). -/
def State.mismatch (s : State) (w c dest : Nat) : Option Flight :=
  (s.seq (levelOf w)).flight.find? fun f => f.col == c && f.dst == dest
/-- Its write is not made. -/
def State.dropWrite (s : State) (w c dest : Nat) : State :=
  let q := s.seq (levelOf w)
  match s.mismatch w c dest with
  | some f => s.setSeq (levelOf w) { q with flight := q.flight.erase f }
  | none => s

/-- XE_LOCKSTEP_ERROR (05 R100): unit 0–3 a lane pair, 4 the sequencer. -/
def execXeLockstepError (rows : Nat) (unit : Fin 5) (dest : BitVec 32) (s : State) : Res :=
  .next <|
    let s := s.engineRows rows
    match s.current with
    | some w =>
      if (s.ply w).phase = 3 then
          let row := match s.mismatch w unit dest.toNat with
            | some f => if unit = 4 then (s.seq (levelOf w)).row else f.row
            | none => (s.seq (levelOf w)).row
          let t := if unit = 4 then s else s.dropWrite w unit dest.toNat
          ((t.abandon w).lockstep unit (levelOf w + 1) row (if unit = 4 then none else some dest.toNat)).xeDone
      else s.xeDone
    | none => s.xeDone

/-- The lockstep test sequence leaves lane registers L00–L15 of the C3 bank of every present lane pair with values the spec does not
give (05 R114). -/
def State.testBank (s : State) : State :=
  s.each ((upTo s.lanePairs).flatMap fun c => (upTo 16).map fun r => (3 * 4 + c) * 64 + r) fun s k =>
    let d := s.draw
    { d.2 with xe := { d.2.xe with lanes := smSet 0 d.2.xe.lanes k (d.1 % 2 ^ 128) } }

/-- An injected mismatch: a reset that the one before has brought ends the sequence. -/
def State.injected (s : State) (unit : Nat) : State :=
  if s.sys.resetHeld then s
  else if unit = 4 then s.lockstep 4 4 0 none
  else
    let r := s.draw
    r.2.lockstep unit 4 0 (some (0xC0000000 + r.1 % 16))

/-- LS_INJECT (05 R114): the sequence runs on the C3 bank; the sequencer's fetch comes before any lane's first write, and the lanes' first
writes fall in one clock, the lowest column's mismatch recorded first (log entry 51). -/
def execLsInject (_m : BitVec 6) (value : BitVec 32) (s : State) : Res :=
  .next <| s.onPage 0x12 fun s =>
    let v := nfield value.toNat 0 5
    if !s.isService then s.err 0x12 0x27 0x018
    else
      let s := s.rsvErr 0x12 0x018 value.toNat
      if v = 0 then s else s.testBank.each ((4 :: upTo s.lanePairs).filter (nbit v)) State.injected

/-! COMMIT (04 R73, 06 R127, 10 R223, 16 R350). -/

/-- Some class or task takes the inputs of a station. -/
def State.referenced (s : State) (g k : Nat) : Bool :=
  listParts.any fun p => s.desc s.half p 4 4 != 0 &&
    (s.listAt s.half (s.freezeList s.half p)).any fun e => e.seg == g && e.st == k

/-- Every out-mailbox of the list is switched, and OUTEN of its station is set where R223 allows. -/
def State.commitSwitch (s : State) (es : List ListEntry) : State :=
  s.each es fun s e =>
    let b := mboxBase e.seg e.st
    let s := s.wb (b + 0x602) (BitVec.ofNat 8 (1 - (s.rb (b + 0x602)).toNat % 2))
    if s.rd R.RMT_ST_STATE e.st e.seg = 3 ∧ ((s.stn e.seg e.st).ended || !s.referenced e.seg e.st) then s.wr R.RMT_ST_OUTEN 1 e.st e.seg
    else s

/-- The local output image of class `w` as COMMIT reads it (05 Table 5.7). -/
def State.outImage (s : State) (w : Nat) : State :=
  let b := s.biBase s.half (mainPart w) 0
  if b = listNone then s else s.lioCommit (w + 1) (s.iRd (b + 0x120) 16)

/-- The end of a COMMIT of work `w`: every out-mailbox of the class is switched together with the local output image (R73). -/
def State.commitDone (s : State) (w : Nat) : State :=
  let s := s.commitSwitch (s.commitEs w)
  if w < 3 then s.outImage w else s

/-- The class fault reaction (R79). -/
def State.classReact (s : State) (w : Nat) : State :=
  let s := s.ev 0x10 3
  if s.rd R.XE_CLS_CFG_REACT w = 1 ∧ s.flag R.PAIR_STAT_PSYNC then
    let s := s.sealCancel
    if s.rd R.XE_SM_STAT_STATE = 4 then { s with pr := { s.pr with castDue := true } }
    else (s.castleRequest true).getD (s.err 0x3A 0x52 0x1A4)
  else s.setMode 4 2

/-- The marked retain lines of a C2 ply go to CRT (05 R109). -/
def State.handRetained (s : State) (ply : Nat) : State :=
  let s := s.crtHand ply s.xe.marks
  { s with xe := { s.xe with marks := [] } }

/-- COMMIT of work `w` ends in the clock of Table 4.2. -/
def State.endCommit (s : State) (w : Nat) : State :=
  let p := s.ply w
  let s := ((s.awaitClk (p.base + copyClks (s.commitEs w))).copyTo w noLimit).commitDone w
  let s := if w = 1 then s.handRetained p.num else s
  let dur := min (2 ^ 32 - 1) ((s.mt - p.trigAt) / 10)
  let s := if w < 3 then
      let s := (s.wr R.XE_CLS_LASTDUR dur w).wr R.XE_CLS_MAXDUR (max dur (s.rd R.XE_CLS_MAXDUR w)) w
      if nbit (s.rd R.XE_ENG_PCSEL_CLS) w then s.ev 0x10 4 else s
    else s
  let s := if s.rd R.XE_SM_STAT_STATE = 3 ∧ w + 1 = s.rd R.XE_SM_CLS ∧ p.num = s.rd R.XE_SM_PLY then
      { s with xe := { s.xe with sl := { s.xe.sl with passed := true } } }
    else s
  let s := s.modPly w fun p => { p with phase := 0, fell := false, cause := if p.fell then nsetBit p.cause 2 true else p.cause }
  let s := { s with pr := { s.pr with lastCommit := (w + 1, s.clk) } }
  let s := if s.pr.finalW = w + 1 then s.joinDone else s
  if w < 3 ∧ p.fell ∧ s.isLead ∧ s.rd R.XE_CLS_CFG_FFLIMIT w ≤ s.rd R.XE_CLS_FF_CONSEC w then s.classReact w else s

/-- COMMIT_COMPLETE (R73). -/
def execCommitComplete (s : State) : Res :=
  .next <|
    match s.current with
    | some w => if (s.ply w).phase = 5 then (s.endCommit w).xeDone else s
    | none => s

/-! Triggers and deadlines (04 R66–R68, R72, R77–R79). -/

/-- XE takes triggers: LEAD, the unit ON, not handed over (03 R44, 11 R260 step 4). -/
def State.xeTakes (s : State) : Bool := s.isLead && s.unitOn 0x10 && !s.pr.handed

/-- An armed seal has found no gap: a ply of SEALCLS above ply P is triggered (07 R151). -/
def State.sealOver (s : State) (n : Nat) : Bool :=
  s.rd R.XE_SM_STAT_STATE == 3 && n + 1 == s.rd R.XE_SM_CLS && decide (0 < sgn 32 (s.rd R.XE_CLS_PLY n + 2 ^ 32 - s.rd R.XE_SM_PLY))

/-- A trigger on its way to the sequencer: 12 ns at most, and 40 ns of wake where the lanes are gated (Table 4.3, 01 R16). -/
def State.lateness (s : State) (late : Nat) : Nat := min late (if s.current.isNone then 41 else 9)

/-- A trigger of class `n` (R67, R68, R78), `late` lane clocks before it reaches the sequencer; lower work stops (R75). -/
def State.trigger (s : State) (n late : Nat) : State :=
  if !s.xeTakes || !s.flag R.XE_CLS_CFG_EN n then s
  else
    let s := (s.advanceTrigger n).wrap R.XE_CLS_PLY n
    if s.flag R.XE_CLS_STAT_SKIPNEXT n then (s.sat R.XE_CLS_SKIP_SKIPS n).wr R.XE_CLS_STAT_SKIPNEXT 0 n
    else if (s.ply n).phase ≠ 0 then s.sat R.XE_CLS_SKIP_SKIPS n
    else
      let at_ := s.mt
      let s := (s.awaitClk (laneClk s.mt + s.lateness late)).preempt n 0
      if !s.isLead then s
      else
        let s := if s.sealOver n then s.sealCancel else s
        (s.modPly n fun p => { p with phase := 1, trigAt := at_, ready := laneClk at_ + s.lateness late, num := s.rd R.XE_CLS_PLY n, fell := false }).xeDone

/-- FLAG_FALL (R77): the deadline of the ply comes before its COMMIT has begun. CONSEC saturates (log entry 46). -/
def execFlagFall (cls : Fin 3) (s : State) : Res :=
  .next <|
    let n := cls.val
    let p := s.ply n
    if s.isLead ∧ 1 ≤ p.phase ∧ p.phase ≤ 4 ∧ !p.fell then
      let s := s.awaitMt (p.trigAt + s.periodNs n * s.rd R.XE_CLS_CFG_DLPCT n / 100)
      let s := ((s.sat R.XE_CLS_FF_TOTAL n).sat R.XE_CLS_FF_CONSEC n).wr R.XE_CLS_STAT_SKIPNEXT 1 n
      (s.modPly n fun p => { p with fell := true }).ev 0x10 n
    else s

/-- An acknowledged ply takes the lanes back (R71, R75). -/
def State.resumeCommit (s : State) (w rows : Nat) : State :=
  ((s.preempt w rows).ackWork w).xeDone

/-- MIRROR_WAIT_TIMEOUT (R72): once the time-out has run without preemption, the partner is no longer synchronised before COMMIT
begins, `late` lane clocks after the time-out; the final ply of a join is replaced by the next one. -/
def execMirrorWaitTimeout (w : Fin 19) (late : Nat) (s : State) : Res :=
  .next <|
    let w := w.val
    let p := s.ply w
    match p.since with
    | none => s
    | some t =>
      let s := s.awaitMt (t + (s.rd R.XE_MW_CFG_TIMEOUT * 1000 - p.ran))
      let s := (s.ev 0x10 5).sat R.XE_MW_STAT_TIMEOUTS
      let s := if w < 3 then s.modPly w fun p => { p with cause := nsetBit p.cause 3 true } else s
      let s := if s.pr.finalW = w + 1 then
          { s with pr := { s.pr with finalW := 0, dirty := s.pr.finalLines.foldl insertNat s.pr.dirty, finalLines := [] } }
        else s
      (((s.awaitClk (s.clk + late)).preempt w 0).setPsync false).xeDone

/-! Event tasks (04 R82, R83). -/

/-- A trigger of event task `k`: pending, or coalesced; held while a switch runs (07 R152). -/
def State.taskTrigger (s : State) (k : Nat) : State :=
  if !s.xeTakes || !s.flag R.XE_ET_CFG_EN k then s
  else if s.rd R.XE_SM_STAT_STATE = 4 then { s with xe := { s.xe with held := s.xe.held ++ [k] } }
  else
    let late := nbit (s.rd R.XE_ET_PEND) k || (s.ply (k + 3)).phase != 0 || !s.taskPermitted k
    let s := s.bitTo R.XE_ET_PEND k true
    let s := if (s.ply (k + 3)).phase = 0 then s.modPly (k + 3) fun p => { p with trigAt := s.mt, ready := laneClk s.mt } else s
    if late then s.wrap R.XE_ET_COAL else s

/-- EVENT_TASK_TRIGGER (R82): the rise of the source that SRC names, which asserts (02 R30). -/
def execEventTaskTrigger (k : Fin 16) (s : State) : Res := .next (if s.asserts (s.rd R.XE_ET_CFG_SRC k) then s.taskTrigger k else s)

/-- ET_TRIG_WRITE (R82). -/
def execEtTrigWrite (_m : BitVec 6) (value : BitVec 32) (s : State) : Res :=
  .next <| s.onPage 0x11 fun s =>
    let s := s.each ((upTo 16).filter (nbit value.toNat)) fun s k => s.taskTrigger k
    s.rsvErr 0x11 0x0C4 value.toNat

/-- The task that starts next: the lowest-numbered pending one that MININT permits (R82). -/
def State.nextTask (s : State) : Option Nat := if s.xeTakes then (upTo 16).find? s.taskWaits else none

/-- EVENT_TASK_START (R82, R83): the lanes are free of C1. -/
def execEventTaskStart (rows : Nat) (s : State) : Res :=
  .next <|
    match s.nextTask with
    | none => s
    | some k =>
      let w := k + 3
      let c1 := s.ply 0
      if c1.phase = 1 ∨ c1.phase = 2 ∨ c1.phase = 3 ∨ c1.phase = 5 then s
      else
        let s := s.preempt w rows
        if !s.isLead then s
        else
          let s := s.bitTo R.XE_ET_PEND k false
          ((s.modPly w fun p => { p with phase := 1, num := (p.num + 1) % 2 ^ 32 }).beginFreeze w).xeDone

/-! The class registers (R84). -/

/-- The fields of CFG of class `n` with their ranges. -/
def State.clsCfgFields (s : State) (n v : Nat) : State :=
  let off := 0x20 * n
  let take (s : State) (r : Row) (x : Nat) (ok : Bool) : State := if ok then s.wr r x n else s.err 0x11 0x22 off
  let s := (s.wr R.XE_CLS_CFG_EN (nfield v 0 1) n).wr R.XE_CLS_CFG_TRIGCH (nfield v 4 3) n
  let s := take s R.XE_CLS_CFG_TBASE (nfield v 8 2) (decide (nfield v 8 2 ≤ 1))
  let s := take s R.XE_CLS_CFG_DLPCT (nfield v 16 7) (decide (50 ≤ nfield v 16 7 ∧ nfield v 16 7 ≤ 100))
  let s := take s R.XE_CLS_CFG_FFLIMIT (nfield v 24 4) (nfield v 24 4 != 0)
  take s R.XE_CLS_CFG_REACT (nfield v 28 2) (decide (nfield v 28 2 ≤ 1))

/-- A write to CFG of class `n`. -/
def State.clsCfg (s : State) (n v : Nat) : State :=
  let net := s.usesNet n
  let en := s.flag R.XE_CLS_CFG_EN n
  let s := s.clsCfgFields n v
  if !s.flag R.XE_CLS_CFG_EN n then s.modPly n fun p => { p with next := none, reanch := false }
  else if !en then s.anchorNew n
  else if s.usesNet n != net then s.reanchor n
  else s

/-- The range of PERIOD of class `n` (04 Table 4.1). -/
def periodOk (n p : Nat) : Bool :=
  if n = 0 then decide (2 ≤ p ∧ p ≤ 200) else if n = 1 then decide (4 ≤ p ∧ p ≤ 400) else decide (10 ≤ p ∧ p ≤ 10000)

/-- The fields of PER of class `n` with their ranges. -/
def State.clsPerFields (s : State) (n v : Nat) : State :=
  let off := 0x20 * n + 4
  let per := nfield v 0 14
  let ph := nfield v 16 14
  let s := if periodOk n per then s.wr R.XE_CLS_PER_PERIOD per n else s.err 0x11 0x20 off
  if ph < s.rd R.XE_CLS_PER_PERIOD n then s.wr R.XE_CLS_PER_PHASE ph n else s.err 0x11 0x21 off

/-- A write to PER of class `n`: a value it takes re-anchors an enabled class. -/
def State.clsPer (s : State) (n v : Nat) : State :=
  let t := s.clsPerFields n v
  let took : Bool := periodOk n (nfield v 0 14) || decide (nfield v 16 14 < t.rd R.XE_CLS_PER_PERIOD n)
  if t.flag R.XE_CLS_CFG_EN n && took then t.reanchor n else t

/-- A write to CFG or PER with its checks, and the registers that follow. -/
def State.clsWrite (s : State) (m n : Nat) (per : Bool) (v : Nat) : State :=
  let off := 0x20 * n + (if per then 4 else 0)
  let t := if per then s.clsPer n v else s.clsCfg n v
  (t.rsvErr 0x11 off v).cfgBump s 0x11 off m

/-- CLASS_CFG_WRITE (R84). -/
def execClassCfgWrite (m : BitVec 6) (cls : Fin 3) (per : Bool) (value : BitVec 32) (s : State) : Res :=
  .next <| s.onPage 0x11 fun s => s.clsWrite m.toNat cls per value.toNat

/-! The entry into LEAD (11 R255, R256; 10 R223; 06 R128). -/

/-- The seed COMMIT: every output area of every class and event task is committed (R256). -/
def State.seedCommit (s : State) : State :=
  s.each (upTo 19) fun s w => if s.hasMain w || s.hasErr w then ((s.commitEs w).foldl State.commitEntry s).commitDone w else s

/-- Entry into LEAD: the seed COMMIT, OUTEN by the station states, the first plies marked (R81 bit 5, R128), and with `anchor` the
classes enabled by R67. -/
def State.enterLead (s : State) (anchor : Bool) : State :=
  let s := ((s.setMode 3 0).wr R.PAIR_STAT_LEASE 1).firstKeys
  let s := s.each (upTo 19) fun s w =>
    s.modPly w fun p => { PlySt.idle with
      num := p.num, startAt := p.startAt, fresh := true
      cause := if w < 3 then nsetBit (p.cause ||| p.causeF) 5 true else 0, lost := p.lost ||| p.lostF, back := p.back ||| p.backF }
  let s := s.seedCommit
  let s := s.each (segs.flatMap fun g => (upTo 32).map fun k => (g, k)) fun s e =>
    let op := s.rd R.RMT_ST_STATE e.2 e.1 == 3
    if s.flag R.RMT_ST_OUTEN e.2 e.1 = op then s else s.put R.RMT_ST_OUTEN op e.2 e.1
  if anchor then s.each (upTo 3) fun s n => if s.flag R.XE_CLS_CFG_EN n then s.anchorNew n else s else s

end Sys2Proof.Machine
end

