-- ==== Sys2Proof/Machine/Tim.lean ====
section
/-! DEFINITION. Module time and network time (12): the registers of the clocks, compare and capture channels, the idle tick, the time port,
the stamp FIFOs. -/

namespace Sys2Proof.Machine

/-- TIME_SNAPSHOT: TIM.SNAP.GO (R266). -/
def State.snap (s : State) : State :=
  ((s.wr2 R.TIM_SNAP_MTLO R.TIM_SNAP_MTHI s.mt).wr2 R.TIM_SNAP_NTLO R.TIM_SNAP_NTHI s.tim.nt).wr R.TIM_SNAP_NTFRAC s.tim.frac
def execTimeSnapshot (_m : BitVec 6) (s : State) : Res := .next <| s.onPage 0x40 State.snap

/-- MT_READ and NT_READ (R266): the low half is answered, the high half latched for the master. -/
def State.readMt (s : State) (m : Nat) : Nat × State := (s.mt % 2 ^ 32, s.wr R.TIM_MTHI (s.mt / 2 ^ 32) 0 0 m)
def State.readNt (s : State) (m : Nat) : Nat × State := (s.tim.nt % 2 ^ 32, s.wr R.TIM_NTHI (s.tim.nt / 2 ^ 32) 0 0 m)
def execMtRead (m : BitVec 6) (s : State) : Res :=
  .next <| s.onRead 0x40 fun s => s.readMt m.toNat
def execNtRead (m : BitVec 6) (s : State) : Res :=
  .next <| s.onRead 0x40 fun s => s.readNt m.toNat

/-- NTINC_WRITE (R268). -/
def State.writeNtinc (s : State) (v : Nat) : State :=
  if 0x3FEF9DB2 ≤ v ∧ v ≤ 0x4010624E then s.wr R.TIM_NTINC v else s.err 0x40 0x61 0x110
def execNtincWrite (m : BitVec 6) (value : BitVec 32) (s : State) : Res :=
  .next <| s.onPage 0x40 fun s => (s.writeNtinc value.toNat).cfgBump s 0x40 0x110 m.toNat

/-- NT_SET (R269): the next tick loads NT and NTHI. -/
def State.ntSet (s : State) : State :=
  if s.flag R.TIM_NTCTL_LOCKED || s.flag R.TIM_NTSTAT_STEPPEND then s.err 0x40 0x63 0x128
  else (s.setTim { s.tim with set := some (s.rd2 R.TIM_NTSETLO R.TIM_NTSETHI) }).wrap R.TIM_NTSTAT_GEN
def execNtSet (_m : BitVec 6) (s : State) : Res := .next <| s.onPage 0x40 State.ntSet

/-- NT_STEP (R270): the request is decided at the write. STEPPEND and GO read 1 only where the step waits for the end of a switch; an
accepted step re-anchors every enabled class that uses network time (04 R67). -/
def State.ntStep (s : State) (force : Bool) : State :=
  let v := s.rd R.TIM_NTSTEP_VAL
  if s.flag R.TIM_NTSTAT_STEPPEND then s.err 0x40 0x60 0x118
  else if s.rd R.TIM_NTSTEPMAX < (sgn 32 v).natAbs ∧ !force then
    ((s.wr R.TIM_NTSTAT_JUMP 1).ev 0x40 10).sat R.TIM_NTSTAT_STEPREJ
  else
    let s := s.setTim { s.tim with steps := s.tim.steps ++ [v] }
    let s := if s.rd R.XE_SM_STAT_STATE = 4 then (s.wr R.TIM_NTSTAT_STEPPEND 1).wr R.TIM_NTSTEP_CMD_GO 1 else s
    s.each (upTo 3) fun s n => if s.flag R.XE_CLS_CFG_EN n && s.usesNet n then s.reanchor n else s
def execNtStep (_m : BitVec 6) (force : Bool) (s : State) : Res := .next <| s.onPage 0x40 fun s => s.ntStep force

/-- NT_LOCKED_WRITE (R272): a change re-anchors each class with TBASE 0. -/
def State.writeLocked (s : State) (b : Bool) : State :=
  if s.flag R.TIM_NTCTL_LOCKED = b then s
  else
    (s.put R.TIM_NTCTL_LOCKED b).each (upTo 3) fun s n =>
      if s.flag R.XE_CLS_CFG_EN n ∧ s.rd R.XE_CLS_CFG_TBASE n = 0 then s.reanchor n else s
def execNtLockedWrite (m : BitVec 6) (locked : Bool) (s : State) : Res :=
  .next <| s.onPage 0x40 fun s => (s.writeLocked locked).cfgBump s 0x40 0x128 m.toNat

/-! Compare channels (R273–R275). -/

/-- The 1PPS output follows the pulses (R275). -/
def State.setPulses (s : State) (p : SMap Nat) : State :=
  let old := s.tim.pulses != []
  let new := p != []
  let s := (s.setTim { s.tim with pulses := p }).put R.TIM_TPSTAT_PPSOUT new
  if old = new then s else s.out (.pps new)

/-- What every match does: its source, its count, its pulse, the captures of it. -/
def State.matched (s : State) (k : Nat) : State :=
  let s := (s.ev 0x40 k).wrap R.TIM_CMP_COUNT k
  let s := if s.flag R.TIM_CMP_CFG_PPSOUT k then s.setPulses (smSet 0 s.tim.pulses k (s.mt + 1)) else s
  s.captureSource (0x24 + k)

/-- The smallest target + j × period, j ≥ 1, above `base` (R273). -/
def nextTarget (tgt per base : Nat) : Nat := if base < tgt ∨ per = 0 then tgt + per else tgt + per * ((base - tgt) / per + 1)

/-- The instant at which channel `k` matches next (R273, R274): whether in network time, and the value of its time base; none where it
is off, or its class has no trigger scheduled. -/
def State.matchAt (s : State) (k : Nat) : Option (Bool × Nat) :=
  let o := s.ownerOf k
  if o ≠ 0 then (s.ply (o - 1)).next.map fun t => ((s.ply (o - 1)).aligned, t)
  else
    let mode := s.rd R.TIM_CMP_CFG_MODE k
    if mode = 1 ∨ mode = 2 then some (s.flag R.TIM_CMP_CFG_TBASE k, s.rd2 R.TIM_CMP_TGTLO R.TIM_CMP_TGTHI k) else none

/-- The channel matches in this tick: its time base is at or above its target, and it was set up before this tick. -/
def State.matchesNow (s : State) (k : Nat) : Bool :=
  match s.matchAt k with
  | some (net, t) => decide (t ≤ s.baseNow net) && decide (smGet 0 s.tim.armed k ≤ s.mt)
  | none => false

/-- A compare channel matches (R273, R274): a trigger of the class that owns it, which reaches the sequencer `late` lane clocks after the
match, or by its MODE. -/
def State.compareMatch (s : State) (k late : Nat) : State :=
  let o := s.ownerOf k
  if o ≠ 0 then (s.matched k).trigger (o - 1) late
  else
    let mode := s.rd R.TIM_CMP_CFG_MODE k
    if mode = 1 then (s.matched k).wr R.TIM_CMP_CFG_MODE 0 k
    else if mode = 2 then
      let base := if s.flag R.TIM_CMP_CFG_TBASE k then s.tim.nt else s.mt
      (s.matched k).wr2 R.TIM_CMP_TGTLO R.TIM_CMP_TGTHI (nextTarget (s.rd2 R.TIM_CMP_TGTLO R.TIM_CMP_TGTHI k) (s.rd R.TIM_CMP_PERIOD k) base) k
    else s

/-- Time goes on to the tick in which channel `k` matches, and it does. -/
def State.matchNext (s : State) (k late : Nat) : State :=
  match s.matchAt k with
  | some (net, t) =>
    let s := s.awaitMt (smGet 0 s.tim.armed k)
    (if net then s.awaitNt t else s.awaitMt t).compareMatch k late
  | none => s

/-- COMPARE_MATCH (R273, R274). -/
def execCompareMatch (k : Fin 8) (late : Nat) (s : State) : Res := .next (s.matchNext k late)

/-- PLY_TRIGGER (04 R66): the channel that the class owns matches; a class that owns none receives no triggers. -/
def execPlyTrigger (cls : Fin 3) (late : Nat) (s : State) : Res :=
  .next <|
    let k := s.rd R.XE_CLS_CFG_TRIGCH cls
    if s.ownerOf k = cls.val + 1 then s.matchNext k late else s

/-- One tick of the time base: the clocks advance, and the channels that then match do (R265–R273); a trigger reaches the sequencer in
the lane clock of its match (log entry 48). -/
def State.tick (s : State) : State := s.clockTick.each (upTo 8) fun s k => if s.matchesNow k then s.compareMatch k 0 else s

/-- NT_STEP_APPLY (R270, R271): the tick that applies an accepted step. -/
def execNtStepApply (s : State) : Res :=
  .next <| if s.tim.steps ≠ [] ∧ !s.stepsHeld then s.tick else s

/-- NT_WRAP (R267): the tick in which NT carries out of bit 31. -/
def execNtWrap (s : State) : Res := .next (s.awaitNt ((s.tim.nt / 2 ^ 32 + 1) * 2 ^ 32))

/-- The target in use of a channel (R274). -/
def State.cmpTarget (s : State) (k : Nat) : Nat :=
  let o := s.ownerOf k
  if o = 0 then s.rd2 R.TIM_CMP_TGTLO R.TIM_CMP_TGTHI k
  else match (s.ply (o - 1)).next with | some t => t | none => s.rd2 R.TIM_CMP_TGTLO R.TIM_CMP_TGTHI k

/-- PPS_PULSE_END (R275): PWIDTH ms after the channel's last match. -/
def execPpsPulseEnd (k : Fin 8) (s : State) : Res :=
  .next <|
    match smGet 0 s.tim.pulses k with
    | 0 => s
    | t + 1 =>
      let s := s.awaitMt (t + s.rd R.TIM_TPCFG_PWIDTH * 1000000)
      s.setPulses (smSet 0 s.tim.pulses k 0)

/-! Captures and the time port (R276, R277). -/

/-- CAPTURE (R276): an edge at an input source; the inputs of S08 are not captured. -/
def execCapture (k : Fin 8) (rising : Bool) (s : State) : Res :=
  .next <|
    let src := s.rd R.TIM_CAP_CFG_SRC k
    let edge := s.rd R.TIM_CAP_CFG_EDGE k
    if !s.flag R.TIM_CAP_CFG_EN k || decide (0x20 < src) || (s.isS08 && decide (src < 0x20)) || !nbit edge (if rising then 0 else 1) then s
    else s.captureOn k rising

/-- PPS_INPUT_EDGE (R277): the count of missing edges restarts. -/
def execPpsInputEdge (s : State) : Res := .next (s.setTim { s.tim with edgeAt := s.mt })

/-- PPS_INPUT_MISSING (R277): 1,100 ms have passed since the last edge, the write of INEN, or the last report. -/
def execPpsInputMissing (s : State) : Res :=
  .next <|
    if s.flag R.TIM_TPCFG_INEN then
      let s := s.awaitMt (s.tim.edgeAt + 1100000000)
      (s.setTim { s.tim with edgeAt := s.mt }).ev 0x40 11
    else s

/-- TIME_PORT_FAULT (R277). -/
def execTimePortFault (output : Bool) (s : State) : Res :=
  .next <|
    let hit (s : State) (r : Row) : State := ((s.wr r 1).evLevel 0x40 12 false).evLevel 0x40 12 true
    hit s (if output then R.TIM_TPSTAT_OUTFAULT else R.TIM_TPSTAT_INFAULT)

/-! Stamp FIFOs (R278, R279, R282). -/

def State.emac (s : State) (x : Nat) : Emac := smGet {} s.emacs x
def State.setEmac (s : State) (x : Nat) (e : Emac) : State := { s with emacs := smSet {} s.emacs x e }
def Stamp.w0 (t : Stamp) : Nat := t.msgtype % 16 + t.domain % 256 * 2 ^ 8 + t.seqid % 2 ^ 16 * 2 ^ 16

/-- The head entries, levels and level conditions of a MAC's FIFOs. -/
def State.stampView (s : State) (x : Nat) : State :=
  let e := s.emac x
  let tx := e.tx.headD ⟨0, 0, 0, 0, 0⟩
  let rx := e.rx.headD ⟨0, 0, 0, 0, 0⟩
  let s := ((s.wr R.EMAC_TXTS_W0_MSGTYPE tx.msgtype 0 x).wr R.EMAC_TXTS_W0_DOMAIN tx.domain 0 x).wr R.EMAC_TXTS_W0_SEQID tx.seqid 0 x
  let s := ((s.wr2 R.EMAC_TXTS_W1 R.EMAC_TXTS_W2 tx.nt 0 x).wr R.EMAC_TXTS_W3_GEN tx.gen 0 x).put R.EMAC_TXTS_W3_VALID (!e.tx.isEmpty) 0 x
  let s := ((s.wr R.EMAC_RXTS_W0 rx.w0 0 x).wr2 R.EMAC_RXTS_W1 R.EMAC_RXTS_W2 rx.nt 0 x).wr R.EMAC_RXTS_W3 (rx.gen % 256 + b2n (!e.rx.isEmpty) * 2 ^ 31) 0 x
  let s := (s.wr R.EMAC_TSSTAT_TXLEVEL e.tx.length 0 x).wr R.EMAC_TSSTAT_RXLEVEL e.rx.length 0 x
  (s.evLevel (0x41 + x) 0 (!e.tx.isEmpty)).evLevel (0x41 + x) 1 (!e.rx.isEmpty)

/-- A PTP event message in a frame (R278): how it is carried (0 UDP over IPv4, 1 UDP over IPv6, 2 by ethertype), messageType,
domainNumber and sequenceId. -/
structure Ptp where
  carriage : Fin 3
  msgtype : Nat
  domain : Nat
  seqid : Nat
  deriving DecidableEq, Repr

/-- Where the frame's message begins and its ethertype, behind at most one IEEE 802.1Q tag. -/
def ethBody (b : List (BitVec 8)) : Nat × List (BitVec 8) :=
  let ty (o : Nat) : Nat := beNat ((b.drop o).take 2)
  if ty 12 = 0x8100 then (ty 16, b.drop 18) else (ty 12, b.drop 14)

/-- The destination port and the payload of a whole UDP datagram over IPv4, or over IPv6 without extension headers. -/
def udpBody (ty : Nat) (b : List (BitVec 8)) : Option (Nat × List (BitVec 8)) :=
  let at_ (o n : Nat) : Nat := beNat ((b.drop o).take n)
  let udp (o : Nat) : Option (Nat × List (BitVec 8)) := if b.length < o + 8 then none else some (at_ (o + 2) 2, b.drop (o + 8))
  if ty = 0x0800 ∧ at_ 0 1 / 16 = 4 ∧ at_ 9 1 = 17 ∧ at_ 6 2 % 0x4000 = 0 then udp (at_ 0 1 % 16 * 4)
  else if ty = 0x86DD ∧ at_ 0 1 / 16 = 6 ∧ at_ 6 1 = 17 then udp 40
  else none

/-- A message with majorVersion 2 and a messageType below 4. -/
def ptpOf (carriage : Fin 3) (b : List (BitVec 8)) : Option Ptp :=
  let at_ (o n : Nat) : Nat := beNat ((b.drop o).take n)
  if 34 ≤ b.length ∧ at_ 1 1 % 16 = 2 ∧ at_ 0 1 % 16 < 4 then some ⟨carriage, at_ 0 1 % 16, at_ 4 1, at_ 30 2⟩ else none

/-- The PTP event message of a frame (R278; the layouts of the headers: log entry 52). -/
def framePtp (b : List (BitVec 8)) : Option Ptp :=
  let e := ethBody b
  if e.1 = 0x88F7 then ptpOf 2 e.2
  else
    match udpBody e.1 e.2 with
    | some (319, p) => ptpOf (if e.1 = 0x0800 then 0 else 1) p
    | _ => none

/-- The enable bit of its carriage is set (R278). -/
def State.stamps (s : State) (x : Nat) (p : Ptp) : Bool :=
  s.flag (match p.carriage with | 0 => R.EMAC_TSCFG_UDP4 | 1 => R.EMAC_TSCFG_UDP6 | _ => R.EMAC_TSCFG_L2) 0 x

/-- A message's stamp, NT and GEN of this tick, enters its FIFO, or is dropped where that is full (R279). -/
def State.stamp (s : State) (x : Nat) (rx : Bool) (p : Ptp) : State :=
  let t : Stamp := ⟨p.msgtype, p.domain, p.seqid, s.tim.nt, s.rd R.TIM_NTSTAT_GEN⟩
  let e := s.emac x
  if rx then
    if 32 ≤ e.rx.length then (s.sat R.EMAC_TSSTAT_RXOVF 0 x).ev (0x41 + x) 2
    else (s.setEmac x { e with rx := e.rx ++ [t] }).stampView x
  else if 16 ≤ e.tx.length then (s.sat R.EMAC_TSSTAT_TXOVF 0 x).ev (0x41 + x) 2
  else (s.setEmac x { e with tx := e.tx ++ [t] }).stampView x

/-- The ns that `n` bytes take on a MAC's port. -/
def State.macNs (s : State) (x n : Nat) : Nat := match s.rd R.EMAC_LINK_SPEED 0 x with | 1 => 80 * n | 2 => 8 * n | _ => 0

/-- A frame passes a MAC: the tick of its start-frame delimiter, in which it is stamped, then its bytes and FCS. Whether it is a frame
that is stamped. -/
def State.passes (s : State) (x : Nat) (rx : Bool) (sfd : Nat) (b : List (BitVec 8)) : Bool × State :=
  let s := s.awaitMt sfd
  let r : Bool × State := match framePtp b with
    | some p => if s.stamps x p then (true, s.stamp x rx p) else (false, s)
    | none => (false, s)
  (r.1, r.2.awaitMt (sfd + s.macNs x (b.length + 4)))

/-- TS_POP (R279). -/
def State.stampPop (s : State) (x : Nat) (rx : Bool) : State :=
  let e := s.emac x
  (s.setEmac x (if rx then { e with rx := e.rx.drop 1 } else { e with tx := e.tx.drop 1 })).stampView x
def execTsPop (_m : BitVec 6) (mac : Fin 3) (rx : Bool) (s : State) : Res := .next <| s.onPage (0x41 + mac) fun s => s.stampPop mac rx

end Sys2Proof.Machine
end

