-- ==== Sys2Proof/Machine/Emac.lean ====
section
/-! DEFINITION. The MACs' rings (19, before R416, and R416): receiving, sending, link changes. MAC `x` is 0–2. -/

namespace Sys2Proof
open Machine

/-- The destination address of a frame. -/
def EthFrame.dst (f : EthFrame) : Nat := beNat (f.bytes.take 6)
/-- A UDP datagram to port 47121. -/
def EthFrame.ncp (f : EthFrame) : Bool :=
  let e := ethBody f.bytes
  match udpBody e.1 e.2 with | some (port, _) => port == 47121 | none => false

end Sys2Proof

namespace Sys2Proof.Machine

def macPage (x : Nat) : Nat := 0x41 + x
/-- The MAC's fabric master (18 Table 18.1). -/
def macMaster (x : Nat) : Nat := 0x10 + x

def State.rxRing (s : State) (x : Nat) : Nat := s.rd R.EMAC_RXBASELO 0 x * 64 + s.rd R.EMAC_RXBASEHI 0 x * 2 ^ 32
def State.txRing (s : State) (x : Nat) : Nat := s.rd R.EMAC_TXBASELO 0 x * 64 + s.rd R.EMAC_TXBASEHI 0 x * 2 ^ 32

/-- A ring satisfies Table 19.9: 16 to 4,095 descriptors, in DRAM. -/
def macRingOk (base size : Nat) : Bool :=
  decide (16 ≤ size) && decide (dramBase ≤ base) && decide (base + 16 * size ≤ 0x280000000)

/-- The check at enable: FAULT with code 0xE0, or both rings begin at their first descriptor (log entry 35). -/
def State.macCheck (s : State) (x : Nat) : State :=
  let s := s.setEmac x { s.emac x with sending := false, scan := false }
  if macRingOk (s.rxRing x) (s.rd R.EMAC_RXSIZE 0 x) && macRingOk (s.txRing x) (s.rd R.EMAC_TXSIZE 0 x) then
    (s.wr R.EMAC_RXHEAD 0 0 x).wr R.EMAC_TXHEAD 0 0 x
  else (s.toFault (macPage x)).err (macPage x) 0xE0 0x010

/-- The fields of the descriptor at an address. -/
def State.descAddr (s : State) (d : Nat) : Nat := s.rdLe d 8 % 2 ^ 36
def State.descLen (s : State) (d : Nat) : Nat := s.rdLe (d + 8) 2
def State.descOwn (s : State) (d : Nat) : Bool := nbit (s.rdLe (d + 10) 2) 15

/-- The own address of a MAC. -/
def State.macAddr (s : State) (x : Nat) : Nat := s.rd R.EMAC_ADDRLO 0 x + s.rd R.EMAC_ADDRHI 0 x * 2 ^ 32

/-- The hash bin of a destination: the top 6 bits of its CRC-32. -/
def hashBin (dst : Nat) : Nat := crc32 (beBytes 6 dst) / 2 ^ 26

/-- The MAC takes a frame to this destination: its own address, broadcast, multicast by hash or ALLMC, or every frame. -/
def State.macTakes (s : State) (x dst : Nat) : Bool :=
  let b := hashBin dst
  s.flag R.EMAC_MACCFG_PROMISC 0 x || dst == s.macAddr x || dst == 2 ^ 48 - 1 ||
    (nbit dst 40 && (s.flag R.EMAC_MACCFG_ALLMC 0 x ||
      nbit (if b < 32 then s.rd R.EMAC_MCHASH0 0 x else s.rd R.EMAC_MCHASH1 0 x) (b % 32)))

/-- A frame for which there is no descriptor: RXDROP, EVRAW bit 4. -/
def State.macDrop (s : State) (x : Nat) : State := (s.sat R.EMAC_CNT_RXDROP 0 x).ev (macPage x) 4

/-- The head after the one at `h` in a ring of `n`. -/
def ringNext (h n : Nat) : Nat := if h + 1 < n then h + 1 else 0

/-- The descriptor goes back with the frame's length and flags; the head moves on. -/
def State.rxReturn (s : State) (x d len flags : Nat) : State :=
  let s := s.memStore (macMaster x) (d + 8) (leBytes 2 len ++ leBytes 2 flags)
  s.wr R.EMAC_RXHEAD (ringNext (s.rd R.EMAC_RXHEAD 0 x) (s.rd R.EMAC_RXSIZE 0 x)) 0 x

/-- A frame that the MAC takes fills the next owned descriptor's buffer, or is dropped. -/
def State.macStore (s : State) (x : Nat) (f : EthFrame) (stamped : Bool) : State :=
  let s := if f.bad then s.sat R.EMAC_CNT_RXERR 0 x else s
  let d := s.rxRing x + 16 * s.rd R.EMAC_RXHEAD 0 x
  let r := s.dma (macMaster x) .read d 16
  if !r.1 then r.2.macDrop x
  else if !s.descOwn d then s.macDrop x
  else
    let a := s.descAddr d
    let r := s.dma (macMaster x) .write a f.bytes.length
    let w := r.2.dma (macMaster x) .write d 16
    if !r.1 || !w.1 then w.2.macDrop x
    else
      let s := ((s.memStore (macMaster x) a f.bytes).escReact).rxReturn x d f.bytes.length (b2n f.bad + 2 * b2n (f.ncp && !f.bad) + 4 * b2n stamped)
      if f.ncp && !f.bad then (s.wrap R.EMAC_CNT_NCP 0 x).ev (macPage x) 5 else s

/-- EMAC_FRAME_RECEIVED (R416). Frames of more than 1,522 bytes with their FCS are not accepted. A frame is stamped whatever becomes of
it (12 R278). A draining MAC completes a frame that has begun. -/
def execEmacFrameReceived (mac : Fin 3) (f : EthFrame) (s : State) : Res :=
  .next <|
    let x := mac.val
    if (s.on (macPage x) || s.running (macPage x) && decide (f.sfd.toNat ≤ s.mt)) && s.flag R.EMAC_MACCFG_RXEN 0 x && s.macTakes x f.dst && decide (f.bytes.length + 4 ≤ 1522) then
      let r := s.passes x true f.sfd.toNat f.bytes
      r.2.macStore x f r.1
    else s

/-- The MAC sends the descriptor at its head when it owns it; a scan ends at one that it does not own, or cannot read. -/
def State.macSend (s : State) (x : Nat) : State :=
  let d := s.txRing x + 16 * s.rd R.EMAC_TXHEAD 0 x
  let stop (s : State) : State := s.setEmac x { s.emac x with scan := false, sending := false }
  if !s.on (macPage x) || !s.flag R.EMAC_MACCFG_TXEN 0 x then stop s
  else
    let r := s.dma (macMaster x) .read d 16
    if !r.1 then stop r.2
    else if !s.descOwn d then stop s
    else
      let r := s.dma (macMaster x) .read (s.descAddr d) (s.descLen d)
      if !r.1 then stop r.2
      else
        let b := s.rbs (s.descAddr d) (s.descLen d)
        (s.out (.eth x b)).setEmac x { s.emac x with scan := true, sending := true, frame := b }

/-- EMAC_TXKICK (R416): the MAC scans its transmit ring. -/
def execEmacTxkick (_m : BitVec 6) (mac : Fin 3) (s : State) : Res :=
  .next <| s.onPage (macPage mac) fun s => if (s.emac mac).sending then s else s.macSend mac

/-- EMAC_FRAME_SENT (R416): the descriptor goes back, and the scan goes on. A frame with a PTP message is stamped (12 R278). -/
def execEmacFrameSent (mac : Fin 3) (sfd : BitVec 64) (s : State) : Res :=
  .next <|
    let x := mac.val
    if !(s.emac x).sending then s
    else
      let p := s.passes x false sfd.toNat (s.emac x).frame
      let s := p.2
      let h := s.rd R.EMAC_TXHEAD 0 x
      let d := s.txRing x + 16 * h
      let r := s.dma (macMaster x) .write d 16
      let s := if r.1 then s.memStore (macMaster x) (d + 10) (leBytes 2 (4 * b2n p.1)) else r.2
      let s := s.wr R.EMAC_TXHEAD (ringNext h (s.rd R.EMAC_TXSIZE 0 x)) 0 x
      s.macSend x

/-- EMAC_LINK_CHANGE (R416): EVRAW bit 3. -/
def execEmacLinkChange (mac : Fin 3) (up : Bool) (speed : Fin 3) (fdx : Bool) (s : State) : Res :=
  .next <|
    let x := mac.val
    if !s.present (macPage x) then s
    else
      let s := (s.put R.EMAC_LINK_UP up 0 x).wr R.EMAC_LINK_SPEED (if up then speed else 0) 0 x
      (s.put R.EMAC_LINK_FDX (up && fdx) 0 x).ev (macPage x) 3

end Sys2Proof.Machine
end

