-- ==== Sys2Proof/Machine/Er.lean ====
section
/-! DEFINITION. The event recorder (15): write requests, flushes, the log on NAND, reclaim and drops, cursors, clearing. -/

namespace Sys2Proof.Machine

/-- ER_WRITE_REQUEST (R329). -/
def execErWriteRequest (m : BitVec 6) (n : BitVec 8) (s : State) : Res :=
  .next <| s.onPage 0x51 fun s =>
    let ws := (upTo 256).map fun j => s.rd R.ER_WBUF j 0 m.toNat
    let seq := s.rd R.ER_SEQNEXT
    let r := s.erSubmit ws n.toNat
    let s := r.2.wr R.ER_WRES_RESULT r.1 0 0 m.toNat
    if r.1 = 0 then s.wr R.ER_WSEQ seq 0 0 m.toNat else s

/-- SEQNEXT_WRITE (R330). -/
def execSeqnextWrite (m : BitVec 6) (value : BitVec 32) (s : State) : Res :=
  .next <| s.onPage 0x51 fun s =>
    if s.er.accepted then s.err 0x51 0x91 0x108 else (s.wr R.ER_SEQNEXT value.toNat).cfgBump s 0x51 0x108 m.toNat

/-! The log on NAND (R331). A sector is 1 KiB, four to a page. -/

def State.sectorAt (s : State) (unit sec : Nat) : Nat × Nat := (s.unitBlock unit * 32 + sec / 4, sec % 4 * 1024)
def State.sectorWords (s : State) (unit sec : Nat) : List Nat :=
  let a := s.sectorAt unit sec
  let bs := s.nandGet a.1 a.2 1024
  (upTo 256).map fun j => leNat ((bs.drop (4 * j)).take 4)
def State.sectorPut (s : State) (unit sec : Nat) (ws : List Nat) : State :=
  let a := s.sectorAt unit sec
  s.nandPut a.1 a.2 (wordBytes ws)

/-- What a reader finds on the way: a record with whether it is still buffered, or a torn sector. -/
inductive LogItem where
  | record (words : List Nat) (inbuf : Bool)
  | torn
  deriving DecidableEq, Repr

/-- The walk of one sector (R332). -/
def walkSector (ws : List Nat) : Nat → List LogItem
  | 0 => []
  | n + 1 =>
    match ws with
    | [] => []
    | w :: _ =>
      if w = 0xFFFFFFFF ∨ recLen w < 8 then []
      else
        let l := recLen w
        let r := ws.take l
        if ws.length < l ∨ 8 ≤ recSev w ∨ r.getLastD 0 ≠ sealOf (r.take (l - 1)) then [.torn]
        else .record r false :: walkSector (ws.drop l) n

/-- A unit is erased. -/
def State.erErase (s : State) (i : Nat) : State := (s.nandErased (s.unitBlock i)).unitSet i 0 0 0
/-- A stop ends with any erase, and DROPS is written with the level that had been stopped (R337). -/
def State.erUnstop (s : State) : State :=
  if s.flag R.ER_STOP_ACTIVE then
    let lv := s.rd R.ER_STOP_LEVEL
    ((s.wr R.ER_STOP_ACTIVE 0).wr R.ER_STOP_LEVEL 0).erOwn 2 lv 12 s.dropWords
  else s

/-- The age of a SEQ (R330). -/
def State.seqAge (s : State) (q : Nat) : Nat := (s.rd R.ER_SEQNEXT + 2 ^ 32 - q) % 2 ^ 32

/-- The oldest unit of a list, by its first SEQ. -/
def State.oldestOf (s : State) (l : List Nat) : Option Nat :=
  l.foldl (fun a i =>
    match a with
    | some j => if s.seqAge (s.unitFirst j) < s.seqAge (s.unitFirst i) then some i else some j
    | none => some i) none

/-- The open unit is closed with its summary (R331, Table 15.4). -/
def State.erClose (s : State) : State :=
  match s.er.unit with
  | none => s
  | some u =>
    let ws := [0x4D534E55, s.unitFirst u, s.er.last, s.er.count, s.unitHi u, s.er.torn] ++ (upTo 249).map (fun _ => 0)
    let s := s.sectorPut u 127 (ws ++ [sealOf ws])
    (s.unitSet u (s.unitFirst u) (s.unitHi u) 2).setEr { s.er with unit := none, sector := 0, count := 0, torn := 0 }

/-- The erased unit that ER takes, none where the log is full (R336). -/
def State.erFree (s : State) : Option Nat := s.erUnits.find? fun i => s.unitState i == 0
/-- The oldest closed unit that a test admits. -/
def State.erOldest (s : State) (p : Nat → Bool) : Option Nat := s.oldestOf (s.erUnits.filter fun i => s.unitState i == 2 && p i)
/-- A unit for a record of severity `sev` (R336): an erased one, else the oldest closed one of lower HISEV, reclaimed. -/
def State.erUnit (s : State) (sev : Nat) : Option (Nat × State) :=
  match s.erFree with
  | some i => some (i, s)
  | none => (s.erOldest fun i => decide (s.unitHi i < sev)).map fun i => (i, ((s.erErase i).sat R.ER_COUNT_RECLAIMS).erUnstop)

/-- The unit becomes the open one. -/
def State.erOpen (s : State) (u first : Nat) : State :=
  (s.unitSet u first 0 1).setEr { s.er with unit := some u, sector := 0, count := 0, torn := 0 }

/-- The records from the front of a queue that fit into one sector of 256 words (R331, R333). -/
def fitSector : List (List Nat) → Nat → Nat
  | [], _ => 0
  | r :: rs, room => if r.length ≤ room then fitSector rs (room - r.length) + 1 else 0

/-- A sector has been written. -/
def State.sectorUsed (s : State) (unit sec : Nat) : Bool := (s.sectorWords unit sec).any (· != 0xFFFFFFFF)
def LogItem.torn? : LogItem → Bool
  | .torn => true
  | .record _ _ => false
def LogItem.seq : LogItem → List Nat
  | .torn => []
  | .record r _ => [recSeq r]

/-- The youngest unit that the table has as open. -/
def State.erOpenUnit (s : State) : Option Nat :=
  (s.erUnits.filter fun i => s.unitState i == 1).foldl (fun a i =>
    match a with
    | some j => if s.seqAge (s.unitFirst i) < s.seqAge (s.unitFirst j) then some i else some j
    | none => some i) none
/-- ER goes on in the youngest unit that its table has as open: behind its last written sector, with what the records in it say
(log entry 54). Torn sectors count (R332). -/
def State.erResume (s : State) : State :=
  match s.er.unit, s.erOpenUnit with
  | none, some u =>
    if s.crtState ≠ 3 ∧ s.crtState ≠ 5 then s
    else
      let secs := (upTo 127).filter fun k => s.sectorUsed u k
      let items := secs.flatMap fun k => walkSector (s.sectorWords u k) 32
      let seqs := items.flatMap LogItem.seq
      let torn := (items.filter LogItem.torn?).length
      (s.sat R.ER_TORN (d := torn)).setEr { s.er with unit := some u, sector := (secs.getLast?.map (· + 1)).getD 0, count := seqs.length
                                                      last := seqs.getLastD (s.unitFirst u), torn := torn }
  | _, _ => s

/-- The open unit for a record: the one that is open and has a sector left, else the one that R336 finds. -/
def State.erUnitFor (s : State) (r : List Nat) : Option State :=
  let s := s.erResume
  let s := if s.er.unit ≠ none ∧ 127 ≤ s.er.sector then s.erClose else s
  match s.er.unit with
  | some _ => some s
  | none => (s.erUnit (recSev (recW0 r))).map fun x => x.2.erOpen x.1 (recSeq r)

/-- The next sector of open unit `u` takes at most `most` queued records (R333). A unit whose program fails is retired, with code
0x92, and its records stay queued. How many records it took. -/
def State.erSector (s : State) (u most : Nat) (ok : Bool) : Nat × State :=
  if !ok then
    (0, ((s.unitSet u (s.unitFirst u) (s.unitHi u) 3).setEr { s.er with unit := none, sector := 0, count := 0 }).err 0x51 0x92 0x10C |>.erView)
  else
    let n := min (fitSector s.er.queue 256) most
    let rs := s.er.queue.take n
    let ws := rs.flatMap id
    let hi := rs.foldl (fun a r => max a (recSev (recW0 r))) (s.unitHi u)
    let s := s.sectorPut u s.er.sector (ws ++ (upTo (256 - ws.length)).map fun _ => 0xFFFFFFFF)
    let s := s.unitSet u (s.unitFirst u) hi 1
    (n, (s.setEr { s.er with queue := s.er.queue.drop n, sector := s.er.sector + 1, count := s.er.count + n
                             last := recSeq (rs.getLastD []) }).erView)

/-- The next sector is programmed with the queued records that fit in it, at most `most` of them (R333). A record for which no unit
qualifies is dropped (R337). How many records left the queue. -/
def State.erProgram (s : State) (most : Nat) (ok : Bool) : Nat × State :=
  match s.er.queue with
  | [] => (0, s)
  | r :: rest =>
    match s.erUnitFor r with
    | none =>
      let sev := recSev (recW0 r)
      (1, (((s.setEr { s.er with queue := rest }).erStop sev).erDrop sev).erView)
    | some s =>
      match s.er.unit with
      | none => (0, s)
      | some u => s.erSector u most ok

/-- ER writes to the cartridge. -/
def State.erWrites (s : State) : Bool := (s.crtState == 3 || s.crtState == 5) && s.running 0x51

/-- ER_SECTOR_PROGRAM (R333): with BC-1. -/
def execErSectorProgram (ok : Bool) (s : State) : Res :=
  .next <| if s.erWrites ∧ s.rd R.CRT_STAT_TYPE = 1 then (s.erProgram 256 ok).2 else s

/-- Records leave the queue until `n` of them are gone. -/
def State.erWriteOut (s : State) : Nat → Nat → State
  | 0, _ => s
  | _ + 1, 0 => s
  | f + 1, n =>
    let r := s.erProgram n true
    r.2.erWriteOut f (n - r.1)

/-- ER_FLUSH (R334): where one is due, else 10 s after the previous one began. -/
def execErFlush (s : State) : Res :=
  .next <|
    if s.erWrites ∧ s.rd R.CRT_STAT_TYPE = 2 ∧ !s.er.flushing then
      let s := if s.er.due then s else s.awaitMt (s.er.lastFlush + 10000000000)
      (s.setEr { s.er with flushing := true, flushN := s.er.queue.length, lastFlush := s.mt, due := false }).erView
    else s

/-- ER_FLUSH_COMPLETE (R334): every record accepted before it began is written; source 207. A supply reset that waited for it follows (03
R61). -/
def execErFlushComplete (s : State) : Res :=
  .next <|
    if !s.er.flushing then s
    else
      let s := if s.crtState = 3 ∨ s.crtState = 5 then s.erWriteOut (2 * s.er.flushN + 2) s.er.flushN else s
      let s := ((s.setEr { s.er with flushing := false, flushN := 0 }).wrap R.ER_COUNT_FLUSHES).ev 0x51 1 |>.erView
      s.supplyResetDue

/-- The entry into ON: LOGSTART with the sectors found torn (Table 15.3). -/
def State.erEnabled (s : State) : State :=
  let t := s.erResume
  t.erOwn 3 0 11 [s.rd R.ER_SEQNEXT, (if s.er.unit = none then t.er.torn else 0), s.rd R.ER_UNITS]
/-- The end of draining: the queue or buffer has been written out. -/
def State.erDrained (s : State) : State :=
  if s.crtActive then s.erWriteOut (2 * s.er.queue.length + 2) s.er.queue.length else s

/-! Reading (R332, R339). -/

/-- Units of the log, oldest first: those in use, by age of their first record. -/
def insertUnit (s : State) (i : Nat) : List Nat → List Nat
  | [] => [i]
  | j :: js => if s.seqAge (s.unitFirst j) < s.seqAge (s.unitFirst i) then i :: j :: js else j :: insertUnit s i js
def State.logUnits (s : State) : List Nat :=
  (s.erUnits.filter fun i => s.unitState i == 1 || s.unitState i == 2).foldl (fun l i => insertUnit s i l) []

/-- The log in SEQ order; from a CLEARED record on while a clear runs (R341). -/
def State.logItems (s : State) : List LogItem :=
  let nand := if s.crtActive then s.logUnits.flatMap fun u => (upTo 127).flatMap fun sec => walkSector (s.sectorWords u sec) 32 else []
  let all := nand ++ s.er.queue.map fun r => .record r true
  match s.er.clearing with
  | none => all
  | some q => all.filter fun i =>
      match i with
      | .record r _ => decide (s.seqAge (recSeq r) ≤ s.seqAge q)
      | .torn => false

/-- The first record of a list that passes a test, with the torn sectors met before it. -/
def seekItem (p : List Nat → Bool) : List LogItem → Nat → Option (List Nat × Bool) × Nat
  | [], t => (none, t)
  | .torn :: l, t => seekItem p l (t + 1)
  | .record r b :: l, t => if p r then (some (r, b), t) else seekItem p l 0

/-- A move ends (R339): the window, CURSOR and RSTAT of the master. -/
def State.erMoved (s : State) (m : Nat) (found : Option (List Nat × Bool) × Nat) : State :=
  let s := s.sat R.ER_TORN (d := found.2)
  match found.1 with
  | none => (s.wr R.ER_RSTAT_VALID 0 0 0 m).wr R.ER_RSTAT_END 1 0 0 m
  | some (r, b) =>
    let s := s.each (upTo 256) fun s j => s.wr R.ER_WINDOW (r.getD j 0) j 0 m
    let s := ((s.wr R.ER_CURSOR (recSeq r) 0 0 m).wr R.ER_RSTAT_LEN r.length 0 0 m).wr R.ER_RSTAT_VALID 1 0 0 m
    let s := (s.wr R.ER_RSTAT_END 0 0 0 m).put R.ER_RSTAT_INBUF b 0 0 m
    s.setEr { s.er with pos := smSet 0 s.er.pos m (recSeq r + 1) }

/-- What a move of kind `op` finds. -/
def State.erFind (s : State) (m op : Nat) : Option (List Nat × Bool) × Nat :=
  let items := s.logItems
  match op with
  | 1 => seekItem (fun _ => true) items 0
  | 2 => seekItem (fun _ => true) items.reverse 0
  | 3 => let q := s.rd R.ER_CURSOR 0 0 m; seekItem (fun r => decide (s.seqAge (recSeq r) ≤ s.seqAge q)) items 0
  | _ =>
    let q := smGet 0 s.er.pos m
    if q = 0 then seekItem (fun _ => true) items 0
    else seekItem (fun r => decide (s.seqAge (recSeq r) < s.seqAge (q - 1))) items 0

/-- A move begins: GO or NEXT reads 1 until it ends. -/
def State.erMove (s : State) (m op : Nat) : State :=
  if smGet 0 s.er.moves m ≠ 0 then s
  else
    let s := if op < 4 then ((s.wr R.ER_CURCMD_OP op 0 0 m).cfgBump s 0x51 0x124 m).wr R.ER_CURCMD_GO 1 0 0 m else s.wr R.ER_NEXT 1 0 0 m
    s.setEr { s.er with moves := smSet 0 s.er.moves m op }

/-- ER_CURSOR_OLDEST, ER_CURSOR_NEWEST, ER_CURSOR_SEEK, ER_NEXT (R339). -/
def execErCursorOldest (m : BitVec 6) (s : State) : Res := .next <| s.onPage 0x51 fun s => s.erMove m.toNat 1
def execErCursorNewest (m : BitVec 6) (s : State) : Res := .next <| s.onPage 0x51 fun s => s.erMove m.toNat 2
def execErCursorSeek (m : BitVec 6) (s : State) : Res := .next <| s.onPage 0x51 fun s => s.erMove m.toNat 3
def execErNext (m : BitVec 6) (s : State) : Res := .next <| s.onPage 0x51 fun s => s.erMove m.toNat 4

/-- ER_CURSOR_MOVE_COMPLETE (R339). -/
def execErCursorMoveComplete (m : BitVec 6) (s : State) : Res :=
  .next <|
    let op := smGet 0 s.er.moves m.toNat
    if op = 0 then s
    else
      let s := (s.wr R.ER_CURCMD_GO 0 0 0 m.toNat).wr R.ER_NEXT 0 0 0 m.toNat
      let s := s.setEr { s.er with moves := smSet 0 s.er.moves m.toNat 0 }
      s.erMoved m.toNat (s.erFind m.toNat op)

/-! Clearing (R340, R341). -/

/-- CLRTOKEN_READ (R340): a fresh non-zero token, a free value. -/
def State.tokenRead (s : State) : Nat × State :=
  let d := s.draw
  let t := d.1 % (2 ^ 32 - 1) + 1
  (t, d.2.setEr { d.2.er with token := some t, tokenAt := s.mt })
def execClrtokenRead (_m : BitVec 6) (s : State) : Res :=
  .next <| s.onRead 0x51 State.tokenRead

/-- CLEAR_TOKEN_EXPIRY (R340): 10 s after the read. -/
def execClearTokenExpiry (s : State) : Res :=
  .next <|
    if s.er.token = none then s
    else
      let s := s.awaitMt (s.er.tokenAt + 10000000000)
      s.setEr { s.er with token := none }

/-- Steps 1–3 of a clear: everything is written out, the open unit is closed, and CLEARED opens a unit, for which the oldest closed
one is erased where none is erased. A stop that this erase ends is reported behind CLEARED. -/
def State.erClearStart (s : State) : State :=
  let s := (s.erWriteOut (2 * s.er.queue.length + 2) s.er.queue.length).erClose
  let old := s.erOldest fun _ => true
  let first := match old with | some i => s.unitFirst i | none => s.rd R.ER_SEQNEXT
  let q := s.rd R.ER_SEQNEXT
  let body := [s.rd R.ER_CLRWHO_SESSION, s.rd R.ER_CLRWHO_ROLE, first, (q + 2 ^ 32 - 1) % 2 ^ 32] ++ s.dropWords
  let go (s : State) (u : Nat) : State :=
    let held := s.er.queue
    let s := (s.setEr { s.er with queue := [] }).erOwn 1 6 16 body
    let s := ((s.erOpen u q).erProgram 1 true).2
    (s.setEr { s.er with clearing := some q, queue := s.er.queue ++ held }).erView
  match s.erFree, old with
  | some u, _ => go s u
  | none, some u => (go (s.erErase u) u).erUnstop
  | none, none => s

/-- The token is valid: read within the last 10 s, not invalidated since. -/
def State.tokenOk (s : State) (v : Nat) : Bool := s.er.token == some v && decide (s.mt < s.er.tokenAt + 10000000000)

/-- The write to ER.CLR (R340): 0, or the code it is refused with. -/
def State.erClrCode (s : State) (priv : Bool) (v : Nat) : Nat :=
  if !priv || !s.tokenOk v then 0x93
  else if s.mode == 1 || s.er.clearing != none || !s.crtActive then 0x94 else 0
def State.erClr (s : State) (priv : Bool) (v : Nat) : State :=
  match s.erClrCode priv v with
  | 0 => s.erClearStart
  | 0x93 => (s.setEr { s.er with token := none }).err 0x51 0x93 0x13C
  | c => s.err 0x51 c 0x13C

/-- ER_CLR (R340, R341). -/
def execErClr (_m : BitVec 6) (priv : Bool) (value : BitVec 32) (s : State) : Res :=
  .next <| s.onPage 0x51 fun s => s.erClr priv value.toNat

/-- ER_CLEAR_COMPLETE (R341 steps 4 and 5): older units are erased, which ends a stop, then the drop counters and STOP are reset. -/
def execErClearComplete (s : State) : Res :=
  .next <|
    match s.er.clearing with
    | none => s
    | some q =>
      let old := s.erUnits.filter fun i => s.unitState i == 2 && decide (s.seqAge q < s.seqAge (s.unitFirst i))
      let s := s.each old State.erErase
      let s := if old = [] then s else s.erUnstop
      let s := s.each (upTo 4) fun s k => (s.wr R.ER_DROP_LOW 0 k).wr R.ER_DROP_HIGH 0 k
      let s := (s.wr R.ER_STOP_ACTIVE 0).wr R.ER_STOP_LEVEL 0
      (s.setEr { s.er with clearing := none }).erView

end Sys2Proof.Machine
end

