-- ==== Sys2Proof/Machine/Rb.lean ====
section
/-! DEFINITION. The rack-bus controllers (17): message objects, queues, transmission, error confinement. -/

namespace Sys2Proof.Machine

def rbPage (u : Nat) : Nat := 0x60 + u
def State.rb_ (s : State) (u : Nat) : RbSt := smGet {} s.racks u
def State.setRb (s : State) (u : Nat) (r : RbSt) : State := { s with racks := smSet {} s.racks u r }
def State.obj (s : State) (u i : Nat) : CanObj := smGet {} (s.rb_ u).objs i
def State.setObj (s : State) (u i : Nat) (o : CanObj) : State := s.setRb u { s.rb_ u with objs := smSet {} (s.rb_ u).objs i o }

/-- The bit of object `i` in one of the three words of a row. -/
def State.objBit (s : State) (r : Row) (u i : Nat) : Bool := nbit (s.rd r (i / 32) u) (i % 32)
def State.setObjBit (s : State) (r : Row) (u i : Nat) (b : Bool) : State := s.bitTo r (i % 32) b (i / 32) u
def State.anyObj (s : State) (r : Row) (u : Nat) : Bool := (upTo 3).any fun k => s.rd r k u != 0

/-- The conditions that are levels of object bits (EVRAW bits 0, 1 and 3). -/
def State.rbLevels (s : State) (u : Nat) : State :=
  let p := rbPage u
  let s := (s.evLevel p 0 (s.anyObj R.RB_RXNEW u)).evLevel p 1 (s.anyObj R.RB_TXDONE u || s.anyObj R.RB_TXFAIL u)
  s.evLevel p 3 (s.anyObj R.RB_RXOVFL u)

/-- The controller takes part in the bus: a node whose TEC has passed 255 is bus-off (R375). -/
def State.rbLive (s : State) (u : Nat) : Bool := s.running (rbPage u) && s.rd R.RB_ERR_STATE 0 u != 2 && decide ((s.rb_ u).tec ≤ 255)

/-- The controller drives no dominant bit: monitoring, in loopback (R378), or with a SEATED contact open (22 R448). -/
def State.rbMute (s : State) (u : Nat) : Bool := s.flag R.RB_CFG_MON 0 u || s.flag R.RB_CFG_LBK 0 u || !s.contactsMade
/-- What the controller drives, where it drives the bus. -/
def State.rbDrive (s : State) (u : Nat) (o : Out) : State := if s.rbMute u then s else s.out o

/-! Bit timing (R366, R367). -/

def State.rbTimingOk (s : State) (u : Nat) : Bool :=
  let f (r : Row) : Nat := s.rd r 0 u + 1
  let t1 := f R.RB_NBT_TSEG1M1
  let t2 := f R.RB_NBT_TSEG2M1
  let n := f R.RB_NBT_BRPM1 * (1 + t1 + t2)
  let d2 := f R.RB_DBT_DTSEG2M1
  let d := f R.RB_DBT_DBRPM1 * (1 + f R.RB_DBT_DTSEG1M1 + d2)
  decide (2 ≤ t1) && decide (2 ≤ t2) && decide (50 ≤ n ∧ n ≤ 400) && decide (f R.RB_NBT_SJWM1 ≤ t2) &&
    (!s.flag R.RB_CFG_FDEN 0 u ||
      (decide (10 ≤ d ∧ d ≤ n) && decide (f R.RB_DBT_DSJWM1 ≤ d2) && (decide (50 ≤ d) || s.flag R.RB_TDC_TDCEN 0 u)))

/-- A nominal time quantum and bit in ns, and the time from the start of a bit to its sample point. -/
def State.rbQuantum (s : State) (u : Nat) : Nat := 20 * (s.rd R.RB_NBT_BRPM1 0 u + 1)
def State.rbSample (s : State) (u : Nat) : Nat := s.rbQuantum u * (2 + s.rd R.RB_NBT_TSEG1M1 0 u)
def State.rbBit (s : State) (u : Nat) : Nat := s.rbSample u + s.rbQuantum u * (s.rd R.RB_NBT_TSEG2M1 0 u + 1)

/-- The controller watches for recessive bits from now on (R367, R375). -/
def State.rbWatch (s : State) (u : Nat) : State := s.setRb u { s.rb_ u with since := s.mt }
/-- Time goes on to the first instant at which `n` times 11 recessive bits can have passed. -/
def State.rbAwait (s : State) (u n : Nat) : State := s.awaitMt ((s.rb_ u).since + 11 * n * s.rbBit u)

/-- The check in STARTING: a failure puts the controller into FAULT with code 0xB1. -/
def State.rbCheck (s : State) (u : Nat) : State :=
  if s.rbTimingOk u then s.rbWatch u else (s.toFault (rbPage u)).err (rbPage u) 0xB1 0x104

/-- RB_BUS_IDLE (R367): a controller in STARTING enters ON, or DRAINING when EN has been cleared (02 Table 2.5). The recovery from bus-off
begins anew (R376). -/
def State.rbIdle (s : State) (u : Nat) : State :=
  if s.unit (rbPage u) = 1 then
    let s := (s.rbAwait u 1).rbWatch u
    s.setUnit (rbPage u) (if s.flag R.H_CTRL_EN 0 (rbPage u) then 2 else 3)
  else s
def execRbBusIdle (u : Fin 2) (s : State) : Res := .next <| if s.present (rbPage u) then s.rbIdle u else s

/-! Objects (R368). -/

/-- Payload bytes of a DLC (ISO 11898-1). -/
def dlcLen (fdf : Bool) (d : Nat) : Nat :=
  if d ≤ 8 then d else if !fdf then 8 else [12, 16, 20, 24, 32, 48, 64].getD (d - 9) 64

/-- Entries reserved by receive objects. -/
def RbSt.used (r : RbSt) : Nat := (r.objs.map fun e => if e.2.dir = 2 then e.2.qdepth else 0).sum
def State.poolView (s : State) (u : Nat) : State := s.wr R.RB_POOL_USED (s.rb_ u).used 0 u

/-- A request is cancelled (R373): at once, or after the attempt on the bus. -/
def State.rbCancel (s : State) (u i : Nat) : State :=
  if !s.objBit R.RB_TXPEND u i then s
  else if (s.rb_ u).tx = some i then s.setRb u { s.rb_ u with cancelled := true }
  else (s.setObjBit R.RB_TXPEND u i false).setObj u i { s.obj u i with txstate := 5 }

/-- An object with the staging registers of master `m`; its payload, DLC and send state are not written. -/
def State.rbStaged (s : State) (m u : Nat) (o : CanObj) : CanObj :=
  { o with
    dir := s.rd R.RB_OBJCFG_DIR 0 u m, ide := s.flag R.RB_OBJCFG_IDE 0 u m, fdf := s.flag R.RB_OBJCFG_FDF 0 u m, brs := s.flag R.RB_OBJCFG_BRS 0 u m,
    rtr := s.flag R.RB_OBJCFG_RTR 0 u m, lead := s.flag R.RB_OBJCFG_LEAD 0 u m, ftype := s.rd R.RB_OBJCFG_FTYPE 0 u m,
    retry := s.rd R.RB_OBJCFG_RETRY 0 u m, qdepth := s.rd R.RB_OBJCFG_QDEPTH 0 u m, id := s.rd R.RB_OBJID 0 u m, mask := s.rd R.RB_OBJMASK 0 u m }

/-- OBJCMD.WRITE (R368); a reserved DIR or object number is refused as the object's state is (log entry 34). -/
def State.rbWrite (s : State) (m u : Nat) : State :=
  let i := s.rd R.RB_OBJSEL_IDX 0 u m
  let o := s.obj u i
  let n := s.rbStaged m u o
  let p := rbPage u
  if 96 ≤ i then s.err p 0xB2 0x140
  else if n.dir = 0 then
    let s := s.rbCancel u i
    (s.setObj u i { s.rbStaged m u (s.obj u i) with queue := [] }).poolView u
  else if o.dir ≠ 0 ∨ n.dir = 3 ∨ (n.dir = 2 ∧ !(decide (1 ≤ n.qdepth ∧ n.qdepth ≤ 16))) then s.err p 0xB2 0x140
  else if n.dir = 2 ∧ 512 < (s.rb_ u).used + n.qdepth then s.err p 0xB3 0x140
  else (s.setObj u i n).poolView u

/-- RB_OBJ_WRITE (R368). -/
def execRbObjWrite (m : BitVec 6) (u : Fin 2) (s : State) : Res := .next <| s.onPage (rbPage u) fun s => s.rbWrite m.toNat u

/-- OBJCMD.READ: the staging registers and OBJSTAT of master `m`. -/
def State.rbRead (s : State) (m u : Nat) : State :=
  let o := s.obj u (s.rd R.RB_OBJSEL_IDX 0 u m)
  let s := ((s.wr R.RB_OBJCFG_DIR o.dir 0 u m).put R.RB_OBJCFG_IDE o.ide 0 u m).put R.RB_OBJCFG_FDF o.fdf 0 u m
  let s := ((s.put R.RB_OBJCFG_BRS o.brs 0 u m).put R.RB_OBJCFG_RTR o.rtr 0 u m).put R.RB_OBJCFG_LEAD o.lead 0 u m
  let s := ((s.wr R.RB_OBJCFG_FTYPE o.ftype 0 u m).wr R.RB_OBJCFG_DLC o.dlc 0 u m).wr R.RB_OBJCFG_RETRY o.retry 0 u m
  let s := ((s.wr R.RB_OBJCFG_QDEPTH o.qdepth 0 u m).wr R.RB_OBJID o.id 0 u m).wr R.RB_OBJMASK o.mask 0 u m
  let s := (s.wr R.RB_OBJSTAT_QCOUNT o.queue.length 0 u m).wr R.RB_OBJSTAT_TXSTATE o.txstate 0 u m
  (s.wr R.RB_OBJSTAT_ATTEMPTS (min 15 o.attempts) 0 u m).wr R.RB_OBJSTAT_QOVF (min 0xFFFF o.qovf) 0 u m

/-- RB_OBJ_READ (R368). -/
def execRbObjRead (m : BitVec 6) (u : Fin 2) (s : State) : Res := .next <| s.onPage (rbPage u) fun s => s.rbRead m.toNat u

/-- OBJCMD.LOAD (R372): TXBUF and DLC into the object. -/
def State.rbLoad (s : State) (m u : Nat) : State :=
  let i := s.rd R.RB_OBJSEL_IDX 0 u m
  if 96 ≤ i then s.err (rbPage u) 0xB2 0x140
  else if s.objBit R.RB_TXPEND u i then s.err (rbPage u) 0xB4 0x140
  else
    s.setObj u i { s.obj u i with
      dlc := s.rd R.RB_OBJCFG_DLC 0 u m, data := (upTo 16).flatMap fun j => leBytes 4 (s.rd R.RB_TXBUF j u m) }

/-- RB_OBJ_LOAD (R372). -/
def execRbObjLoad (m : BitVec 6) (u : Fin 2) (s : State) : Res := .next <| s.onPage (rbPage u) fun s => s.rbLoad m.toNat u

/-! Sending (R372–R374). -/

def bitsOf (k v : Nat) : List Nat := ((upTo 32).filter (nbit v)).map (· + 32 * k)

/-- A write of TXREQk (R372). -/
def State.rbRequest (s : State) (u k v : Nat) : State :=
  let is := bitsOf k v
  let s1 := s.each is fun s i =>
    if (s.obj u i).dir ≠ 1 ∨ s.objBit R.RB_TXPEND u i then s
    else (s.setObjBit R.RB_TXPEND u i true).setObj u i { s.obj u i with txstate := 1, attempts := 0 }
  if is.any fun i => (s.obj u i).dir != 1 then s1.err (rbPage u) 0xB2 (0x190 + 4 * k) else s1

/-- RB_TX_REQUEST (R372). -/
def execRbTxRequest (_m : BitVec 6) (u : Fin 2) (k : Fin 3) (bits : BitVec 32) (s : State) : Res :=
  .next <| s.onPage (rbPage u) fun s => s.rbRequest u k bits.toNat

/-- RB_TX_CANCEL (R373). -/
def execRbTxCancel (_m : BitVec 6) (u : Fin 2) (k : Fin 3) (bits : BitVec 32) (s : State) : Res :=
  .next <| s.onPage (rbPage u) fun s => s.each (bitsOf k bits.toNat) fun s i => s.rbCancel u i

/-- The arbitration field as a number, the lowest winning: base identifier, RTR or SRR, IDE, extension, RTR. -/
def CanObj.arb (o : CanObj) : Nat :=
  let rtr := b2n (o.rtr && !o.fdf)
  if o.ide then nfield o.id 18 11 * 2 ^ 21 + 2 ^ 20 + 2 ^ 19 + nfield o.id 0 18 * 2 + rtr else nfield o.id 0 11 * 2 ^ 21 + rtr * 2 ^ 20

/-- The object that sends next (R372, R374, R364). -/
def State.rbNext (s : State) (u : Nat) : Option Nat :=
  (upTo 96).foldl (fun best i =>
    let o := s.obj u i
    if s.objBit R.RB_TXPEND u i && (!o.lead || s.isLead) && (!o.fdf || s.flag R.RB_CFG_FDEN 0 u) then
      match best with
      | some b => if o.arb < (s.obj u b).arb then some i else some b
      | none => some i
    else best) none

/-- The frame of a send object; `esi`: the node is error-passive. -/
def CanObj.frame (o : CanObj) (esi : Bool) : CanFrame :=
  { id := BitVec.ofNat 29 (if o.ide then o.id else o.id % 2 ^ 11), ide := o.ide, rtr := o.rtr && !o.fdf, fdf := o.fdf, brs := o.fdf && o.brs,
    esi := o.fdf && esi, dlc := BitVec.ofNat 4 o.dlc, data := if o.rtr && !o.fdf then [] else o.data.take (dlcLen o.fdf o.dlc) }

/-- RB_TX_START (R372, R378): no new frame while draining or monitoring; in loopback nothing is driven. -/
def execRbTxStart (u : Fin 2) (s : State) : Res :=
  .next <|
    if !s.rbLive u || s.unit (rbPage u) != 2 || s.flag R.RB_CFG_MON 0 u || (s.rb_ u).tx.isSome then s
    else
      match s.rbNext u with
      | none => s
      | some i =>
        let f := (s.obj u i).frame (s.rd R.RB_ERR_STATE 0 u == 1)
        let s := s.setObj u i { s.obj u i with txstate := 2 }
        let s := s.setRb u { s.rb_ u with tx := some i, sent := some f, cancelled := false, txAt := s.mt }
        s.rbDrive u (.can u i f)

/-- The frame on the bus has ended, one way or another. -/
def State.rbTxEnd (s : State) (u : Nat) : State := s.setRb u { s.rb_ u with tx := none, sent := none, cancelled := false }

/-- A frame in transmission has reached its data phase: with delay compensation the loop delay has been measured, which no command brings:
a free value of at most 255 ns, in 50 MHz clocks (before Table 17.1). -/
def State.rbMeasure (s : State) (u : Nat) : State :=
  match (s.rb_ u).sent with
  | none => s
  | some f =>
    if f.brs && s.flag R.RB_TDC_TDCEN 0 u then
      let d := s.draw
      d.2.wr R.RB_TDC_TDCV (d.1 % 14) 0 u
    else s

/-! Error confinement (R375, R365). -/

/-- The counters and the error state; each change of STATE or WARN sets EVRAW bit 2. -/
def State.rbErr (s : State) (u tec rec_ : Nat) (off : Bool) : State :=
  let s := s.setRb u { s.rb_ u with tec := tec, rec_ := rec_ }
  let st := if off then 2 else if 128 ≤ tec ∨ 128 ≤ rec_ then 1 else 0
  let wn := decide (96 ≤ tec) || decide (96 ≤ rec_)
  let chg := s.rd R.RB_ERR_STATE 0 u != st || s.flag R.RB_ERR_WARN 0 u != wn
  let s := ((s.wr R.RB_ERR_TEC (min 255 tec) 0 u).wr R.RB_ERR_REC (min 255 rec_) 0 u).wr R.RB_ERR_STATE st 0 u
  let s := s.put R.RB_ERR_WARN wn 0 u
  if chg then s.ev (rbPage u) 2 else s
def State.rbIsOff (s : State) (u : Nat) : Bool := s.rd R.RB_ERR_STATE 0 u == 2

/-- A receive error (R375): LEC, the counter, and an error frame unless the controller drives no dominant bit (R378). -/
def State.rbReceiveError (s : State) (u kind : Nat) (inData heavy : Bool) : State :=
  let passive := s.rd R.RB_ERR_STATE 0 u == 1
  let s := s.wr (if inData then R.RB_LEC_DATA else R.RB_LEC_NOM) kind 0 u
  (s.rbErr u (s.rb_ u).tec (min 255 ((s.rb_ u).rec_ + if heavy then 8 else 1)) false).rbDrive u (.canError u passive)

/-- The last error by phase. -/
def State.rbLec (s : State) (u kind : Nat) (inData : Bool) : State := s.wr (if inData then R.RB_LEC_DATA else R.RB_LEC_NOM) kind 0 u

/-! Receiving (R369–R371). -/

/-- A receive object takes a frame (R369). -/
def CanObj.takes (o : CanObj) (f : CanFrame) : Bool :=
  let w := if f.ide then 2 ^ 29 else 2 ^ 11
  o.dir == 2 && o.ide == f.ide && (f.id.toNat ^^^ o.id) &&& o.mask % w == 0 && (o.ftype == 0 || o.ftype == 3 || (o.ftype == 2) == f.fdf)

/-- A valid frame is stored, or dropped and counted (R369, R370). -/
def State.rbStore (s : State) (u : Nat) (f : CanFrame) (at_ : Nat) : State :=
  match (upTo 96).find? fun i => (s.obj u i).takes f with
  | none => s.sat R.RB_CNT_NOMATCH 0 u
  | some i =>
    let o := s.obj u i
    if o.qdepth ≤ o.queue.length then
      ((s.setObj u i { o with qovf := o.qovf + 1 }).sat R.RB_RXOVF_COUNT 0 u).setObjBit R.RB_RXOVFL u i true
    else (s.setObj u i { o with queue := o.queue ++ [⟨f, at_⟩] }).setObjBit R.RB_RXNEW u i true

/-- RB_FRAME_RECEIVED (R369, R370): the frame is acknowledged and stored. The receive error counter falls by ISO 11898-1, from above 127 to
a free value of 119 to 127. An FD frame is answered with an error frame while FDEN is 0 (R364): a form error (DEDUCED, log entry 58). -/
def execRbFrameReceived (u : Fin 2) (f : CanFrame) (ago : BitVec 32) (s : State) : Res :=
  .next <|
    if !s.rbLive u then s
    else if f.fdf && !s.flag R.RB_CFG_FDEN 0 u then s.rbReceiveError u 2 false false
    else
      let s := ((s.rbDrive u (.canAck u)).rbStore u f (s.mt - ago.toNat)).rbLevels u
      let r := s.rb_ u
      if r.rec_ = 0 then s
      else if r.rec_ ≤ 127 then s.rbErr u r.tec (r.rec_ - 1) false
      else
        let d := s.draw
        d.2.rbErr u r.tec (119 + d.1 % 9) false

/-- In loopback the controller stores the frame it has sent, with the MT of the sample point of its SOF (R365, R370, R378); `r` as it was. -/
def State.rbLoop (s : State) (u : Nat) (r : RbSt) : State :=
  match r.sent with
  | some f => if s.flag R.RB_CFG_LBK 0 u then s.rbStore u f (r.txAt + s.rbSample u) else s
  | none => s

/-- RB_TX_SUCCESS (R372). -/
def execRbTxSuccess (u : Fin 2) (s : State) : Res :=
  .next <|
    match (s.rb_ u).tx with
    | none => s
    | some i =>
      let r := s.rb_ u
      let s := (s.rbMeasure u).rbTxEnd u
      let s := ((s.setObjBit R.RB_TXPEND u i false).setObjBit R.RB_TXDONE u i true).setObj u i { s.obj u i with txstate := 3 }
      let s := s.rbLoop u r
      (s.rbErr u ((s.rb_ u).tec - 1) (s.rb_ u).rec_ (s.rbIsOff u)).rbLevels u

/-- RB_TX_ERROR (R372, R373): lost arbitration is no attempt. -/
def execRbTxError (u : Fin 2) (kind : Fin 7) (inData : Bool) (counts : Bool) (lost : Bool) (s : State) : Res :=
  .next <|
    match (s.rb_ u).tx with
    | none => s
    | some i =>
      let gone := (s.rb_ u).cancelled
      let passive := s.rd R.RB_ERR_STATE 0 u == 1
      let s := (if inData && !lost then s.rbMeasure u else s).rbTxEnd u
      let o := s.obj u i
      let o := if lost then o else { o with attempts := o.attempts + 1 }
      let s := if lost then s else (s.rbLec u kind inData).rbDrive u (.canError u passive)
      let s := if counts && !lost then s.rbErr u ((s.rb_ u).tec + 8) (s.rb_ u).rec_ (s.rbIsOff u) else s
      let s :=
        if gone then (s.setObjBit R.RB_TXPEND u i false).setObj u i { o with txstate := 5 }
        else if !lost ∧ o.retry ≠ 15 ∧ o.retry < o.attempts then
          ((s.setObjBit R.RB_TXPEND u i false).setObjBit R.RB_TXFAIL u i true).setObj u i { o with txstate := 4 }
        else s.setObj u i { o with txstate := 1 }
      s.rbLevels u

/-- RB_RECEIVE_ERROR (R375). -/
def execRbReceiveError (u : Fin 2) (kind : Fin 7) (inData : Bool) (heavy : Bool) (s : State) : Res :=
  .next <|
    if s.rbLive u then s.rbReceiveError u kind inData heavy else s

/-- RB_BUS_OFF (R375): TEC has passed 255. -/
def execRbBusOff (u : Fin 2) (s : State) : Res :=
  .next <| if (s.rb_ u).tec ≤ 255 ∨ s.rbIsOff u then s else ((s.sat R.RB_CNT_BUSOFF 0 u).rbErr u (s.rb_ u).tec (s.rb_ u).rec_ true).rbWatch u

/-- RB_BUSOFF_RECOVERY (R375). -/
def execRbBusoffRecovery (u : Fin 2) (s : State) : Res :=
  .next <| if s.rbIsOff u ∧ s.running (rbPage u) then (s.rbAwait u 128).rbErr u 0 0 false else s

/-- The selected entry as master `m` reads it (R371). -/
def State.rbRxView (s : State) (m u : Nat) : State :=
  let q := (s.obj u (s.rd R.RB_RXSEL_OBJ 0 u m)).queue
  let n := s.rd R.RB_RXSEL_POS 0 u m
  let e := q.getD n ⟨⟨0, false, false, false, false, false, 0, []⟩, 0⟩
  let f := e.frame
  let s := ((s.wr R.RB_RXHDR_ID f.id.toNat 0 u m).put R.RB_RXHDR_IDE f.ide 0 u m).put R.RB_RXHDR_RTR f.rtr 0 u m
  let s := ((s.put R.RB_RXHDR_FDF f.fdf 0 u m).wr R.RB_RXFLG_DLC f.dlc.toNat 0 u m).put R.RB_RXFLG_BRS f.brs 0 u m
  let s := ((s.put R.RB_RXFLG_ESI f.esi 0 u m).wr R.RB_RXFLG_LEN f.data.length 0 u m).put R.RB_RXFLG_VALID (decide (n < q.length)) 0 u m
  let s := s.wr2 R.RB_RXMTLO R.RB_RXMTHI e.mt 0 u m
  s.each (upTo 16) fun s j => s.wr R.RB_RXDATA (leNat ((f.data.drop (4 * j)).take 4)) j u m

/-- RB_RX_SELECT (R371). -/
def execRbRxSelect (m : BitVec 6) (u : Fin 2) (obj : BitVec 7) (pos : BitVec 4) (s : State) : Res :=
  .next <| s.onPage (rbPage u) fun s =>
    let t := (s.wr R.RB_RXSEL_OBJ obj.toNat 0 u m.toNat).wr R.RB_RXSEL_POS pos.toNat 0 u m.toNat
    (t.cfgBump s (rbPage u) 0x1E4 m.toNat).rbRxView m.toNat u

/-- RB_RX_ACK (R371). -/
def State.rbAck (s : State) (u i n : Nat) : State :=
  let o := s.obj u i
  let t := s.setObj u i { o with queue := o.queue.drop n }
  if o.queue.length < n then t.err (rbPage u) 0xB6 0x1E8 else t
def execRbRxAck (_m : BitVec 6) (u : Fin 2) (obj : BitVec 7) (n : BitVec 5) (s : State) : Res :=
  .next <| s.onPage (rbPage u) fun s => s.rbAck u obj.toNat n.toNat

/-- A soft reset clears objects, queues, requests and counters (R376). -/
def State.rbReset (s : State) (u : Nat) : State :=
  let s := s.each [R.RB_TXPEND, R.RB_TXDONE, R.RB_TXFAIL, R.RB_RXNEW, R.RB_RXOVFL] fun s r => s.each (upTo 3) fun s k => s.wr r 0 k u
  let s := (s.setRb u {}).poolView u
  let s := ((s.wr R.RB_CNT_BUSOFF 0 0 u).wr R.RB_CNT_NOMATCH 0 0 u).wr R.RB_RXOVF_COUNT 0 0 u
  let s := ((s.wr R.RB_ERR_TEC 0 0 u).wr R.RB_ERR_REC 0 0 u).wr R.RB_ERR_STATE 0 0 u
  (s.wr R.RB_ERR_WARN 0 0 u).rbLevels u

end Sys2Proof.Machine
end

