-- ==== Sys2Proof/Machine/Claims.lean ====
section
/-! DEFINITION. Claims for the lease (11 R245, R250–R253, R257): made, won, withdrawn. -/

namespace Sys2Proof.Machine

/-- A claim is made (R245): EPOCH + 1. In a module without arbiters it needs no majority (R257). `cyc`: 0 within a cycle, 1 at its end. -/
def State.makeClaim (s : State) (kind cyc : Nat) : State :=
  if s.rd R.PAIR_EPOCH ≥ 0xFFFFFFFE then s.err 0x3A 0x56 0x104
  else
    let s := s.setClaim ((s.rd R.PAIR_EPOCH + 1) * 2 + s.side)
    let s := { s.wr R.PAIR_STAT_ROLE 3 with pr := { s.pr with claimKind := kind, claimCyc := cyc } }
    let s := if kind = 1 then s.sealCancel else s
    if kind = 2 then s.wr R.PAIR_STAT_CASTLE 2 else s

/-- A claim is withdrawn (R253). -/
def State.withdraw (s : State) : State :=
  let kind := s.pr.claimKind
  let s := { s.setClaim 0 with pr := { s.pr with claimKind := 0, claimCyc := 0 } }
  let s := s.wr R.PAIR_STAT_ROLE (if s.isTrack then 2 else 0)
  match kind with
  | 1 => s.setSync false
  | 2 => s.castEnd 2
  | 3 => { s.setMode 4 3 with sys := { s.sys with restart := 0 } }
  | _ => s.setMode 4 3

/-- A claim is won (Table 11.6). A restart's claim holds the lease until firmware asks for LEAD (03 R53); in TRACK, PAIR enters LEAD
itself (03 Table 3.2). -/
def State.claimWon (s : State) : State :=
  match s.pr.claimKind with
  | 1 =>
    let s := { s with pr := { s.pr with claimKind := 0, claimCyc := 0 } }
    ((s.enterLead true).wr R.PAIR_LEASE_NOMAJ 0).ev 0x3A 5
  | 2 => { s.wr R.PAIR_STAT_CASTLE 3 with pr := { s.pr with castMaj := true } }
  | 3 =>
    if s.isTrack then
      let s := { s with pr := { s.pr with claimKind := 0, claimCyc := 0 }, sys := { s.sys with restart := 0 } }
      ((s.enterLead true).wr R.PAIR_LEASE_NOMAJ 0).ev 0x3A 5
    else s.wr R.PAIR_STAT_LEASE 1
  | _ => { s.wr R.PAIR_LEASE_NOMAJ 0 with pr := { s.pr with claimKind := 0, claimCyc := 0 } }

/-- A claim is made, and won at once where there are no arbiters (R257). -/
def State.claim_ (s : State) (kind cyc : Nat) : State :=
  let s := s.makeClaim kind cyc
  if s.pr.claimKind = kind ∧ s.rd R.PAIR_ARB_N = 0 then s.claimWon else s

end Sys2Proof.Machine
end

