-- ==== Sys2Proof/Machine/Restart.lean ====
section
/-! DEFINITION. Restarts, the start policy, and the beginning of a join (03 R53–R56, Tables 3.4–3.6; 11 R242, R252). -/

namespace Sys2Proof.Machine

/-! What a restart initialises (Table 3.6). -/

/-- Stations are ABSENT and integrate anew. -/
def State.stationsAbsent (s : State) : State :=
  s.each (segs.flatMap fun g => (upTo 32).map fun k => (g, k)) fun s e => s.setStation e.1 e.2 0

/-- All instance memory at its initial values: 0 but for the bytes of the initial-value area. -/
def State.instInit (s : State) : State :=
  let s := { s with mem := s.mem.filter fun e => !(decide (instBase ≤ e.1) && decide (e.1 < instBase + 0x2000000)) }
  match s.ncp.archive with
  | some a => s.each a.initial fun s e => if e.1 < s.instSize then s.wb (instBase + e.1) e.2 else s
  | none => s

/-- The board-image input areas: BAD, no value yet, of the highest age. -/
def State.inputsInit (s : State) : State :=
  s.each (listParts.flatMap fun p => s.listAt s.half (s.freezeList s.half p)) fun s e =>
    s.each (upTo e.lines) fun s j => s.iWr (e.area + 16 * j) 16 (mkTv 0 (mkQ 0 1 0 0) ageMax)

/-- The force table becomes `f`, and its entries act on memory. -/
def State.setForces (s : State) (f : SMap Force) : State :=
  let s := { s with xe := { s.xe with forces := f, ftPend := [] } }
  (f.foldl (fun s e => s.applyForce e.2) s).ftView

/-- Flag-fall counters 0. -/
def State.flagsInit (s : State) : State := s.each (upTo 3) fun s n => (s.wr R.XE_CLS_FF_TOTAL 0 n).wr R.XE_CLS_FF_CONSEC 0 n

/-- The staged half is empty, and nothing can be unsealed. -/
def State.stagedInit (s : State) : State :=
  let s := ((s.wr R.XE_MM_HDR_VALID 0 (1 - s.half)).wr R.XE_SM_STAT_REVOK 0).stagedView
  if s.rd R.XE_SM_STAT_STATE = 2 then s.wr R.XE_SM_STAT_STATE 0 else s

/-- What a cold and a warm restart share. C2 goes on from ply `c2`. -/
def State.restartInit (s : State) (f : SMap Force) (c2 : Nat) : State :=
  let s := (s.inputsInit.setForces f).flagsInit.stagedInit.stationsAbsent
  let s := ((s.wr R.XE_CLS_PLY 0 0).wr R.XE_CLS_PLY c2 1).wr R.XE_CLS_PLY 0 2
  let s := s.setCrt { s.crt with lastC2 := c2 }
  { s with xe := { s.xe with takes := [], takeMts := [], lastTv := [], subst := [], marks := [], warm := none } }

/-- A checkpoint of the retain area as it stands, with BEGIN and END `ply` (Table 3.6, Cold). -/
def State.ckWhole (s : State) (ply : Nat) : State :=
  if !s.crtActive then s
  else
    let slot := if s.crt.ckSeq = 0 then 0 else 1 - s.rd R.CRT_CKPT_SLOT
    let s := (s.setCrt { s.crt with hold := [], ck := none }).ckStart slot ply false
    let s := s.mw (slotData slot) (s.rbs (instBase + s.rd R.XE_RET_BASE) (s.rd R.XE_RET_SIZE))
    match s.crt.ck with
    | some k => s.ckFinish k ply
    | none => s

/-- A cold restart (Table 3.6). The force record follows the force table (14 R318). -/
def State.coldInit (s : State) : State :=
  let s := (s.instInit.restartInit [] 0).ckWhole 0
  let s := if s.crtActive then s.frWrite else s
  s.wr R.SYS_MODE_RESTART 2

/-- D of R56, in µs: the calendar now less the calendar of the last sealed entry; none where the calendar cannot give it. -/
def State.warmD (s : State) (sec sub : Nat) : Option Nat :=
  if !s.flag R.BKD_STAT_RTC_VALID || s.flag R.BKD_STAT_LOSTSEEN then none
  else some ((s.bk.cal.seconds * 32768 + s.presc - (sec * 32768 + sub)) * 1000000 / 32768)

/-- A warm restart (R54, R56; 14 R317): none where it is not possible. -/
def State.warmInit (s : State) : Option State :=
  match s.instInit.restore with
  | none => none
  | some r =>
    let t := r.s.restartInit r.s.frLoad r.sealed_
    let offs := match t.ncp.archive with | some a => a.retained | none => []
    let t := { t with xe := { t.xe with warm := some ⟨t.warmD r.sec r.sub, t.mt, offs⟩ } }
    some (((t.setCrt { t.crt with sealed_ := r.sealed_ }).wr R.CRT_JNL_LASTPLY r.sealed_).wr R.SYS_MODE_RESTART 1)

/-! The claim after a restart (R53, 11 R252). -/

/-- No lead is seen or heard (11 R252). -/
def State.noLeadSeen (s : State) : Bool :=
  !s.pr.beacon0 && !s.pr.beacon1 &&
    !(s.flag R.PAIR_STAT_PARTNER && !s.pr.silent && (s.rd R.PAIR_STAT_PMODE == 3 || nbit s.pr.pflags 4))

/-- The restarted module claims the lease; where it may not, the claim fails at once: HOLD with HOLDCAUSE 3. -/
def State.restartClaim (s : State) (kind : Nat) : State :=
  let s := { s with sys := { s.sys with restart := kind } }
  let t := if s.noLeadSeen then s.claim_ 3 0 else s
  if t.pr.claimKind = 3 ∨ t.isLead then t else { t.setMode 4 3 with sys := { t.sys with restart := 0 } }

/-- A warm restart, or what `t` is where it is not possible. -/
def State.warmOr (s t : State) : State :=
  match s.warmInit with
  | some w => w.restartClaim 1
  | none => t

/-- The start policy (Table 3.5); NEXTSTART.KIND replaces it once (R53). A reserved code acts as HOLD (log entry 36). -/
def State.startPolicy (s : State) : State :=
  let kind := s.rd R.SYS_NEXTSTART_KIND
  let pol := if kind = 0 then s.rd R.SYS_STARTPOL_POLICY else if kind = 3 then 0 else kind
  let s := s.fwWrite 0x00 0x120 0
  match pol with
  | 1 => s.warmOr (s.setMode 4 6)
  | 2 => s.coldInit.restartClaim 2
  | 3 => s.warmOr (s.coldInit.restartClaim 2)
  | 4 => s.warmOr (s.setMode 4 6)
  | _ => s.setMode 4 7

/-! Joining (11 R242–R244). -/

/-- A join begins in this module: Program when the layouts differ or REVOK is 1 in the lead, else Bulk (R242). -/
def State.joinBegin (s : State) (lead : Bool) (prog : Bool) : State :=
  let s := ((s.wr R.PAIR_SYNC_STAT_PHASE (if prog then 1 else 2)).wr R.PAIR_SYNC_STAT_ROUNDS 0).wr R.PAIR_SYNC_STAT_FAIL 0
  { s with pr := { s.pr with
    joinLead := lead, dirty := [], round := 0, finalW := 0, finalLines := [],
    rx := (if lead then s.pr.rx else []), rxSeq := (if lead then s.pr.rxSeq else []) } }

/-- A join may start: TRACK unsynchronised, the partner LEAD and not mismatched, no join in progress. -/
def State.canJoin (s : State) : Bool :=
  let ph := s.rd R.PAIR_SYNC_STAT_PHASE
  s.isTrack && !s.flag R.PAIR_STAT_SYNC && s.rd R.PAIR_STAT_PMODE == 3 && s.flag R.PAIR_STAT_PARTNER &&
    s.rd R.PAIR_STAT_MISMATCH == 0 && !decide (1 ≤ ph ∧ ph ≤ 4)

/-- A join starts in the joining module (Table 3.6, Join). -/
def State.joinStart (s : State) : State :=
  let s := s.joinBegin false (s.pr.playout != s.layoutId)
  (s.flagsInit.stationsAbsent.wr R.XE_SM_STAT_REVOK 0).wr R.SYS_MODE_RESTART 3

/-- Side B, waiting for its partner (Table 3.4), joins a lead, and applies its start policy when the partner is in HOLD or SERVICE, or
is lost. -/
def State.partnerPolicy (s : State) : State :=
  if !s.sys.partnerWait || !s.isTrack then s
  else
    let t := { s with sys := { s.sys with partnerWait := false } }
    let pm := s.rd R.PAIR_STAT_PMODE
    if !s.flag R.PAIR_STAT_PARTNER || pm == 4 || pm == 5 then t.startPolicy
    else if pm = 3 then (if t.canJoin then t.joinStart else t)
    else s

/-! The end of START (R52). -/

/-- The partner is LEAD: by its HEARTBEATs, or by the BEACON of step 0x08 (11 R233). -/
def State.partnerLeads (s : State) : Bool :=
  s.flag R.PAIR_STAT_PARTNER && (s.rd R.PAIR_STAT_PMODE == 3 || (s.rd R.PAIR_STAT_PMODE == 0 && s.pr.step8 == 2))

/-- The rows of Table 3.4 below the mismatch, for a module without a leading partner. -/
def State.endAlone (s : State) (partner : Bool) : State :=
  if nbit s.sys.failed 7 then s.setMode 4 5
  else if partner ∧ s.side = 1 then { s.setMode 2 0 with sys := { (s.setMode 2 0).sys with partnerWait := true } }
  else s.startPolicy

/-- The first row of Table 3.4 that holds (R52), with Table 11.3 on a mismatch. -/
def State.endStart (s : State) : State :=
  let mis := s.rd R.PAIR_STAT_MISMATCH
  if nbit s.sys.failed 4 || nbit s.sys.failed 5 then s.setMode 4 4
  else if mis ≠ 0 then
    if mis = 4 ∨ s.partnerLeads ∨ s.side = 1 then s.setMode 4 8 else s.endAlone false
  else if s.partnerLeads then
    let t := s.setMode 2 0
    if t.canJoin then t.joinStart else t
  else s.endAlone (s.flag R.PAIR_STAT_PARTNER)

/-- What firmware records at a start: the safety faults since power-on (21 R443), a loss of the backup domain (13 R288). -/
def State.startRecords (s : State) : State :=
  let s := if s.rd R.SAF_CAUSES ≠ 0 then s.fwRecord else s
  if s.flag R.BKD_STAT_LOSTSEEN then s.fwRecord else s

/-- END_OF_START (R52): at step 0x09. -/
def execEndOfStart (s : State) : Res :=
  .next <| if s.mode = 1 ∧ !s.sys.resetHeld ∧ s.rd R.SYS_STARTSTEP_STEP = 9 then s.startRecords.endStart else s

end Sys2Proof.Machine
end

