-- ==== Sys2Proof/Machine/Pair.lean ====
section
/-! DEFINITION. The pair (11): heartbeats and partner detection, mirror reception, joins, claims, leases and castling. -/

namespace Sys2Proof.Machine

/-! Heartbeats (R232–R234, R239). -/

def State.hbok (s : State) (l : Nat) : Bool := s.flag R.PL_STAT_HBOK 0 l
def State.setHbok (s : State) (l : Nat) (b : Bool) : State :=
  let s := s.put R.PL_STAT_HBOK b 0 l
  s.bitTo R.PAIR_STAT_LINKS l b

/-- EPOCH takes an epoch seen, the module's own included (R245). -/
def State.seeEpoch (s : State) (e : Nat) : State := s.wr R.PAIR_EPOCH (max (s.rd R.PAIR_EPOCH) (e % 2 ^ 32))
/-- The highest claim seen from the other side. -/
def State.seeClaim (s : State) (c : Nat) : State :=
  let s := s.seeEpoch (c / 2)
  s.wr2 R.PAIR_SEENLO R.PAIR_SEENHI (max c (s.rd2 R.PAIR_SEENLO R.PAIR_SEENHI))

def State.pairVersion (s : State) : Nat := s.rd R.PAIR_LOCAL_FWVER

/-- The payload of a HEARTBEAT on link `l` (Table 11.2). -/
def State.hbBytes (s : State) (l : Nat) : List (BitVec 8) :=
  let rx := if l = 0 then s.pr.rx0 else s.pr.rx1
  leBytes 1 s.mode ++ leBytes 1 s.hbFlags ++ leBytes 1 (s.rd R.SYS_IDENT_VARIANT) ++ leBytes 1 (s.rd R.SYS_MODE_HOLDCAUSE) ++
    leBytes 2 (s.rd R.PAIR_LOCAL_MFV) ++ leBytes 2 s.pairVersion ++ leBytes 8 s.ownClaim ++ leBytes 4 (s.rd R.PAIR_EPOCH) ++
    leBytes 4 0 ++ leBytes 8 s.mt ++ leBytes 8 rx.1 ++ leBytes 8 rx.2 ++ leBytes 16 s.layoutId

/-- HEARTBEAT_SEND (R232): from start step 0x08 on. -/
def execHeartbeatSend (s : State) : Res :=
  .next <|
    if s.mode = 0 ∨ (s.mode = 1 ∧ s.rd R.SYS_STARTSTEP_STEP < 8) then s
    else
      let s := s.seeEpoch (s.ownClaim / 2)
      s.each s.upLinks fun s l => s.plSend l 0x01 0 (s.hbBytes l)

/-- The first difference of R234: 1 variant, 2 MFV, 3 firmware major, 4 equal sides; 0 none. -/
def State.mismatchOf (s : State) (hb : Heartbeat) : Nat :=
  if hb.variant.toNat ≠ s.rd R.SYS_IDENT_VARIANT then 1
  else if hb.mfv.toNat ≠ s.rd R.PAIR_LOCAL_MFV then 2
  else if hb.fwver.toNat / 256 ≠ s.pairVersion / 256 then 3
  else if hb.flags.toNat % 2 = s.side then 4
  else 0

/-- The partner is detected: source 166, and the comparison of R234. A difference of variant in START goes to the event recorder (00 R5). -/
def State.detect (s : State) (hb : Heartbeat) : State :=
  let s := (s.wr R.PAIR_STAT_PARTNER 1).ev 0x3A 2
  let x := s.mismatchOf hb
  let s := s.wr R.PAIR_STAT_MISMATCH x
  if x = 0 then s
  else
    let s := s.ev 0x3A (if x = 1 then 10 else 9)
    let s := if x = 1 ∧ s.mode = 1 then s.fwRecord else s
    if s.isLead then s.setPsync false else s

/-- The lead sends all populated instance memory in BULK frames, alternately on the links that are up (R242). -/
def State.sendBulk (s : State) (lines : List (Nat × Nat)) : State :=
  s.each lines fun s p =>
    let data := chunkBytes 0 0 p.1 0 (s.rbs (instBase + p.1) p.2)
    match s.upLinks with
    | [] => s
    | [l] => s.chunkSend l 0x07 0 data
    | _ => s.chunkSend (p.1 / 4096 % 2) 0x07 0 data
def State.sendAll (s : State) : State := s.sendBulk (pieces 0 s.instSize)

/-! What the lead sends of its program (R242 step 1, R243), in the order in which the partner installs it. -/

/-- The bytes of half `h`: its move memory up to the last used row, and its constants. -/
def State.sendHalf (s : State) (staged : Bool) (h : Nat) : State :=
  let go (s : State) (base n : Nat) (c : Bool) : State :=
    s.each (pieces 0 n) fun s p => s.fwdSend (.join (.half staged c (BitVec.ofNat 32 p.1) (s.rbs (base + p.1) p.2)))
  go (go s (moveBase h) (min 0x1000000 (16 * s.hdrUsed h)) false) (constBase h) (min constSize (s.hdr h 0x024 4)) true
/-- A mirror list up to its last entry; none where it was never loaded. -/
def State.sendList (s : State) (staged : Bool) (l : SMap Nat) : State :=
  if l = [] then s else s.fwdSend (.join (.mirrorList staged ((upTo (4 + 4 * mlCount l)).map fun i => BitVec.ofNat 32 (smGet 0 l i))))
/-- A force table. -/
def Force.msg (i : Nat) (f : Force) : ForceMsg :=
  ⟨BitVec.ofNat 10 i, BitVec.ofNat 32 f.symid, BitVec.ofNat 32 (f.offset + b2n f.tvf * 2 ^ 30 + b2n f.valid * 2 ^ 31), BitVec.ofNat 32 f.type,
    BitVec.ofNat 128 f.value, BitVec.ofNat 128 f.mask⟩
def State.sendForces (s : State) (staged : Bool) (t : SMap Force) : State :=
  s.fwdSend (.join (.forces staged (t.map fun e => e.2.msg e.1)))
def State.sendProgram (s : State) : State :=
  let a := s.half
  let s := s.sendHalf false a
  let s := if s.halfValid (1 - a) then s.sendHalf true (1 - a) else s
  let s := (s.sendList false s.pr.active).sendList true s.pr.staged
  let s := s.each [0, 1, 2] fun s n =>
    s.fwdSend (.join (.cls n (BitVec.ofNat 32 (s.wordOf 0 (fieldsAt 0x11 (0x20 * n.val)))) (BitVec.ofNat 32 (s.wordOf 0 (fieldsAt 0x11 (0x20 * n.val + 4))))))
  s.sendForces true s.xe.staged

/-- The lead sees that its partner joins (R242): its program where that is to go, its ply numbers and active forces in any case (03 Table
3.6). -/
def State.leadJoin (s : State) : State :=
  let prog := s.pr.playout != s.layoutId || s.flag R.XE_SM_STAT_REVOK
  let s := s.joinBegin true prog
  let s := if prog then s.sendProgram else s
  let ply (n : Nat) : BitVec 32 := BitVec.ofNat 32 (s.rd R.XE_CLS_PLY n)
  let s := (s.fwdSend (.join (.plies (ply 0) (ply 1) (ply 2)))).sendForces false s.forcesNow
  if prog then s else s.sendAll

/-- The outgoing module leads again when the new lead went to HOLD with HOLDCAUSE 4 (R262): a new claim, next triggers placed anew. -/
def State.leadAgain (s : State) : State :=
  let s := s.castEnd 5
  let s := { s with pr := { s.pr with handed := false, claimKind := 4, claimCyc := 0 } }
  let s := (s.wr R.PAIR_STAT_ROLE 1).wr R.PAIR_STAT_SYNC 0
  let s := s.each (upTo 3) fun s n => if s.flag R.XE_CLS_CFG_EN n then s.anchorNew n else s
  let ep := s.rd R.PAIR_EPOCH
  if ep ≥ 0xFFFFFFFE then (s.err 0x3A 0x56 0x104).setMode 4 3 else s.setClaim ((ep + 1) * 2 + s.side)

/-- How far the partner's claim of a castling is (R260): CLAIMING, CASTLING of its HEARTBEAT. -/
def State.castFollow (s : State) (claiming castling track : Bool) : State :=
  let s := if claiming && s.rd R.PAIR_STAT_CASTLE == 1 then s.wr R.PAIR_STAT_CASTLE 2 else s
  let at2 : Bool := s.rd R.PAIR_STAT_CASTLE == 2
  if castling && !claiming && track && at2 then
    let s := s.wr R.PAIR_STAT_CASTLE 3
    { s with pr := { s.pr with castMaj := true } }
  else if !castling && !claiming && at2 && !s.pr.castMaj then s.castEnd 2
  else s

/-- The outgoing lead's castling at a HEARTBEAT (R260, R262). -/
def State.hbCastle (s : State) (hb : Heartbeat) : State :=
  let fl := hb.flags.toNat
  let fault : Bool := hb.mode.toNat == 4 && hb.holdcause.toNat % 16 == 4
  if !s.isLead || s.pr.castKind = 0 then s
  else if s.pr.handed then if fault then s.leadAgain else s
  else if fault then s.castEnd 5
  else s.castFollow (nbit fl 4) (nbit fl 5) (hb.mode.toNat == 2 && nbit fl 1)

/-- What a HEARTBEAT of the partner changes once its fields are stored. -/
def State.hbReact (s : State) (hb : Heartbeat) : State :=
  let fl := hb.flags.toNat
  let ph := s.rd R.PAIR_SYNC_STAT_PHASE
  let track : Bool := hb.mode.toNat == 2 && nbit fl 1
  -- after H the outgoing module acts as TRACK synchronised up to the end of its cycle (R260 steps 4 and 6)
  let gone : Bool := hb.mode.toNat == 3 && nbit fl 5
  let s := if s.isLead && !s.pr.handed && s.flag R.PAIR_STAT_PSYNC && !track && !gone then s.setPsync false else s
  let s := if s.isTrack && s.flag R.PAIR_STAT_SYNC && hb.mode.toNat == 3 && !nbit fl 2 then s.setSync false else s
  let s := if s.isTrack && !s.pr.joinLead && decide (1 ≤ ph ∧ ph ≤ 4) && hb.mode.toNat != 3 then s.joinFails 3 else s
  -- the lead follows the JOINING flag of its partner
  let s := if s.isLead && !s.pr.handed && s.rd R.PAIR_STAT_MISMATCH == 0 then
      if nbit fl 6 && hb.mode.toNat == 2 && !s.pr.joinLead then s.leadJoin
      else if !nbit fl 6 && s.pr.joinLead && decide (1 ≤ ph ∧ ph ≤ 3) then
        s.joinFails (if ph = 1 then 4 else 2)
      else s
    else s
  s.hbCastle hb

/-- Firmware joins a leading partner whenever a link comes up towards it, but not within 1 s of a join that failed (R233, before R242,
R244). -/
def State.joinOnLink (s : State) : State :=
  if s.canJoin && s.pr.heard && (s.pr.failedAt == 0 || decide (s.pr.failedAt + 1000000000 ≤ s.mt + 1)) then s.joinStart else s

def State.nowHeard (s : State) : State := { s with pr := { s.pr with heard := true } }

/-- HEARTBEAT_RECEIVED (R232). The first one is the partner's detection, and ends step 0x08 (R233). -/
def execHeartbeatReceived (link : Fin 2) (hb : Heartbeat) (s : State) : Res :=
  .next <|
    if s.mode = 0 || !s.linkUp link then s
    else
      let l := link.val
      let a : Int := hb.ptxmt.toNat
      let b : Int := hb.rxmt.toNat
      let c : Int := hb.txmt.toNat
      let d : Int := s.mt
      let s := (s.wr R.PL_RTT (unsgn 16 ((d - a) - (c - b))) 0 l).wr2 R.PAIR_MTOFFLO R.PAIR_MTOFFHI (unsgn 64 (((b - a) + (c - d)) / 2))
      let rx := (s.mt, hb.txmt.toNat)
      let s := { s with pr := { s.pr with
        rx0 := (if l = 0 then rx else s.pr.rx0), rx1 := (if l = 1 then rx else s.pr.rx1), silent := false,
        pflags := hb.flags.toNat, playout := hb.layout.toNat } }
      let s := (s.setHbok l true).seeEpoch hb.epoch.toNat
      let s := s.seeClaim hb.claim.toNat
      let s := ((s.wr R.PAIR_STAT_PMODE hb.mode.toNat).wr R.PAIR_PEER_MFV hb.mfv.toNat).wr R.PAIR_PEER_FWVER hb.fwver.toNat
      let s := ((s.wr R.PAIR_PEER_VARIANT hb.variant.toNat).wr R.PAIR_PEER_SIDE (hb.flags.toNat % 2)).wr R.PAIR_PEER_HOLDCAUSE
        (hb.holdcause.toNat % 16)
      let first := !s.pr.heard
      let s := if first then (s.detect hb).nowHeard else s
      let s := if s.mode = 1 ∧ s.rd R.SYS_STARTSTEP_STEP = 8 then s.wr R.SYS_STARTSTEP_STEP 9 else s
      let s := (s.hbReact hb).partnerPolicy
      (if first then s.joinOnLink else s).xeDone

/-- The MT of the latest HEARTBEAT on a link, and on either (R232). -/
def State.lastRx (s : State) (l : Nat) : Nat := if l = 0 then s.pr.rx0.1 else s.pr.rx1.1
def State.lastBeat (s : State) : Nat := max s.pr.rx0.1 s.pr.rx1.1

/-- HEARTBEAT_MISSING (R232), 25 µs after the last: source 164 when the other link's heartbeat is there. -/
def execHeartbeatMissing (link : Fin 2) (s : State) : Res :=
  .next <|
    let l := link.val
    if !s.hbok l then s
    else
      let s := ((s.awaitMt (s.lastRx l + 25000)).setHbok l false).sat (if l = 0 then R.PAIR_HBMISS_PL0 else R.PAIR_HBMISS_PL1)
      if s.hbok (1 - l) then s.ev 0x3A 0 else s

/-- Both links are lost during castling (R262). -/
def State.castLinksLost (s : State) : State :=
  if s.pr.handed then s.wr R.PAIR_STAT_SYNC 0
  else if s.isLead ∧ s.pr.castKind ≠ 0 then s.castEnd 4
  else if s.pr.claimKind = 2 then
    let s := { (s.castEnd 4).setClaim 0 with pr := { (s.castEnd 4).pr with claimKind := 0 } }
    (s.setSync false).wr R.PAIR_STAT_ROLE 2
  else s

/-- HEARTBEATS_LOST_100US (R232, R239), 100 µs after the last: both links are lost to a castling (R262). -/
def execHeartbeatsLost100us (s : State) : Res :=
  .next <|
    if s.pr.silent then s
    else
      let s := (s.awaitMt (s.lastBeat + 100000)).pathNow
      let s := { s with pr := { s.pr with silent := true } }.ev 0x3A 1
      let s := s.castLinksLost
      (if s.isLead then s.setPsync false else s).xeDone

/-- PARTNER_LOST (R232), 1 ms after the last HEARTBEAT. -/
def execPartnerLost (s : State) : Res :=
  .next <|
    if s.pr.heard then
      let s := (s.awaitMt (s.lastBeat + 1000000)).pathNow
      let s := { s with pr := { s.pr with heard := false } }
      (((s.wr R.PAIR_STAT_PARTNER 0).ev 0x3A 2).partnerPolicy).xeDone
    else s

/-- PARTNER_DETECTION_TIMEOUT (R233): step 0x08 ends after 400 ms; the partner is judged by the BEACONs of the step. -/
def execPartnerDetectionTimeout (s : State) : Res :=
  .next <|
    if s.mode = 1 ∧ s.rd R.SYS_STARTSTEP_STEP = 8 then
      let s := s.awaitMt (s.pr.step8At + 400000000)
      let s := if s.pr.step8 ≠ 0 then s.wr R.PAIR_STAT_PARTNER 1 else s
      s.wr R.SYS_STARTSTEP_STEP 9
    else s

/-! The links (R231, R263; Table 11.10). -/

/-- PL_FRAME_BAD (R231). -/
def execPlFrameBad (link : Fin 2) (s : State) : Res := .next (s.sat R.PL_CRCERR 0 link)

/-- PL_LINK_DOWN (R263). Chunks in flight on it go again on the other link (R237). -/
def execPlLinkDown (x : LinkLoss) (s : State) : Res :=
  .next <|
    let l := x.link.val
    if !s.linkUp l then s
    else
      let s := ((s.wr R.PL_STAT_UP 0 0 l).wr R.PL_STAT_TRAINING 1 0 l).sat R.PL_RETRAINS 0 l
      let s := ((s.ev (plPage l) 0).ev (plPage l) 1).chunksAgain l x.flight
      (if s.upLinks = [] then s.castLinksLost else s).xeDone

/-- PL_LINK_UP (R263). -/
def execPlLinkUp (link : Fin 2) (s : State) : Res :=
  .next <|
    let l := link.val
    if !s.running (plPage l) || s.linkUp l then s
    else (((s.wr R.PL_STAT_UP 1 0 l).wr R.PL_STAT_TRAINING 0 0 l).ev (plPage l) 0).joinOnLink

/-! The mirror (R237, R240; 04 R71, 07 R154). -/

/-- Rows that the sequencer of work `w` has issued, counting error-task rows first (Table 11.4, LASTROW). -/
def State.rowsDone (s : State) (w : Nat) : Nat :=
  let q := s.seq (levelOf w)
  q.before + q.issued

/-- Rows issue until `want` have. -/
def State.runUntil (s : State) (w want : Nat) : Nat → State × SchedFault
  | 0 => (s, (0, 0))
  | n + 1 =>
    if want ≤ s.rowsDone w then (s, (0, 0))
    else
      match s.runRows w noLimit 1 with
      | (s1, (0, _)) => s1.runUntil w want n
      | r => r

/-- MIRROR_RANGE_FINAL (R237): entry `entry` of the active list. -/
def execMirrorRangeFinal (entry : BitVec 14) (s : State) : Res :=
  .next <|
    let i := entry.toNat
    if mlCount s.pr.active ≤ i || !s.isLead || s.pr.handed then s
    else
      let e := mlEntry s.pr.active i
      match workOf e.writer with
      | none => s
      | some w =>
        let ph := (s.ply w).phase
        let due : Bool := (s.flag R.PAIR_STAT_PSYNC || s.pr.finalW == w + 1) && (ph == 3 || ph == 4) &&
          decide ((smGet (0, 0) s.pr.sent e.writer).2 < (s.ranges e.writer).length)
        if !due then s
        else if ph = 3 ∧ s.current = some w ∧ 0 < e.last then
          let r := s.runUntil w e.last (e.last + 2)
          if r.2.1 = 0 then ((r.1.awaitClk (r.1.rowClk w - 1)).sendRange (r.1.landAll (levelOf w)) w e).xeDone
          else ((r.1.awaitClk (r.1.rowClk w)).scheduleFaultAt w r.2).xeDone
        else (s.sendRange (if ph = 3 then s.landAll (levelOf w) else s) w e).xeDone

/-- The module receives the mirror: TRACK synchronised, in the final phase of its join, or handed over (R260 step 4). -/
def State.takesMirror (s : State) : Bool :=
  (s.isTrack && (s.flag R.PAIR_STAT_SYNC || (s.rd R.PAIR_SYNC_STAT_PHASE == 4 && !s.pr.joinLead))) || s.pr.handed

/-- An ACK on every link that is up; the first after a switch carries its CRC (R237, 07 R154). -/
def State.ackSend (s : State) (writer ply count : Nat) : State :=
  let body := leBytes 4 writer ++ leBytes 4 ply ++ leBytes 4 count
  if s.pr.crcOwed then
    { s.plSendAll 0x03 2 (body ++ leBytes 4 (s.rd R.XE_SM_CRC)) with pr := { (s.plSendAll 0x03 2 (body ++ leBytes 4 (s.rd R.XE_SM_CRC))).pr with crcOwed := false } }
  else s.plSendAll 0x03 0 body

/-- The fabric master of PAIR's reception (18 Table 18.1). -/
def pairMaster : Nat := 0x08

/-- A chunk is written, and the ACK sent when the writer's ply is complete. One that its gate refuses does not count. The retain lines of a
C2 chunk are marked (14 R314). -/
def State.takeChunk (s : State) (c : Chunk) : State :=
  let d := s.dmaStore pairMaster (instBase + c.offset) c.data
  if !d.1 then d.2 else
  let s := d.2
  let sync := s.flag R.PAIR_STAT_SYNC
  let s := if c.writer = 2 ∧ sync then s.markRetain c.offset c.data.length else s
  let r0 := smGet (⟨0, 0, 0⟩ : Rx) s.pr.rx c.writer
  let r := if r0.ply = c.ply then r0 else ⟨c.ply, 0, 0⟩
  let r : Rx := ⟨c.ply, r.got + 1, if c.count = 0 then r.want else c.count⟩
  let set (s : State) (x : Rx) : State := { s with pr := { s.pr with rx := smSet (⟨0, 0, 0⟩ : Rx) s.pr.rx c.writer x } }
  if r.want = 0 ∨ r.got < r.want then set s r
  else
    let s := (set s ⟨0, 0, 0⟩).ackSend c.writer c.ply r.want
    if !sync then s
    else
      let s := if 1 ≤ c.writer ∧ c.writer ≤ 3 then s.wr R.XE_CLS_PLY c.ply (c.writer - 1) else s
      let s := if c.writer = 2 then s.handRetained c.ply else s
      if 1 ≤ c.writer ∧ c.writer ≤ 3 then
        let b := s.biBase s.half (mainPart (c.writer - 1)) 0
        if b = listNone then s else s.lioFollow c.writer (s.iRd (b + 0x120) 16)
      else s

/-- MIRROR_RECEIVED (R237, R239; during a switch the chunk waits, 07 R154). -/
def execMirrorReceived (link : Fin 2) (writer : BitVec 8) (seq ply offset count : BitVec 32) (last : Bool)
    (data : List (BitVec 8)) (s : State) : Res :=
  .next <|
    if !s.linkUp link || !s.takesMirror then s
    else
      let k := 16 * link.val + 2
      let want := smGet 0 s.pr.rxSeq k
      let s := { s with pr := { s.pr with rxSeq := smSet 0 s.pr.rxSeq k (seq.toNat + 2) } }
      if want ≠ 0 ∧ (want - 1) % 2 ^ 32 ≠ seq.toNat then s.setSync false
      else
        let c : Chunk := ⟨writer.toNat, ply.toNat, offset.toNat, if last then count.toNat else 0, data⟩
        if s.rd R.XE_SM_STAT_STATE = 4 then { s with pr := { s.pr with queued := s.pr.queued ++ [c] } }
        else s.takeChunk c

/-- ACK_RECEIVED (04 R71, 07 R154): the first ACK of the ply counts. -/
def execAckReceived (link : Fin 2) (writer : BitVec 8) (ply : BitVec 32) (crc : Option (BitVec 32)) (rows : Nat) (s : State) : Res :=
  .next <|
    if !s.linkUp link || !s.isLead then s
    else
      let s := match crc with
        | some c => if c.toNat = s.rd R.XE_SM_CRC then s else s.setPsync false
        | none => s
      match workOf writer.toNat with
      | none => s.xeDone
      | some w =>
        let p := s.ply w
        if p.num ≠ ply.toNat then s.xeDone
        else if p.phase = 3 then (s.modPly w fun p => { p with acked := true }).xeDone
        else if p.phase = 4 ∧ !p.acked then s.resumeCommit w rows
        else s.xeDone

/-- MIRROR_ESCAPE (R240): a write that PAIR's taps saw outside the list. -/
def execMirrorEscape (addr : BitVec 25) (writer : BitVec 8) (m : BitVec 6) (s : State) : Res :=
  .next <|
    if s.isLead || (s.isTrack && s.flag R.PAIR_STAT_SYNC) then (s.escape addr.toNat writer.toNat m.toNat).xeDone else s

/-! The mirror lists (R236, R241). -/

/-- Two entries overlap. -/
def MlEntry.meets (a b : MlEntry) : Bool :=
  decide (a.start / 64 < b.start / 64 + b.lines) && decide (b.start / 64 < a.start / 64 + a.lines)

/-- Entry `i` of the staged list is within range, lies in populated memory and meets no entry before it. -/
def State.mlEntryOk (s : State) (i : Nat) : Bool :=
  let e := mlEntry s.pr.staged i
  let w (j : Nat) := smGet 0 s.pr.staged (4 + 4 * i + j)
  e.start % 64 == 0 && decide (1 ≤ e.lines ∧ e.lines ≤ 131072) && decide (e.start + 64 * e.lines ≤ s.instSize) &&
    (e.writer == writerHost || (workOf e.writer).isSome) && decide (w 2 < 256) && decide (w 3 < 2 ^ 20) &&
    (upTo i).all fun j => !e.meets (mlEntry s.pr.staged j)

/-- The header of the staged list: COUNT, MFV and zeros (R236). -/
def State.mlHeadOk (s : State) : Bool :=
  let w (j : Nat) := smGet 0 s.pr.staged j
  decide (w 0 ≤ 8192) && w 1 == s.rd R.PAIR_LOCAL_MFV && w 2 == 0 && w 3 == 0

/-- MLVOL of class `n` (0–2), R241. -/
def State.mlVolume (s : State) (n : Nat) : Nat :=
  let es := (mlEntries s.pr.staged).filter fun e => e.writer == n + 1
  (es.map fun e => 64 * e.lines + 32 * ((64 * e.lines + 4095) / 4096)).sum + 16384

/-- The check of the staged list; whether it passes. -/
def State.mlChecked (s : State) : Bool × State :=
  let s := s.each (upTo 3) fun s n => s.wr R.PAIR_MLVOL (s.mlVolume n) n
  if !s.mlHeadOk then (false, (s.wr R.PAIR_MLCHK 0).err 0x3A 0x54 0x178)
  else
    match (upTo (mlCount s.pr.staged)).find? fun i => !s.mlEntryOk i with
    | some i => (false, (s.wr R.PAIR_MLCHK (i + 1)).err 0x3A 0x54 0x178)
    | none => (true, s.wr R.PAIR_MLCHK 0)

/-- ML_CHECK (R236). In the Program phase of a join a failed check fails the join (R243). -/
def execMlCheck (_m : BitVec 6) (s : State) : Res :=
  .next <| s.onPage 0x3A fun s =>
    let r := s.mlChecked
    if !r.1 && s.isTrack && s.rd R.PAIR_SYNC_STAT_PHASE == 1 && !s.pr.joinLead then r.2.joinFails 4 else r.2

/-- Where the active list may be written (R236, R243). -/
def State.mlActiveOpen (s : State) : Bool :=
  s.mode == 1 || s.isService || (s.isTrack && s.rd R.PAIR_SYNC_STAT_PHASE == 1 && !s.pr.joinLead)

/-- One access to PAIR.MLDATA: the word read, and the state after it. A write changes PAIR.MLADDR at least, which CFGGEN counts (02 R29). -/
def State.mlData (s : State) (write : Bool) (v : Nat) : Nat × State :=
  let i := s.rd R.PAIR_MLADDR_OFFSET
  let act := s.flag R.PAIR_MLADDR_LIST
  let l := if act then s.pr.active else s.pr.staged
  let s1 :=
    if !write ∨ 32772 ≤ i then s
    else if !act then { s with pr := { s.pr with staged := smSet 0 l i v } }
    else if s.mlActiveOpen then { s with pr := { s.pr with active := smSet 0 l i v } }
    else s.err 0x3A 0x55 0x180
  let s1 := if write then s1.wrap R.H_CFGGEN 0 0x3A else s1
  (if i < 32772 then smGet 0 l i else 0, s1.wrap R.PAIR_MLADDR_OFFSET)

/-- MLDATA_ACCESS (R236). -/
def execMldataAccess (_m : BitVec 6) (write : Bool) (value : BitVec 32) (s : State) : Res :=
  .next <| if write then s.onPage 0x3A fun s => (s.mlData true value.toNat).2 else s.onRead 0x3A fun s => s.mlData false 0

/-! Joining (R242–R244). -/

/-- SYNC_CMD_JOIN: a TRACK unsynchronised module joins its leading partner. -/
def execSyncCmdJoin (_m : BitVec 6) (s : State) : Res :=
  .next <| s.onPage 0x3A fun s =>
    if s.canJoin then s.joinStart else s.err 0x3A 0x53 0x1A0

/-- A dirty round of the lead begins: the marked lines go out. -/
def State.dirtyRound (s : State) : State :=
  let ls := s.pr.dirty
  ({ s with pr := { s.pr with dirty := [], round := ls.length } }).sendBulk (ls.map fun ln => (64 * ln, 64))

/-- A dirty round ends (R242 step 3, R244). -/
def State.roundEnd (s : State) : State :=
  let s := s.wrap R.PAIR_SYNC_STAT_ROUNDS
  if s.pr.round ≤ 4096 then s.wr R.PAIR_SYNC_STAT_PHASE 4
  else if s.rd R.PAIR_SYNC_STAT_ROUNDS = 0 ∨ 16 ≤ s.rd R.PAIR_SYNC_STAT_ROUNDS then s.joinFails 1
  else if s.pr.joinLead then s.dirtyRound
  else { s with pr := { s.pr with round := 0 } }

/-- JOIN_PHASE_COMPLETE (R242). The joining module's final phase ends with SYNC and source 172. -/
def execJoinPhaseComplete (s : State) : Res :=
  .next <|
    match s.rd R.PAIR_SYNC_STAT_PHASE with
    | 1 =>
      let s := s.wr R.PAIR_SYNC_STAT_PHASE 2
      if s.pr.joinLead then s.sendAll else s
    | 2 =>
      let s := s.wr R.PAIR_SYNC_STAT_PHASE 3
      if s.pr.joinLead then s.dirtyRound else { s with pr := { s.pr with round := 0 } }
    | 3 => s.roundEnd
    | 4 =>
      if s.pr.joinLead || !s.isTrack then s
      else ((s.wr R.PAIR_SYNC_STAT_PHASE 0).setSync true).ev 0x3A 8
    | _ => s

/-- JOIN_FAIL (R244). -/
def execJoinFail (cause : BitVec 3) (s : State) : Res := .next (s.joinFails cause.toNat).xeDone

/-- BULK_RECEIVED (R242): written into the memory of a joining module; in the dirty rounds its lines are counted. -/
def execBulkReceived (link : Fin 2) (offset : BitVec 32) (data : List (BitVec 8)) (s : State) : Res :=
  .next <|
    let ph := s.rd R.PAIR_SYNC_STAT_PHASE
    if !s.linkUp link || !s.isTrack || s.pr.joinLead || !decide (2 ≤ ph ∧ ph ≤ 4) then s
    else
      let s := (s.dmaStore pairMaster (instBase + offset.toNat) data).2
      if ph = 3 then { s with pr := { s.pr with round := s.pr.round + (linesOf offset.toNat data.length).length } } else s

/-! Claims, leases and castling (R245–R262). -/

/-- The side that an arbiter's vote names: votes are held as 0 no frame, 1 + VOTE. -/
def voteSide (v : Nat) : Option Nat := if v = 2 then some 0 else if v = 3 then some 1 else none

/-- The side an arbiter counts for (R250). -/
def State.arbSide (s : State) (i : Nat) : Option Nat :=
  let t := s.stn (s.rd R.PAIR_ARB_SEG i) (s.rd R.PAIR_ARB_ST i)
  match voteSide t.voteA, voteSide t.voteB with
  | some a, some b => if a = b then some a else none
  | some a, none => some a
  | none, b => b

def State.votes (s : State) (side : Nat) : Nat :=
  ((upTo (s.rd R.PAIR_ARB_N)).filter fun i => s.arbSide i == some side).length

/-- Table 11.5 for a TRACK module without a claim. -/
def State.claimDecision (s : State) : State :=
  if !s.flag R.PAIR_STAT_SYNC then { s with pr := { s.pr with castRecv := 0 } }
  else if s.pr.castRecv ≠ 0 then
    if s.hbok 0 || s.hbok 1 then s.claim_ 2 1
    else { s.wr R.PAIR_STAT_CASTLE 0 with pr := { s.pr with castRecv := 0 } }
  else if s.pr.silent && !s.pr.beacon0 && !s.pr.beacon1 then s.claim_ 1 1
  else s

/-- Table 11.6 at the end of a claim cycle. A castling claim that has its majority waits for the handover. -/
def State.claimOutcome (s : State) (own other : Bool) : State :=
  if (s.pr.claimKind = 2 ∧ s.pr.castMaj) ∨ (s.pr.claimKind = 3 ∧ s.flag R.PAIR_STAT_LEASE) then s
  else if s.pr.claimCyc = 0 then { s with pr := { s.pr with claimCyc := 1 } }
  else if own then s.claimWon
  else if other ∨ 2 ≤ s.pr.claimCyc then s.withdraw
  else { s with pr := { s.pr with claimCyc := 2 } }

/-- Table 11.7 for a LEAD module. -/
def State.leaseDecision (s : State) (own other : Bool) : State :=
  if own then s.wr R.PAIR_LEASE_NOMAJ 0
  else if other ∧ s.pr.castKind ≠ 0 ∧ s.pr.beaconCast then
    { (s.wr R.PAIR_LEASE_NOMAJ 0).wr R.PAIR_STAT_CASTLE 3 with pr := { s.pr with castMaj := true } }
  else if other then ((s.wr R.PAIR_STAT_SYNC 0).setMode 2 0).ev 0x3A 3
  else
    let s := s.sat R.PAIR_LEASE_NOMAJ
    let n := s.rd R.PAIR_LEASE_NOMAJ
    let s := if n = 2 ∧ s.flag R.PAIR_STAT_PSYNC ∧ s.upLinks ≠ [] then (s.castleRequest true).getD (s.err 0x3A 0x52 0x1A4) else s
    if s.rd R.PAIR_LEASE_LEASECYC ≤ n then (s.setMode 4 3).ev 0x3A 3 else s

/-- The outgoing module leaves LEAD at the end of the cycle that contains the handover (R260 step 6). -/
def State.castlingDone (s : State) : State :=
  let s := (s.castEnd 1).wrap R.PAIR_CASTLE_STAT_COUNT
  ((s.setMode 2 0 (castled := true)).ev 0x3A 6).ev 0x3A 7

/-- PAIR_CYCLE_END (R250–R257). -/
def execPairCycleEnd (s : State) : Res :=
  .next <|
    if s.mode = 0 then s
    else
      let n := s.rd R.PAIR_ARB_N
      let vo := s.votes s.side
      let vt := s.votes (1 - s.side)
      let s := (s.wr R.PAIR_VOTES_OWN vo).wr R.PAIR_VOTES_OTHER vt
      let own := decide (n < 2 * vo)
      let other := decide (n < 2 * vt)
      let s :=
        if s.pr.handed then s.castlingDone
        else if n = 0 ∧ s.pr.beaconAny ∧ s.flag R.PAIR_STAT_LEASE then ((s.dropClaim.setMode 4 3).ev 0x3A 3)
        else if s.pr.claimKind ≠ 0 then
          (if n = 0 then (if s.flag R.PAIR_STAT_LEASE || s.pr.castMaj then s else s.claimWon) else s.claimOutcome own other)
        else if s.isLead then
          (if n = 0 then s else s.leaseDecision own other)
        else if s.isTrack then s.claimDecision
        else s
      let s := { s with pr := { s.pr with beacon1 := s.pr.beacon0, beacon0 := false, beaconAny := false, beaconCast := false, newLead := false } }
      s.xeDone

/-- CASTLE_CMD_REQ (R259). -/
def execCastleCmdReq (m : BitVec 6) (forced : Bool) (s : State) : Res :=
  .next <| s.onPage 0x3A fun s =>
    let t := s.put R.PAIR_CASTLE_CMD_FORCED forced
    let t := (t.castleRequest forced).getD (t.err 0x3A 0x52 0x1A4)
    t.cfgBump s 0x3A 0x1A4 m.toNat

/-- CASTLE_RECEIVED (R260): 1 and 2 request, 3 abandon. -/
def execCastleReceived (link : Fin 2) (kind : BitVec 8) (s : State) : Res :=
  .next <|
    let k := kind.toNat
    if !s.linkUp link || !s.isTrack then s
    else if k = 1 ∨ k = 2 then
      if s.pr.claimKind = 0 then { s.wr R.PAIR_STAT_CASTLE 1 with pr := { s.pr with castRecv := k } } else s
    else if k = 3 then
      if s.pr.claimKind = 2 then
        let s := { s.setClaim 0 with pr := { s.pr with claimKind := 0, claimCyc := 0 } }
        (s.castEnd 3).wr R.PAIR_STAT_ROLE 2
      else if s.pr.castRecv ≠ 0 then s.castEnd 3
      else s
    else s

/-- No ply or event task is in progress at any level. -/
def State.allIdle (s : State) : Bool := workOrder.all fun w => (s.ply w).phase == 0

/-- No trigger of an enabled class that starts a ply falls within `gap` ns from now; one that SKIPNEXT skips widens the gap (07 R161). -/
def State.gapFree (s : State) (gap : Nat) : Bool :=
  (upTo 3).all fun n => !s.flag R.XE_CLS_CFG_EN n ||
    (match (s.ply n).next with
     | some t =>
       let t := if s.flag R.XE_CLS_STAT_SKIPNEXT n then t + s.periodNs n else t
       decide (s.baseNow (s.ply n).aligned + gap ≤ t)
     | none => true)

/-- A C1 COMMIT has ended in this clock; with C1 disabled that of any class (R260 step 3). -/
def State.commitEnded (s : State) : Bool :=
  let x := s.pr.lastCommit
  x.2 == s.clk && (x.1 == 1 || (!s.flag R.XE_CLS_CFG_EN 0 && decide (1 ≤ x.1 ∧ x.1 ≤ 3)))

/-- CASTLING_HANDOVER (R260 step 4): the instant H. -/
def execCastlingHandover (s : State) : Res :=
  .next <|
    if !s.isLead || s.pr.castKind == 0 || !s.pr.castMaj || s.pr.handed || s.rd R.XE_SM_STAT_STATE == 4 then s
    else if s.pr.castKind == 1 && !(s.allIdle && s.gapFree 50000) then s
    else if s.pr.castKind == 2 && !(s.allIdle || s.commitEnded) then s
    else
      let s := (s.abandonAll true).sendHandover false
      let s := ((s.wr R.PAIR_STAT_ROLE 4).wr R.PAIR_STAT_CASTLE 4).wr R.PAIR_STAT_SYNC 1
      ({ s.wr R.XE_ET_PEND 0 with pr := { s.pr with handed := true, rx := [], rxSeq := [] } })

/-- CASTLING_NO_GAP (R260 step 3). -/
def execCastlingNoGap (s : State) : Res :=
  .next <| if s.isLead && s.pr.castKind == 1 && s.pr.castMaj && !s.pr.handed then (s.plSendAll 0x06 0 [3]).castEnd 3 else s

/-- HANDOVER_RECEIVED (R260 step 5, R261, R262). -/
def execHandoverReceived (link : Fin 2) (abrupt : Bool) (plies : List (BitVec 32)) (nexts : List (BitVec 64)) (inNt : List Bool)
    (tasks : BitVec 16) (s : State) : Res :=
  .next <|
    if !s.linkUp link || !s.isTrack || s.pr.claimKind != 2 || !s.pr.castMaj then s
    else
      let s := { s.castEnd 1 with pr := { (s.castEnd 1).pr with claimKind := 0, claimCyc := 0, newLead := true } }
      let s := ((s.enterLead abrupt).wr R.PAIR_LEASE_NOMAJ 0).ev 0x3A 5
      let s := (s.wrap R.PAIR_CASTLE_STAT_COUNT).ev 0x3A 7
      let s := s.wr R.XE_ET_PEND tasks.toNat
      if abrupt then s.xeDone
      else
        let s := s.each (upTo 3) fun s n =>
          let s := s.wr R.XE_CLS_PLY ((plies.getD n 0).toNat + 2 ^ 32 - 1) n
          if s.flag R.XE_CLS_CFG_EN n then
            s.modPly n fun p => { p with next := some (nexts.getD n 0).toNat, aligned := inNt.getD n false }
          else s
        (s.setPsync true).xeDone

end Sys2Proof.Machine
end

