-- ==== Sys2Proof/Machine/Ramette.lean ====
section
/-! DEFINITION. The Ramette cluster (09): the cycle, the receive checks, clock synchronisation, start-up, the guardians. -/

namespace Sys2Proof.Machine

/-! Cycle starts. -/

/-- Segments that are ON take part from a cycle start on (10 R226; R207). -/
def State.joinSegs (s : State) : State := s.each s.onSegs fun s g => s.modRmt g fun r => { r with joined := true }

/-- The records of a station at a cycle start. -/
def nextCycleOf (e : Nat × StSt) : Option (Nat × StSt) :=
  let t := { e.2 with prev := e.2.valid != 0, valid := 0, good := false, bad := false, voteA := 0, voteB := 0, filled := false, done := false }
  if t = StSt.idle then none else some (e.1, t)

/-- A segment at the start of cycle `c` at MT `t`, the cycle before having lasted `len`: its guardians take the pulse, or are seeded where
`seed` (10 R211, R212); the own echo delays are those of the cycle before (R209). -/
def State.segCycle (s : State) (c t : Nat) (len : Int) (seed : Bool) (g : Nat) : State :=
  let s := s.wr R.RMT_STAT_CYCLE c 0 g
  let s := s.modRmt g fun r => { r with muteA := 0, muteB := 0, errs := (if c % 256 = 0 then 0 else r.errs) }
  let s := s.each [false, true] fun s b => if seed then s.guardSeed g b c t else s.guardPulse g b c t len
  let s := s.each [false, true] fun s b => s.remeasure g b
  let s := s.tellEcho g
  if c % 256 = 0 then s.evLevel (segPage g) 5 false else s

/-- Cycle `c` starts at MT `t`: its MTCS is the tick that has come, and the records are those of a new cycle. `seed`: COLDSTART or
INTEGRATE is entered. A segment that joins is seeded too (10 R212). -/
def State.beginCycle (s : State) (c t : Nat) (seed : Bool) : State :=
  let len : Int := s.nextStart - s.rmc.start
  let s := (s.wr R.RMC_STAT_CYCLE c).wr2 R.RMC_MTCSLO R.RMC_MTCSHI s.mt
  let s := s.modRmc fun r =>
    { r with mtcs := smSet 0 r.mtcs (c % 256) (s.mt + 1), start := t, shift := 0, nit := false, meas := [] }
  let s := { s with stns := s.stns.filterMap nextCycleOf }
  let new := s.onSegs.filter fun g => !(s.rmt g).joined
  s.joinSegs.each s.onSegs fun s g => s.segCycle c t len (seed || new.contains g) g

/-- The module stops and listens (Table 9.9). -/
def State.listen (s : State) : State :=
  (s.setCstate 1).modRmc fun r => { State.reset.rmc with mtcs := r.mtcs, since := s.mt }

/-- COLDSTART begins with cycle 0 at MT `t` (R205). -/
def State.coldstart (s : State) (t : Nat) : State :=
  let s := (s.setCstate 2).sat R.RMC_COUNT_COLD
  (s.modRmc fun _ => State.reset.rmc).beginCycle 0 t true

/-- The end of a CSF cycle (R205 steps 3 and 5). -/
def State.coldCycleEnd (s : State) : State :=
  if s.rmc.met then
    let s := ((s.setCstate 3).sat R.RMC_COUNT_BACKOFF).ev 0x30 1
    s.modRmc fun _ => { State.reset.rmc with since := s.mt }
  else if 3 ≤ s.rmCycle then s.setCstate 5
  else s

/-- An integration proceeds at a cycle start (R206). -/
def State.integrates (s : State) (c : Nat) : State :=
  let r := s.rmc
  if r.step = 1 then s.setRmc { r with step := 2 }
  else if r.step = 2 then s.listen
  else if r.step = 3 then s.setRmc { r with step := 4, good := 0 }
  else if 2 ≤ r.good ∧ (!r.onCsf ∨ 0 ≤ sgn 8 (c + 256 - r.target)) then s.setCstate 5
  else s

/-- CYCLE_START (R185, R202): at the instant that the correction of the last NIT gives, the count increments; a CSF cycle is judged, an
integration proceeds, R208 counts. -/
def execCycleStart (s : State) : Res :=
  .next <|
    if !s.hasCycle then s
    else
      let t := max s.nextStart s.mt
      let s := (s.awaitMt t).pathNow
      let s := if s.cstate = 2 then s.coldCycleEnd else s
      let s :=
        if !s.hasCycle then s
        else
          let c := (s.rmCycle + 1) % 256
          let s := s.beginCycle c t false
          let s := s.modRmc fun r => { r with met := false, offRun := (if r.offA then r.offRun + 1 else 0), offA := false }
          if s.cstate = 4 then s.integrates c else s
      s.xeDone

/-! Receive checks (R188–R191, Table 9.5). -/

/-- TYPE allowed for a slot kind, and LENGTH for the slot (Table 9.4). -/
def typeOk (kind type : Nat) : Bool :=
  match kind with
  | 0 => type == 1 || type == 3
  | 1 => type == 2 || type == 3
  | 2 => type == 4 || type == 5 || type == 7
  | 3 => type == 4 || type == 5 || type == 7
  | _ => type == 3 || type == 8
def lengthOk (e : Slot) (type len : Nat) : Bool :=
  decide (len ≤ 240) &&
    (match type with
     | 1 => len == e.p
     | 2 => len == e.p
     | 3 => len == 0
     | 8 => decide (16 ≤ len) && decide (len ≤ e.p) && len % 16 == 0
     | _ => len == 16)


/-- Check 11. -/
def stampOk (f : Frame) (cyc : Nat) : Bool := decide (beNat ((f.payload.drop 1).take 3) < cyc)
def State.schedOk (s : State) (f : Frame) : Bool := beNat (f.payload.take 4) == s.rd R.RMT_SCHEDID 0 f.seg
def State.check11 (s : State) (f : Frame) (e : Slot) : Bool :=
  if f.type = 1 then stampOk f s.cycleNs else if e.kind = 2 ∨ e.kind = 3 then s.schedOk f else true

/-- Checks 6 to 11: the category of the first that fails plus 1, and whether it is check 7; 0 where all pass. -/
def State.bodyChecks (s : State) (f : Frame) (e : Slot) : Nat × Bool :=
  if !typeOk e.kind f.type then (2, false)
  else if !lengthOk e f.type f.length then (2, true)
  else if f.flags &&& 0x47 ≠ 0 ∨ (e.kind ≠ 0 ∧ nfield f.flags 4 2 ≠ 0) then (2, false)
  else if !f.crcOk then (3, false)
  else if !f.tailRight then (2, false)
  else if !s.check11 f e then (2, false)
  else (0, false)

/-- Checks 2 to 11 in slot `n`. -/
def State.laterChecks (s : State) (f : Frame) (n : Nat) (e : Slot) : Nat × Bool :=
  if !f.headRight then (2, false)
  else if !f.hcrcOk then (3, false)
  else if f.slotSeg ≠ f.seg ∨ f.slot ≠ n then (2, false)
  else if f.cycle ≠ s.rmCycle then (2, false)
  else s.bodyChecks f e

/-- The checks of a module without cycle time (R462), and of a frame that meets a CSF cycle (R205 step 3). -/
def State.looseChecks (s : State) (f : Frame) : Option Slot :=
  if f.headRight && f.hcrcOk && f.slotSeg == f.seg.val then
    match s.slotAt f.seg f.slot with
    | some e => if (s.bodyChecks f e).1 = 0 then some e else none
    | none => none
  else none

/-- The sync node that sends in a slot (R201). -/
def nodeOf (g : Nat) (e : Slot) : Option Nat :=
  if e.kind = 2 then some 0
  else if e.kind = 3 then some 1
  else if e.kind = 0 ∧ e.syncst then some (2 + 32 * g + e.station)
  else none
/-- A CSF, SYNC or BEACON frame, or one with SYNCF set (R205 step 2, R206 step 1). -/
def isSync (f : Frame) (e : Slot) : Bool := e.kind == 2 || e.kind == 3 || nbit f.flags 7

/-- The module's own module slot, and the other side's. -/
def State.ownSlot (s : State) (e : Slot) : Bool := e.kind == 2 + s.side
def State.otherSlot (s : State) (e : Slot) : Bool := e.kind == 3 - s.side

/-- Step 1 of R206: the cycle count is adopted and the cycle start placed. -/
def State.integrateOn (s : State) (f : Frame) (e : Slot) (node : Nat) : State :=
  let s := (s.setCstate 4).modRmc fun r =>
    { State.reset.rmc with mtcs := r.mtcs, node := node, onCsf := f.type == 5, target := (f.cycle + f.csfLeft + 1) % 256, step := 1 }
  s.beginCycle f.cycle (f.start.toNat - 900 - e.action) true

/-- A sync frame of a node that is no sync node was heard (R205 steps 2 and 4): the module waits for one of a sync node. -/
def State.awaitNode (s : State) : State := (s.setCstate 4).modRmc fun r => { State.reset.rmc with mtcs := r.mtcs }

/-- A frame heard without cycle time (R205 steps 2 and 4, R206, R462). -/
def State.hearLoose (s : State) (f : Frame) : State :=
  match s.looseChecks f with
  | some e =>
    if isSync f e then
      match nodeOf f.seg e with
      | some n => s.integrateOn f e n
      | none => if s.cstate = 3 then s.awaitNode else s.modRmc fun r => { r with heard := true }
    else s
  | none => s

/-- Step 2 of R206: the frame of the same node in the next cycle; a late or wrong one ends the integration. -/
def State.confirm (s : State) (f : Frame) (node : Nat) (dev : Int) : State :=
  let r := s.rmc
  if s.cstate = 4 ∧ r.step = 2 ∧ node = r.node then
    if dev.natAbs ≤ 1000 ∧ (!r.onCsf ∨ f.type = 5) then s.setRmc { r with step := 3 } else s.listen
  else if s.cstate = 4 ∧ r.onCsf ∧ node = r.node ∧ f.type = 5 then
    s.setRmc { r with target := (f.cycle + f.csfLeft + 1) % 256 }
  else s

/-- A deviation is measured (R201), of a frame with SYNCF; CSF frames count only while integrating. -/
def State.measure (s : State) (f : Frame) (node : Nat) (dev : Int) : State :=
  if node = s.side ∨ !nbit f.flags 7 ∨ (f.type = 5 ∧ s.cstate ≠ 4) then s
  else s.modRmc fun r => { r with meas := r.meas ++ [(node, dev)] }

/-- The side B module counts late frames of side A's module slot (R208). -/
def State.lateOfA (s : State) : State :=
  if s.cstate = 5 ∧ s.side = 1 then
    let s := s.modRmc fun r => { r with offA := true }
    if 1 ≤ s.rmc.offRun then (s.sat R.RMC_COUNT_REINT).listen else s
  else s

/-- The controller takes part in what RMC hears: it has joined, or RMC is ACTIVE (R207, 10 R226). -/
def State.hears (s : State) (g : Nat) : Bool := s.segOn g && ((s.rmt g).joined || s.cstate == 5)

def Rmt.mute (r : Rmt) (b : Bool) : Nat := if b then r.muteB else r.muteA

/-- A frame meets the CSF cycle by R205 step 3, first part. -/
def State.meetsCsf (s : State) (f : Frame) : Bool :=
  match s.looseChecks f with
  | some e => s.otherSlot e && (f.type == 4 || f.type == 5 || f.type == 7)
  | none => false
def State.meets (s : State) : State := s.modRmc fun r => { r with met := true }

/-- A frame that fails a check counts for its scheduled sender where that is a station; of a module's, a start outside the window
raises source offset 3 alone (R190, 10 R210). -/
def State.frameErr (s : State) (g : Nat) (x : Sender) (kind : Nat) : State :=
  match x with
  | .station k => s.stErr g k kind
  | .side _ => if kind = 0 then s.segEv g 4 else s

/-- A valid frame: its measurement, the OWNALL conflict (R196), and what it does in its slot. -/
def State.frameValid (s : State) (f : Frame) (e : Slot) (dev : Int) (act : State → Slot → State) : State :=
  let g := f.seg.val
  let s := match nodeOf g e with
    | some nd => if isSync f e then (if s.cstate = 4 ∧ s.rmc.step = 2 then s else s.confirm f nd dev).measure f nd dev else s
    | none => s
  let s := if (s.rmt g).ownall ∧ s.otherSlot e ∧ !s.flag R.RMT_STAT_OWNCONF 0 g then (s.wr R.RMT_STAT_OWNCONF 1 0 g).segEv g 7 else s
  act s e

/-- The checks of Table 9.5 on a frame in slot `n`, and what follows. -/
def State.judge (s : State) (f : Frame) (n : Nat) (e : Slot) (act : State → Slot → State) : State :=
  let g := f.seg.val
  let x := s.senderOf g f.chanB e
  let dev := s.devFrom g f.chanB x e.action f.start.toNat
  let chk := s.laterChecks f n e
  let s := match nodeOf g e with
    | some nd => if chk.1 = 0 ∧ isSync f e ∧ s.cstate = 4 ∧ s.rmc.step = 2 then s.confirm f nd dev else s
    | none => s
  if !inWindow dev then
    let s := s.frameErr g x 0
    if chk.1 = 0 ∧ e.kind = 2 then s.lateOfA else s
  else if chk.1 ≠ 0 then
    let s := s.frameErr g x (chk.1 - 1)
    if chk.2 then s.modRmt g fun r => if f.chanB then { r with muteB := n + 1 } else { r with muteA := n + 1 } else s
  else s.frameValid f e dev act

/-- The echo of the module's own frame is timed (10 R209); any other start in the own module slot meets a CSF cycle (R205 step 3). -/
def State.hearOwn (s : State) (f : Frame) (e : Option Slot) : State :=
  match s.echoOf f.seg f.chanB f.start.toNat f.bytes with
  | some d => s.takeEcho f.seg f.chanB d
  | none => if s.cstate = 2 ∧ e.any s.ownSlot then s.meets else s

/-- A frame in slot `n`: ignored where the channel is muted (R191), else judged. -/
def State.inSlotFrame (s : State) (f : Frame) (n : Nat) (e : Slot) (act : State → Slot → State) : State :=
  if (s.rmt f.seg).mute f.chanB = n + 1 then s else (s.hearOwn f (some e)).judge f n e act

/-- The most recent valid REFLEX payload of a station, ended now, while RMC is ACTIVE or PASSIVE (08 R172, R462). -/
def State.reflexTake (s : State) (g k payload : Nat) : State :=
  if s.busLive then
    { s with te := { s.te with rxPay := smSet 0 s.te.rxPay (32 * g + k) payload, rxAt := smSet 0 s.te.rxAt (32 * g + k) (s.mt + 1) } }
  else s

/-- A frame in minislot `m` of a round, judged as the short form (R187, R190). -/
def State.judgeMini (s : State) (f : Frame) (round m : Nat) : State :=
  let g := f.seg.val
  let s := s.hearOwn f none
  match s.miniSender g round m with
  | none => s.segEv g 4
  | some x =>
    if !(s.miniDev g f.chanB round m f.start.toNat).any inWindow then s.frameErr g x 0
    else if !f.headOk || !f.tailOk || f.bytes.length != 10 then s.frameErr g x 1
    else if beNat (f.bytes.drop 8) ≠ crc16 (f.bytes.take 8) then s.frameErr g x 2
    else
      match x with
      | .station k => s.reflexTake g k (beNat (f.bytes.take 8))
      | .side _ => s

/-- The receiver judges a frame whose end has come (R190, R191, R462; 10 R210). `act` is what a valid frame does in its slot. -/
def State.receive (s : State) (f : Frame) (act : State → Slot → State) : State :=
  let g := f.seg.val
  if !s.hears g || !nbit (s.rd R.RMT_CFG_CHEN 0 g) (b2n f.chanB) then s
  else if !s.hasCycle then (if s.cstate = 0 then s else s.hearLoose f)
  else
    let s := if s.cstate = 2 ∧ s.meetsCsf f then s.meets else s
    match s.placeOf g f.chanB f.start.toNat with
    | .none => s.segEv g 4
    | .mini r m => s.judgeMini f r m
    | .slot n e => s.inSlotFrame f n e act

/-- A valid BEACON of the other side (11 R245, R246, R251, R254, R239). -/
def State.takeBeacon (s : State) (f : Frame) : State :=
  let claim := beNat ((f.payload.drop 4).take 8)
  let ps := (f.payload.getD 13 0).toNat
  let lease := nbit ps 0
  let claiming := nbit ps 1
  let s := if lease || claiming then s.seeClaim claim else s
  let s := if (lease || claiming) && s.ownClaim != 0 && decide (s.ownClaim < claim) then s.ev 0x3A 4 else s
  let s := { s with pr := { s.pr with
    beacon0 := s.pr.beacon0 || lease, beaconAny := true, beaconCast := s.pr.beaconCast || (claiming && nbit ps 2) } }
  let s := if s.mode = 1 ∧ s.rd R.SYS_STARTSTEP_STEP = 8 then
      { s with pr := { s.pr with step8 := if lease || s.pr.step8 == 2 then 2 else 1 } }
    else s
  if lease && !nbit ps 3 && s.isTrack && s.flag R.PAIR_STAT_SYNC then s.setSync false else s

/-- STRAY_FRAME (R210): a start that no scheduled sender has at that instant, or outside its window, is rejected; one in the own module
slot meets a CSF cycle (R205 step 3). -/
def State.stray (s : State) (g : Nat) (b : Bool) (t : Nat) : State :=
  if !s.hears g || !s.hasCycle || !nbit (s.rd R.RMT_CFG_CHEN 0 g) (b2n b) then s
  else
    match s.placeOf g b t with
    | .none => s.segEv g 4
    | .mini r m =>
      match s.miniSender g r m with
      | none => s.segEv g 4
      | some x => if (s.miniDev g b r m t).any inWindow then s else s.frameErr g x 0
    | .slot _ e =>
      let x := s.senderOf g b e
      let s := if s.cstate = 2 ∧ s.ownSlot e then s.meets else s
      if inWindow (s.devFrom g b x e.action t) then s else s.frameErr g x 0
def execStrayFrame (seg : Fin 16) (chanB : Bool) (start : BitVec 64) (s : State) : Res :=
  .next ((s.awaitMt start.toNat).pathNow.stray seg chanB start.toNat).xeDone

/-! Clock synchronisation (R201–R203). -/

/-- The mean of a list, and the mean of the inner two of four (R202); quotients are cut toward zero (log entry 32). -/
def meanOf (l : List Int) : Int := if l.isEmpty then 0 else l.sum.tdiv l.length
def insertInt (x : Int) : List Int → List Int
  | [] => [x]
  | y :: ys => if x ≤ y then x :: y :: ys else y :: insertInt x ys
def midOf (l : List Int) : Int :=
  let t := l.foldr insertInt []
  if t.length = 4 then (t.getD 1 0 + t.getD 2 0).tdiv 2 else meanOf t

/-- One deviation per node: the mean of its measurements (R201). -/
def perNode (l : List (Nat × Int)) : List (Nat × Int) :=
  (l.map (·.1)).dedup.map fun n => (n, meanOf ((l.filter fun x => x.1 == n).map (·.2)))

/-- The correction of a cycle: o, the change of ρ in 0.001 ppm, and the nodes with their deviations, own included. -/
def Rmc.correction (r : Rmc) (side cyc : Nat) : Int × Int × List (Nat × Int) :=
  let m := (side, 0) :: perNode r.meas
  let o := midOf (m.map (·.2))
  let d := m.filterMap fun x =>
    if x.1 = side then some 0 else (r.prev.lookup x.1).map fun y => x.2 - y + r.prevO
  (o, if cyc = 0 then 0 else (midOf d * 1000000000).tdiv cyc, m)

def clampInt (lim x : Int) : Int := max (-lim) (min lim x)

/-- The corrections of R202 in the NIT: o and ρ, clamped; too large a one makes the module passive, two good cycles active again. -/
def State.correct (s : State) : State :=
  let (o, dr, m) := s.rmc.correction s.side s.cycleNs
  let rho := s.rho + dr
  let good := decide (o.natAbs ≤ 750) && decide (rho.natAbs ≤ 200000)
  let s := ((s.wr R.RMC_OFFSET (unsgn 32 (clampInt 750 o))).wr R.RMC_RATE (unsgn 32 (clampInt 200000 rho))).wr R.RMC_STAT_NSYNC m.length
  let s := s.modRmc fun r =>
    { r with meas := [], prev := m, prevO := clampInt 750 o, shift := clampInt 750 o, nit := true, good := (if good then r.good + 1 else 0) }
  if s.cstate = 5 ∧ !good then
    let s := (s.setCstate 6).sat R.RMC_COUNT_PASSIVE
    s.each s.onSegs fun s g => (s.wr R.RMT_STAT_PASSIVE 1 0 g).segEv g 6
  else if s.cstate = 6 ∧ 2 ≤ s.rmc.good then
    (s.setCstate 5).each s.onSegs fun s g => s.wr R.RMT_STAT_PASSIVE 0 0 g
  else s

/-- CLOCK_CORRECTION (R202, R203): in the NIT of every cycle of an active, passive or integrating module, once. -/
def execClockCorrection (s : State) : Res :=
  .next <|
    if !(s.busLive || (s.cstate == 4 && s.rmc.step != 0)) || s.rmc.nit then s
    else ((s.awaitMt (s.mtIn (s.cycleNs - 2000))).pathNow.correct).xeDone

/-! Start-up (R205). -/

/-- LISTEN_TIMEOUT (R205 steps 1 and 2): after 2 cycles on side A, 2.5 on side B. -/
def execListenTimeout (s : State) : Res :=
  .next <|
    if s.cstate ≠ 1 then s
    else
      let t := max (s.rmc.since + (4 + s.side) * s.cycleNs / 2) s.mt
      let s := (s.awaitMt t).pathNow
      (if s.rmc.heard then s.awaitNode else s.coldstart t).xeDone

/-- COLDSTART_CYCLE_END (R205 steps 3 and 5). -/
def execColdstartCycleEnd (s : State) : Res :=
  .next <| if s.cstate ≠ 2 then s else ((s.awaitMt s.nextStart).pathNow.coldCycleEnd).xeDone

/-- BACKOFF_END (R205 steps 3 and 4): after 1 cycle on side A, 3 on side B. -/
def execBackoffEnd (s : State) : Res :=
  .next <|
    if s.cstate ≠ 3 then s
    else
      let t := max (s.rmc.since + (1 + 2 * s.side) * s.cycleNs) s.mt
      ((s.awaitMt t).pathNow.coldstart t).xeDone

/-! Guardians (10 R211–R213). -/

/-- GUARDIAN_BLOCK (10 R211). -/
def execGuardianBlock (seg : Fin 16) (chanB : Bool) (s : State) : Res :=
  .next <| if s.segOn seg then s.guardBlock seg chanB else s

/-- GUARDIAN_CUT (10 R213): kind WINDOW, of a transmission that the model does not send itself. -/
def execGuardianCut (seg : Fin 16) (chanB : Bool) (s : State) : Res :=
  .next <| if s.segOn seg then s.guardCut seg chanB 0 else s

/-- GUARDIAN_REOPEN (10 R211): at the start of the third cycle from the pulse that re-seeded it. -/
def execGuardianReopen (seg : Fin 16) (chanB : Bool) (s : State) : Res :=
  .next <| if 3 ≤ ((s.rmt seg).guard chanB).clean then s.bitTo R.RMT_STAT_GBLK (b2n chanB) false 0 seg else s

end Sys2Proof.Machine
end

