-- ==== Sys2Proof/Machine/Stations.lean ====
section
/-! DEFINITION. Stations (09 R192–R198, 10 R215–R229): their frames, states and messages, and what the module sends in its slots. -/

namespace Sys2Proof.Machine

/-- A line of 16 bytes between memory and the wire: every field of a tagged value most significant byte first, the reserved bytes 10
and 11 (06 Table 6.1) sent as 0 and ignored on reception (R192). -/
def wireLine (bs : List (BitVec 8)) : List (BitVec 8) :=
  (bs.take 8).reverse ++ ((bs.drop 8).take 2).reverse ++ [0, 0] ++ ((bs.drop 12).take 4).reverse
def wireLines : Nat → List (BitVec 8) → List (BitVec 8)
  | 0, _ => []
  | n + 1, bs => wireLine (bs.take 16) ++ wireLines n (bs.drop 16)

/-! DATA and NULL frames (R189, R193, R194; 10 R215). -/

/-- MTS (R193): none where a cycle start that it needs was not recorded. -/
def State.mtsOf (s : State) (c off start : Nat) : Option Nat :=
  let at_ (i : Nat) : Option Nat := match smGet 0 s.rmc.mtcs (i % 256) with | 0 => none | t + 1 => some t
  let cur := s.rmCycle
  let span (i : Nat) : Option Nat := match at_ i, at_ (i + 1) with | some a, some b => some (b - a) | _, _ => none
  match at_ c, (if c = cur then span (c + 255) else span c) with
  | some t, some d => if s.cycleNs = 0 then none else some (min start (t + off * d / s.cycleNs))
  | _, _ => none

/-- A valid frame of station `k` in its in-slot: the channel's mark and its vote (R189; 11 R250). -/
def State.markValid (s : State) (f : Frame) (k : Nat) : State :=
  let v := 1 + nfield f.flags 4 2
  s.modStn f.seg k fun t =>
    let t := { t with valid := t.valid ||| (if f.chanB then 2 else 1) }
    if f.chanB then { t with voteB := v } else { t with voteA := v }

/-- The buffer that a frame fills: the one after the newest; a dual frame that follows its twin goes into the same (R194). -/
def State.fillHalf (s : State) (f : Frame) (k h mts stat : Nat) (again : Bool) : State :=
  let b := mboxBase f.seg k
  let cur := (s.rb (b + 0x600 + h)).toNat
  let nxt := if again then cur else (cur + 1) % 3
  let a := b + 0x300 * h + 0x100 * nxt
  let n := (f.payload.length - 16) / 16
  let s := ((s.wrLe a 8 mts).wrLe (a + 8) 4 stat).wrLe (a + 12) 4 1
  let s := s.wbs (a + 16) (wireLines n (f.payload.drop 16))
  let s := s.wb (b + 0x600 + h) (BitVec.ofNat 8 nxt)
  if again then s
  else s.modStn f.seg k fun t => if h = 0 then { t with fillA := t.fillA + 1 } else { t with fillB := t.fillB + 1 }

/-- ACKSEQ acknowledges a message that has gone out whole, also while it is sent again (10 R217). -/
def State.ackDown (s : State) (g k ack : Nat) : State :=
  match s.svcList g k with
  | m :: ms => if m.sends ≠ 0 ∧ m.seq % 256 = ack then (s.setSvc g k ms).segEv g 8 else s
  | [] => s

/-- A valid DATA frame while RMC is ACTIVE or PASSIVE. -/
def State.takeData (s : State) (f : Frame) (e : Slot) : State :=
  let g := f.seg.val
  let k := e.station
  let stat := beNat ((f.payload.drop 4).take 4)
  let c := (f.payload.getD 0 0).toNat
  let off := beNat ((f.payload.drop 1).take 3)
  let start := f.start.toNat
  let r := match s.mtsOf c off start with
    | some t => (t, s)
    | none => let d := s.draw; (min start d.1, d.2)
  let s := r.2
  let again : Bool := e.dual && (s.stn g k).filled
  let s := if again ∧ f.chanB then s
           else (s.fillHalf f k (if e.dual then 0 else b2n f.chanB) r.1 stat again).modStn g k fun t => { t with filled := true }
  let s := (s.wr R.RMT_STSTAT stat k g).markValid f k
  let ok := nfield stat 30 2 == 2 && stat % 2 ^ 16 == s.rd R.RMT_PID k g % 2 ^ 16
  let s := s.modStn g k fun t => if ok then { t with good := true } else { t with bad := true }
  let echo := some (nfield stat 24 6)
  let s := (s.modStn g k fun t => if f.chanB then { t with echoB := echo } else { t with echoA := echo }).learnPath g k f.chanB
  s.ackDown g k (nfield stat 16 8)

/-! SERVICE messages (10 R217). -/

/-- An uplink fragment: MTYPE, index, count, OFFSET and data after the sequence number. -/
def State.takeUplink (s : State) (f : Frame) : State :=
  let g := f.seg.val
  let p := f.payload
  let b (i : Nat) : Nat := (p.getD i 0).toNat
  let k := b 0 % 32
  let seq := beNat ((p.drop 2).take 2)
  let n := beNat ((p.drop 4).take 2)
  let mtype := b 6
  let off := beNat ((p.drop 10).take 2)
  let data := (p.drop 12).take (n - 6)
  if b 1 % 2 = 0 ∨ !(mtype == 0x10 || mtype == 0x20) then s
  else
    let t := s.stn g k
    let t := if t.upSeq = seq + 1 then t else { t with upSeq := seq + 1, upGot := 0, upLen := 0 }
    let full := 2 ^ b 8 - 1
    if t.upGot = full then s.setStn g k t
    else
      let fit := data.take (0xC00 - off)
      let s := s.wbs (mboxBase g k + 0x7000 + off) fit
      let t := { t with upGot := nsetBit t.upGot (b 7) true, upLen := max t.upLen (off + data.length) }
      let s := s.setStn g k t
      if t.upGot = full then (s.segEv g 8).uplinkDone g k mtype t.upLen else s

/-! Frames received. A row says which frame comes; the frame's own TYPE and slot say what a valid one does. -/

/-- What a valid frame does in its slot (R189, R193; 10 R217; 11 R246). Mailboxes and station states take frames only while RMC is ACTIVE
or PASSIVE (R462). -/
def State.frameActs (s : State) (f : Frame) (e : Slot) : State :=
  if s.otherSlot e then (if f.type = 7 then s.takeBeacon f else s)
  else if !s.busLive then s
  else match e.kind with
    | 0 => if f.type = 1 then s.takeData f e else s.markValid f e.station
    | 4 => if f.type = 8 ∧ s.rmCycle % 2 = 1 then s.takeUplink f else s
    | _ => s

/-- A long-form frame has ended at a port (R190, R191, R462). -/
def State.takeFrame (s : State) (f : Frame) : State :=
  (((s.awaitMt f.endAt).pathNow).receive f fun s e => s.frameActs f e).xeDone

/-- DATA_FRAME_RECEIVED (R190, R193). -/
def execDataFrameReceived (f : Frame) (s : State) : Res := .next (s.takeFrame f)
/-- NULL_FRAME_RECEIVED (R190). -/
def execNullFrameReceived (f : Frame) (s : State) : Res := .next (s.takeFrame f)
/-- SYNC_FRAME_RECEIVED (R201). -/
def execSyncFrameReceived (f : Frame) (s : State) : Res := .next (s.takeFrame f)
/-- CSF_RECEIVED (R205). -/
def execCsfReceived (f : Frame) (s : State) : Res := .next (s.takeFrame f)
/-- BEACON_RECEIVED (11 R246). -/
def execBeaconReceived (f : Frame) (s : State) : Res := .next (s.takeFrame f)
/-- SERVICE_FRAME_RECEIVED (10 R217). -/
def execServiceFrameReceived (f : Frame) (s : State) : Res := .next (s.takeFrame f)

/-! Downlink messages (10 R217, R229). -/

/-- The parameter block of a station as it stands in the station buffer (10 R216). -/
def State.paramBlock (s : State) (g k : Nat) : List (BitVec 8) :=
  let b := mboxBase g k + 0x1000
  s.rbs b (min 16384 (beNat (s.rbs (b + 4) 2)))
/-- The segment's schedule table up to its last entry (R199). -/
def State.schedBytes (s : State) (g : Nat) : List (BitVec 8) :=
  let b := stBase g + 0xF8000
  s.rbs b (min 0x8000 (0x400 + 8 * s.rdLe (b + 8) 2))
/-- The message in the downlink area: its type, its length and its data (log entry 33). -/
def State.areaMsg (s : State) (g k : Nat) : Nat × List (BitVec 8) :=
  let b := mboxBase g k + 0x5000
  ((s.rb b).toNat, s.rbs (b + 4) (min 0x1FFC (beNat (s.rbs (b + 2) 2))))

/-- SERVICE_QUEUE: RMTnn.SVCQ.GO (10 R229). -/
def execServiceQueue (_m : BitVec 6) (seg : Fin 16) (st : Fin 32) (src : BitVec 2) (s : State) : Res :=
  .next <| s.onPage (segPage seg) fun s =>
    if !s.isLead || src.toNat == 3 || !(s.svcList seg st).isEmpty then s.err (segPage seg) 0x41 0x3A0
    else if src.toNat = 1 then s.queueMsg seg st 1 (s.paramBlock seg st)
    else if src.toNat = 2 then s.queueMsg seg st 3 (s.schedBytes seg)
    else
      let m := s.areaMsg seg st
      s.queueMsg seg st m.1 m.2

/-- DOWNLINK_RESEND (10 R217): 16 cycles after the last fragment; after four sends the message is given up. -/
def execDownlinkResend (seg : Fin 16) (st : Fin 32) (s : State) : Res :=
  .next <|
    match s.svcList seg st with
    | m :: ms =>
      let s := if m.count = 0 ∨ m.frag < m.count then s else s.awaitMt (m.at_ + 16 * s.stretch s.cycleNs)
      if m.count = 0 ∨ m.frag < m.count then s
      else if 4 ≤ m.sends then (s.setSvc seg st ms).err (segPage seg) 0x42 0x3A0
      else s.setSvc seg st ({ m with frag := 0, count := 0 } :: ms)
    | [] => s

/-! Station states (10 R218–R220). -/

/-- What a module in LEAD sends to a station in PARAMETERISING: PARAM and TIMING where it holds other parameters (10, after Table 10.5),
TIMING once at each parameterisation (R217). -/
def State.parameterise (s : State) (g k : Nat) : State :=
  let differs := s.rd R.RMT_STSTAT k g % 2 ^ 16 != s.rd R.RMT_PID k g % 2 ^ 16
  if !s.isLead then s
  else
    let t := s.modStn g k fun t => { t with timed := true }
    if differs && !(s.svcList g k).any (fun m => m.mtype == 1) then
      (t.queueMsg g k 1 (s.paramBlock g k)).queueMsg g k 2 (s.timingBytes g)
    else if (s.stn g k).timed then s
    else t.queueMsg g k 2 (s.timingBytes g)

/-- The next state of a station (Table 10.5): 0 ABSENT, 1 INTEGRATING, 2 PARAMETERISING, 3 OPERATE, 4 LOST. -/
def stationNext (old : Nat) (t : StSt) (lost : Bool) : Nat :=
  match old with
  | 0 => if t.valid ≠ 0 then 1 else 0
  | 1 => if t.valid ≠ 0 ∧ t.prev then 2 else if lost then 4 else 1
  | 2 => if t.good then 3 else if lost then 4 else 2
  | 3 => if t.bad then 2 else if lost then 4 else 3
  | _ => if t.valid ≠ 0 then 1 else 4

/-- Cycles without a valid frame, counted at a station's in-slot: at most 15. -/
def missNext (valid : Bool) (miss : Nat) : Nat := if valid then 0 else min 15 (miss + 1)

/-- The halves a station in OPERATE substitutes (R220): those whose channel alone has been lost. -/
def hsubOf (new lostN : Nat) (e : Slot) (t : StSt) : Nat :=
  let half (m : Nat) : Bool := new == 3 && !e.dual && e.chan == 3 && decide (lostN ≤ m)
  b2n (half t.missA) + 2 * b2n (half t.missB)

/-- The end of the in-slot `e` of a station (R218–R220). -/
def State.evaluate (s : State) (g k : Nat) (e : Slot) : State :=
  let t0 := s.stn g k
  let t := { t0 with missA := missNext (nbit t0.valid 0) t0.missA, missB := missNext (nbit t0.valid 1) t0.missB }
  let lostN := s.rd R.RMT_CFG_LOSTN 0 g
  let miss := missNext (t0.valid != 0) (s.rd R.RMT_ST_MISS k g)
  let new := stationNext (s.rd R.RMT_ST_STATE k g) t (decide (lostN ≤ miss))
  let s := (((s.setStn g k { t with done := true }).wr R.RMT_ST_MISS miss k g).setStation g k new).wr R.RMT_ST_HSUB (hsubOf new lostN e t) k g
  if new = 2 then s.parameterise g k else s

/-- STATION_EVALUATION (10 R218, R219, R220): at the end of the in-slot, once per cycle. -/
def execStationEvaluation (seg : Fin 16) (st : Fin 32) (s : State) : Res :=
  .next <|
    match s.inSlotOf seg st with
    | none => s
    | some e =>
      if !s.segOn seg || !s.busLive || (s.stn seg st).done then s
      else (((s.awaitMt (s.mtIn e.end_)).pathNow).evaluate seg st e).xeDone

/-! Sending (R192, R195–R198). -/

/-- The segment sends now: joined, its channel open. -/
def State.segSends (s : State) (g : Nat) (b : Bool) : Bool :=
  s.segOn g && (s.rmt g).joined && s.chanOpen g b

/-- Out-slots and SERVICE downlinks are stopped by the OWNALL conflict (R196). -/
def State.ownStop (s : State) (g : Nat) : Bool := s.flag R.RMT_STAT_OWNCONF 0 g

/-- The module sends in slot `n`, entry `e`, of segment `g` on channel `b` in this cycle (R195, R197, R198). -/
def State.sendsIn (s : State) (g : Nat) (b : Bool) (e : Slot) : Bool :=
  s.segSends g b && nbit e.chan (b2n b) && s.senderOf g b e == .side s.side

/-- What goes out in an owned out-slot, from the buffer that is active at its start (01 R13; R44, R195; 10 R219): type, FLAGS and payload. Under OWNALL the same frame goes out on both channels of
a slot that uses both, with DUAL set (R188). -/
def State.outFrame (s : State) (g : Nat) (e : Slot) : Nat × Nat × List (BitVec 8) :=
  let fl := if (s.rmt g).ownall && e.chan == 3 then 8 else 0
  if s.isLead && s.flag R.RMT_ST_OUTEN e.station g then
    let b := mboxBase g e.station
    let a := b + 0x800 + 0x100 * ((s.rb (b + 0x602)).toNat % 2)
    (2, fl, wireLines (e.p / 16) (s.rbs a e.p))
  else (3, fl, [])

/-- OUT_SLOT_SEND (R44, R195; 10 R219): at the action point of the slot. -/
def execOutSlotSend (seg : Fin 16) (chanB : Bool) (slot : BitVec 12) (s : State) : Res :=
  .next <|
    let g := seg.val
    match s.slotAt g slot.toNat with
    | none => s
    | some e =>
      if s.cstate ≠ 5 ∨ e.kind ≠ 1 then s
      else
        let s := (s.awaitMt (s.mtIn e.action)).pathNow
        if !s.sendsIn g chanB e ∨ s.ownStop g then s.xeDone
        else
          let x := s.outFrame g e
          (s.sendSlot g chanB slot.toNat e x.1 x.2.1 x.2.2).xeDone

/-- PSTAT (11 R246). -/
def State.pstat (s : State) : Nat :=
  let claiming : Bool := (s.pr.claimKind != 0 && s.pr.claimCyc != 0) || s.pr.newLead
  b2n (s.isLead && s.flag R.PAIR_STAT_LEASE && !s.pr.newLead) + 2 * b2n claiming +
    4 * b2n (claiming && (s.pr.claimKind == 2 || s.pr.newLead)) + 8 * b2n (s.isLead && s.flag R.PAIR_STAT_PSYNC) +
    16 * b2n (s.isTrack && s.flag R.SYS_MODE_SYNC)

/-- The frame of the module slot (R192): CSF 5 in COLDSTART, BEACON 7 or SYNC 4 while ACTIVE; none otherwise. -/
def State.moduleType (s : State) : Option Nat :=
  if s.cstate = 2 then some 5
  else if s.cstate = 5 then some (if s.isTrack || s.isLead || s.isHold then 7 else 4)
  else none

def State.moduleBytes (s : State) (g type : Nat) : List (BitVec 8) :=
  let ps := if type = 7 then s.pstat else 0
  let claim := if ps % 4 = 0 then 0 else s.ownClaim
  beBytes 4 (s.rd R.RMT_SCHEDID 0 g) ++ beBytes 8 claim ++
    [BitVec.ofNat 8 s.mode, BitVec.ofNat 8 ps, BitVec.ofNat 8 (if type = 5 then 3 - s.rmCycle else 0), 0]

/-- The module's own module slots, as segment, slot number and entry, by their action points. -/
def insertSlot (x : Nat × Nat × Slot) : List (Nat × Nat × Slot) → List (Nat × Nat × Slot)
  | [] => [x]
  | y :: ys => if x.2.2.action ≤ y.2.2.action then x :: y :: ys else y :: insertSlot x ys
def State.ownSlots (s : State) : List (Nat × Nat × Slot) :=
  (s.onSegs.filterMap fun g =>
    match findIdx (fun e : Slot => s.ownSlot e) (s.rmt g).slots 0 with
    | some n => (s.slotAt g n).map fun e => (g, n, e)
    | none => none).foldr insertSlot []

/-- The module's frame of type `ty` in its module slot of a segment, on both channels: SYNCF and DUAL are set (R188, R189). -/
def State.moduleSend (s : State) (ty : Nat) (x : Nat × Nat × Slot) : State :=
  let s := (s.awaitMt (s.mtIn x.2.2.action)).pathNow
  s.each [false, true] fun s b =>
    if s.sendsIn x.1 b x.2.2 then s.sendSlot x.1 b x.2.1 x.2.2 ty 0x88 (s.moduleBytes x.1 ty) else s

/-- MODULE_SLOT_SEND (R192, R205): on every enabled segment and both channels. Its own claim counts for EPOCH (11 R245). -/
def execModuleSlotSend (s : State) : Res :=
  .next <|
    match s.moduleType with
    | none => s
    | some ty =>
      let s := if ty = 7 ∧ s.pstat % 4 ≠ 0 then s.seeEpoch (s.ownClaim / 2) else s
      (s.each s.ownSlots fun s x => s.moduleSend ty x).xeDone

/-- The station whose downlink message is sent next: the lowest that can take one. -/
def State.nextDown (s : State) (g : Nat) : Option Nat :=
  (upTo 32).find? fun k =>
    let st := s.rd R.RMT_ST_STATE k g
    (st == 2 || st == 3) && (match s.svcList g k with | m :: _ => !m.held && (m.count == 0 || decide (m.frag < m.count)) | [] => false)

/-- One fragment of a message goes out in slot `n`, entry `e` (10 R217, Table 9.6). -/
def State.sendFragment (s : State) (g k n : Nat) (e : Slot) (b : Bool) : State :=
  match s.svcList g k with
  | [] => s
  | m :: ms =>
    let room := e.p - 12
    let cnt := max 1 ((m.bytes.length + room - 1) / room)
    let d := (m.bytes.drop (room * m.frag)).take room
    let frag := [BitVec.ofNat 8 m.mtype, BitVec.ofNat 8 m.frag, BitVec.ofNat 8 cnt, 0] ++ beBytes 2 (room * m.frag) ++ d
    let pay := [BitVec.ofNat 8 k, 0] ++ beBytes 2 m.seq ++ beBytes 2 frag.length ++ frag
    let pad := (pay.length + 15) / 16 * 16
    let fin := m.frag + 1 == cnt
    let s := s.sendSlot g b n e 8 0 (pay ++ List.replicate (pad - pay.length) 0)
    s.setSvc g k ({ m with frag := m.frag + 1, count := cnt, sends := m.sends + b2n fin, at_ := (if fin then s.mt else m.at_) } :: ms)

/-- SERVICE_DOWNLINK_SEND (R197, R198; 10 R217): at the action point of the SERVICE slot. -/
def execServiceDownlinkSend (seg : Fin 16) (chanB : Bool) (s : State) : Res :=
  .next <|
    let g := seg.val
    match findIdx (fun e : Slot => e.kind == 4) (s.rmt g).slots 0 with
    | none => s
    | some n =>
      match s.slotAt g n with
      | none => s
      | some e =>
        if s.cstate ≠ 5 then s
        else
          let s := (s.awaitMt (s.mtIn e.action)).pathNow
          if !s.sendsIn g chanB e ∨ s.ownStop g then s.xeDone
          else
            match (if s.isLead then s.nextDown g else none) with
            | some k => (s.sendFragment g k n e chanB).xeDone
            | none => (s.sendSlot g chanB n e 3 0 []).xeDone

/-! The schedule table (R199, R200) and the start-up of a segment (10 R226). -/

/-- Entry `i` of the table at `b`. -/
def State.slotEntry (s : State) (b i : Nat) : Slot :=
  let a := b + 0x400 + 8 * i
  let st := s.rdLe (a + 4) 1
  ⟨s.rdLe a 2, s.rdLe (a + 2) 1, s.rdLe (a + 3) 1, st % 32, nbit st 5, nbit st 6, s.rdLe (a + 5) 1, s.rdLe (a + 6) 1⟩
/-- No two slots that share a channel overlap. -/
def slotsApart : List Slot → Bool
  | [] => true
  | e :: es => (es.all fun x => e.chan &&& x.chan == 0 || !(decide (e.at_ < x.end_) && decide (x.at_ < e.end_))) && slotsApart es
/-- The entries lie in order of round, then start. -/
def slotsRise : List Slot → Bool
  | [] => true
  | [_] => true
  | e :: x :: es => (decide (e.round < x.round) || (e.round == x.round && decide (e.start ≤ x.start))) && slotsRise (x :: es)

/-- The first condition of R200 that the table of segment `g` fails; 0 where it meets all. -/
def State.schedCheck (s : State) (g : Nat) : Nat :=
  let b := stBase g + 0xF8000
  let rounds := s.rdLe (b + 6) 1
  let n := s.rdLe (b + 8) 2
  let es := (upTo (min n 3968)).map (s.slotEntry b)
  let zero (a k : Nat) : Bool := (s.rbs a k).all (· == 0)
  let others := s.onSegs.filter (· != g)
  let per (k kind : Nat) : Bool := decide ((es.filter fun e => e.kind == kind && e.station == k).length ≤ 1)
  let syncs := (es.filter fun e => e.kind == 0 && e.syncst).length +
    (others.map fun o => ((s.rmt o).slots.filter fun e => e.kind == 0 && e.syncst).length).sum
  let modOk (kind : Nat) : Bool :=
    match es.filter fun e => e.kind == kind with
    | [e] => e.round == 0 && e.p == 16 && e.chan == 3
    | _ => false
  firstFail [
    (1, s.rdLe b 4 == 0x43534D52 && s.rdLe (b + 4) 2 == 1 && decide (2 ≤ rounds ∧ rounds ≤ 128) && decide (1 ≤ n ∧ n ≤ 3968) &&
        decide (s.rdLe (b + 7) 1 < 2) && zero (b + 10) 2 && zero (b + 0x310) 240 &&
        ((upTo 768).all fun i => let v := s.rdLe (b + 0x10 + i) 1; v == 0xFF || (decide (v < 32) && decide (i / 6 < rounds))) &&
        ((upTo (min n 3968)).all fun i =>
          let a := b + 0x400 + 8 * i
          decide (s.rdLe (a + 3) 1 ≤ 4) && decide (s.rdLe (a + 4) 1 < 128) && decide (s.rdLe (a + 6) 1 < 4) && s.rdLe (a + 7) 1 == 0)),
    (2, others.all fun o => (s.rmt o).rounds == rounds),
    (3, es.all (fun e => decide (e.round < rounds) && decide (16000 ≤ e.start * 10) &&
          decide (e.start * 10 + e.ns ≤ (if e.round + 1 = rounds then 123000 else 125000))) && slotsRise es),
    (4, slotsApart es),
    (5, modOk 2 && modOk 3),
    (6, match es.filter fun e => e.kind == 4 with
        | [] => true
        | [e] => e.chan == 3 && decide (16 ≤ e.p ∧ e.p ≤ 240) && e.p % 16 == 0
        | _ => false),
    (7, ((upTo 32).all fun k => per k 0 && per k 1) && es.all fun e =>
          if e.kind = 0 then e.p % 16 == 0 && decide (16 ≤ e.p ∧ e.p ≤ 240)
          else if e.kind = 1 then e.p % 16 == 0 && decide (16 ≤ e.p ∧ e.p ≤ 240)
          else e.station == 0),
    (8, (es.all fun e => e.kind == 0 || (!e.syncst && !e.dual)) && decide (syncs ≤ 2)),
    (9, es.all fun e => e.chan != 0)]

/-- The segment takes part in the cluster from now on (10 R226, R207). -/
def State.segJoins (s : State) (g : Nat) : State :=
  let s := s.wr R.RMC_STAT_ROUNDS (s.rmt g).rounds
  if s.cstate = 0 then ((s.modRmt g fun r => { r with joined := true }).setCstate 1).modRmc fun r => { r with since := s.mt }
  else if s.hasCycle then s.wr R.RMT_STAT_CYCLE s.rmCycle 0 g
  else s

/-- STARTING of a segment controller ends (10 R226, R199): FAULT with code 0x40, or ON with its copy of the schedule. -/
def State.segStart (s : State) (g : Nat) : State :=
  let c := s.schedCheck g
  let s := s.wr R.RMT_SCHEDCHK c 0 g
  if c ≠ 0 then (s.toFault (segPage g)).err (segPage g) 0x40 0x108
  else
    let b := stBase g + 0xF8000
    let n := s.rdLe (b + 8) 2
    let id := crc32 (s.rbs (b + 4) 8 ++ s.rbs (b + 0x10) (0x3F0 + 8 * n))
    let s := (s.wrLe (b + 0xC) 4 id).wr R.RMT_SCHEDID id 0 g
    let rounds := s.rdLe (b + 6) 1
    let s := s.setRmt g { rounds := rounds, ownall := nbit (s.rdLe (b + 7) 1) 0, slots := (upTo n).map (s.slotEntry b), mini := (upTo 768).map fun i => s.rdLe (b + 0x10 + i) 1 }
    let s := (s.wr R.RMT_STAT_OWNCONF 0 0 g).wr R.RMT_STAT_GBLK 0 0 g
    let s := (s.guardSeed g false s.rmCycle s.mt).guardSeed g true s.rmCycle s.mt
    (s.setUnit (segPage g) 2).segJoins g

end Sys2Proof.Machine
end

