-- ==== Sys2Proof/Machine/Upd.lean ====
section
/-! DEFINITION. UPD (20): transfers, the header check, verification, attempts and reversion. -/

namespace Sys2Proof.Machine

/-! The header check (Table 20.5). -/

/-- A field of an image header. -/
def imgNum (h : List (BitVec 8)) (o n : Nat) : Nat := leNat ((h.drop o).take n)

/-- The first failed check on a header, 0 where all pass. -/
def State.headCheck (s : State) (h : List (BitVec 8)) (type total : Nat) : Nat :=
  let v := s.rd R.SYS_IDENT_VARIANT
  let ver := imgNum h 8 4
  let len := imgNum h 0x10 4
  firstFail [
    (1, imgNum h 0 4 == 0x42344B4D && imgNum h 4 2 == 1 && imgNum h 0x0E 2 == 0 && imgNum h 0x14 4 == 0 && imgNum h 0x60 160 == 0),
    (2, imgNum h 6 1 == type && decide (1 ≤ type ∧ type ≤ 5)),
    (3, nbit (imgNum h 0x40 32) v && imgNum h 7 1 == imgNum h 0x40 1),
    (4, decide (s.rd R.UPD_WIN_VMIN (type - 1) ≤ ver) && decide (ver / 2 ^ 24 ≤ s.rd R.UPD_WIN_MAJMAX (type - 1))),
    (5, len != 0 && len % 64 == 0 && 512 + len == total && decide (len ≤ slotCap type - 512)),
    (6, type != 1 || !((s.isLead || s.isTrack) && s.flag R.PAIR_STAT_PARTNER) ||
          (imgNum h 0x0C 2 == s.rd R.PAIR_LOCAL_MFV && ver / 2 ^ 24 == s.rd R.PAIR_LOCAL_FWVER / 2 ^ 8))]

/-- The first failed step of R421 on an image in a slot, 0 where it verifies. -/
def State.imgCheck (s : State) (b : SMap (BitVec 8)) (k slot : Nat) : Nat :=
  let h := bookBytes b k slot 0 256
  let len := imgNum h 0x10 4
  let tr := bookBytes b k slot (256 + len) 256
  let pub := (tr.drop 0x10).take 65
  let keyhash := (upTo 8).foldl (fun a j => a + s.rd R.UPD_KEYHASH j * 2 ^ (32 * j)) 0
  firstFail [
    (1, Config.sha256 (bookBytes b k slot 256 len) == imgNum h 0x20 32),
    (2, imgNum tr 0 4 == 0x53344B4D && imgNum tr 4 12 == 0 && imgNum tr 0x51 15 == 0 && imgNum tr 0xA0 96 == 0),
    (3, Config.sha256 pub == keyhash),
    (4, Config.verify (beNat pub) h ((tr.drop 0x60).take 64))]

/-! Transfers (R408, R419, R420). -/

/-- The offset rules of R408 on a block. -/
def State.blockOk (s : State) (type off len total : Nat) : Bool :=
  off % 1024 == 0 && decide (off + len ≤ total) && (len == 1024 || off + len == total) && len != 0 && decide (len ≤ 1024) &&
    decide (total ≤ slotCap type) && (s.rd R.UPD_STAT_TYPE == 0 || s.upd.total == total)

/-- Every block of the transfer is held. -/
def State.xferWhole (s : State) : Bool := s.upd.head && decide ((s.upd.total + 1023) / 1024 ≤ s.upd.got.length)

/-- UPD.RES and the ERRINFO code that goes with it. -/
def State.updRes (s : State) (code check : Nat) : State :=
  let s := (s.wr R.UPD_RES_CODE code).wr R.UPD_RES_CHECK check
  match code with
  | 2 => s.err 0x68 0xF1 0x1A4
  | 4 => s.err 0x68 0xF2 0x1A4
  | 5 => s.err 0x68 0xF4 0x1A4
  | _ => s

/-- The block joins the transfer; the completing one starts the verification (R421). Source 232. -/
def State.blockHeld (s : State) (type off : Nat) (data : List (BitVec 8)) : State :=
  let d := s.typeDir type
  let got := if s.upd.got.contains off then s.upd.got else (s.upd.got.filter (· < off)) ++ off :: (s.upd.got.filter (off < ·))
  let s :=
    if s.upd.head then s.setBook (bookPut s.updBook type d.target off data)
    else s.setUpd { s.upd with early := (s.upd.early.filter fun e => e.1 != off) ++ [(off, data)] }
  let s := (s.setUpd { s.upd with got := got }).wr R.UPD_XFER_RECV got.length |>.ev 0x68 0
  if s.xferWhole then (s.setUpd { s.upd with verifying := true }).wr R.UPD_STAT_BUSY 1 else s.updRes 0 0

/-- UPD takes a block (R419, R420). -/
def State.updBlock (s : State) (type off len total : Nat) (data : List (BitVec 8)) (room : Bool) : State :=
  let open_ := s.rd R.UPD_STAT_TYPE
  if s.flag R.UPD_STAT_BUSY then s.err 0x68 0xF0 0x1A4
  else if !s.crtActive && !s.sys.recovery then s.updRes 6 0
  else if type = 0 ∨ 5 < type then (s.ev 0x68 2).updRes 2 2
  else if open_ ≠ 0 ∧ open_ ≠ type then s.updRes 5 0
  else if !s.blockOk type off len total then s.updRes 3 0
  else if off = 0 ∧ !s.upd.head then
    let c := s.headCheck data type total
    let d := s.typeDir type
    if c ≠ 0 then ((s.xferDrop).ev 0x68 2).updRes 2 c
    else if !room || (s.isHold && s.rd R.SYS_MODE_HOLDCAUSE == 4 && nbit s.upd.tried (type - 1)) then s.updRes 5 0
    else
      let t := d.target
      let s := s.setDir type ({ (d.setSlot t ⟨1, imgNum data 8 4, imgNum data 0x10 4, Config.sha256 (data.take 256)⟩) with
        att := if (d.slot t).state = 3 then 0 else d.att })
      let early := s.upd.early
      let s := (s.setUpd { s.upd with head := true, total := total, early := [] }).wr R.UPD_STAT_TYPE type
      let s := s.setBook (early.foldl (fun b e => bookPut b type t e.1 e.2) s.updBook)
      s.blockHeld type off data
  else (((s.setUpd { s.upd with total := total }).wr R.UPD_STAT_TYPE type).blockHeld type off data)

/-- The fabric master of UPD (18 Table 18.1). -/
def updMaster : Nat := 0x1A

/-- UPD_BLOCK_SUBMIT (R419, R427): the block lies in memory at BLKADDR. One that its gate does not let UPD read is refused with RES.CODE
5 (log entry 47). -/
def execUpdBlockSubmit (_m : BitVec 6) (room : Bool) (s : State) : Res :=
  .next <| s.onPage 0x68 fun s =>
    let len := s.rd R.UPD_BLKLEN
    if s.flag R.UPD_STAT_BUSY then s.err 0x68 0xF0 0x1A4
    else
      match s.dmaLoad updMaster (s.rd R.UPD_BLKADDRLO * 64 + s.rd R.UPD_BLKADDRHI * 2 ^ 32) len with
      | (some bs, t) => t.updBlock (t.rd R.UPD_BLK_TYPE) (t.rd R.UPD_BLKOFF) len (t.rd R.UPD_BLKTOTAL) bs room
      | (none, t) => t.updRes 5 0

/-- Verified images of all five types are held: START goes on at step 0x04 (R424). -/
def State.recoveryDone (s : State) : State :=
  if s.sys.recovery && s.upd.ram == 31 then
    { s.wr R.SYS_STARTSTEP_STEP 4 with sys := { s.sys with recovery := false } }
  else s

/-- UPD_VERIFY_COMPLETE (R421). -/
def execUpdVerifyComplete (s : State) : Res :=
  .next <|
    if !s.upd.verifying || !s.powered 0x68 then s
    else
      let k := s.rd R.UPD_STAT_TYPE
      let d := s.typeDir k
      let t := d.target
      let c := s.imgCheck s.updBook k t
      let s := s.xferDrop
      if c = 0 then
        let s := s.setDir k ({ (d.setSlot t { d.slot t with state := if s.sys.recovery then 4 else 3 }) with
          att := 0, act := if s.sys.recovery then t else d.act })
        let s := if s.sys.recovery then s.setUpd { s.upd with ram := nsetBit s.upd.ram (k - 1) true } else s
        (((s.ev 0x68 1).updRes 1 0).imgReply true).recoveryDone
      else (((s.setDir k (d.setSlot t ImgSlot.empty)).ev 0x68 2).updRes 4 c).imgReply false

/-- The open transfer is discarded, and its slot becomes EMPTY (R427). -/
def State.updCancel (s : State) : State :=
  let k := s.rd R.UPD_STAT_TYPE
  if k = 0 then s
  else
    let d := s.typeDir k
    (if s.upd.head then s.setDir k (d.setSlot d.target ImgSlot.empty) else s).xferDrop

/-- UPD_CANCEL (R427). -/
def execUpdCancel (_m : BitVec 6) (s : State) : Res := .next <| s.onPage 0x68 fun s => s.updCancel

/-- UPD_UNPEND (R427, R426). -/
def execUpdUnpend (m : BitVec 6) (type : BitVec 8) (s : State) : Res :=
  .next <| s.onPage 0x68 fun s =>
    let s := (s.wr R.UPD_CMD_TYPE type.toNat).cfgBump s 0x68 0x1B0 m.toNat
    let k := type.toNat
    let d := s.typeDir k
    if k = 0 ∨ 5 < k ∨ s.rd R.UPD_STAT_TYPE = k ∨ (d.a.state ≠ 3 ∧ d.b.state ≠ 3) then s.err 0x68 0xF3 0x1B0
    else
      let t := if d.a.state = 3 then 0 else 1
      s.setDir k { (d.setSlot t { d.slot t with state := 2 }) with att := 0 }

/-! Start, attempts and reversion (R422, R423, R426). -/

/-- Start step 0x03 (R422): counts, the images to load, PENDSLOT; source 235 on a reversion. -/
def State.bookStart (s : State) : State :=
  let r := (upTo 5).map fun i => (s.crt.dir.getD i TypeDir.empty).start
  let tried := (upTo 5).foldl (fun a i => nsetBit a i ((r.getD i (TypeDir.empty, false, false)).2.1)) 0
  let copyDir := r.map fun x =>
    let t := x.1.loads x.2.1
    if t = 3 then TypeDir.empty else { (TypeDir.empty.setSlot t { x.1.slot t with state := 4 }) with act := t }
  let loaded := (upTo 5).map fun i => let x := r.getD i (TypeDir.empty, false, false); x.1.loads x.2.1
  let keep (key : Nat) : Bool := let ks := key / 2 ^ 27; loaded.getD (ks / 2) 3 == ks % 2
  let s := (s.setCrt { s.crt with dir := r.map (·.1) }).updView
  let s := s.setUpd { s.upd with tried := tried, copyDir := copyDir, copies := s.crt.book.filter fun e => keep e.1 }
  let s := s.put R.SYS_STARTSTEP_PENDSLOT (nbit tried 0)
  if r.any (·.2.2) then s.ev 0x68 3 else s

/-- Every image this start loads verifies (R422, R421). -/
def State.bookLoads (s : State) : Bool :=
  (upTo 5).all fun i =>
    let d := s.upd.copyDir.getD i TypeDir.empty
    d.act != 3 && s.imgCheck s.upd.copies (i + 1) d.act == 0

end Sys2Proof.Machine
end

