-- ==== Sys2Proof/Machine/Enable.lean ====
section
/-! DEFINITION. CTRL.EN, draining, unit faults and soft resets as each unit takes them (02 R32, R35–R37, R464; each unit's chapter). -/

namespace Sys2Proof.Machine

def isRmt (p : Nat) : Bool := decide (0x20 ≤ p) && decide (p < 0x30)
def isPl (p : Nat) : Bool := p == 0x38 || p == 0x39
def isMac (p : Nat) : Bool := decide (0x41 ≤ p) && decide (p < 0x44)
def isRack (p : Nat) : Bool := p == 0x60 || p == 0x61

/-- PWR.DOMAIN: the domain of a segment controller or pair link is on (01 Table 1.5). -/
def State.domain (s : State) (p : Nat) (on : Bool) : State :=
  if isRmt p then s.bitTo R.PWR_DOMAIN_SEG (p - 0x20) on
  else if isPl p then s.bitTo R.PWR_DOMAIN_PL (p - 0x38) on
  else s

/-- What a unit does that has entered STARTING: its domain is on; MACs check their rings, CAN controllers their timing. -/
def State.unitStarting (s : State) (p : Nat) : State :=
  if s.unit p ≠ 1 then s
  else
    let s := s.domain p true
    if isMac p then s.macCheck (p - 0x41) else if isRack p then s.rbCheck (p - 0x60) else s

/-- A pair link is powered down (11, before R263). -/
def State.linkOff (s : State) (l : Nat) : State :=
  let up := s.linkUp l
  let s := (s.wr R.PL_STAT_UP 0 0 l).wr R.PL_STAT_TRAINING 0 0 l
  if !up then s
  else
    let s := s.ev (plPage l) 0
    (if s.upLinks = [] then s.castLinksLost else s).xeDone

/-- What a unit does that has entered ON at the end of its start-up: ER logs its start, an input image begins anew, a link trains. -/
def State.unitEnters (s : State) (p : Nat) : State :=
  if p = 0x51 then s.erEnabled.erView
  else if p = 0x58 then ({ s with lio := { s.lio with sampled := 0, at_ := [], agree := [] } }).lioLevels
  else if isPl p then s.wr R.PL_STAT_TRAINING 1 0 (p - 0x38)
  else s

/-- START_UP_COMPLETE (02 R35): ON, or DRAINING where EN has been cleared. A segment controller checks its schedule (10 R226). -/
def State.started (s : State) (p : Nat) : State :=
  if s.unit p ≠ 1 then s
  else if !s.flag R.H_CTRL_EN 0 p then s.setUnit p 3
  else if isRmt p then s.segStart (p - 0x20)
  else (s.setUnit p 2).unitEnters p
def execStartUpComplete (page : BitVec 8) (s : State) : Res :=
  .next <| let p := firstPage page.toNat; if s.present p then s.started p else s

/-- Clearing EN (02 R35): XE abandons its work but for a COMMIT (05 R111), LIO's commands fall (16, Table 16.8), debug unlock ends (18 R393). -/
def State.unitDisabled (s : State) (p : Nat) : State :=
  if p = 0x10 then (s.abandonAll true).xeDone
  else if p = 0x58 then s.lioLevels
  else if p = 0x70 then s.wr R.DBG_STAT_UNLOCKED 0
  else s

/-- A write to CTRL.EN (02 R35–R37). Where EN is RO a differing bit records code 0x03 (R25). -/
def State.writeEn (s : State) (page : Nat) (en : Bool) : State :=
  let p := firstPage page
  if enRo p then (if s.flag R.H_CTRL_EN 0 p = en then s else s.err p 0x03 0x010)
  else
    let s := s.enTransition p en
    if en then (if s.unit p = 1 then s.unitStarting p else s)
    else (if s.unit p = 0 then s.domain p false else s).unitDisabled p
/-- The entry into STARTING is the write's only where the unit was OFF. -/
def State.ctrlEn (s : State) (page : Nat) (en : Bool) : State :=
  let p := firstPage page
  if en ∧ s.unit p = 1 then s.put R.H_CTRL_EN en 0 p else s.writeEn p en

/-- CTRL_EN_WRITE. -/
def execCtrlEnWrite (_m : BitVec 6) (page : BitVec 8) (en : Bool) (s : State) : Res :=
  .next <| s.onPage page.toNat fun s => s.ctrlEn page.toNat en

/-- What ends with draining: a segment leaves (10 R225), a link goes down, ER has written out (15). -/
def State.unitLeaves (s : State) (p : Nat) : State :=
  if isRmt p then s.segLeaves (p - 0x20) else if isPl p then s.linkOff (p - 0x38) else if p = 0x51 then s.erDrained.erView else s

/-- What draining's end does. -/
def State.drainEnds (s : State) (p : Nat) : State :=
  if s.unit p ≠ 3 then s
  else
    let s := (if p = 0x51 then s.unitLeaves p else s).drained p
    let s := if p = 0x51 then s else s.unitLeaves p
    if s.unit p = 1 then s.unitStarting p else s.domain p false
/-- DRAINING_COMPLETE (02 R35): a segment's at the end of the NIT of its cycle (10 R225), a rack-bus controller's once its frame has ended
(17 R376). -/
def execDrainingComplete (page : BitVec 8) (s : State) : Res :=
  .next <|
    let p := firstPage page.toNat
    if !s.present p || s.unit p != 3 || (isRack p && (s.rb_ (p - 0x60)).tx.isSome) then s
    else if isRmt p && s.hasCycle then (((s.awaitMt s.nextStart).pathNow).drainEnds p).xeDone
    else s.drainEnds p

/-! Abandoned work (02 R32, R35). -/

/-- A planned or running operation of PAIR is given up: claims not yet confirmed, castling, a join, queued chunks. -/
def State.pairAbandon (s : State) : State :=
  let s := (if s.pr.castKind = 0 then s else s.castEnd 0).dropClaim
  let s := s.wr R.PAIR_SYNC_STAT_PHASE 0
  { s with pr := { s.pr with joinLead := false, finalW := 0, finalLines := [], dirty := [], queued := [] } }

/-- XE's work: every ply and task, an activation, a verification, an armed seal or a switch. -/
def State.xeAbandon (s : State) (keep : Bool) : State :=
  let s := { (s.abandonAll keep).sealCancel with act := 0 }
  let s := s.wr R.XE_ET_PEND 0
  let s := if s.rd R.XE_SM_STAT_STATE = 1 then (s.wr R.XE_SM_STAT_STATE 0).verifyReply 13 else s
  if s.rd R.XE_SM_STAT_STATE = 4 then (s.wr R.XE_SM_STAT_STATE 0).sealReply false else s

/-- What TIM has begun: a SET and steps that await their tick, pulses of the 1PPS output. -/
def State.timAbandon (s : State) : State :=
  let s := (s.wr R.TIM_NTSTAT_STEPPEND 0).wr R.TIM_NTSTEP_CMD_GO 0
  (s.setTim { s.tim with set := none, steps := [] }).setPulses []

/-- What CRT has begun: a checkpoint and a NAND operation. -/
def State.crtAbandon (s : State) : State :=
  let s := s.ckDrop.wr R.CRT_NAND_CMD_GO 0
  s.setCrt { s.crt with want := false, op := 0 }

/-- What ER has begun: a flush, a clear, cursor moves. -/
def State.erAbandon (s : State) : State :=
  (s.setEr { s.er with flushing := false, flushN := 0, clearing := none, moves := [] }).erView

/-- What BKD has begun: a domain write, a calendar commit, a load test. -/
def State.bkdAbandon (s : State) : State :=
  let s := ((s.wr R.BKD_STAT_WPEND 0).wr R.BKD_STAT_COMMITPEND 0).wr R.BKD_STAT_LOADBUSY 0
  { s with bk := { s.bk with wpend := none, commit := none } }

/-- RMC starts anew for the segments that are on. -/
def State.rmcAbandon (s : State) : State :=
  let s := s.rmcOff
  if s.onSegs = [] then s else (s.wr R.RMC_STAT_ROUNDS (s.rmt (s.onSegs.headD 0)).rounds).joinSegs.listen

/-- A unit's work in progress is abandoned. -/
def State.unitAbandon (s : State) (p : Nat) : State :=
  if isRmt p then s.segLeaves (p - 0x20)
  else if isPl p then s.linkOff (p - 0x38)
  else if isMac p then s.setEmac (p - 0x41) { s.emac (p - 0x41) with sending := false, scan := false }
  else if isRack p then s.rbTxEnd (p - 0x60)
  else match p with
    | 0x10 => (s.xeAbandon false).xeDone
    | 0x18 => { s with te := { s.te with locking := false } }
    | 0x30 => s.rmcAbandon
    | 0x3A => s.pairAbandon
    | 0x40 => s.timAbandon
    | 0x48 => s.bkdAbandon
    | 0x50 => s.crtAbandon
    | 0x51 => s.erAbandon
    | 0x68 => s.xferDrop
    | _ => s

/-- DRAINING_TIMEOUT (02 R35). -/
def execDrainingTimeout (page : BitVec 8) (s : State) : Res :=
  .next <| let p := firstPage page.toNat; if s.present p && s.unit p == 3 then (s.toFault p).unitAbandon p else s

/-- UNIT_FAULT (02 R35). -/
def execUnitFault (page : BitVec 8) (s : State) : Res :=
  .next <|
    let p := firstPage page.toNat
    if s.present p && s.unit p != 4 then
      let t := (s.toFault p).unitAbandon p
      if p = 0x58 then t.lioLevels else t
    else s

/-- What a unit shows once its fields are back at reset. -/
def State.unitRefresh (s : State) (p : Nat) : State :=
  if isRack p then s.rbReset (p - 0x60)
  else if isMac p then s.stampView (p - 0x41)
  else match p with
    | 0x10 => ((s.each (upTo 3) fun s n => if s.flag R.XE_CLS_CFG_EN n then s else s.modPly n fun q => { q with next := none }).stagedView)
    | 0x3A => { s with pr := { s.pr with staged := [], active := [] } }
    | 0x51 => s.erView
    | 0x58 => s.lioLevels
    | _ => s

/-- A soft reset in STATE OFF, ON or FAULT (02 R32). In SERVICE it unlocks TE and clears its store, with source 27 once EVSTAT is
cleared (08 R177). TIM's LOCKED falls by it, which re-anchors the classes that followed it (12 R272). -/
def State.srst (s : State) (page : Nat) : State :=
  let p := firstPage page
  let unlocks := p == 0x18 && s.flag R.TE_CFGSTAT_LOCKED
  let s := s.unitAbandon p
  let s := if p = 0x40 then s.writeLocked false else s
  let s := if p = 0x18 then { s.teUnlocked with te := { State.reset.te with rxPay := s.te.rxPay, rxAt := s.te.rxAt } } else s
  let s := ((s.srstRegs p).unitRefresh p).unitStarting p
  if unlocks then s.ev 0x18 3 else s

/-- A write of 1 to CTRL.SRST (02 R32; 08 for TE, 21 for SAF). -/
def State.writeSrst (s : State) (page : Nat) : State :=
  let p := firstPage page
  if s.unit p = 1 ∨ s.unit p = 3 then s.err p 0x02 0x010
  else if p = 0x18 ∧ !s.isService then s.err 0x18 0x34 0x010
  else if p = 0x05 then ((s.wr R.H_EVSTAT 0 0 0x05).wrap R.H_CFGGEN 0 0x05).setUnit 0x05 1
  else s.srst p

/-- SOFT_RESET (02 R32). -/
def execSoftReset (_m : BitVec 6) (page : BitVec 8) (s : State) : Res :=
  .next <| s.onPage page.toNat fun s => s.writeSrst page.toNat

/-- LOCK_KEY_WRITE (02 R33). -/
def execLockKeyWrite (_m : BitVec 6) (page : BitVec 8) (value : BitVec 32) (s : State) : Res :=
  .next <| s.lockWrite page.toNat value.toNat

/-- EVFORCE_WRITE (02 R31). -/
def execEvforceWrite (_m : BitVec 6) (page : BitVec 8) (value : BitVec 32) (s : State) : Res :=
  .next <| s.onPage page.toNat fun s => s.evforce page.toNat value.toNat

end Sys2Proof.Machine
end

