-- ==== Sys2Proof/Machine/Evc.lean ====
section
/-! DEFINITION. The event controller (02 R38–R42): which source is delivered to which core pair, CLAIM and COMPLETE. -/

namespace Sys2Proof.Machine

def servRow (n : Nat) : Row := if n = 0 then R.EVC_SRCCFG_SERV0 else R.EVC_SRCCFG_SERV1

/-- Source `k` is pending (02 R38): a maskable source asserts with its ENA bit set; sources 0–7 cannot be disabled. -/
def State.srcPending (s : State) (k : Nat) : Bool :=
  s.asserts k && (decide (k < 8) || nbit (s.rd R.EVC_ENA (k / 32)) (k % 32))

/-- Priority and routing; sources 0–7 have priority 31 and go to both pairs (02 R41). -/
def State.srcPrio (s : State) (k : Nat) : Nat := if k < 8 then 31 else s.rd R.EVC_SRCCFG_PRIO k
def State.srcRouted (s : State) (n k : Nat) : Bool := decide (k < 8) || nbit (s.rd R.EVC_SRCCFG_ROUTE k) n

/-- Source `k` is deliverable to core pair `n` (02 R38, R41). -/
def State.deliverable (s : State) (n k : Nat) : Bool :=
  s.srcPending k && s.srcRouted n k && !s.flag (servRow n) k &&
    (decide (k < 8) || (decide (s.rd R.EVC_THR_THR n < s.srcPrio k) && s.srcPrio k != 0))

/-- The winner among the deliverable sources: the higher priority, then the lower number (02 R38). -/
def State.winner (s : State) (n : Nat) : Option Nat :=
  (upTo 256).foldl (fun best k =>
    if s.deliverable n k then
      match best with
      | some b => if s.srcPrio b < s.srcPrio k then some k else some b
      | none => some k
    else best) none

/-- Pair `n` claims source `k`: in service for the pair, and for both when it is maskable and routed to both (R39–R41). -/
def State.claimSrc (s : State) (n k : Nat) : State :=
  let s1 := s.wr (servRow n) 1 k
  if k < 8 then s1
  else
    let s2 := { s1 with evcOwner := smSet 0 s1.evcOwner k (n + 1) }
    if s.srcRouted 0 k && s.srcRouted 1 k then s2.wr (servRow (1 - n)) 1 k else s2

/-- A read of EVC.CLAIMn: its word and the state after it (02 R39). -/
def State.claim (s : State) (n : Nat) : Nat × State :=
  match s.winner n with
  | some k => (2 ^ 31 + k, s.claimSrc n k)
  | none => (0, s)

/-- A write of `k` to EVC.COMPLETEn (02 R40, R41): it ends service when this pair claimed the source. -/
def State.complete (s : State) (n k : Nat) : State :=
  if k < 8 then
    if s.flag (servRow n) k then s.wr (servRow n) 0 k else s.err 0x03 0x10 (0x160 + 4 * n)
  else if s.flag (servRow n) k && smGet 0 s.evcOwner k == n + 1 then
    let s := (s.wr (servRow 0) 0 k).wr (servRow 1) 0 k
    { s with evcOwner := smSet 0 s.evcOwner k 0 }
  else s.err 0x03 0x10 (0x160 + 4 * n)

/-- The reads of EVC.CLAIM0 and EVC.CLAIM1 that take effect in one clock, answered with a word each. -/
def State.claims (s : State) (cp0 cp1 : Bool) : State :=
  let r0 := if cp0 then s.claim 0 else (0, s)
  let r1 := if cp1 then r0.2.claim 1 else (0, r0.2)
  { r1.2 with bus := ⟨(if cp0 then leBytes 4 r0.1 else []) ++ (if cp1 then leBytes 4 r1.1 else []), false, s.bus.memtype, s.bus.share, 0⟩ }

/-- EVC_CLAIM. The claims of one clock are resolved together, CP0's first (02 R40). -/
def execEvcClaim (cp0 cp1 : Bool) (s : State) : Res :=
  .next <|
    if s.present 0x03 then (s.touch 0x03).claims cp0 cp1
    else { s with bus := ⟨(if cp0 then leBytes 4 0 else []) ++ (if cp1 then leBytes 4 0 else []), false, s.bus.memtype, s.bus.share, 0⟩ }

/-- EVC_COMPLETE (02 R40). -/
def execEvcComplete (pair : Fin 2) (src : BitVec 8) (s : State) : Res :=
  .next <| s.onPage 0x03 fun s => s.complete pair src.toNat

end Sys2Proof.Machine
end

