-- ==== Sys2Proof/Machine/Sealed.lean ====
section
/-! DEFINITION. On-line change and forced values (07): verification, arming, the switch, the force tables, and what firmware does
with the messages of its partner. -/

namespace Sys2Proof.Machine

/-! The symbol table of a package (Table 7.1; log entry 26): 20 bytes an entry, little-endian: symbol ID, instance offset, bytes,
bytes of an element (2), type code (2), what WRITEVAR allows (1), tagged value (1), 2 bytes of 0. -/

def symOf (b : List (BitVec 8)) : Sym :=
  let num (o n : Nat) := leNat ((b.drop o).take n)
  ⟨num 0 4, num 4 4, num 8 4, num 12 2, num 14 2, num 16 1, num 17 1 % 2 == 1⟩
def symTable (m : SMap (BitVec 8)) (len : Nat) : List Sym := (upTo (len / 20)).map fun i => symOf ((upTo 20).map fun j => smGet 0 m (20 * i + j))
def symNamed (l : List Sym) (id : Nat) : Option Sym := l.find? fun x => x.id == id

/-! Carry-over maps (R145, R146). -/

/-- A carry-over descriptor (Table 7.2). -/
structure Desc where
  src : Nat
  dst : Nat
  len : Nat
  conv : Nat
  flags : Nat
  qual : Nat
  deriving DecidableEq, Repr

/-- The DRAM address and the descriptor count of the map of a direction. -/
def State.mapBase (s : State) (rev : Bool) : Nat :=
  if rev then s.rd R.XE_SM_RMAPLO * 64 + s.rd R.XE_SM_RMAPHI * 2 ^ 32 else s.rd R.XE_SM_FMAPLO * 64 + s.rd R.XE_SM_FMAPHI * 2 ^ 32
def State.mapCount (s : State) (rev : Bool) : Nat := if rev then s.rd R.XE_SM_RMAPN else s.rd R.XE_SM_FMAPN

def State.mapDesc (s : State) (rev : Bool) (i : Nat) : Desc :=
  let a := s.mapBase rev + 16 * i
  ⟨s.rdLe a 4, s.rdLe (a + 4) 4, s.rdLe (a + 8) 4, s.rdLe (a + 12) 1, s.rdLe (a + 13) 1, s.rdLe (a + 14) 2⟩
def State.mapDescs (s : State) (rev : Bool) : List Desc := (upTo (s.mapCount rev)).map (s.mapDesc rev)

def Desc.tv (d : Desc) : Bool := nbit d.flags 0
/-- Bytes of a source element (Table 7.3): a tagged value with FLAGS bit 0 and for REQ. -/
def Desc.elem (d : Desc) : Nat := if d.tv ∨ d.conv = 4 then 16 else if d.conv = 2 then 8 else 4
/-- Destination length (Table 7.3). -/
def Desc.dlen (d : Desc) : Nat := if (d.conv = 1 ∨ d.conv = 3) ∧ !d.tv then 2 * d.len else d.len

/-- T_SW in ns of a map (R146). -/
def tswOf (ds : List Desc) : Nat := 10000 + 8 * ds.length + 16 * (ds.map fun d => (d.dlen + 63) / 64).sum
/-- XE.SM.TSW: T_SW of the DIR map in 10 ns; 0 while that map has no descriptor (log entry 24). -/
def State.tswView (s : State) : Nat :=
  let rev := s.flag R.XE_SM_CTRL_DIR
  if s.mapCount rev = 0 then 0 else tswOf (s.mapDescs rev) / 10

/-! Verification (R147, Table 7.4). -/

/-- Check 13 of one descriptor; `cu` is CONSTUSED of the half the map enters. -/
def State.descOk (s : State) (cu : Nat) (d : Desc) : Bool :=
  let e := d.elem
  decide (d.conv ≤ 5) && decide (d.flags < 4) && (!nbit d.flags 1 || d.conv == 1) && (d.qual == 0 || d.conv == 4) &&
    d.len != 0 && d.len % e == 0 && d.src % e == 0 && d.dst % e == 0 && decide (d.dst + d.dlen ≤ s.instSize) &&
    (if d.conv = 5 then decide (d.src < 2 ^ 21) && decide (d.src + d.len ≤ cu) else decide (d.src + d.len ≤ s.instSize))

/-- Two byte ranges meet. -/
def meets (a n b m : Nat) : Bool := decide (a < b + m) && decide (b < a + n)

/-- Check 14: no two destinations of a map overlap. -/
def dstsApart : List Desc → Bool
  | [] => true
  | d :: ds => (ds.all fun e => !meets d.dst d.dlen e.dst e.dlen) && dstsApart ds

/-- Check 15: no destination overlaps the source of a later descriptor. -/
def laterSafe : List Desc → Bool
  | [] => true
  | d :: ds => (ds.all fun e => e.conv == 5 || !meets d.dst d.dlen e.src e.len) && laterSafe ds

/-- The staged LAYOUTID and MIRRORFMT. -/
def State.stagedId (s : State) : Nat := s.hdr (1 - s.half) 0x010 16
def State.stagedFmt (s : State) : Nat := s.hdr (1 - s.half) 0x020 2

/-- The first failed check of Table 7.4, 0 where all pass. -/
def State.verifyCheck (s : State) : Nat :=
  let h := 1 - s.half
  let c := s.halfCheck h
  if c ≠ 0 then c
  else
    let f := s.mapDescs false
    let r := s.mapDescs true
    let count (n : Nat) : Bool := decide (1 ≤ n ∧ n ≤ 65536)
    let cuF := s.hdr h 0x024 4
    let cuR := s.hdr s.half 0x024 4
    firstFail [
      (11, s.xe.sl.oldId == s.layoutId && s.stagedId == s.xe.sl.newId),
      (12, s.stagedFmt == s.rd R.XE_LAYOUT_MIRRORFMT),
      (13, f.all (s.descOk cuF) && r.all (s.descOk cuR)),
      (14, dstsApart f && dstsApart r),
      (15, laterSafe f && laterSafe r),
      (16, count f.length && count r.length),
      (17, decide (tswOf f ≤ 1000 * s.rd R.XE_SM_BUDGET) && decide (tswOf r ≤ 1000 * s.rd R.XE_SM_BUDGET))]

/-- A write of XE.SM.CTRL.DIR with its CFGGEN. -/
def State.smDir (s : State) (m : Nat) (dir : Bool) : State := (s.put R.XE_SM_CTRL_DIR dir).cfgBump s 0x10 0x140 m

def State.smState (s : State) : Nat := s.rd R.XE_SM_STAT_STATE

/-- VERIFY (R147): the lane-pair domains that the new W adds are switched on (R152). Written while it runs it has no effect (00 Table 0.4). -/
def State.smVerifyGo (s : State) : State :=
  if s.smState = 1 then s
  else if (s.isLead || s.isTrack || s.isHold) && (s.smState == 0 || s.smState == 2) then
    let s := s.wr R.XE_SM_STAT_STATE 1
    let w := min s.lanePairs (s.hdrLanes (1 - s.half))
    s.wr R.PWR_DOMAIN_XE (s.rd R.PWR_DOMAIN_XE ||| (2 ^ w - 1))
  else s.err 0x10 0x28 0x140

/-- SM_VERIFY (R147). -/
def execSmVerify (m : BitVec 6) (dir : Bool) (s : State) : Res :=
  .next <| s.onPage 0x10 fun s => (s.smDir m.toNat dir).smVerifyGo

/-- SM_VERIFY_COMPLETE (R147). -/
def execSmVerifyComplete (s : State) : Res :=
  .next <|
    if s.smState ≠ 1 then s
    else
      let h := 1 - s.half
      let c := s.halfCheck h
      let s := ((s.wr R.XE_MM_HDR_CHECK c h).put R.XE_MM_HDR_VALID (c == 0) h).stagedView
      let v := s.verifyCheck
      let s := s.wr R.XE_SM_STAT_VCHECK v
      let s := if v = 0 then s.wr R.XE_SM_STAT_STATE 2
        else (s.wr R.XE_SM_STAT_STATE 0).err 0x10 (if v = 10 then 0x24 else 0x26) 0x140
      s.verifyReply v

/-! Arming (R150, R155). -/

/-- The trigger of ply P of SEALCLS has passed. -/
def State.sealPassed (s : State) : Bool :=
  let n := s.rd R.XE_SM_CLS
  n != 0 && decide (sgn 32 (s.rd R.XE_SM_PLY + 2 ^ 32 - s.rd R.XE_CLS_PLY (n - 1)) ≤ 0)

/-- ARM in direction `rev` (R150): from VERIFIED, or with REVOK in the direction opposite to the last switch (R155). -/
def State.smArmGo (s : State) (rev : Bool) : State :=
  let modeOk : Bool := s.isLead || s.isHold || (s.isTrack && s.flag R.PAIR_STAT_SYNC)
  let back : Bool := s.smState == 0 && s.flag R.XE_SM_STAT_REVOK && s.rd R.XE_SM_STAT_LAST == (if rev then 1 else 2)
  if modeOk && (s.smState == 2 || back) then
    let late := s.isLead && s.sealPassed
    let s := { s with xe := { s.xe with sl := { s.xe.sl with rev := rev, marker := false, passed := false, fromVerified := s.smState == 2 } } }
    let s := s.wr R.XE_SM_STAT_STATE 3
    if late then s.sealCancel else s
  else s.err 0x10 0x28 0x140

/-- SM_ARM (R150). -/
def execSmArm (m : BitVec 6) (dir : Bool) (s : State) : Res :=
  .next <| s.onPage 0x10 fun s => (s.smDir m.toNat dir).smArmGo dir

/-- CANCEL (Table 7.8). -/
def State.smCancelGo (s : State) : State := if s.smState = 3 then s.sealCancel else s.err 0x10 0x28 0x140

/-- SM_CANCEL (R162). -/
def execSmCancel (_m : BitVec 6) (s : State) : Res := .next <| s.onPage 0x10 fun s => s.smCancelGo

/-- SEAL_LAPSE (R151): the trigger of the next ply of SEALCLS comes with ply P's behind it and no gap before it; where it starts a ply, the
seal lapses by it (State.trigger). -/
def execSealLapse (s : State) : Res :=
  .next <|
    if s.smState = 3 ∧ s.isLead ∧ s.sealPassed then
      let n := s.rd R.XE_SM_CLS - 1
      let k := s.rd R.XE_CLS_CFG_TRIGCH n
      if s.ownerOf k = n + 1 then s.matchNext k 0 else s
    else s

/-! The switch (R152). -/

/-- One element of a descriptor converted (Table 7.3); the element's bytes as a number, and the result's. -/
def Desc.convert (d : Desc) (x : Nat) : Nat :=
  if d.conv = 1 then
    let v := nfield x 0 32
    let y := if nbit d.flags 1 then v else unsgn 64 (sgn 32 v)
    if d.tv then mkTv y (tvQ x) (tvAge x) else y
  else if d.conv = 2 then
    let r := cvt 0x1B 1 3 (nfield x 0 64)
    if d.tv then mkTv r.1 (qExc r.2 (tvQ x)) (tvAge x) else r.1
  else if d.conv = 3 then
    let r := cvt 0x1B 4 3 (nfield x 0 32)
    if d.tv then mkTv r.1 (qExc r.2 (tvQ x)) (tvAge x) else r.1
  else if d.conv = 4 then
    let t := combine [tvTag x, (d.qual, 0)]
    mkTv (tvVal x) t.1 t.2
  else x

/-- Bytes of a result element. -/
def Desc.outElem (d : Desc) : Nat := if (d.conv = 1 ∨ d.conv = 3) ∧ !d.tv then 8 else d.elem

/-- The copy engine carries one descriptor out; `h` is the half that is entered (R145, R153, R156). -/
def State.carry (s : State) (h : Nat) (d : Desc) : State :=
  let base := if d.conv = 5 then constBase h else instBase
  let n := if d.conv = 0 ∨ d.conv = 5 then 4 else d.elem
  let m := if d.conv = 0 ∨ d.conv = 5 then 4 else d.outElem
  let s1 := (upTo (d.len / n)).foldl (fun s i =>
    s.iStore (d.dst + m * i) (leBytes m (d.convert (s.rdLe (base + d.src + n * i) n)))) s
  s1.dirtyMark d.dst d.dlen

/-- Every descriptor in map order; the destination bytes as they stand after the copy, for the CRC. -/
def State.carryAll (s : State) (h : Nat) (ds : List Desc) : State := ds.foldl (fun s d => s.carry h d) s

/-- The switch begins: pending force writes take effect, a lead sends the marker, the map of the armed direction is copied
(steps 1 to 3). A running checkpoint is abandoned (14 R325). -/
def State.switchStart (s : State) : State :=
  let rev := s.xe.sl.rev
  let s := s.ckDrop.applyForces
  let ds := s.mapDescs rev
  let s := s.wr R.XE_SM_STAT_STATE 4
  let s := { s with xe := { s.xe with sl := { s.xe.sl with took := tswOf ds, since := s.mt } } }
  let s := if s.isLead ∧ s.flag R.PAIR_STAT_PSYNC then
      s.plSendAll 0x04 0 (leBytes 4 (b2n rev) ++ leBytes 4 (s.rd R.XE_SM_PLY))
    else s
  let s := s.carryAll (1 - s.half) ds
  s.wr R.XE_SM_CRC (crc32 (ds.flatMap fun d => s.rbs (instBase + d.dst) d.dlen))

/-- The gap conditions of R151. -/
def State.sealGap (s : State) : Bool :=
  s.xe.sl.passed && s.allIdle && s.gapFree (tswOf (s.mapDescs s.xe.sl.rev) + 2000)

/-- SWITCH_BEGIN (R150, R151): in a lead in a gap, with the engine's results up to now landed; in HOLD at once. -/
def execSwitchBegin (s : State) : Res :=
  .next <| if s.smState = 3 ∧ ((s.isLead ∧ s.sealGap) ∨ s.isHold) then s.switchStart else s

/-- SWITCH_MARKER_RECEIVED (R154). -/
def execSwitchMarkerReceived (s : State) : Res :=
  .next <|
    if s.smState = 3 ∧ s.isTrack ∧ s.flag R.PAIR_STAT_SYNC then
      { s with xe := { s.xe with sl := { s.xe.sl with marker := true } } }.switchStart
    else s

/-- The class configuration is loaded (step 4): a class whose values change is re-anchored once. -/
def State.loadClass (s : State) (n : Nat) : State :=
  let word (s : State) (off : Nat) := s.wordOf 0 (fieldsAt 0x11 (0x20 * n + off))
  let c := s.rd R.XE_SM_CLSCFG n
  let p := s.rd R.XE_SM_CLSPER n
  if word s 0 = c ∧ word s 4 = p then s
  else
    let en := s.flag R.XE_CLS_CFG_EN n
    let t := (s.clsCfgFields n c).clsPerFields n p
    if !t.flag R.XE_CLS_CFG_EN n then t.modPly n fun q => { q with next := none, reanch := false }
    else if !en then t.anchorNew n
    else t.reanchor n

/-- The force tables swap and every entry of the new active table is applied (step 4). -/
def State.swapForces (s : State) : State :=
  let s := { s with xe := { s.xe with forces := s.xe.staged, staged := s.xe.forces } }
  (s.xe.forces.foldl (fun s e => s.applyForce e.2) s).ftView

/-- The symbol table that firmware resolves by becomes that of the entered program (R160, 19 R407), and the class configuration of the
program just left is kept for the switch back (R155; log entry 38). -/
def Ncp.entered (n : Ncp) : List Sym := n.prevSyms.getD (symTable n.symBytes n.symLen)
def Ncp.symbols (n : Ncp) : List Sym := match n.archive with | some a => a.symbols | none => []
def State.swapProgram (s : State) : State :=
  let word (n off : Nat) := s.wordOf 0 (fieldsAt 0x11 (0x20 * n + off))
  let cls := (upTo 3).map fun n => (word n 0, word n 4)
  s.modNcp fun n => { n with archive := n.archive.map fun a => { a with symbols := n.entered }, prevSyms := some n.symbols, prevCls := cls }

/-- Steps 4 and 5: the other half, the force tables, the mirror list and the class configuration; the journal's switch entry. -/
def State.switchLoad (s : State) : State :=
  let old := s.layoutId
  let s : State := (s.loadActive (1 - s.half)).swapForces.swapProgram
  let s : State := { s with pr := { s.pr with staged := s.pr.active, active := s.pr.staged } }
  let s : State := s.each (upTo 3) State.loadClass
  (s.jSwitch (s.rd R.XE_SM_PLY) (b2n s.xe.sl.rev) old s.layoutId).ckAfterSwitch

/-- Step 6: cause bit 5 in every class, source 22 and the counters. -/
def State.switchReport (s : State) : State :=
  let s : State := s.each (upTo 3) fun s n => s.modPly n fun p => { p with cause := nsetBit p.cause 5 true }
  let s : State := (s.ev 0x10 6).wr R.XE_SM_STAT_STATE 0
  let s : State := ((s.wr R.XE_SM_STAT_REVOK 1).wr R.XE_SM_STAT_LAST (1 + b2n s.xe.sl.rev)).wrap R.XE_SM_COUNT_SWITCHES
  s.wr R.XE_SM_LASTSW (s.xe.sl.took / 10)

/-- A castling request of a class fault reaction that waited for the switch end (R161). -/
def State.castleDue (s : State) : State :=
  if s.pr.castDue then
    let s := { s with pr := { s.pr with castDue := false } }
    (s.castleRequest true).getD (s.err 0x3A 0x52 0x1A4)
  else s

/-- What waited for the switch: event-task triggers and fabric accesses (R152), in a track the CRC it owes and the queued chunks (R154),
and castling (R161). -/
def State.switchResume (s : State) : State :=
  let held := s.xe.held
  let queued := s.pr.queued
  let s : State := { s with xe := { s.xe with held := [] } }
  let s : State := s.each held State.taskTrigger
  let s : State := { s with pr := { s.pr with queued := [], crcOwed := s.pr.crcOwed || (s.isTrack && s.xe.sl.marker) } }
  (s.each queued State.takeChunk).waitedAccesses.castleDue

/-- The switch ends (steps 4 to 6). -/
def State.switchFinish (s : State) : State := (s.switchLoad.switchReport.switchResume.sealReply true).xeDone

/-- SWITCH_END (R152, R154): T_SW after its begin. -/
def execSwitchEnd (s : State) : Res :=
  .next <| if s.smState = 4 then (s.awaitMt (s.xe.sl.since + s.xe.sl.took)).switchFinish else s

/-! Force tables (R156–R162). -/

/-- The entry in the staging registers. -/
def State.ftStaging (s : State) : Force :=
  let quad (r : Row) := (upTo 4).foldl (fun a i => a + s.rd r i * 2 ^ (32 * i)) 0
  ⟨s.rd R.XE_FT_SYMID, s.rd R.XE_FT_ADDR_OFFSET, s.flag R.XE_FT_ADDR_TVF, s.flag R.XE_FT_ADDR_VALID, s.rd R.XE_FT_TYPE,
   quad R.XE_FT_VAL, quad R.XE_FT_MSK⟩

/-- A table as it will stand once its pending writes have taken effect. -/
def State.ftTable (s : State) (staged : Bool) : SMap Force :=
  if staged then s.xe.staged else s.forcesNow

/-- R158: the entry may be written at `i`. -/
def State.ftOk (s : State) (staged : Bool) (i : Nat) (f : Force) : Bool :=
  let rb := s.rd R.XE_RET_BASE
  let rs := s.rd R.XE_RET_SIZE
  f.offset % 16 == 0 && decide (f.offset + 16 ≤ s.instSize) &&
    !(f.valid && (s.ftTable staged).any fun e => e.1 != i && e.2.valid && e.2.offset == f.offset) &&
    !(decide (rb ≤ f.offset) && decide (f.offset < rb + rs) && f.mask == 0)

/-- A WRITE of entry `i` (R157, R158): the error code, 0 where it is done. -/
def State.ftStore (s : State) (staged : Bool) (i : Nat) (f : Force) : Nat × State :=
  if s.smState = 3 ∨ s.smState = 4 then (0x29, s)
  else if !s.ftOk staged i f then (0x2A, s)
  else if staged then (0, { s with xe := { s.xe with staged := smSet Force.none s.xe.staged i f } })
  else (0, { s with xe := { s.xe with ftPend := s.xe.ftPend ++ [(i, f)] } }.ftView)

def State.ftWrite (s : State) : State :=
  let r := s.ftStore (s.flag R.XE_FT_INDEX_TABLE) (s.rd R.XE_FT_INDEX_ENTRY) s.ftStaging
  if r.1 = 0 then r.2 else r.2.err 0x12 r.1 0x130

/-- FORCE_TABLE_WRITE (R157, R158). -/
def execForceTableWrite (_m : BitVec 6) (s : State) : Res := .next <| s.onPage 0x12 fun s => s.ftWrite

def State.ftRead (s : State) : State :=
  let f := smGet Force.none (if s.flag R.XE_FT_INDEX_TABLE then s.xe.staged else s.xe.forces) (s.rd R.XE_FT_INDEX_ENTRY)
  let s := ((s.wr R.XE_FT_SYMID f.symid).wr R.XE_FT_ADDR_OFFSET f.offset).put R.XE_FT_ADDR_TVF f.tvf
  let s := (s.put R.XE_FT_ADDR_VALID f.valid).wr R.XE_FT_TYPE f.type
  s.each (upTo 4) fun s i => (s.wr R.XE_FT_VAL (nfield f.value (32 * i) 32) i).wr R.XE_FT_MSK (nfield f.mask (32 * i) 32) i

/-- FORCE_TABLE_READ (R162). -/
def execForceTableRead (_m : BitVec 6) (s : State) : Res := .next <| s.onPage 0x12 fun s => s.ftRead

/-- FORCE_APPLY (R157). -/
def execForceApply (s : State) : Res := .next s.applyForces

/-! The parts of a change package (Table 7.1, 19 Table 19.4). -/

/-- The package header (log entry 26): magic, hash, old and new LAYOUTID, SEALCLS and the two descriptor counts. -/
def State.packageHeader (s : State) (d : List (BitVec 8)) : State :=
  let num (o n : Nat) := leNat ((d.drop o).take n)
  if d.length < 80 ∨ num 0 4 ≠ 0x43344B4D then s
  else
    let s : State := { s with xe := { s.xe with sl := { s.xe.sl with hash := beNat ((d.drop 4).take 32), oldId := num 36 16, newId := num 52 16 } } }
    ((s.fwWrite 0x10 0x148 (num 68 4)).fwWrite 0x10 0x158 (num 72 4)).fwWrite 0x10 0x164 (num 76 4)

/-- Firmware stores into a staged half (R148). -/
def State.stagedStore (s : State) (a : Nat) (d : List (BitVec 8)) : State :=
  if s.stagedShut then s else s.stagedTouched.wbs a d

/-- The words of a block. -/
def blockWords (d : List (BitVec 8)) : List Nat := (upTo (d.length / 4)).map fun i => leNat ((d.drop (4 * i)).take 4)

/-- A block of the symbol table; the first one after a switch begins a new table. -/
def Ncp.putSyms (n : Ncp) (total off : Nat) (d : List (BitVec 8)) : Ncp :=
  let old := if n.prevSyms.isSome then [] else n.symBytes
  let new := (upTo d.length).foldl (fun m i => smSet 0 m (off + i) (d.getD i 0)) old
  { n with prevSyms := none, symLen := total, symBytes := new }

/-- A block of package part `part` is placed (Table 7.1). -/
def State.pkgPlace (s : State) (part total off : Nat) (d : List (BitVec 8)) : State :=
  match part with
  | 1 => if off = 0 then s.packageHeader d else s
  | 2 => s.stagedStore (moveBase (1 - s.half) + off) d
  | 3 => s.stagedStore (constBase (1 - s.half) + off) d
  | 4 => if off = 0 then s.each (upTo 6) fun s i => s.fwWrite 0x10 (0x180 + 4 * i) ((blockWords d).getD i 0) else s
  | 5 => s.wbs (s.mapBase false + off) d
  | 6 => s.wbs (s.mapBase true + off) d
  | 7 =>
    let ws := blockWords d
    { s with pr := { s.pr with staged := (upTo ws.length).foldl (fun m i => smSet 0 m (off / 4 + i) (ws.getD i 0)) s.pr.staged } }
  | 8 => s.modNcp fun n => n.putSyms total off d
  | _ => s

/-! Re-resolution of the forces (R160, Table 7.6). -/

/-- The staged entry of a valid one: none for a variable that is removed or retyped. -/
def State.reresolve (s : State) (f : Force) : Option Force :=
  match symNamed s.ncp.entered f.symid with
  | none => none
  | some y =>
    let base := match symNamed s.ncp.symbols f.symid with | some x => x.offset | none => f.offset
    if y.type = f.type then some { f with offset := y.offset + (f.offset - base) } else none

/-- The staged table that firmware builds, and the symbol IDs of the entries left out. -/
def State.restage (s : State) : SMap Force × List Nat :=
  (s.forcesNow.filter fun e => e.2.valid).foldl (fun r e =>
    match s.reresolve e.2 with
    | some f => (smSet Force.none r.1 e.1 f, r.2)
    | none => (r.1, r.2 ++ [e.2.symid])) ([], [])

/-! Agreement and arming (R149, R150). -/

/-- Firmware arms with the staged force table `ft`: XE.SM.PLY, DIR, and after a switch the class configuration to go back to. -/
def State.fwArm (s : State) (rev : Bool) (ply : Nat) (ft : SMap Force) : State :=
  let s : State := { s with xe := { s.xe with staged := ft } }
  let s : State := if s.ncp.prevSyms.isSome then
      s.each (upTo 3) fun s n =>
        let w := s.ncp.prevCls.getD n (0, 0)
        (s.fwWrite 0x10 (0x180 + 8 * n) w.1).fwWrite 0x10 (0x184 + 8 * n) w.2
    else s
  ((s.fwWrite 0x10 0x144 ply).smDir 0 rev).smArmGo rev

/-- Firmware records each force that it leaves out of the staged table in the event recorder (R160). -/
def State.recordDropped (s : State) (ids : List Nat) : State := s.each ids fun s _ => s.fwRecord

/-- The lead arms for SEAL or UNSEAL; where ARM is refused the command is refused too. -/
def State.sealGo (s : State) (rev : Bool) (ply : Nat) : State :=
  let r := s.restage
  let t := s.modNcp (fun n => { n with sealGo := none }) |>.fwArm rev ply r.1
  if t.smState = 3 then t.recordDropped r.2 else if t.ncp.seal_.isSome then t.sealReply false else t

/-- A force change is made: the active table, the cartridge's record, the reply (R158, R159). -/
def State.forceGo (s : State) (i : Nat) (f : Force) : State :=
  if !s.crtActive then s.forceReplied eState
  else
    let r := s.ftStore false i f
    if r.1 = 0 then r.2.frWrite.forceReplied 0 else s.forceReplied (if r.1 = 0x29 then eBusy else eForce)

/-! Firmware messages (11 R231; 07 R149, R151, R159; 10 R209). -/

/-- A seal proposal (R149): the partner agrees when its staged halves are VERIFIED for the same package, or hold the program just left,
and its own re-resolution drops the same forces; it then arms. -/
def State.sealProposed (s : State) (hash : Nat) (rev : Bool) (ply : Nat) (dropped : List Nat) : State :=
  let held : Bool := s.smState == 2 ||
    (s.smState == 0 && s.flag R.XE_SM_STAT_REVOK && s.rd R.XE_SM_STAT_LAST == (if rev then 1 else 2))
  let r := s.restage
  if s.isTrack && s.flag R.PAIR_STAT_SYNC && held && hash == s.xe.sl.hash && r.2 == dropped then
    ((s.fwArm rev ply r.1).recordDropped r.2).fwdSend (.sealReply true)
  else s.fwdSend (.sealReply false)

/-! What a joining module's firmware installs (11 R243, 03 Table 3.6). -/

/-- The module is joining; a part of the program shows a Program phase that the lead's REVOK began (11 R242). -/
def State.joins (s : State) : Bool :=
  let ph := s.rd R.PAIR_SYNC_STAT_PHASE
  s.isTrack && !s.flag R.PAIR_STAT_SYNC && !s.pr.joinLead && decide (1 ≤ ph ∧ ph ≤ 4)
def State.programPhase (s : State) : State := if s.rd R.PAIR_SYNC_STAT_PHASE = 2 then s.wr R.PAIR_SYNC_STAT_PHASE 1 else s

/-- A received mirror list goes into the staged list and through CHECK; the active one is then copied into the active list. -/
def State.joinList (s : State) (staged : Bool) (ws : List (BitVec 32)) : State :=
  let l := (ws.zipIdx).foldl (fun l e => smSet 0 l e.2 e.1.toNat) []
  let r := { s with pr := { s.pr with staged := l } }.mlChecked
  if !r.1 then r.2.joinFails 4
  else if staged then r.2
  else { r.2 with pr := { r.2.pr with active := l } }

/-- A received force table, written entry by entry through the XE.FT registers. -/
def State.joinForces (s : State) (staged : Bool) (es : List ForceMsg) : State :=
  let s := if staged then { s with xe := { s.xe with staged := [] } } else s.setForces []
  s.each es fun s e =>
    let a := e.addr.toNat
    (s.ftStore staged e.entry.toNat ⟨e.symid.toNat, nfield a 0 25, nbit a 30, nbit a 31, e.type.toNat % 2 ^ 16, e.value.toNat, e.mask.toNat⟩).2

/-- A part of the lead's state arrives. -/
def State.joinPart (s : State) (part : JoinPart) : State :=
  if !s.joins then s
  else
    match part with
    | .half staged constants off data =>
      let h := if staged then 1 - s.half else s.half
      (s.programPhase.dmaStore 0x00 ((if constants then constBase h else moveBase h) + off.toNat) data).2
    | .mirrorList staged ws => s.programPhase.joinList staged ws
    | .cls n cfg per => (s.programPhase.clsWrite 0x00 n false cfg.toNat).clsWrite 0x00 n true per.toNat
    | .forces staged es => s.joinForces staged es
    | .plies c1 c2 c3 =>
      let s := ((s.wr R.XE_CLS_PLY c1.toNat 0).wr R.XE_CLS_PLY c2.toNat 1).wr R.XE_CLS_PLY c3.toNat 2
      s.setCrt { s.crt with lastC2 := c2.toNat }

/-- FWD_RECEIVED: a firmware message of the partner. -/
def execFwdReceived (link : Fin 2) (msg : FwdMsg) (s : State) : Res :=
  .next <|
    if !s.linkUp link then s
    else
      match msg with
      | .package part total off data => s.pkgPlace part.toNat total.toNat off.toNat data
      | .sealProposal hash rev ply dropped => s.sealProposed hash.toNat rev ply.toNat (dropped.map (·.toNat))
      | .sealReply ok =>
        match s.ncp.sealGo with
        | some g => if ok ∧ (s.isLead ∨ s.isHold) then s.sealGo g.1 g.2 else s.sealReply false
        | none => s
      | .sealCancel => if s.isTrack then s.sealCancel else s
      | .forceChange entry symid addr type value mask =>
        let a := addr.toNat
        let r := s.ftStore false entry.toNat ⟨symid.toNat, nfield a 0 25, nbit a 30, nbit a 31, type.toNat % 2 ^ 16, value.toNat, mask.toNat⟩
        r.2.fwdSend (.forceReply (r.1 == 0))
      | .forceReply ok =>
        match s.ncp.forceGo with
        | some g => if ok then s.forceGo g.1 g.2 else s.forceReplied eForce
        | none => s
      | .echo seg a b => s.fwWrite (segPage seg) 0x114 (a.toNat + b.toNat * 2 ^ 8)
      | .publicationKey slot key => { s with ncp := s.ncp.setPubKey slot key.toNat s.mt }
      | .join part => s.joinPart part

end Sys2Proof.Machine
end

