-- ==== Sys2Proof/Machine/Ncp.lean ====
section
/-! DEFINITION. NCP (19): the receive checks, the handshake, sessions and their sequence numbers, timeouts. -/

namespace Sys2Proof

/-- A response as it goes to another port (R404). -/
def Out.to (o : Out) (mac host : Nat) : Out :=
  match o with
  | .ncp _ _ cmd flags status session seq object offset total pay tag => .ncp mac host cmd flags status session seq object offset total pay tag
  | o => o

end Sys2Proof

namespace Sys2Proof.Machine

/-! The packet. -/

/-- Byte `i` of the payload, and a big-endian number in it. -/
def payByte (q : NcpReq) (i : Nat) : Nat := (q.payload.getD i 0).toNat
def payNum (q : NcpReq) (i n : Nat) : Nat := beNat ((q.payload.drop i).take n)

/-- What a command that waits must know of its request. -/
def waitOf (q : NcpReq) (cmd at_ : Nat) : Waiting := ⟨cmd, q.mac, q.host.toNat, q.session.toNat, q.seq.toNat, q.object.toNat, [], at_⟩

/-- Header and payload of a request that has passed checks 1 to 5. -/
def reqBytes (q : NcpReq) (cmd : Nat) : List (BitVec 8) :=
  ncpBytes cmd 0 0 q.session.toNat q.seq.toNat q.object.toNat q.offset.toNat q.total.toNat q.payload

/-- Whether the firmware or the recovery service takes datagrams on this MAC (20 R424; log entry 39). -/
def State.ncpServes (s : State) (mac : Nat) : Bool :=
  s.mode != 0 && !s.sys.resetHeld && s.powered (0x41 + mac) &&
    (s.mode != 1 || (if s.sys.recovery then mac == 2 else decide (4 ≤ s.rd R.SYS_STARTSTEP_STEP)))

/-- Checks 1 to 5 of Table 19.2. -/
inductive Form where
  | discard
  | refuse (status : Nat)
  | pass
  deriving DecidableEq, Repr

def formOf (q : NcpReq) : Form :=
  if q.magic.toNat ≠ 0x4E43 ∨ nbit q.flags.toNat 0 ∨ nbit q.flags.toNat 1 then .discard
  else if q.ver.toNat ≠ 3 then .refuse eHeader
  else if 1024 < q.length.toNat then .refuse eLength
  else if q.payload.length < q.length.toNat then .refuse eTrunc
  else if q.length.toNat < q.payload.length then .refuse eLength
  else if q.status ≠ 0 ∨ q.flags ≠ 0 ∨ q.rsv ≠ 0 then .refuse eHeader
  else .pass

/-- A response without authentication (R400): no payload, a zero tag, at most 100 in a second of MT on a port. -/
def State.ncpReject (s : State) (q : NcpReq) (cmd status : Nat) : State :=
  let sec := s.mt / 1000000000 + 1
  let r := smGet (0, 0) s.ncp.refuse q.mac
  let n := if r.1 = sec then r.2 else 0
  if 100 ≤ n then s
  else
    (s.out (.ncp q.mac q.host.toNat cmd 1 status q.session.toNat q.seq.toNat q.object.toNat 0 0 [] 0)).modNcp fun x =>
      { x with refuse := smSet (0, 0) x.refuse q.mac (sec, n + 1) }

/-! Sequence numbers (R404). -/

/-- A request with this SEQ is new. -/
def seqNew (x : Sess) (seq : Nat) : Bool := decide (x.h < seq) || (decide (x.h ≤ seq + 63) && !x.seen.contains seq)
/-- The SEQ is accepted at MT `at_`: a valid request. -/
def seqTake (x : Sess) (seq at_ : Nat) : Sess :=
  let h := max x.h seq
  { x with since := at_, h := h, seen := seq :: x.seen.filter fun q => decide (h ≤ q + 63) }

/-! A request in an open session (Table 19.2). -/

/-- What the rules of a command make of its request (check 13): a refusal that changes nothing, or the state after it. -/
inductive NcpEnd where
  | refuse (status : Nat)
  | done (s : State)

/-- A request of command `cmd` that needs role `role`; `unit_` and `bounds` are what checks 11 and 12 answer, 0 where they pass. A refused
request does not consume its SEQ, but its response is among the last 8. -/
def State.ncpRun (s : State) (q : NcpReq) (cmd role unit_ bounds : Nat) (body : State → Sess → Waiting → NcpEnd) : State :=
  if !s.ncpServes q.mac then s
  else
    match formOf q with
    | .discard => s
    | .refuse c => s.ncpReject q cmd c
    | .pass =>
      match s.session q.session.toNat with
      | none => s.ncpReject q cmd eSession
      | some x =>
        if !x.opened then s.ncpReject q cmd eSession
        else if q.tag.toNat ≠ ncpTag x.h2m (reqBytes q cmd) then s.ncpReject q cmd eAuth
        else
          match x.cache.find? fun e => e.1 == q.seq.toNat with
          | some e => s.out (e.2.to q.mac q.host.toNat)
          | none =>
            if !seqNew x q.seq.toNat then s
            else
              let w := waitOf q cmd s.mt
              let c := if x.role < role then eRole else if unit_ ≠ 0 then unit_ else bounds
              if c ≠ 0 then s.ncpAnswer w c 0 0 0 []
              else
                let y := seqTake x q.seq.toNat s.mt
                match body (s.modNcp fun n => n.putSess y) y w with
                | .refuse c => s.ncpAnswer w c 0 0 0 []
                | .done t => t

/-- A response OK with a payload. -/
def State.ncpOk (s : State) (w : Waiting) (pay : List (BitVec 8)) : NcpEnd := .done (s.ncpAnswer w 0 0 0 0 pay)

/-- The answers of checks 11 and 12 that many commands share. -/
def State.modeIn (s : State) (modes : List Nat) : Nat := if modes.contains s.mode then 0 else eState
def allModes : List Nat := [1, 2, 3, 4, 5]
def sized (q : NcpReq) (n : Nat) : Nat := if q.length.toNat = n then 0 else eLength
/-- A castling, a restart or a join is in progress (03 R49). -/
def State.modeBusy (s : State) : Bool :=
  let ph := s.rd R.PAIR_SYNC_STAT_PHASE
  s.rd R.PAIR_STAT_CASTLE != 0 || s.sys.restart != 0 || decide (1 ≤ ph ∧ ph ≤ 4)
/-- Check 11 of a mode command. -/
def State.modeCmd (s : State) (ok : Bool) : Nat := if s.modeBusy then eBusy else if ok then 0 else eState
/-- HOLD that a command may leave (03 Table 3.2). -/
def State.holdFree (s : State) : Bool := s.isHold && s.rd R.SYS_MODE_HOLDCAUSE != 4 && s.rd R.SYS_MODE_HOLDCAUSE != 9

/-! The handshake (R402, R403). -/

/-- The module accepts a host certificate: the role it gives. -/
def State.certRole (s : State) (c : Cert) : Option Nat :=
  let key := c.signer.toNat
  let service : Bool := Config.sha256 (beBytes 64 key) == Config.serviceHash
  let now := s.bk.cal.seconds
  let inTime : Bool := !s.flag R.BKD_STAT_RTC_VALID || (decide (c.notBefore.toNat ≤ now) && decide (now ≤ c.notAfter.toNat))
  if !c.x509 || !c.sigOk || !inTime then none
  else
    match c.role, s.ncp.archive with
    | none, _ => none
    | some r, some a => if a.trust.contains key && !s.sys.recovery then some r else none
    | some r, none => if service && r.val == 3 then some 3 else none

/-- The session number drawn, or the next one above it that is free (R402). -/
def State.freeId (s : State) (chosen : Nat) : Nat :=
  ((upTo 40).map fun i => (chosen + i) % 2 ^ 32).find? (fun i => i != 0 && (s.session i).isNone) |>.getD 1

/-- A HELLO that is accepted: nonce, ephemeral key and signature are drawn, and the session waits for FINISH. -/
def State.helloOpen (s : State) (q : NcpReq) (role hostKey chosen : Nat) : State :=
  let id := s.freeId chosen
  let a := s.draw
  let b := a.2.draw
  let c := b.2.draw
  let nm := beBytes 32 a.1
  let eph := beBytes 65 (Config.publicKey b.1).toNat
  let text := q.payload ++ nm ++ eph ++ beBytes 4 id
  let sig := beBytes 64 (Config.sign 0 c.1 text).toNat
  let salt := (q.payload.drop 32).take 65 ++ q.payload.take 32 ++ nm
  let x : Sess := {
    id := id, mac := q.mac, host := q.host.toNat, role := role, opened := false, h := 0, seen := [], cache := [],
    h2m := Config.kdf b.1 salt 0, m2h := Config.kdf b.1 salt 1, wrap := Config.kdf b.1 salt 2, transcript := text ++ sig, hostKey := hostKey, since := s.mt }
  let pay := nm ++ eph ++ [0, 0, 0] ++ sig ++ Config.moduleCert
  (c.2.out (.ncp q.mac q.host.toNat 1 1 0 id q.seq.toNat q.object.toNat 0 0 pay 0)).modNcp fun n => { n with sess := n.sess ++ [x] }

/-- NCP_HELLO (R402, R403, R405). An acceptance without a valid calendar goes to the event recorder. -/
def execNcpHello (q : NcpReq) (cert : Cert) (chosen : BitVec 32) (s : State) : Res :=
  .next <|
    let plain (status : Nat) : State := s.out (.ncp q.mac q.host.toNat 1 1 status q.session.toNat q.seq.toNat q.object.toNat 0 0 [] 0)
    if !s.ncpServes q.mac then s
    else
      match formOf q with
      | .discard => s
      | .refuse c => s.ncpReject q 1 c
      | .pass =>
        if q.session ≠ 0 then s.ncpReject q 1 eSession
        else if q.tag ≠ 0 then s.ncpReject q 1 eAuth
        else if q.length.toNat < 101 then plain eLength
        else if q.seq ≠ 0 ∨ payNum q 97 3 ≠ 0 then plain eHeader
        else if 32 ≤ s.ncp.sess.length then plain eBusy
        else
          match s.certRole cert with
          | none => plain eAuth
          | some r => (if s.flag R.BKD_STAT_RTC_VALID then s else s.fwRecord).helloOpen q r cert.key.toNat chosen.toNat

/-- FINISH in a handshake: SEQ 1 and the host's signature over the transcript. -/
def State.finish (s : State) (q : NcpReq) (x : Sess) : State :=
  let w := waitOf q 2 s.mt
  if q.tag.toNat ≠ ncpTag x.h2m (reqBytes q 2) then s.ncpReject q 2 eAuth
  else if q.seq.toNat ≠ 1 then s
  else if q.length.toNat ≠ 64 then s.ncpAnswer w eLength 0 0 0 []
  else if !Config.verify x.hostKey x.transcript q.payload then s.ncpAnswer w eAuth 0 0 0 []
  else (s.modNcp fun n => n.putSess { x with opened := true, h := 1, seen := [1], cache := [], since := s.mt }).ncpAnswer w 0 0 0 0 []

/-- NCP_FINISH (R402). In an open session it is a request of no effect, refused (log entry 39). -/
def execNcpFinish (q : NcpReq) (s : State) : Res :=
  .next <|
    match s.session q.session.toNat with
    | some x =>
      if x.opened then s.ncpRun q 2 0 eState 0 fun _ _ _ => .refuse eState
      else if !s.ncpServes q.mac then s
      else
        match formOf q with
        | .discard => s
        | .refuse c => s.ncpReject q 2 c
        | .pass => s.finish q x
    | none => s.ncpRun q 2 0 0 0 fun _ _ _ => .refuse eSession

/-! Sessions end (R405, R409). -/

/-- A transfer is discarded; that of an image in UPD too. -/
def State.dropXfer (s : State) (x : Xfer) : State :=
  let s := s.modNcp fun n => { n with xfers := n.xfers.filter fun y => !(y.image == x.image && y.object == x.object) }
  if x.image && s.rd R.UPD_STAT_TYPE == x.object && !s.upd.verifying then s.updCancel else s

/-- A session closes, and its transfers with it. -/
def State.closeSession (s : State) (id : Nat) : State :=
  let s := s.each (s.ncp.xfers.filter fun x => x.session == id) State.dropXfer
  s.modNcp fun n => { n with sess := n.sess.filter fun x => x.id != id }

/-- NCP_KEEPALIVE (R406). -/
def execNcpKeepalive (q : NcpReq) (s : State) : Res :=
  .next <| s.ncpRun q 3 0 (s.modeIn allModes) (sized q 0) fun s _ w => s.ncpOk w []

/-- NCP_BYE (R405). -/
def execNcpBye (q : NcpReq) (s : State) : Res :=
  .next <| s.ncpRun q 4 0 (s.modeIn allModes) (sized q 0) fun s x w => .done ((s.ncpAnswer w 0 0 0 0 []).closeSession x.id)

/-- HELLO_TIMEOUT (R402): 5 s after the HELLO. -/
def execHelloTimeout (session : BitVec 32) (s : State) : Res :=
  .next <|
    match s.session session.toNat with
    | some x => if x.opened then s else (s.awaitMt (x.since + 5000000000)).closeSession x.id
    | none => s

/-- SESSION_TIMEOUT (R405): 60 s after the last valid request. -/
def execSessionTimeout (session : BitVec 32) (s : State) : Res :=
  .next <|
    match s.session session.toNat with
    | some x => if x.opened then (s.awaitMt (x.since + 60000000000)).closeSession x.id else s
    | none => s

/-- TRANSFER_TIMEOUT (R409): 60 s after the last block. -/
def execTransferTimeout (image : Bool) (object : BitVec 32) (s : State) : Res :=
  .next <|
    match s.ncp.xfers.find? fun x => x.image == image && x.object == object.toNat with
    | some x => (s.awaitMt (x.since + 60000000000)).dropXfer x
    | none => s

end Sys2Proof.Machine
end

