-- ==== Sys2Proof/Machine/NcpCmd.lean ====
section
/-! DEFINITION. The commands of NCP in an open session (19 Table 19.3), and publication (19 R413, R414). -/

namespace Sys2Proof.Machine

/-! Identity. -/

def State.pageWord (s : State) (page off : Nat) : Nat := s.wordOf 0 (fieldsAt page off)

/-- NCP_IDENT (R406): part number, SYS registers, epoch, claim, firmware version, active LAYOUTID. -/
def State.identBytes (s : State) : List (BitVec 8) :=
  beBytes 16 (Config.partNumber (s.rd R.SYS_IDENT_VARIANT)).toNat ++ beBytes 4 (s.pageWord 0x00 0x100) ++ beBytes 4 s.units0 ++
    beBytes 4 s.units1 ++ beBytes 4 (s.pageWord 0x00 0x10C) ++ beBytes 4 (s.pageWord 0x00 0x12C) ++ beBytes 4 (s.rd R.PAIR_EPOCH) ++
    beBytes 8 s.ownClaim ++ beBytes 4 (s.rd R.PAIR_LOCAL_FWVER) ++ beBytes 16 s.layoutId
def execNcpIdent (q : NcpReq) (s : State) : Res :=
  .next <| s.ncpRun q 0x10 0 (s.modeIn allModes) (sized q 0) fun s _ w => s.ncpOk w s.identBytes

/-- NCP_CARTID (R406): the identity block and a signature of the attestation key over challenge and block. -/
def execNcpCartid (q : NcpReq) (s : State) : Res :=
  .next <| s.ncpRun q 0x11 0 (if s.crtActive then s.modeIn allModes else eState) (sized q 32) fun s _ w =>
    let block := s.crt.ident.take 128
    let d := s.draw
    d.2.ncpOk w (block ++ beBytes 64 (Config.sign 1 d.1 (q.payload ++ block)).toNat)

/-! Objects that are read in blocks (R408). -/

/-- LENGTH 0, and an OFFSET inside the object unless it is empty. -/
def sliceBounds (q : NcpReq) (size : Nat) : Nat :=
  if q.length ≠ 0 then eLength else if size ≠ 0 ∧ size ≤ q.offset.toNat then eOffset else 0
/-- The answer with the bytes from OFFSET on: TOTAL the size, LAST at the end. -/
def State.slice (s : State) (w : Waiting) (q : NcpReq) (obj : List (BitVec 8)) : NcpEnd :=
  let off := q.offset.toNat
  let last : Bool := decide (obj.length ≤ off + 1024)
  .done (s.ncpAnswer w 0 (8 * b2n last) off obj.length ((obj.drop off).take 1024))

/-! Variables (R407). -/

/-- Bytes of a variable as the wire carries them: element by element, each field most significant byte first. -/
def State.varBytes (s : State) (y : Sym) : List (BitVec 8) :=
  let e := if y.tv then 16 else max 1 y.elem
  (upTo (y.size / e)).flatMap fun i =>
    let bs := s.rbs (instBase + y.offset + e * i) e
    if y.tv then wireLine bs else bs.reverse

/-- NCP_READVAR (R407, R408). -/
def execNcpReadvar (q : NcpReq) (s : State) : Res :=
  let y := symNamed s.ncp.symbols q.object.toNat
  let size := match y with | some y => y.size | none => 0
  .next <| s.ncpRun q 0x20 0 (s.modeIn [2, 3, 4, 5]) (sliceBounds q size) fun s _ w =>
    match y with
    | some y => s.slice w q (s.varBytes y)
    | none => .refuse eObject

/-- The elements of a WRITEVAR are stored, each in one access of CP0 into a HOST range (R407; 11 R238). During a switch they wait for its
end (07 R152 step 1). -/
def State.varStore (s : State) (y : Sym) (off : Nat) (data : List (BitVec 8)) : State :=
  let e := if y.tv then 16 else max 1 y.elem
  let t := s.each (upTo (data.length / e)) fun s i =>
    let bs := (data.drop (e * i)).take e
    let a := y.offset + off + e * i
    s.memStore 0 (instBase + a) (if y.tv then wireLine bs else bs.reverse)
  t.xeDone

/-- The role a field asks for: 2 Engineer for param, 1 Operator for operator; any other field refuses every role. -/
def writeRole (y : Option Sym) : Nat :=
  match y with
  | some y => if y.access = 1 then 2 else if y.access = 2 then 1 else 4
  | none => 0

/-- NCP_WRITEVAR (R407). -/
def execNcpWritevar (q : NcpReq) (s : State) : Res :=
  let y := symNamed s.ncp.symbols q.object.toNat
  let off := q.offset.toNat
  let n := q.length.toNat
  let bounds := match y with
    | some y =>
      let e := if y.tv then 16 else max 1 y.elem
      if n = 0 ∨ off % e ≠ 0 ∨ n % e ≠ 0 ∨ y.size < off + n then eOffset else 0
    | none => 0
  .next <| s.ncpRun q 0x21 (writeRole y) (s.modeIn [3]) bounds fun s _ w =>
    match y with
    | some y => (s.varStore y off q.payload).ncpOk w []
    | none => .refuse eObject

/-! Mode commands (03 Table 3.2, R49, R53, R60). -/

/-- NCP_STOP: HOLD with HOLDCAUSE 1. -/
def execNcpStop (q : NcpReq) (s : State) : Res :=
  .next <| s.ncpRun q 0x30 1 (s.modeCmd (s.isLead || s.isTrack)) (sized q 0) fun s _ w => (s.setMode 4 1).ncpOk w []

/-- NCP_RESTART (03 R53, R54; 21 R443). OK means that the restart was made and the lease claimed (log entry 40). -/
def execNcpRestart (q : NcpReq) (s : State) : Res :=
  .next <| s.ncpRun q 0x31 2 (s.modeCmd (s.holdFree && !s.flag R.SAF_STAT_DEGRADED)) (sized q 1) fun s _ w =>
    match payByte q 0 with
    | 1 =>
      match s.warmInit with
      | some t => (t.restartClaim 1).ncpOk w []
      | none => .done ((s.setMode 4 6).ncpAnswer w eState 0 0 0 [])
    | 2 => (s.coldInit.restartClaim 2).ncpOk w []
    | _ => .refuse eState

/-- NCP_JOIN (03 Table 3.2; 21 R443). -/
def execNcpJoin (q : NcpReq) (s : State) : Res :=
  let ok : Bool := s.holdFree && s.rd R.PAIR_STAT_PMODE == 3 && s.flag R.PAIR_STAT_PARTNER && !s.flag R.SAF_STAT_DEGRADED
  .next <| s.ncpRun q 0x32 2 (s.modeCmd ok) (sized q 0) fun s _ w =>
    let t := s.setMode 2 0
    (if t.canJoin then t.joinStart else t).ncpOk w []

/-- A seal is armed or the switch runs (07 Table 7.7). -/
def State.sealBusy (s : State) : Bool := s.smState == 3 || s.smState == 4

/-- NCP_CASTLE (11 R259): answered when castling ends; one that cannot be accepted records 0x52. -/
def execNcpCastle (q : NcpReq) (s : State) : Res :=
  .next <| s.ncpRun q 0x33 2 (if s.sealBusy then eBusy else s.modeCmd true) (if s.isLead then sized q 0 else 0) fun s _ w =>
    match s.castleRequest false with
    | some t => .done (t.modNcp fun n => { n with castle := some w })
    | none => .done ((s.err 0x3A 0x52 0x1A4).ncpAnswer w eState 0 0 0 [])

/-- NCP_ENTER_SERVICE (03 Table 3.2). -/
def execNcpEnterService (q : NcpReq) (s : State) : Res :=
  let ok : Bool := (s.isTrack || (s.isHold && s.rd R.SYS_MODE_HOLDCAUSE != 9)) && s.flag R.SYS_KEYSW_POS
  .next <| s.ncpRun q 0x34 3 (s.modeCmd ok) (sized q 0) fun s _ w => (s.setMode 5 0).ncpOk w []

/-- NCP_LEAVE_SERVICE: answered, then a commanded reset. -/
def execNcpLeaveService (q : NcpReq) (s : State) : Res :=
  .next <| s.ncpRun q 0x35 3 (s.modeCmd s.isService) (sized q 0) fun s _ w => .done ((s.ncpAnswer w 0 0 0 0 []).resetAssert (2 ^ 4))

/-- NCP_RESET (03 R60): answered, then a commanded reset. -/
def execNcpReset (q : NcpReq) (s : State) : Res :=
  .next <| s.ncpRun q 0x36 3 (s.modeIn [1, 2, 4, 5]) (sized q 0) fun s _ w => .done ((s.ncpAnswer w 0 0 0 0 []).resetAssert (2 ^ 4))

/-! Bulk transfers (R408, R409). -/

/-- The capacity of a package part (Table 19.4); none for an object that is not listed. -/
def partCap (object : Nat) : Option Nat :=
  match object with
  | 1 => some 4096
  | 2 => some 16777216
  | 3 => some 2097152
  | 4 => some 24
  | 5 => some 1048576
  | 6 => some 1048576
  | 7 => some 131088
  | 8 => some 4194304
  | _ => none

/-- The open transfer of an object. -/
def State.xferOf (s : State) (image : Bool) (object : Nat) : Option Xfer := s.ncp.xfers.find? fun x => x.image == image && x.object == object

/-- The block lies within its object (R408). -/
def State.blockBounds (s : State) (q : NcpReq) (image : Bool) (object cap : Nat) : Nat :=
  let off := q.offset.toNat
  let n := q.length.toNat
  let total := q.total.toNat
  let same : Bool := match s.xferOf image object with | some x => x.total == total | none => true
  if decide (off + n ≤ total) && decide (total ≤ cap) && off % 1024 == 0 && n != 0 && (n == 1024 || off + n == total) && same then 0 else eOffset

/-- Another session has the object's transfer open. -/
def State.xferTaken (s : State) (image : Bool) (object session : Nat) : Bool :=
  match s.xferOf image object with | some x => x.session != session | none => false

/-- The block is held: whether it completed the object, and the state with the transfer kept or ended. -/
def State.xferHold (s : State) (image : Bool) (object session total off : Nat) : Bool × State :=
  let x := (s.xferOf image object).getD ⟨session, image, object, total, [], 0⟩
  let got := if x.got.contains off then x.got else off :: x.got
  let rest := s.ncp.xfers.filter fun y => !(y.image == image && y.object == object)
  if (total + 1023) / 1024 ≤ got.length then (true, s.modNcp fun n => { n with xfers := rest })
  else (false, s.modNcp fun n => { n with xfers := { x with got := got, since := s.mt } :: rest })

/-- NCP_PKGLOAD (R408, R409; 07 Table 7.1): a lead passes the block on to a synchronised partner. -/
def execNcpPkgload (q : NcpReq) (s : State) : Res :=
  let o := q.object.toNat
  let shut : Bool := (o == 2 || o == 3) && s.stagedShut
  let bounds := match partCap o with | some cap => s.blockBounds q false o cap | none => 0
  .next <| s.ncpRun q 0x40 2 (if s.modeIn [3, 4] ≠ 0 then eState else if shut then eBusy else 0) bounds fun s _ w =>
    if (partCap o).isNone then .refuse eObject
    else if s.xferTaken false o w.session then .refuse eBusy
    else
      let r := s.xferHold false o w.session q.total.toNat q.offset.toNat
      let t := r.2.pkgPlace o q.total.toNat q.offset.toNat q.payload
      let t := if t.isLead ∧ t.flag R.PAIR_STAT_PSYNC then t.fwdSend (.package (BitVec.ofNat 8 o) q.total q.offset q.payload) else t
      .done (t.ncpAnswer w 0 (4 * b2n r.1) 0 0 [])

/-- The status of UPD.RES.CODE (20, after Table 20.8). -/
def resStatus (code : Nat) : Nat :=
  match code with
  | 2 => eHeader
  | 3 => eOffset
  | 4 => eVerify
  | 5 => eSlot
  | 6 => eState
  | _ => 0

/-- The block goes to UPD (20 R419). -/
def State.imgBlock (s : State) (q : NcpReq) (w : Waiting) (type : Nat) (room : Bool) : State :=
  let off := q.offset.toNat
  let n := q.length.toNat
  let total := q.total.toNat
  let s := ((s.fwWrite 0x68 0x198 off).fwWrite 0x68 0x19C n).fwWrite 0x68 0x1A0 total |>.fwWrite 0x68 0x1A4 type
  let t := s.updBlock type off n total q.payload room
  let rest := t.ncp.xfers.filter fun y => !(y.image && y.object == type)
  if t.upd.verifying then t.modNcp fun n => { n with xfers := rest, img := some w }
  else
    let c := t.rd R.UPD_RES_CODE
    let xs := if c = 0 then ⟨w.session, true, type, total, [], t.mt⟩ :: rest else if c = 2 then rest else t.ncp.xfers
    (t.modNcp fun n => { n with xfers := xs }).ncpAnswer w (resStatus c) 0 0 0 []

/-- NCP_IMGLOAD (R408, R409; 20 R419–R421): the completing block is answered after its verification. -/
def execNcpImgload (q : NcpReq) (room : Bool) (s : State) : Res :=
  let type := q.object.toNat % 256
  let mode := if s.modeIn [2, 3, 4, 5] ≠ 0 ∧ !s.sys.recovery then eState else if s.flag R.UPD_STAT_BUSY then eBusy else 0
  let bounds := if 1 ≤ type ∧ type ≤ 5 then s.blockBounds q true type (slotCap type) else 0
  .next <| s.ncpRun q 0x50 3 mode bounds fun s _ w =>
    if s.xferTaken true type w.session then .refuse eBusy else .done (s.imgBlock q w type room)

/-- NCP_IMGSTAT (20 R425). -/
def State.imgstatBytes (s : State) : List (BitVec 8) :=
  (upTo 5).flatMap fun i =>
    let d := s.typeDir (i + 1)
    [BitVec.ofNat 8 (i + 1), BitVec.ofNat 8 (if d.act = 3 then 0xFF else d.act), BitVec.ofNat 8 d.att, 0,
     BitVec.ofNat 8 d.a.state, BitVec.ofNat 8 d.b.state, 0, 0] ++ beBytes 4 d.a.ver ++ beBytes 4 d.b.ver
def execNcpImgstat (q : NcpReq) (s : State) : Res :=
  .next <| s.ncpRun q 0x51 0 (s.modeIn allModes) (sized q 0) fun s _ w => s.ncpOk w s.imgstatBytes

/-! Sealed moves (07 R147–R160). -/

/-- NCP_VERIFY (07 R147): answered when the verification ends. -/
def execNcpVerify (q : NcpReq) (s : State) : Res :=
  let busy : Bool := s.smState == 1 || s.sealBusy
  .next <| s.ncpRun q 0x41 2 (if s.modeIn [2, 3, 4] ≠ 0 then eState else if busy then eBusy else 0) (sized q 0) fun s _ w =>
    .done (s.modNcp fun n => { n with verify := some w }).smVerifyGo

/-- Check 11 of SEAL and UNSEAL. -/
def State.sealUnit (s : State) : Nat :=
  if s.modeBusy || s.sealBusy || s.smState == 1 || s.ncp.seal_.isSome then eBusy else s.modeIn [3, 4]

/-- The mirror volume of a class of the staged program is above what one link carries in a period (11 R241). -/
def State.volumeOver (s : State) : Bool :=
  (upTo 3).any fun n =>
    nbit (s.rd R.XE_SM_CLSCFG n) 0 &&
      decide (8 * 2900 * (s.rd R.XE_SM_CLSPER n % 2 ^ 14 * stepNs n) < 10 * 1000 * s.mlVolume n)

/-- SEAL and UNSEAL once accepted (07 R149, R160): a synchronised partner is asked first. A P of 0 is the ply after the next. -/
def State.sealRun (s : State) (w : Waiting) (rev drop : Bool) (p : Nat) : NcpEnd :=
  let held : Bool := s.smState == 2 ||
    (s.smState == 0 && s.flag R.XE_SM_STAT_REVOK && s.rd R.XE_SM_STAT_LAST == (if rev then 1 else 2))
  let r := s.restage
  let p := if p = 0 then (s.rd R.XE_CLS_PLY (s.rd R.XE_SM_CLS - 1) + 2) % 2 ^ 32 else p
  if !held then .refuse eState
  else if s.smState = 2 ∧ s.volumeOver then .refuse eVerify
  else if r.2 ≠ [] ∧ !drop then .refuse eForce
  else
    let t := s.modNcp fun n => { n with seal_ := some { w with list := r.2 } }
    if t.isLead ∧ t.flag R.PAIR_STAT_PSYNC then
      .done ((t.modNcp fun n => { n with sealGo := some (rev, p) }).fwdSend
        (.sealProposal (BitVec.ofNat 256 t.xe.sl.hash) rev (BitVec.ofNat 32 p) (r.2.map (BitVec.ofNat 32))))
    else .done (t.sealGo rev p)

/-- NCP_SEAL (07 R149–R151, R160). -/
def execNcpSeal (q : NcpReq) (s : State) : Res :=
  .next <| s.ncpRun q 0x42 2 s.sealUnit (sized q 8) fun s _ w =>
    s.sealRun w (payByte q 0 != 0) (nbit (payByte q 1) 0) (payNum q 4 4)

/-- NCP_UNSEAL (07 R155): while REVOK is 1, in the reverse direction. -/
def execNcpUnseal (q : NcpReq) (s : State) : Res :=
  .next <| s.ncpRun q 0x43 2 (if s.sealUnit ≠ 0 then s.sealUnit else if s.flag R.XE_SM_STAT_REVOK then 0 else eState) (sized q 8) fun s _ w =>
    s.sealRun w true false (payNum q 4 4)

/-! Forces (07 R156–R159). -/

/-- Four words, each most significant byte first, the lowest word first, as Table 7.9 orders a VALUE or MASK (log entry 41). -/
def payQuad (q : NcpReq) (i : Nat) : Nat := (upTo 4).foldl (fun a k => a + payNum q (i + 4 * k) 4 * 2 ^ (32 * k)) 0
def quadBytes (v : Nat) : List (BitVec 8) := (upTo 4).flatMap fun k => beBytes 4 (nfield v (32 * k) 32)
def addrWord (f : Force) : Nat := f.offset + 2 ^ 30 * b2n f.tvf + 2 ^ 31 * b2n f.valid

/-- The entry that a FORCE changes and what it becomes; none where there is nothing to clear. -/
def State.forceEntry (s : State) (q : NcpReq) (y : Sym) : Except Nat (Option (Nat × Force)) :=
  let a := y.offset + payNum q 8 4
  let t := s.forcesNow
  let old := t.find? fun e => e.2.valid && e.2.symid == y.id && e.2.offset == a
  match payByte q 0 with
  | 1 =>
    let f : Force := ⟨y.id, a, nbit (payByte q 1) 0, true, y.type, payQuad q 12, payQuad q 28⟩
    let i := match old with
      | some e => some e.1
      | none => (upTo 1024).find? fun i => !(smGet Force.none t i).valid
    match i with
    | some i => if s.ftOk false i f then .ok (some (i, f)) else .error eForce
    | none => .error eForce
  | 2 => .ok (old.map fun e => (e.1, { e.2 with valid := false }))
  | _ => .error eForce

/-- A force change goes to a synchronised partner first (07 R159). -/
def State.forceRun (s : State) (q : NcpReq) (w : Waiting) : NcpEnd :=
  match symNamed s.ncp.symbols (payNum q 4 4) with
  | none => .refuse eObject
  | some y =>
    match s.forceEntry q y with
    | .error c => .refuse c
    | .ok none => s.ncpOk w []
    | .ok (some e) =>
      let t := s.modNcp fun n => { n with force := some w }
      let f := e.2
      if t.isLead ∧ t.flag R.PAIR_STAT_PSYNC then
        .done ((t.modNcp fun n => { n with forceGo := some e }).fwdSend (.forceChange (BitVec.ofNat 10 e.1) (BitVec.ofNat 32 f.symid)
          (BitVec.ofNat 32 (addrWord f)) (BitVec.ofNat 32 f.type) (BitVec.ofNat 128 f.value) (BitVec.ofNat 128 f.mask)))
      else .done (t.forceGo e.1 f)

/-- NCP_FORCE (07 R156–R159; 14 R321). -/
def execNcpForce (q : NcpReq) (s : State) : Res :=
  let unit_ := if s.modeIn [3, 4] ≠ 0 ∨ !s.crtActive then eState else if s.sealBusy || s.ncp.forceGo.isSome then eBusy else 0
  .next <| s.ncpRun q 0x48 2 unit_ (sized q 44) fun s _ w => s.forceRun q w

/-- NCP_FORCELIST (R408): the valid entries in the order of Table 7.9. -/
def State.forceList (s : State) : List (BitVec 8) :=
  (s.forcesNow.filter fun e => e.2.valid).flatMap fun e =>
    let f := e.2
    beBytes 4 e.1 ++ beBytes 4 f.symid ++ beBytes 4 (addrWord f) ++ beBytes 4 f.type ++ quadBytes f.value ++ quadBytes f.mask
def execNcpForcelist (q : NcpReq) (s : State) : Res :=
  .next <| s.ncpRun q 0x49 0 (s.modeIn [2, 3, 4, 5]) (sliceBounds q s.forceList.length) fun s _ w => s.slice w q s.forceList

/-! The event log (R410; 15 R340). -/

/-- Whole records from the front of a log that fit in `room` bytes, and the torn sectors passed. -/
def fitRecords : List LogItem → Nat → Nat → List (List Nat) × Nat
  | [], _, _ => ([], 0)
  | .torn :: l, room, t => fitRecords l room (t + 1)
  | .record r _ :: l, room, t =>
    if 4 * r.length ≤ room then
      let x := fitRecords l (room - 4 * r.length) 0
      (r :: x.1, t + x.2)
    else ([], 0)

/-- The log from where an ERREAD starts. -/
def State.logFrom (s : State) (object seq : Nat) : List LogItem :=
  let items := s.logItems
  match object with
  | 0 => items.dropWhile fun i => match i with | .record r _ => decide (s.seqAge seq < s.seqAge (recSeq r)) | .torn => true
  | 2 =>
    match (items.reverse.dropWhile fun i => i == .torn) with
    | i :: _ => [i]
    | [] => []
  | _ => items

def isRecord : LogItem → Bool
  | .record _ _ => true
  | .torn => false

/-- The answer to an ERREAD (R410). -/
def State.erRead (s : State) (w : Waiting) (object seq : Nat) : NcpEnd :=
  let l := s.logFrom object seq
  let x := fitRecords l 1024 0
  let last : Bool := (l.filter isRecord).length == x.1.length
  let s := s.sat R.ER_TORN (d := x.2)
  match x.1 with
  | [] => .done (s.ncpAnswer w 0 8 0 0 [])
  | r :: _ =>
    .done (s.ncpAnswer w 0 (8 * b2n last) (recSeq r) ((recSeq (x.1.getLastD r) + 1) % 2 ^ 32) (x.1.flatMap fun r => r.flatMap (beBytes 4)))

/-- NCP_ERREAD (R410). -/
def execNcpErread (q : NcpReq) (s : State) : Res :=
  .next <| s.ncpRun q 0x58 0 (s.modeIn [2, 3, 4, 5]) (sized q 0) fun s _ w =>
    if 2 < q.object.toNat then .refuse eObject else s.erRead w q.object.toNat q.offset.toNat

/-- NCP_ERCLEAR (15 R340, R341): firmware writes CLRWHO, reads the token and writes CLR; answered after step 3. -/
def execNcpErclear (q : NcpReq) (s : State) : Res :=
  let unit_ := if s.modeIn [2, 3, 4, 5] ≠ 0 ∨ !s.crtActive then eState else if s.er.clearing.isSome then eBusy else 0
  .next <| s.ncpRun q 0x59 3 unit_ (sized q 0) fun s x w =>
    let t := s.fwWrite 0x51 0x140 (x.id % 2 ^ 16 + x.role * 2 ^ 16)
    let r := t.tokenRead
    let t := r.2.erClr true r.1
    .done (t.ncpAnswer w (if t.er.clearing.isSome then 0 else eState) 0 0 0 [])

/-! The cartridge (14 R323, R324). -/

/-- A format runs. -/
def State.formatting (s : State) : Bool := match s.crt.ck with | some k => k.format | none => false

/-- NCP_ADOPT (14 R324). -/
def execNcpAdopt (q : NcpReq) (s : State) : Res :=
  .next <| s.ncpRun q 0x60 3 (if s.modeIn [2, 3, 4, 5] ≠ 0 then eState else if s.formatting then eBusy else 0) (sized q 0) fun s _ w =>
    match s.adoptCmd with
    | some t => t.ncpOk w []
    | none => .done ((s.err 0x50 0x82 0x10C).ncpAnswer w eState 0 0 0 [])

/-- NCP_CARTFORMAT (14 R323). -/
def execNcpCartformat (q : NcpReq) (s : State) : Res :=
  let ok : Bool := !s.sys.recovery && (s.isService || s.crt.cls == 2 || s.crt.cls == 3)
  .next <| s.ncpRun q 0x61 3 (if !ok then eState else if s.formatting then eBusy else 0) (sized q 0) fun s _ w =>
    match s.formatCmd with
    | some t => t.ncpOk w []
    | none => .done ((s.err 0x50 0x82 0x10C).ncpAnswer w eState 0 0 0 [])

/-! Acyclic requests to stations (R411). -/

/-- NCP_ACYC (R411): a downlink message; answered by the next ACYC uplink or after 2 s. -/
def State.acycRun (s : State) (q : NcpReq) (w : Waiting) : NcpEnd :=
  let g := payByte q 0
  let k := payByte q 1
  if payNum q 2 2 ≠ 0 then .refuse eHeader
  else if 16 ≤ g ∨ 32 ≤ k then .refuse eStation
  else if !s.present (0x20 + g) || s.rd R.RMT_ST_STATE k g != 3 then .refuse eStation
  else if (smGet none s.ncp.acyc (32 * g + k)).isSome then .refuse eBusy
  else .done ((s.queueMsg g k 0x10 (q.payload.drop 4)).modNcp fun n => { n with acyc := smSet none n.acyc (32 * g + k) (some w) })
def execNcpAcyc (q : NcpReq) (s : State) : Res :=
  .next <| s.ncpRun q 0x68 2 (s.modeIn [3]) (if q.length.toNat < 4 then eLength else 0) fun s _ w => s.acycRun q w

/-- ACYC_TIMEOUT (R411): 2 s after the request. -/
def execAcycTimeout (seg : Fin 16) (st : Fin 32) (s : State) : Res :=
  .next <|
    let k := 32 * seg.val + st.val
    match smGet none s.ncp.acyc k with
    | some w => ((s.awaitMt (w.since + 2000000000)).ncpAnswer w eStation 0 0 0 []).modNcp fun n => { n with acyc := smSet none n.acyc k none }
    | none => s

/-! Publication (R413, R414). -/

/-- NCP_PUBKEY (R414): each KEYID with its key wrapped under K_wrap. -/
def execNcpPubkey (q : NcpReq) (s : State) : Res :=
  .next <| s.ncpRun q 0x70 0 (s.modeIn [2, 3]) (sized q 0) fun s x w =>
    if !s.ncp.hasKeys then .refuse eState
    else
      s.ncpOk w ([0] ++ beBytes 40 (Config.wrap x.wrap s.ncp.key0).toNat ++ [1] ++ beBytes 40 (Config.wrap x.wrap s.ncp.key1).toNat)

/-- The other key comes into use 60 s after it was sent to the partner (R414). -/
def State.keyFlip (s : State) : State :=
  match s.ncp.flipAt with
  | some t => if t ≤ s.mt then s.modNcp fun n => { n with keyUse := 1 - n.keyUse, flipAt := none } else s
  | none => s

/-- PUBLICATION_KEY_ROTATE (R414): 24 h after the last, the key not in use is replaced and sent to the partner. -/
def execPublicationKeyRotate (s : State) : Res :=
  .next <|
    if !s.isLead || !s.ncp.hasKeys then s.keyFlip
    else
      let d := (s.awaitMt (s.ncp.keyAt + 86400000000000)).keyFlip.draw
      let key := d.1 % 2 ^ 256
      let slot : Bool := d.2.ncp.keyUse == 0
      let t := d.2.modNcp fun n => { n.setPubKey slot key d.2.mt with flipAt := some (d.2.mt + 60000000000) }
      t.fwdSend (.publicationKey slot (BitVec.ofNat 256 key))

/-- PLY_T of the ply that wrote the tagged value at an instance offset (01 R14): of an own ply as it wrote it; of the lead's, as the
mirror brought it, from the freeze status of the class or task whose mirror range holds it. -/
def State.plyTOf (s : State) (off : Nat) : Option Nat :=
  if smGet 0 s.xe.wrote (off / 16) ≠ 0 then some (smGet 0 s.xe.wrote (off / 16) - 1)
  else
  match (mlEntries s.pr.active).find? fun e => e.covers (off / 64) && (workOf e.writer).isSome with
  | none => none
  | some e =>
    let w := (workOf e.writer).getD 0
    match (upTo 4).find? fun c => s.biBase s.half (mainPart w) c != listNone with
    | some c => some (s.rdLe (instBase + s.biBase s.half (mainPart w) c + 8) 8)
    | none => none

/-- The MT by which ages are told: in TRACK the lead's (R413). -/
def State.pubNow (s : State) : Nat := if s.isTrack then s.toPartnerMt s.mt else s.mt

/-- A tagged value as it is published (01 R14). The age of one that no ply writes is open (log entry 2). -/
def State.pubTv (s : State) (stale : Nat) (y : Sym) : Nat × State :=
  let t := s.rdLe (instBase + y.offset) 16
  let r : Nat × State := match s.plyTOf y.offset with
    | some p => (tvAge t + (s.pubNow - p) / 1000, s)
    | none => s.draw
  let q := if stale < r.1 then
      let d := qDemote 7 (tvQ t)
      mkQ (qState d) (qSub d) (qFlags d ||| qfStale) (qLimit d)
    else tvQ t
  (mkTv (tvVal t) q r.1, r.2)

/-- The entries of a publication: index and tagged value. -/
def State.pubEntries (s : State) (stale : Nat) : List Nat → Nat → List (List (BitVec 8)) × State
  | [], _ => ([], s)
  | id :: ids, i =>
    match symNamed s.ncp.symbols id with
    | none => s.pubEntries stale ids (i + 1)
    | some y =>
      let r := s.pubTv stale y
      let x := r.2.pubEntries stale ids (i + 1)
      ((beBytes 4 i ++ wireLine (leBytes 16 r.1)) :: x.1, x.2)

/-- CLAIM of a publisher (R413). -/
def State.pubClaim (s : State) : Nat :=
  if s.isLead then s.ownClaim
  else if s.rd R.PAIR_EPOCH = 0 then 0 else (s.rd R.PAIR_EPOCH - 1) * 2 + s.side

/-- One PUBLISH packet, on every port of the publication (Table 19.7). -/
def State.pubSend (s : State) (p : Pub) (es : List (List (BitVec 8))) : State :=
  let n := smGet 0 s.ncp.pubSeq p.id
  let nt := if s.flag R.TIM_NTCTL_LOCKED then s.tim.nt else 0
  let pay := [BitVec.ofNat 8 s.ncp.keyUse, 0, 0, 0] ++ beBytes 8 s.pubClaim ++ beBytes 8 nt ++ [0, 0, 0, 0] ++ es.flatMap id
  let off := beNat ((es.headD []).take 4)
  let tag := ncpTag (if s.ncp.keyUse = 0 then s.ncp.key0 else s.ncp.key1) (ncpBytes 0x80 2 0 0 n p.id off p.symbols.length pay)
  let s := s.each ((upTo 2).filter (nbit p.ports)) fun s port => s.out (.ncp port p.group 0x80 2 0 0 n p.id off p.symbols.length pay tag)
  s.modNcp fun x => { x with pubSeq := smSet 0 x.pubSeq p.id ((n + 1) % 2 ^ 32) }

/-- Lists of at most 50 entries. -/
def fifties (l : List α) : Nat → List (List α)
  | 0 => []
  | f + 1 => if l.isEmpty then [] else l.take 50 :: fifties (l.drop 50) f

/-- The module publishes `p` (R413): in LEAD, and in TRACK synchronised with TRACKPUB. -/
def State.publishes (s : State) (p : Pub) : Bool :=
  s.ncp.hasKeys && s.powered 0x41 && (s.isLead || (s.isTrack && s.flag R.SYS_MODE_SYNC && p.trackpub))

/-- PUBLISH (R413): once per period. -/
def execPublish (id : BitVec 32) (s : State) : Res :=
  .next <|
    match s.ncp.archive.bind fun a => a.pubs.find? fun p => p.id == id.toNat with
    | none => s.keyFlip
    | some p =>
      if !s.publishes p then s.keyFlip
      else
        let s := (s.awaitMt (smGet 0 s.ncp.pubDue p.id)).keyFlip
        let s := s.modNcp fun n => { n with pubDue := smSet 0 n.pubDue p.id (s.mt + p.period * 1000000) }
        let r := s.pubEntries p.stale p.symbols 0
        r.2.each (fifties r.1 r.1.length) fun s es => s.pubSend p es

end Sys2Proof.Machine
end

