-- ==== Sys2Proof/Machine/Sys.lean ====
section
/-! DEFINITION. Resets, the start steps, SYS.MODECMD, SYS.RSTCMD and the key switch (03). -/

namespace Sys2Proof.Machine

/-! Resets (R57–R59, 02 R464). -/

/-- RESET_ASSERT (R58, R59). A module that is DORMANT leaves it by a power-on reset only. -/
def execResetAssert (causes : BitVec 6) (s : State) : Res :=
  .next <|
    if causes = 0 ∨ (s.mode = 0 ∧ !nbit causes.toNat 0) then s else s.resetAssert causes.toNat

/-- The units of the module by their first pages (02 Table 2.2). -/
def unitHeads : List Nat :=
  [0x00, 0x01, 0x02, 0x03, 0x05, 0x06, 0x10, 0x18] ++ (upTo 16).map (· + 0x20) ++
    [0x30, 0x38, 0x39, 0x3A, 0x40, 0x41, 0x42, 0x43, 0x48, 0x50, 0x51, 0x58, 0x60, 0x61, 0x68, 0x70]

/-- RESET_RELEASE (02 R464): units whose EN is 1 go from OFF to STARTING, MT restarts at 0, START begins at step 0x01. -/
def State.resetRelease (s : State) : State :=
  let s := { s with mt := 0, tim := { s.tim with nt := 0, frac := 0 }, bk := s.bkAcross, sys := { s.sys with resetHeld := false, cut := none } }
  let s := s.each unitHeads fun s p =>
    if s.present p && s.flag R.H_CTRL_EN 0 p && s.unit p == 0 then (s.setUnit p 1).unitStarting p else s
  s.wr R.SYS_STARTSTEP_STEP 1
def execResetRelease (s : State) : Res := .next <| if s.mode = 1 ∧ s.sys.resetHeld then s.resetRelease else s

/-! The start steps (R50, Table 3.3). -/

/-- A cartridge with an image book of this module is fitted (20 R424). -/
def State.bookThere (s : State) : Bool :=
  s.flag R.CRT_STAT_LATCH && s.identOk && s.classify != 2 && s.classify != 4

/-- The image of type `k` that this start loads verifies (20 R421). -/
def State.imgLoads (s : State) (k : Nat) : Bool :=
  let d := s.upd.copyDir.getD (k - 1) TypeDir.empty
  d.act != 3 && s.imgCheck s.upd.copies k d.act == 0

/-- Step 0x04 loads the TE base configuration: its BASEVER shows (08 R176, Table 8.8). -/
def State.loadBase (s : State) : State :=
  if s.imgLoads 4 then
    let d := s.upd.copyDir.getD 3 TypeDir.empty
    let len := imgNum (bookBytes s.upd.copies 4 d.act 0 256) 0x10 4
    s.wr R.TE_BASEVER (Config.baseVersion (bookBytes s.upd.copies 4 d.act 256 len)).toNat
  else s

/-- Where the pending firmware image does not verify, the active one is loaded, and the attempt is not one of the pending slot
(R50, 20 R422). -/
def State.bookFallback (s : State) : State :=
  let d := s.crt.dir.getD 0 TypeDir.empty
  if s.imgLoads 1 ∨ !nbit s.upd.tried 0 ∨ d.act = 3 then s
  else
    let keep := s.upd.copies.filter fun e => e.1 / 2 ^ 28 != 0
    let act := s.crt.book.filter fun e => e.1 / 2 ^ 27 == d.act
    let dir := { (TypeDir.empty.setSlot d.act (d.slot d.act)) with act := d.act }
    (s.setUpd { s.upd with tried := nsetBit s.upd.tried 0 false, copyDir := putDir s.upd.copyDir 1 dir, copies := act ++ keep }).wr R.SYS_STARTSTEP_PENDSLOT 0

/-- Step 0x03 as far as the book gives firmware. -/
def State.step3 (s : State) : State := if s.bookThere then s.bookStart.bookFallback else s
def State.boots (s : State) : Bool := s.bookThere && s.imgLoads 1

/-- The boot ROM stays at step 0x03 and serves recovery commands (20 R424). -/
def State.recover (s : State) : State :=
  { s with sys := { s.sys with recovery := true }, upd := { s.upd with tried := 0, copyDir := [], copies := [], ram := 0 } }

/-- RECOVERY_SERVICE (20 R424). -/
def execRecoveryService (s : State) : Res :=
  .next <|
    if s.mode = 1 ∧ !s.sys.resetHeld ∧ s.rd R.SYS_STARTSTEP_STEP = 3 ∧ !s.sys.recovery then
      let t := s.step3
      if t.boots then s else t.recover
    else s

/-- A step fails: the first one shows in STARTSTEP.FAIL. -/
def State.stepFails (s : State) (k : Nat) : State :=
  let s := if s.rd R.SYS_STARTSTEP_FAIL = 0 then s.wr R.SYS_STARTSTEP_FAIL k else s
  { s with sys := { s.sys with failed := nsetBit s.sys.failed k true } }
def State.toStep (s : State) (k : Nat) : State := s.wr R.SYS_STARTSTEP_STEP k

/-- The cartridge check of step 0x06: the counters of the ring, which the backup domain takes where they are larger, then identity,
ownership, life, the supercapacitor (R50; 13 R297, R299). -/
def State.step6 (s : State) (ok : Bool) (scap : Nat) : State :=
  if !s.flag R.CRT_STAT_LATCH then s
  else if !ok then s.stepFails 6
  else
    let s := match (if s.identOk && s.classify != 4 then s.ringOwn else none) with
      | some i =>
        let ops := s.mr (ringOff i + 8) 4
        let cyc := s.mr (ringOff i + 12) 4 + s.rd R.BKD_STAT_LOSTSEEN
        (s.fwWrite 0x48 0x180 (max ops (s.rd R.BKD_OPSEC))).fwWrite 0x48 0x184 (max cyc (s.rd R.BKD_PWRCYC_COUNT))
      | none => s
    s.crtIdentify scap false

/-- A start step ends (R50). Steps 1 and 2 have no way on when they fail; step 3 ends in firmware or the recovery service; steps 4 to 8
lead on, and step 9 ends by END_OF_START. -/
def State.stepEnds (s : State) (ok : Bool) (scap : Nat) (archive : Option Archive) : State :=
  match s.rd R.SYS_STARTSTEP_STEP with
  | 1 => if ok then s.toStep 2 else s.stepFails 1
  | 2 => if ok then s.toStep 3 else s.stepFails 2
  | 3 =>
    if s.sys.recovery then s
    else
      let t := s.step3
      if ok && t.boots then t.toStep 4 else t.recover
  | 4 => (if ok && ((upTo 4).all fun i => s.imgLoads (i + 2)) then s else s.stepFails 4).loadBase.toStep 5
  | 5 => (if ok then s else s.stepFails 5).toStep 6
  | 6 => (s.step6 ok scap).toStep 7
  | 7 =>
    let s := s.modNcp fun n => { n with archive := archive }
    let fits : Bool := s.rd R.XE_LAYOUT_MIRRORFMT == s.rd R.PAIR_LOCAL_MFV
    { (if ok && archive.isSome && fits then s else s.stepFails 7).toStep 8 with pr := { s.pr with step8 := 0, step8At := s.mt } }
  | 8 => s.toStep 9
  | _ => s
def execStartStepComplete (ok : Bool) (scap : BitVec 16) (archive : Option Archive) (s : State) : Res :=
  .next <| if s.mode = 1 ∧ !s.sys.resetHeld then s.stepEnds ok scap.toNat archive else s

/-- START_TIMEOUT (R50): 8 s after the release, at which MT was 0, a watchdog reset, but not while the recovery service waits (20 R424). -/
def execStartTimeout (s : State) : Res :=
  .next <|
    if s.mode = 1 ∧ !s.sys.resetHeld ∧ !s.sys.recovery then ((s.awaitMt 8000000000).sat R.SAF_COUNT_SRST).resetAssert (2 ^ 2) else s

/-! SYS.MODECMD (R45, R47). -/

/-- A CAUSE that a request for HOLD may carry (Table 3.9). -/
def causeOk (c : Nat) : Bool := c == 1 || c == 3 || c == 5 || c == 6 || c == 7 || c == 8

/-- The code with which a request is refused, 0 where it is accepted (R47, Table 3.2). Of several refusals the key's comes first, then
0x10, 0x12 and 0x13; SERVICE is open from HOLD with HOLDCAUSE 4, which Table 3.2 does not except (DESIGN CHOICE, log entries 60 and 61). -/
def State.modecmdCode (s : State) (target cause key : Nat) : Nat :=
  let hc := s.rd R.SYS_MODE_HOLDCAUSE
  let free := s.isHold && hc != 4 && hc != 9
  if key ≠ 0x4D44 then 0x11
  else match target with
    | 2 => if s.mode = 1 ∨ (free ∧ s.rd R.PAIR_STAT_PMODE = 3 ∧ s.flag R.PAIR_STAT_PARTNER) then 0 else 0x10
    | 3 => if s.mode ≠ 1 ∧ !free then 0x10 else if s.flag R.PAIR_STAT_LEASE then 0 else 0x12
    | 4 =>
      let f := s.rd R.SYS_STARTSTEP_FAIL
      if cause = 4 then (if s.mode = 1 ∧ (f = 4 ∨ f = 5) then 0 else 0x10)
      else if !causeOk cause then 0x10
      else if s.mode = 1 ∨ s.isTrack ∨ s.isLead ∨ free then 0 else 0x10
    | 5 => if s.isTrack ∨ (s.isHold ∧ hc ≠ 9) then (if s.flag R.SYS_KEYSW_POS then 0 else 0x13) else 0x10
    | _ => 0x10

/-- Entry into LEAD on the lease that a restart's claim holds (R53): source 169. -/
def State.leadByLease (s : State) : State :=
  let s := { s with pr := { s.pr with claimKind := 0, claimCyc := 0 }, sys := { s.sys with restart := 0 } }
  ((s.enterLead true).wr R.PAIR_LEASE_NOMAJ 0).ev 0x3A 5

/-- A write of SYS.MODECMD. A refusal sets EVRAW bit 3 (R62). -/
def State.modecmd (s : State) (target cause key : Nat) : State :=
  let c := s.modecmdCode target cause key
  if c ≠ 0 then (s.err 0x00 c 0x110).ev 0x00 3
  else if target = 3 then s.leadByLease
  else s.setMode target cause

/-- MODECMD_TO_LEAD, _TRACK, _HOLD, _SERVICE, _START_OR_DORMANT (R47). -/
def execModecmdToLead (_m : BitVec 6) (cause : BitVec 4) (key : BitVec 16) (s : State) : Res :=
  .next <| s.onPage 0x00 fun s => s.modecmd 3 cause.toNat key.toNat
def execModecmdToTrack (_m : BitVec 6) (cause : BitVec 4) (key : BitVec 16) (s : State) : Res :=
  .next <| s.onPage 0x00 fun s => s.modecmd 2 cause.toNat key.toNat
def execModecmdToHold (_m : BitVec 6) (cause : BitVec 4) (key : BitVec 16) (s : State) : Res :=
  .next <| s.onPage 0x00 fun s => s.modecmd 4 cause.toNat key.toNat
def execModecmdToService (_m : BitVec 6) (cause : BitVec 4) (key : BitVec 16) (s : State) : Res :=
  .next <| s.onPage 0x00 fun s => s.modecmd 5 cause.toNat key.toNat
def execModecmdToStartOrDormant (_m : BitVec 6) (start : Bool) (cause : BitVec 4) (key : BitVec 16) (s : State) : Res :=
  .next <| s.onPage 0x00 fun s => s.modecmd (b2n start) cause.toNat key.toNat

/-! SYS.RSTCMD and the key switch (R57, R62). -/

/-- A write of SYS.RSTCMD (Table 3.9). -/
def State.rstcmd (s : State) (go : Bool) (key : Nat) : State :=
  if !go then s else if key = 0x7A5E then s.resetAssert (2 ^ 4) else s.err 0x00 0x14 0x130
def execRstcmd (_m : BitVec 6) (go : Bool) (key : BitVec 16) (s : State) : Res :=
  .next <| s.onPage 0x00 fun s => s.rstcmd go key.toNat

/-- KEY_SWITCH_CHANGE (R62): source 8; turned to RUN in SERVICE it leaves SERVICE by a commanded reset (Table 3.2). -/
def execKeySwitchChange (service : Bool) (s : State) : Res :=
  .next <|
    let t := s.put R.SYS_KEYSW_POS service
    if s.mode = 0 ∨ s.flag R.SYS_KEYSW_POS = service then t
    else
      let t := t.ev 0x00 2
      if s.isService ∧ !service then t.resetAssert (2 ^ 4) else t

end Sys2Proof.Machine
end

