-- ==== Sys2Proof/Machine/Read.lean ====
section
/-! DEFINITION. Reads of register words: what a word shows, and what a read does (00 Table 0.4; 02 R25–R27; each unit's chapter). -/

namespace Sys2Proof.Machine

/-! The header's identity fields (02 Tables 2.2 and 2.3). -/

/-- The block type code of a unit. -/
def typeCode (p : Nat) : Nat :=
  if p ≤ 0x02 then p + 1
  else if p = 0x03 then 0x04
  else if p = 0x05 ∨ p = 0x06 then p
  else basePage p

/-- The instance number of a unit. -/
def instNo (p : Nat) : Nat := p - basePage p

/-- CAPS of a unit, by its chapter. -/
def State.caps (s : State) (p : Nat) : Nat :=
  if isRmt p then 0x320
  else if isMac p then (if p = 0x43 then 2 else 3)
  else if isRack p then 0x00020060
  else match p with
    | 0x05 => 0x20A
    | 0x06 => 0x100D
    | 0x10 => (if s.isS08 then 2 + 16 * 2 ^ 8 else 4 + 32 * 2 ^ 8) + 16 * 2 ^ 16
    | 0x18 => 0x00700800 + (if s.isS08 then 0 else 32)
    | 0x30 => if s.isS08 then 8 else 16
    | 0x40 => 0x188
    | 0x48 => 0x4005
    | 0x50 => 3
    | 0x51 => 0xFF
    | 0x58 => 0x1020
    | 0x68 => 5
    | 0x70 => 2
    | _ => 0

/-- A header word whose fields are no stored ones. -/
def State.headView (s : State) (m p off : Nat) : Nat :=
  match off with
  | 0x000 => typeCode p * 2 ^ 16 + instNo p * 2 ^ 8 + (unitPages p).length
  | 0x008 => 1
  | 0x00C => s.caps p
  | 0x01C => s.rd R.H_EVEN 0 p ||| evenFixed p
  | _ => s.wordOf m (fieldsAt p off)

/-! Words that show something held elsewhere. -/

/-- The pending bits of sources 32k to 32k + 31 (02 Table 2.7). -/
def State.pendWord (s : State) (k : Nat) : Nat := (upTo 32).foldl (fun a i => if s.srcPending (32 * k + i) then a + 2 ^ i else a) 0

/-- The time left to a watchdog in 10 µs; 0 while it is off (21 R438). -/
def State.wdRemain (s : State) (n : Nat) : Nat :=
  if s.flag R.SAF_WD_CFG_EN n then ((s.wd n).since + s.wdTmo n - s.wdNow n) / 10000 else 0

/-- The words of a compare channel (12 R274). -/
def State.cmpView (s : State) (m off : Nat) : Nat :=
  let k := (off - 0x200) / 0x20
  match (off - 0x200) % 0x20 with
  | 0x00 =>
    let o := s.ownerOf k
    s.rd R.TIM_CMP_CFG_MODE k + s.rd R.TIM_CMP_CFG_TBASE k * 2 ^ 4 + s.rd R.TIM_CMP_CFG_PPSOUT k * 2 ^ 5 + b2n (o != 0) * 2 ^ 8 + o * 2 ^ 9
  | 0x04 => s.cmpTarget k % 2 ^ 32
  | 0x08 => s.cmpTarget k / 2 ^ 32
  | _ => s.wordOf m (fieldsAt 0x40 off)

/-- The word at byte offset `off` of a page of a present unit, as master `m` reads it. -/
def State.regView (s : State) (m page off : Nat) : Nat :=
  let plain := s.wordOf m (fieldsAt page off)
  if page = firstPage page ∧ off < 0x100 then s.headView m page off
  else if isRack page then (if 0x1EC ≤ off ∧ off < 0x240 then (s.rbRxView m (page - 0x60)).wordOf m (fieldsAt page off) else plain)
  else if isMac page then (if off = 0x178 then plain + b2n (s.emac (page - 0x41)).sending else plain)
  else match page with
    | 0x00 => if off = 0x104 then s.units0 else if off = 0x108 then s.units1 else plain
    | 0x03 => if 0x100 ≤ off ∧ off < 0x120 then s.pendWord ((off - 0x100) / 4) else if off < 0x150 then plain else 0
    | 0x05 => if off = 0x138 ∨ off = 0x148 then let n := (off - 0x138) / 16; s.wdRemain n + s.rd R.SAF_WD_STAT_PAUSED n * 2 ^ 16 else plain
    | 0x10 => if off = 0x16C then s.tswView else if off = 0x100 then s.xeView.wordOf m (fieldsAt page off)
      else if off = 0x110 then plain + b2n (s.act != 0) else if off = 0x140 then plain + b2n (s.smState == 1) else plain
    | 0x11 => s.xeView.wordOf m (fieldsAt page off)
    | 0x18 => if off = 0x10C then (s.teData false 0).1 else if off = 0x100 then plain + b2n s.te.locking
      else if off = 0x140 then s.rxStale % 2 ^ 32 else if off = 0x144 then s.rxStale / 2 ^ 32 else plain
    | 0x3A => if off = 0x180 then (s.mlData false 0).1
      else if off = 0x1A0 then plain + b2n (decide (1 ≤ s.rd R.PAIR_SYNC_STAT_PHASE ∧ s.rd R.PAIR_SYNC_STAT_PHASE ≤ 4))
      else if off = 0x1A4 then plain + b2n (s.pr.castKind != 0) else plain
    | 0x68 => if off = 0x1A4 then plain + b2n s.upd.verifying * 2 ^ 31 else plain
    | 0x40 =>
      if off = 0x100 then s.mt % 2 ^ 32 else if off = 0x108 then s.tim.nt % 2 ^ 32
      else if 0x200 ≤ off ∧ off < 0x300 then s.cmpView m off else plain
    | 0x50 => if off = 0x10C then plain ||| s.crt.cmd else plain
    | 0x48 => if off = 0x104 then plain + 2 * b2n (s.flag R.BKD_STAT_LOADBUSY) else plain
    | 0x51 => if off = 0x138 then 0 else plain
    | 0x58 => if off = 0x128 then s.dqDrive + s.rd R.LIO_DQCMD_PROG * 2 ^ 16 else plain
    | _ => plain

/-! What a read does. -/

/-- The RC fields of a word are cleared by a read (00 Table 0.4). -/
def State.rcClear (s : State) (m page off : Nat) : State :=
  s.each ((fieldsAt page off).filter fun f => f.row.acc == .rc) fun s f => s.wr f.row 0 f.k f.u m

/-- A word of samples or counts that no command brings: a free value of its width. -/
def openBits (page off : Nat) : Option Nat :=
  if page = 0x58 ∧ off = 0x12C then some (2 ^ 16)
  else none

/-- The FEC counters and the load of a link, which no command brings: at a read the counters have gone on by a free count since the read
before, and the load of the last 1 ms is free, 0 to 100; a link that is not up leaves them as they are (11 Table 11.11). -/
def State.plCounts (s : State) (l : Nat) : State :=
  if !s.linkUp l then s
  else
    let a := s.draw
    let b := a.2.draw
    let c := b.2.draw
    ((c.2.wrap R.PL_FEC_CORR 0 l 0 (a.1 % 2 ^ 32)).sat R.PL_FEC_UNCORR 0 l 0 (b.1 % 2 ^ 16)).wr R.PL_LOAD (c.1 % 101) 0 l

/-- A read by master `m` of the word at `off` of a page of a present unit: the word, and the state after it. -/
def State.regRead (s : State) (m page off : Nat) : Nat × State :=
  match openBits page off with
  | some w => (s.draw.1 % w, s.draw.2)
  | none =>
    if isPl page && (off == 0x108 || off == 0x10C || off == 0x118) then
      let t := s.plCounts (page - 0x38)
      (t.regView m page off, t)
    else match page, off with
    | 0x03, 0x150 => s.claim 0
    | 0x03, 0x154 => s.claim 1
    | 0x18, 0x10C => s.teData false 0
    | 0x3A, 0x180 => s.mlData false 0
    | 0x40, 0x100 => s.readMt m
    | 0x40, 0x108 => s.readNt m
    | 0x48, 0x108 => let t := s.rtcSnap m; (t.regView m page off, t)
    | 0x51, 0x138 => s.tokenRead
    | _, _ => (s.regView m page off, s.rcClear m page off)

/-- A read of a word of a page, answered on the bus; the page of an absent unit reads 0 (02 R26). -/
def State.pageRead (s : State) (m page off : Nat) : State :=
  s.onRead page fun s => s.regRead m page off

/-- ERRINFO_READ (R8; 02 Table 2.3). -/
def execErrinfoRead (m : BitVec 6) (page : BitVec 8) (s : State) : Res :=
  .next (s.pageRead m.toNat (firstPage page.toNat) 0x02C)

/-- RC_COUNTER_READ (R8). -/
def execRcCounterRead (m : BitVec 6) (page : BitVec 8) (word : BitVec 10) (s : State) : Res :=
  .next (s.pageRead m.toNat page.toNat (4 * word.toNat))

end Sys2Proof.Machine
end

