-- ==== Sys2Proof/Machine/Write.lean ====
section
/-! DEFINITION. Writes of register words by fabric masters: the fields of a word by their access codes with the checks and commands
that each unit's chapter gives them (00 Table 0.4; 02 R24–R37). -/

namespace Sys2Proof.Machine

/-! The parts of a write. -/

/-- The effect of a command that a word starts. -/
def State.doing (s : State) (f : State → Res) : State :=
  match f s with
  | .next t => t
  | _ => s

/-- The commands whose bits a word sets, the lowest bit first. -/
def State.commands (s : State) (v : Nat) (cs : List (Nat × (State → Res))) : State :=
  s.each cs fun s c => if nbit v c.1 then s.doing c.2 else s

def State.pageLocked (s : State) (page : Nat) : Bool := s.flag R.H_LOCK_LOCKED 0 (firstPage page)

/-- An RO field of the word is written with bits that differ from what it reads (R25). -/
def State.roDiffers (s : State) (m page off v : Nat) : Bool :=
  let w := s.regView m page off
  (fieldsAt page off).any fun f => f.row.acc == .ro && f.bits v != f.bits w

/-- The fields of the word take the write, without its notes; CFGGEN counts a change (R29). -/
def State.fields (s : State) (m page off v : Nat) : State :=
  (s.wordWrite m v (s.pageLocked page) (fieldsAt page off)).cfgBump s page off m

/-- What ERRINFO records of the write: 0x01 for RWL fields of a locked page (R34), then 0x04, else 0x03 (R25); `s` is the state
before the write. A reset that the write asserts leaves nothing to record. -/
def State.notes (t s : State) (m page off v : Nat) : State :=
  if t.sys.resetHeld && !s.sys.resetHeld then t else
  let t := if s.pageLocked page && (fieldsAt page off).any (fun f => f.row.acc == .rwl) then t.err page 0x01 off else t
  if !reservedOk (fieldsAt page off) v then t.err page 0x04 off
  else if s.roDiffers m page off v then t.err page 0x03 off
  else t

/-- A word without behaviour of its own. -/
def State.plainWrite (s : State) (m page off v : Nat) : State := (s.fields m page off v).notes s m page off v

/-- A word with commands: its stored fields first, the commands next, then the notes. -/
def State.cmdWrite (s : State) (m page off v : Nat) (cs : List (Nat × (State → Res))) : State :=
  ((s.fields m page off v).commands v cs).notes s m page off v

/-- `v` with the bits of a field as the state holds them. -/
def State.keep (s : State) (r : Row) (k u m v : Nat) : Nat := v - nfield v r.lo r.width * 2 ^ r.lo + s.rd r k u m * 2 ^ r.lo

/-- A field with a range: outside it the field stays and the unit's code is recorded. The word to write, and the state. -/
def State.ranged (x : Nat × State) (page off code : Nat) (r : Row) (k u m : Nat) (ok : Nat → Bool) : Nat × State :=
  let s := x.2
  if (r.acc == .rwl && s.pageLocked page) || ok (nfield x.1 r.lo r.width) then x
  else (s.keep r k u m x.1, s.err page code off)

/-- A word whose ranges have been applied. -/
def State.rangedWrite (s : State) (m page off v : Nat) (x : Nat × State) : State := (x.2.fields m page off x.1).notes s m page off v

/-- A write that is refused whole under a code, unless it passes or, with RWL fields, the page is locked; the code's record comes
before the notes. -/
def State.refusedUnless (s : State) (ok : Bool) (m page off v code : Nat) (f : State → State) : State :=
  if ok then f s else (s.err page code off).notes s m page off v

/-! The header (Table 2.3). -/

def State.headWrite (s : State) (m page off v : Nat) : State :=
  match off with
  | 0x010 =>
    if reservedOk (fieldsAt page off) v then
      let s := s.ctrlEn page (nbit v 0)
      if nbit v 1 then s.writeSrst page else s
    else
      let s := s.err page 0x04 0x010
      let s := if enRo page then s else s.ctrlEn page (nbit v 0)
      if nbit v 1 then s.writeSrst page else s
  | 0x01C => s.wr R.H_EVEN v 0 page
  | 0x024 => s.evforce page v
  | _ => s.plainWrite m page off v

/-! SYS, EVC, SAF, GATE (02, 03, 18, 21). -/

def State.sysWrite (s : State) (m off v : Nat) : State :=
  match off with
  | 0x110 => (s.modecmd (nfield v 0 3) (nfield v 8 4) (nfield v 16 16)).rsvErr 0x00 off v
  | 0x130 => (s.rstcmd (nbit v 0) (nfield v 16 16)).notes s m 0x00 off v
  | _ => s.plainWrite m 0x00 off v

def State.pwrWrite (s : State) (m off v : Nat) : State :=
  let t := s.plainWrite m 0x01 off v
  if off = 0x110 then t.evLevel 0x01 1 (t.rd R.PWR_RAILERR != 0) else t

/-- ENA0 bits 7:0 and SRCCFG of sources 0–7 are RO (02 Table 2.7). -/
def State.evcWrite (s : State) (m page off v : Nat) : State :=
  if page = 0x03 ∧ (off = 0x160 ∨ off = 0x164) then (s.complete ((off - 0x160) / 4) (nfield v 0 8)).rsvErr page off v
  else if page = 0x03 ∧ off = 0x120 then
    let t := s.plainWrite m page off (v ||| 0xFF)
    if nfield v 0 8 = 0xFF then t else t.err page 0x03 off
  else if page = 0x04 ∧ off < 0x20 then
    if !reservedOk (fieldsAt page off) v then s.err page 0x04 off
    else if v = s.regView m page off then s else s.err page 0x03 off
  else s.plainWrite m page off v

/-- SAF.WDn.CFG (21 R438): TMO 10–1,000, WIN 0–75, EN once set stays. -/
def State.wdCfg (s : State) (m off v : Nat) : State :=
  let n := (off - 0x130) / 16
  let x := State.ranged (v, s) 0x05 off 0x12 R.SAF_WD_CFG_TMO n 0 m fun t => decide (10 ≤ t ∧ t ≤ 1000)
  let x := State.ranged x 0x05 off 0x12 R.SAF_WD_CFG_WIN n 0 m fun t => decide (t ≤ 75)
  let on := s.flag R.SAF_WD_CFG_EN n
  let x := State.ranged x 0x05 off 0x13 R.SAF_WD_CFG_EN n 0 m fun e => e == 1 || !on
  let t := s.rangedWrite m 0x05 off v x
  if !on && t.flag R.SAF_WD_CFG_EN n then t.setWd n { t.wd n with since := s.mt, keyed := false, warned := false } else t

/-- SAF.DS.EN (21 R435). -/
def State.dsEn (s : State) (m v : Nat) : State :=
  let old := s.rd R.SAF_DS_EN
  let x := State.ranged (v, s) 0x05 0x150 0x10 R.SAF_DS_EN 0 0 m fun e => s.isService || (old &&& e) == old
  let t := s.rangedWrite m 0x05 0x150 v x
  t.put R.SAF_STAT_DEGRADED (t.rd R.SAF_DS_EN != 0x3FF)

def State.safWrite (s : State) (m : BitVec 6) (off v : Nat) : State :=
  match off with
  | 0x130 => s.wdCfg m.toNat off v
  | 0x140 => s.wdCfg m.toNat off v
  | 0x134 => s.wdService 0 v
  | 0x144 => s.wdService 1 v
  | 0x150 => s.dsEn m.toNat v
  | 0x164 => s.cmdWrite m.toNat 0x05 off v [(0, execSafInject m)]
  | _ => s.plainWrite m.toNat 0x05 off v

/-- Clearing VALID of a record clears MORE (18 Table 18.9). -/
def State.gateWriteReg (s : State) (m : BitVec 6) (off v : Nat) : State :=
  if off = 0x120 then s.cmdWrite m.toNat 0x06 off v [(0, execGateCmdWrite m), (1, execGateCmdRead m)]
  else
    let t := s.plainWrite m.toNat 0x06 off v
    if 0x200 ≤ off ∧ off < 0x2D0 ∧ off % 16 = 8 then
      let g := (off - 0x208) / 16
      (if t.flag R.GATE_FLT_INFO_VALID g then t else t.wr R.GATE_FLT_INFO_MORE 0 g).gateLevels
    else if off = 0x2D8 then (if t.flag R.GATE_DEC_INFO_VALID then t else t.wr R.GATE_DEC_INFO_MORE 0).gateLevels
    else t

/-! XE and TE (04, 05, 07, 08). -/

/-- Page 0x10. -/
def State.xe0Write (s : State) (m : BitVec 6) (off v : Nat) : State :=
  let n := m.toNat
  match off with
  | 0x110 => s.cmdWrite n 0x10 off v [(0, execActivate m (if nbit v 1 then 1 else 0))]
  | 0x140 => s.cmdWrite n 0x10 off v [(0, execSmVerify m (nbit v 8)), (1, execSmArm m (nbit v 8)), (2, execSmCancel m)]
  | 0x14C => s.rangedWrite n 0x10 off v (State.ranged (v, s) 0x10 off 0x2B R.XE_SM_BUDGET 0 0 n fun b => decide (20 ≤ b ∧ b ≤ 200))
  | _ => s.plainWrite n 0x10 off v

/-- Page 0x11. -/
def State.xe1Write (s : State) (m : BitVec 6) (off v : Nat) : State :=
  let n := m.toNat
  if off < 0x60 ∧ off % 0x20 < 8 then s.clsWrite n (off / 0x20) (off % 0x20 == 4) v
  else if off < 0x60 ∧ off % 0x20 = 0x18 then (if v = 2 ^ 32 - 1 then s.wr R.XE_CLS_MAXDUR 0 (off / 0x20) else s)
  else if off = 0x060 then s.rangedWrite n 0x11 off v (State.ranged (v, s) 0x11 off 0x22 R.XE_MW_CFG_TIMEOUT 0 0 n fun t => decide (10 ≤ t ∧ t ≤ 200))
  else if 0x080 ≤ off ∧ off < 0x0C0 then
    s.rangedWrite n 0x11 off v (State.ranged (v, s) 0x11 off 0x23 R.XE_ET_CFG_SRC ((off - 0x80) / 4) 0 n fun x => decide (16 ≤ x))
  else if off = 0x0C4 then s.doing (execEtTrigWrite m (BitVec.ofNat 32 v))
  else s.plainWrite n 0x11 off v

/-- Page 0x12. -/
def State.xe2Write (s : State) (m : BitVec 6) (off v : Nat) : State :=
  match off with
  | 0x018 => s.doing (execLsInject m (BitVec.ofNat 32 v))
  | 0x130 => s.cmdWrite m.toNat 0x12 off v [(0, execForceTableWrite m), (1, execForceTableRead m)]
  | _ => s.plainWrite m.toNat 0x12 off v

/-- TE.DIASSIGN, DQASSIGN and EVSEL take writes only while the engine is not locked; on S08 no assignment can be set (08 R170, R176). -/
def State.teAssign (s : State) (m off v : Nat) : State :=
  if s.flag R.TE_CFGSTAT_LOCKED || s.te.locking then (s.err 0x18 0x31 off).notes s m 0x18 off v
  else if s.isS08 ∧ off ≠ 0x120 then s.notes s m 0x18 off v
  else s.plainWrite m 0x18 off v

def State.teWrite (s : State) (m : BitVec 6) (off v : Nat) : State :=
  let key := BitVec.ofNat 16 (nfield v 16 16)
  match off with
  | 0x100 =>
    let t :=
      if nbit v 0 then s.doing (execTeLock m key (nbit v 1))
      else if nbit v 1 then s.doing (execTeUnlock m key)
      else s
    t.rsvErr 0x18 off v
  | 0x10C => (s.teData true v).2
  | 0x118 => s.teAssign m.toNat off v
  | 0x11C => s.teAssign m.toNat off v
  | 0x120 => s.teAssign m.toNat off v
  | _ => s.plainWrite m.toNat 0x18 off v

/-! The segments and the pair (10, 11). -/

def State.rmtWrite (s : State) (m : BitVec 6) (page off v : Nat) : State :=
  match off with
  | 0x100 => s.rangedWrite m.toNat page off v (State.ranged (v, s) page off 0x43 R.RMT_CFG_LOSTN 0 (page - 0x20) m.toNat fun n => n != 0)
  | 0x3A0 =>
    let g : Fin 16 := ⟨(page - 0x20) % 16, by omega⟩
    let k : Fin 32 := ⟨v % 32, by omega⟩
    (if nbit v 31 then s.doing (execServiceQueue m g k (BitVec.ofNat 2 (nfield v 8 2))) else s).rsvErr page off v
  | _ => s.plainWrite m.toNat page off v

/-- PAIR.ARB.N (11 R247): 0, or an odd count from 3 whose arbiters lie on present segments, at least two different ones. -/
def State.arbOk (s : State) (n : Nat) : Bool :=
  let segs := (upTo n).map fun i => s.rd R.PAIR_ARB_SEG i
  n == 0 || (n % 2 == 1 && decide (3 ≤ n) && segs.all (fun g => s.present (0x20 + g)) && segs.any (fun g => g != segs.headD 0))

def State.pairWrite (s : State) (m : BitVec 6) (off v : Nat) : State :=
  let n := m.toNat
  match off with
  | 0x118 => s.rangedWrite n 0x3A off v (State.ranged (v, s) 0x3A off 0x51 R.PAIR_LEASE_LEASECYC 0 0 n fun c => decide (4 ≤ c))
  | 0x120 => s.rangedWrite n 0x3A off v (State.ranged (v, s) 0x3A off 0x50 R.PAIR_ARB_N 0 0 n s.arbOk)
  | 0x178 => s.cmdWrite n 0x3A off v [(0, execMlCheck m)]
  | 0x180 => (s.mlData true v).2
  | 0x1A0 => s.cmdWrite n 0x3A off v [(0, execSyncCmdJoin m)]
  | 0x1A4 => s.cmdWrite n 0x3A off v [(0, execCastleCmdReq m (nbit v 1))]
  | _ => s.plainWrite n 0x3A off v

/-! Time, the MACs, the backup domain (12, 13, 19). -/

/-- A channel that is set up anew matches from the next tick on (R273). -/
def State.arm (s : State) (k : Nat) : State := s.setTim { s.tim with armed := smSet 0 s.tim.armed k (s.mt + 1) }

/-- The compare channels (R273): MODE 3 and a PERIOD below 1,000 are refused. -/
def State.cmpWrite (s : State) (m off v : Nat) : State :=
  let k := (off - 0x200) / 0x20
  match (off - 0x200) % 0x20 with
  | 0x00 => (s.rangedWrite m 0x40 off v (State.ranged (v, s) 0x40 off 0x66 R.TIM_CMP_CFG_MODE k 0 m fun x => x != 3)).arm k
  | 0x0C => s.rangedWrite m 0x40 off v (State.ranged (v, s) 0x40 off 0x62 R.TIM_CMP_PERIOD k 0 m fun x => decide (1000 ≤ x))
  | _ => (s.plainWrite m 0x40 off v).arm k

/-- TPCFG (R277): the count of missing edges runs from the write that sets INEN. -/
def State.tpcfg (s : State) (m v : Nat) : State :=
  let t := s.rangedWrite m 0x40 0x148 v (State.ranged (v, s) 0x40 0x148 0x62 R.TIM_TPCFG_PWIDTH 0 0 m fun w => decide (1 ≤ w ∧ w ≤ 500))
  if !s.flag R.TIM_TPCFG_INEN && t.flag R.TIM_TPCFG_INEN then t.setTim { t.tim with edgeAt := s.mt } else t

def State.timWrite (s : State) (m : BitVec 6) (off v : Nat) : State :=
  let n := m.toNat
  if 0x200 ≤ off ∧ off < 0x300 then s.cmpWrite n off v
  else if 0x300 ≤ off ∧ off < 0x400 ∧ (off - 0x300) % 0x20 = 0 then
    s.rangedWrite n 0x40 off v (State.ranged (v, s) 0x40 off 0x64 R.TIM_CAP_CFG_SRC ((off - 0x300) / 0x20) 0 n fun x => decide (x < 0x2C))
  else match off with
    | 0x110 => (s.writeNtinc v).cfgBump s 0x40 off n
    | 0x118 => (if nbit v 0 then s.ntStep (nbit v 1) else s).rsvErr 0x40 off v
    | 0x11C =>
      s.rangedWrite n 0x40 off v (State.ranged (v, s) 0x40 off 0x65 R.TIM_NTSTEPMAX 0 0 n fun x => decide (1000 ≤ x ∧ x ≤ 1000000000))
    | 0x128 =>
      let t := (s.writeLocked (nbit v 0)).cfgBump s 0x40 off n
      (if nbit v 1 then t.ntSet else t).rsvErr 0x40 off v
    | 0x130 => s.cmdWrite n 0x40 off v [(0, execTimeSnapshot m)]
    | 0x148 => s.tpcfg n v
    | _ => s.plainWrite n 0x40 off v

def State.emacWrite (s : State) (m : BitVec 6) (page off v : Nat) : State :=
  let n := m.toNat
  let x : Fin 3 := ⟨(page - 0x41) % 3, by omega⟩
  match off with
  | 0x114 => s.cmdWrite n page off v [(0, execTsPop m x false)]
  | 0x128 => s.cmdWrite n page off v [(0, execTsPop m x true)]
  | 0x148 => s.refusedUnless (s.pageLocked page || !s.flag R.EMAC_MACCFG_RXEN 0 x) n page off v 0xE1 fun s => s.plainWrite n page off v
  | 0x14C => s.refusedUnless (s.pageLocked page || !s.flag R.EMAC_MACCFG_RXEN 0 x) n page off v 0xE1 fun s => s.plainWrite n page off v
  | 0x178 => s.cmdWrite n page off v [(0, execEmacTxkick m x)]
  | _ => s.plainWrite n page off v

/-- A write to domain fields (13 R289, R297, R298): it waits for the next tick, behind a write that is pending. OPSEC and PWRCYC take no smaller value. -/
def State.domainWrite (s : State) (m off v : Nat) : State :=
  let fs := fieldsAt 0x48 off
  let r := s.bkStall
  let s := r.2
  if off = 0x180 ∧ v < s.rd R.BKD_OPSEC then s.err 0x48 0x72 off
  else if off = 0x184 ∧ nfield v 0 24 < s.rd R.BKD_PWRCYC_COUNT then (s.err 0x48 0x72 off).notes s m 0x48 off v
  else if s.pageLocked 0x48 && fs.all (fun f => f.row.acc == .rwl || f.row.acc == .ro) then s.notes s m 0x48 off v
  else
    let new := s.wordWrite m v false fs
    let t := s.bkWrite r.1 off v
    let t := if (new.cfgBump s 0x48 off m).rd R.H_CFGGEN 0 0x48 = s.rd R.H_CFGGEN 0 0x48 then t else t.wrap R.H_CFGGEN 0 0x48
    t.notes s m 0x48 off v

def State.bkdWriteReg (s : State) (m : BitVec 6) (off v : Nat) : State :=
  if off = 0x104 then (s.bkCommand (nfield v 0 3)).notes s m.toNat 0x48 off v
  else if off = 0x124 then (s.doing (execRtcSecWrite m (BitVec.ofNat 32 v))).rsvErr 0x48 off v
  else if 0x11C ≤ off ∧ (fieldsAt 0x48 off).any (fun f => f.row.acc == .rw || f.row.acc == .rwl || f.row.acc == .w1c) then
    s.domainWrite m.toNat off v
  else s.plainWrite m.toNat 0x48 off v

/-! The cartridge, the event recorder, the image book (14, 15, 20). -/

def State.crtWrite (s : State) (m : BitVec 6) (off v : Nat) : State :=
  let n := m.toNat
  let key := BitVec.ofNat 16 (nfield v 16 16)
  match off with
  | 0x10C =>
    s.cmdWrite n 0x50 off v [(0, execCartridgeFormat m key), (1, execCartridgeAdopt m key), (2, execCartridgeRelease m), (3, execCkptCommand m)]
  | 0x110 =>
    let x := State.ranged (v, s) 0x50 off 0x83 R.CRT_JNL_CFG_BUDGET 0 0 n fun b => decide (16 ≤ b ∧ b ≤ 128)
    s.rangedWrite n 0x50 off v (State.ranged x 0x50 off 0x83 R.CRT_JNL_CFG_CKPTINT 0 0 n fun i => decide (100 ≤ i ∧ i ≤ 10000))
  | 0x14C =>
    let t := s.fields n 0x50 off v
    (if nbit v 4 ∧ nfield v 0 2 ≠ 0 then t.nandGo (nfield v 0 2) else t).notes s n 0x50 off v
  | _ =>
    let t := s.plainWrite n 0x50 off v
    if 0x130 ≤ off ∧ off < 0x140 then t.lifeView else t

def State.erWrite (s : State) (m : BitVec 6) (priv : Bool) (off v : Nat) : State :=
  let n := m.toNat
  match off with
  | 0x108 => s.doing (execSeqnextWrite m (BitVec.ofNat 32 v))
  | 0x114 => s.refusedUnless (s.unit 0x51 == 0) n 0x51 off v 0x95 fun s => s.plainWrite n 0x51 off v
  | 0x118 => (if nbit v 31 then s.doing (execErWriteRequest m (BitVec.ofNat 8 v)) else s).rsvErr 0x51 off v
  | 0x124 =>
    let op := nfield v 0 2
    if smGet 0 s.er.moves n ≠ 0 then s.notes s n 0x51 off v
    else
      let t := s.fields n 0x51 off v
      (if nbit v 4 ∧ op ≠ 0 then t.erMove n op else t).notes s n 0x51 off v
  | 0x12C => s.cmdWrite n 0x51 off v [(0, execErNext m)]
  | 0x13C => s.erClr priv v
  | _ => s.plainWrite n 0x51 off v

/-- A block submitted by a raw write: whether the slot region has room is free. -/
def State.updWriteReg (s : State) (m : BitVec 6) (off v : Nat) : State :=
  let n := m.toNat
  match off with
  | 0x1A4 =>
    let t := s.fields n 0x68 off v
    (if nbit v 31 then t.draw.2.doing (execUpdBlockSubmit m (t.draw.1 % 2 == 1)) else t).notes s n 0x68 off v
  | 0x1B0 => s.cmdWrite n 0x68 off v [(0, execUpdCancel m), (1, execUpdUnpend m (BitVec.ofNat 8 (nfield v 8 8)))]
  | _ => s.plainWrite n 0x68 off v

/-! Local I/O, rack buses, debug (16, 17, 18). -/

/-- LIO.SPER as a write of `v` leaves it: a group's field outside 1–200 stays (16 R363). -/
def sperKeep (old v : Nat) : Nat :=
  (upTo 4).foldl (fun a g => a + (if 1 ≤ nfield v (8 * g) 8 ∧ nfield v (8 * g) 8 ≤ 200 then nfield v (8 * g) 8 else nfield old (8 * g) 8) * 2 ^ (8 * g)) 0

/-- A write of a LIO register (16 R352, R359, R363). -/
def State.lioWrite (s : State) (m : BitVec 6) (off v : Nat) : State :=
  let n := m.toNat
  match off with
  | 0x10C =>
    let w := if s.pageLocked 0x58 then v else sperKeep (s.rd R.LIO_SPER) v
    s.rangedWrite n 0x58 off v (w, if w = v then s else s.err 0x58 0xA0 off)
  | 0x120 => s.refusedUnless (s.pageLocked 0x58 || !s.isLead) n 0x58 off v 0xA1 fun s => s.plainWrite n 0x58 off v
  | 0x130 => (s.plainWrite n 0x58 off v).tmodeTake
  | 0x138 => (s.doing (execDqclr m (BitVec.ofNat 16 v))).rsvErr 0x58 off v
  | _ =>
    let t := s.plainWrite n 0x58 off v
    if off = 0x11C ∨ (0x144 ≤ off ∧ off < 0x150) then t.lioLevels else t

def State.rackWrite (s : State) (m : BitVec 6) (page off v : Nat) : State :=
  let n := m.toNat
  let u : Fin 2 := ⟨(page - 0x60) % 2, by omega⟩
  let isOff : Bool := s.unit page == 0
  if off = 0x100 then
    s.refusedUnless isOff n page off v 0xB0 fun s =>
      s.refusedUnless (!nbit v 2 || s.isService) n page off v 0xB5 fun s => s.plainWrite n page off v
  else if off = 0x104 ∨ off = 0x108 ∨ off = 0x10C then s.refusedUnless isOff n page off v 0xB0 fun s => s.plainWrite n page off v
  else if off = 0x140 then s.cmdWrite n page off v [(0, execRbObjWrite m u), (1, execRbObjRead m u), (2, execRbObjLoad m u)]
  else if 0x190 ≤ off ∧ off < 0x19C then s.rbRequest u ((off - 0x190) / 4) v
  else if 0x1A8 ≤ off ∧ off < 0x1B4 then s.each (bitsOf ((off - 0x1A8) / 4) v) fun s i => s.rbCancel u i
  else if off = 0x1E8 then (s.rbAck u (nfield v 0 7) (nfield v 8 5)).rsvErr page off v
  else
    let t := s.plainWrite n page off v
    if 0x1B4 ≤ off ∧ off < 0x1E4 then t.rbLevels u else t

/-- The commands of DBG.CMD, the lowest bit first; a reset that RESET asserts ends them. DBG.RESP is write-only and is held for UNLOCK. -/
def State.dbgWrite (s : State) (m : BitVec 6) (off v : Nat) : State :=
  if off = 0x104 then
    let t := s.commands v [(0, execDbgNewchal m), (1, execDbgUnlock m), (2, execDbgRelock m), (3, execDbgReset m)]
    if t.sys.resetHeld && !s.sys.resetHeld then t
    else
      let t := if nfield v 8 2 = 0 then t else t.doing (execDbgHalt m (BitVec.ofNat 2 (nfield v 8 2)))
      let t := if nfield v 10 2 = 0 then t else t.doing (execDbgResume m (BitVec.ofNat 2 (nfield v 10 2)))
      t.rsvErr 0x70 off v
  else if 0x140 ≤ off ∧ off < 0x160 then s.wr R.DBG_RESP v ((off - 0x140) / 4)
  else s.plainWrite m.toNat 0x70 off v

/-! A write to a page. -/

/-- A write by master `m` at user or privileged level to the word at `off` of a page of a present unit. -/
def State.regWrite (s : State) (m : BitVec 6) (priv : Bool) (page off v : Nat) : State :=
  if page = firstPage page ∧ off < 0x100 then s.headWrite m.toNat page off v
  else if isRmt page then s.rmtWrite m page off v
  else if isMac page then s.emacWrite m page off v
  else if isRack page then s.rackWrite m page off v
  else match page with
    | 0x00 => s.sysWrite m.toNat off v
    | 0x01 => s.pwrWrite m.toNat off v
    | 0x03 => s.evcWrite m.toNat page off v
    | 0x04 => s.evcWrite m.toNat page off v
    | 0x05 => s.safWrite m off v
    | 0x06 => s.gateWriteReg m off v
    | 0x10 => s.xe0Write m off v
    | 0x11 => s.xe1Write m off v
    | 0x12 => s.xe2Write m off v
    | 0x18 => s.teWrite m off v
    | 0x3A => s.pairWrite m off v
    | 0x40 => s.timWrite m off v
    | 0x48 => s.bkdWriteReg m off v
    | 0x50 => s.crtWrite m off v
    | 0x51 => s.erWrite m priv off v
    | 0x58 => s.lioWrite m off v
    | 0x68 => s.updWriteReg m off v
    | 0x70 => s.dbgWrite m off v
    | _ => s.plainWrite m.toNat page off v

/-- A write to a page; the page of an absent unit ignores it (R26). The keys of LOCK do not break their own sequence. -/
def State.pageWrite (s : State) (m : BitVec 6) (priv : Bool) (page off v : Nat) : State :=
  if page = firstPage page ∧ off = 0x028 then s.lockWrite page v
  else s.onPage page fun s => s.regWrite m priv page off v

/-- REGISTER_WRITE (R25). A privileged write. -/
def execRegisterWrite (m : BitVec 6) (page : BitVec 8) (word : BitVec 10) (value : BitVec 32) (s : State) : Res :=
  .next (s.pageWrite m true page.toNat (4 * word.toNat) value.toNat)

end Sys2Proof.Machine
end

