-- ==== Sys2Proof/Machine/Access.lean ====
section
/-! DEFINITION. FABRIC_ACCESS (18 R385–R391): the gate's decision, and an allowed access meets a register page or memory (02 Table 2.1). -/

namespace Sys2Proof.Machine

/-! The access. -/

/-- An allowed access (R389). -/
def State.accessDone (s : State) (m : BitVec 6) (x : Access) (memtype : Nat) (share : Bool) : State :=
  if isPageByte x.addr then
    let page := (x.addr - pageBase) / 4096
    let off := (x.addr - pageBase) % 4096
    if isStore x.kind then (s.pageWrite m x.priv page off (leNat x.data)).answerBus [] false memtype share
    else
      let t := s.pageRead m.toNat page off
      t.answerBus t.bus.data false memtype share
  else (s.accessMem x memtype share).xeDone

/-- The access meets its target, or waits for the end of a switch; accesses whose switch was ended by a fault come first. -/
def State.access (s : State) (m : BitVec 6) (x : Access) : State :=
  let s := if s.xe.waits != [] && s.rd R.XE_SM_STAT_STATE != 4 then s.waitedAccesses else s
  if s.waitsSwitch x then { s with xe := { s.xe with waits := s.xe.waits ++ [x] } }
  else
    match s.verdict x.m x.priv x.kind x.addr x.size with
    | .allowed mt sh => s.accessDone m x mt sh
    | v => s.accessRefused x v

/-- FABRIC_ACCESS (R385, R387). A master other than the control cores presents every access as privileged (R382). An access to memory
meets the lanes in the clock in which the work in EXECUTE has issued `beat.rows` rows more; what they write in that clock comes first (01 R10). -/
def execFabricAccess (m : BitVec 6) (priv : Bool) (kind : AccessKind) (addr : BitVec 36) (size : BitVec 13) (beat : Beat) (s : State) : Res :=
  .next <|
    let n := size.toNat
    let x : Access := ⟨m.toNat, priv || decide (2 ≤ m.toNat), kind, addr.toNat, n, (upTo n).map fun i => beat.data.getD i 0⟩
    if n = 0 then s else (if isPageByte x.addr then s else s.engineRows beat.rows).access m x

end Sys2Proof.Machine
end

