-- ==== Sys2Proof/Machine/Reflex.lean ====
section
/-! DEFINITION. The reflex path on the wire (08 R172, R173; 09 R187, R190): REFLEX frames received and sent. -/

namespace Sys2Proof.Machine

/-- REFLEX_FRAME_RECEIVED (08 R172; 09 R187, R190, R462): a frame of ten bytes, judged by where it starts. -/
def execReflexFrameReceived (seg : Fin 16) (chanB : Bool) (start : BitVec 64) (jkOk codesOk trOk : Bool) (payload : BitVec 64)
    (crc : BitVec 16) (s : State) : Res :=
  .next <|
    let f : Frame := ⟨seg, chanB, start, jkOk && codesOk, trOk && codesOk, beBytes 8 payload.toNat ++ beBytes 2 crc.toNat⟩
    ((((s.awaitMt f.endAt).pathNow).receive f fun s _ => s)).xeDone

/-- REFLEX_INPUT_TIMEOUT (08 R172): TMO rounds after the end of the last valid frame RX k reads 0 and stale. -/
def execReflexInputTimeout (k : Fin 64) (s : State) : Res :=
  .next <|
    let w := s.teMap k
    let t := smGet 0 s.te.rxAt (32 * mapSeg w + mapSt w)
    let s := if !mapEn w || t == 0 then s else s.awaitMt (t - 1 + mapTmo w * 125000)
    s.wr2 R.TE_RXSTALE0 R.TE_RXSTALE1 s.rxStale

/-- The own minislot that is open now or comes next in this cycle and has not been sampled: its round and its start in the cycle (R173). -/
def State.ownMini (s : State) : Option Nat :=
  ((upTo (s.rd R.RMC_STAT_ROUNDS)).map fun r => miniAt r (6 + s.side)).find? fun n =>
    decide (s.rmc.sample < s.mtIn n) && decide (s.mt < s.mtIn (n + 1750))

/-- The REFLEX frame of one channel (R187), whose minislot starts at `n` in the cycle. -/
def State.reflexSend (s : State) (n bits g : Nat) (b : Bool) : State :=
  if s.segOn g && (s.rmt g).joined && s.chanOpen g b then
    s.transmit g b true (s.mtIn (n + 250)) (s.miniClose g b n) (shortFrame bits)
  else s

/-- REFLEX_SEND (08 R173): at the start of the own minislot sums 16–79 are sampled, and go out 0.25 µs later on every enabled segment and
open channel. -/
def execReflexSend (s : State) : Res :=
  .next <|
    match s.ownMini with
    | none => s
    | some n =>
      let s := (s.awaitMt (s.mtIn n)).pathNow
      if !s.reflexSends then s.xeDone
      else
        let bits := s.rd2 R.TE_RXOUT0 R.TE_RXOUT1
        let s := s.modRmc fun r => { r with sample := s.mtIn n }
        (s.each (s.onSegs.flatMap fun g => [(g, false), (g, true)]) fun s e => s.reflexSend n bits e.1 e.2).xeDone

end Sys2Proof.Machine
end

