-- ==== Sys2Proof/Machine/Dispatch.lean ====
section
/-! DEFINITION. One arm per command: the command and its meaning. -/

namespace Sys2Proof.Machine

def exec (i : Instr) (s : State) : Host.Outcome State Fault Refusal :=
  match i with
  | .registerWrite m page word value => Sys2Proof.Machine.execRegisterWrite m page word value s
  | .errinfoRead m page => Sys2Proof.Machine.execErrinfoRead m page s
  | .rcCounterRead m page word => Sys2Proof.Machine.execRcCounterRead m page word s
  | .ctrlEnWrite m page en => Sys2Proof.Machine.execCtrlEnWrite m page en s
  | .softReset m page => Sys2Proof.Machine.execSoftReset m page s
  | .lockKeyWrite m page value => Sys2Proof.Machine.execLockKeyWrite m page value s
  | .evforceWrite m page value => Sys2Proof.Machine.execEvforceWrite m page value s
  | .startUpComplete page => Sys2Proof.Machine.execStartUpComplete page s
  | .drainingComplete page => Sys2Proof.Machine.execDrainingComplete page s
  | .drainingTimeout page => Sys2Proof.Machine.execDrainingTimeout page s
  | .unitFault page => Sys2Proof.Machine.execUnitFault page s
  | .evcClaim cp0 cp1 => Sys2Proof.Machine.execEvcClaim cp0 cp1 s
  | .evcComplete pair src => Sys2Proof.Machine.execEvcComplete pair src s
  | .fabricAccess m priv kind addr size beat => Sys2Proof.Machine.execFabricAccess m priv kind addr size beat s
  | .feedGood => Sys2Proof.Machine.execFeedGood s
  | .aonSupplyLost => Sys2Proof.Machine.execAonSupplyLost s
  | .resetAssert causes => Sys2Proof.Machine.execResetAssert causes s
  | .resetRelease => Sys2Proof.Machine.execResetRelease s
  | .startStepComplete ok scap archive => Sys2Proof.Machine.execStartStepComplete ok scap archive s
  | .endOfStart => Sys2Proof.Machine.execEndOfStart s
  | .recoveryService => Sys2Proof.Machine.execRecoveryService s
  | .startTimeout => Sys2Proof.Machine.execStartTimeout s
  | .modecmdToLead m cause key => Sys2Proof.Machine.execModecmdToLead m cause key s
  | .modecmdToTrack m cause key => Sys2Proof.Machine.execModecmdToTrack m cause key s
  | .modecmdToHold m cause key => Sys2Proof.Machine.execModecmdToHold m cause key s
  | .modecmdToService m cause key => Sys2Proof.Machine.execModecmdToService m cause key s
  | .modecmdToStartOrDormant m start cause key => Sys2Proof.Machine.execModecmdToStartOrDormant m start cause key s
  | .rstcmd m go key => Sys2Proof.Machine.execRstcmd m go key s
  | .keySwitchChange service => Sys2Proof.Machine.execKeySwitchChange service s
  | .powerFailWarning => Sys2Proof.Machine.execPowerFailWarning s
  | .powerFailClear => Sys2Proof.Machine.execPowerFailClear s
  | .powerFailHold => Sys2Proof.Machine.execPowerFailHold s
  | .flushOnlyEnd => Sys2Proof.Machine.execFlushOnlyEnd s
  | .feedsReturn => Sys2Proof.Machine.execFeedsReturn s
  | .feedLow feed low => Sys2Proof.Machine.execFeedLow feed low s
  | .feedMeanUpdate p1 p2 => Sys2Proof.Machine.execFeedMeanUpdate p1 p2 s
  | .holdupStoreCharged => Sys2Proof.Machine.execHoldupStoreCharged s
  | .plyTrigger cls late => Sys2Proof.Machine.execPlyTrigger cls late s
  | .classCfgWrite m cls per value => Sys2Proof.Machine.execClassCfgWrite m cls per value s
  | .freezeComplete => Sys2Proof.Machine.execFreezeComplete s
  | .executeComplete => Sys2Proof.Machine.execExecuteComplete s
  | .commitComplete => Sys2Proof.Machine.execCommitComplete s
  | .flagFall cls => Sys2Proof.Machine.execFlagFall cls s
  | .mirrorWaitTimeout w late => Sys2Proof.Machine.execMirrorWaitTimeout w late s
  | .eventTaskTrigger k => Sys2Proof.Machine.execEventTaskTrigger k s
  | .etTrigWrite m value => Sys2Proof.Machine.execEtTrigWrite m value s
  | .eventTaskStart rows => Sys2Proof.Machine.execEventTaskStart rows s
  | .scheduleFault rows kind col => Sys2Proof.Machine.execScheduleFault rows kind col s
  | .xeLockstepError rows unit dest => Sys2Proof.Machine.execXeLockstepError rows unit dest s
  | .activate m sel => Sys2Proof.Machine.execActivate m sel s
  | .lsInject m value => Sys2Proof.Machine.execLsInject m value s
  | .smVerify m dir => Sys2Proof.Machine.execSmVerify m dir s
  | .smVerifyComplete => Sys2Proof.Machine.execSmVerifyComplete s
  | .smArm m dir => Sys2Proof.Machine.execSmArm m dir s
  | .smCancel m => Sys2Proof.Machine.execSmCancel m s
  | .switchBegin => Sys2Proof.Machine.execSwitchBegin s
  | .switchEnd => Sys2Proof.Machine.execSwitchEnd s
  | .sealLapse => Sys2Proof.Machine.execSealLapse s
  | .switchMarkerReceived => Sys2Proof.Machine.execSwitchMarkerReceived s
  | .forceTableWrite m => Sys2Proof.Machine.execForceTableWrite m s
  | .forceTableRead m => Sys2Proof.Machine.execForceTableRead m s
  | .forceApply => Sys2Proof.Machine.execForceApply s
  | .tePass di => Sys2Proof.Machine.execTePass di s
  | .teTimerExpiry k => Sys2Proof.Machine.execTeTimerExpiry k s
  | .teCompareMismatch => Sys2Proof.Machine.execTeCompareMismatch s
  | .teBurstComplete sig => Sys2Proof.Machine.execTeBurstComplete sig s
  | .teLock m key unlock => Sys2Proof.Machine.execTeLock m key unlock s
  | .teLockComplete => Sys2Proof.Machine.execTeLockComplete s
  | .teUnlock m key => Sys2Proof.Machine.execTeUnlock m key s
  | .teCfgdataAccess m write value => Sys2Proof.Machine.execTeCfgdataAccess m write value s
  | .reflexFrameReceived seg chanB start jkOk codesOk trOk payload crc => Sys2Proof.Machine.execReflexFrameReceived seg chanB start jkOk codesOk trOk payload crc s
  | .reflexInputTimeout k => Sys2Proof.Machine.execReflexInputTimeout k s
  | .reflexSend => Sys2Proof.Machine.execReflexSend s
  | .cycleStart => Sys2Proof.Machine.execCycleStart s
  | .clockCorrection => Sys2Proof.Machine.execClockCorrection s
  | .dataFrameReceived f => Sys2Proof.Machine.execDataFrameReceived f s
  | .nullFrameReceived f => Sys2Proof.Machine.execNullFrameReceived f s
  | .syncFrameReceived f => Sys2Proof.Machine.execSyncFrameReceived f s
  | .csfReceived f => Sys2Proof.Machine.execCsfReceived f s
  | .beaconReceived f => Sys2Proof.Machine.execBeaconReceived f s
  | .serviceFrameReceived f => Sys2Proof.Machine.execServiceFrameReceived f s
  | .strayFrame seg chanB start => Sys2Proof.Machine.execStrayFrame seg chanB start s
  | .outSlotSend seg chanB slot => Sys2Proof.Machine.execOutSlotSend seg chanB slot s
  | .moduleSlotSend => Sys2Proof.Machine.execModuleSlotSend s
  | .serviceDownlinkSend seg chanB => Sys2Proof.Machine.execServiceDownlinkSend seg chanB s
  | .listenTimeout => Sys2Proof.Machine.execListenTimeout s
  | .coldstartCycleEnd => Sys2Proof.Machine.execColdstartCycleEnd s
  | .backoffEnd => Sys2Proof.Machine.execBackoffEnd s
  | .guardianBlock seg chanB => Sys2Proof.Machine.execGuardianBlock seg chanB s
  | .guardianCut seg chanB => Sys2Proof.Machine.execGuardianCut seg chanB s
  | .guardianReopen seg chanB => Sys2Proof.Machine.execGuardianReopen seg chanB s
  | .stationEvaluation seg st => Sys2Proof.Machine.execStationEvaluation seg st s
  | .serviceQueue m seg st src => Sys2Proof.Machine.execServiceQueue m seg st src s
  | .downlinkResend seg st => Sys2Proof.Machine.execDownlinkResend seg st s
  | .heartbeatSend => Sys2Proof.Machine.execHeartbeatSend s
  | .heartbeatReceived link hb => Sys2Proof.Machine.execHeartbeatReceived link hb s
  | .heartbeatMissing link => Sys2Proof.Machine.execHeartbeatMissing link s
  | .heartbeatsLost100us => Sys2Proof.Machine.execHeartbeatsLost100us s
  | .partnerLost => Sys2Proof.Machine.execPartnerLost s
  | .partnerDetectionTimeout => Sys2Proof.Machine.execPartnerDetectionTimeout s
  | .plFrameBad link => Sys2Proof.Machine.execPlFrameBad link s
  | .plLinkDown x => Sys2Proof.Machine.execPlLinkDown x s
  | .plLinkUp link => Sys2Proof.Machine.execPlLinkUp link s
  | .mirrorRangeFinal entry => Sys2Proof.Machine.execMirrorRangeFinal entry s
  | .mirrorReceived link writer seq ply offset count last data => Sys2Proof.Machine.execMirrorReceived link writer seq ply offset count last data s
  | .ackReceived link writer ply crc rows => Sys2Proof.Machine.execAckReceived link writer ply crc rows s
  | .bulkReceived link offset data => Sys2Proof.Machine.execBulkReceived link offset data s
  | .fwdReceived link msg => Sys2Proof.Machine.execFwdReceived link msg s
  | .mirrorEscape addr writer m => Sys2Proof.Machine.execMirrorEscape addr writer m s
  | .mlCheck m => Sys2Proof.Machine.execMlCheck m s
  | .mldataAccess m write value => Sys2Proof.Machine.execMldataAccess m write value s
  | .syncCmdJoin m => Sys2Proof.Machine.execSyncCmdJoin m s
  | .joinPhaseComplete => Sys2Proof.Machine.execJoinPhaseComplete s
  | .joinFail cause => Sys2Proof.Machine.execJoinFail cause s
  | .pairCycleEnd => Sys2Proof.Machine.execPairCycleEnd s
  | .castleCmdReq m forced => Sys2Proof.Machine.execCastleCmdReq m forced s
  | .castleReceived link kind => Sys2Proof.Machine.execCastleReceived link kind s
  | .castlingHandover => Sys2Proof.Machine.execCastlingHandover s
  | .castlingNoGap => Sys2Proof.Machine.execCastlingNoGap s
  | .handoverReceived link abrupt plies nexts inNt tasks => Sys2Proof.Machine.execHandoverReceived link abrupt plies nexts inNt tasks s
  | .timeSnapshot m => Sys2Proof.Machine.execTimeSnapshot m s
  | .mtRead m => Sys2Proof.Machine.execMtRead m s
  | .ntRead m => Sys2Proof.Machine.execNtRead m s
  | .ntincWrite m value => Sys2Proof.Machine.execNtincWrite m value s
  | .ntSet m => Sys2Proof.Machine.execNtSet m s
  | .ntStep m force => Sys2Proof.Machine.execNtStep m force s
  | .ntStepApply => Sys2Proof.Machine.execNtStepApply s
  | .ntWrap => Sys2Proof.Machine.execNtWrap s
  | .ntLockedWrite m locked => Sys2Proof.Machine.execNtLockedWrite m locked s
  | .compareMatch k late => Sys2Proof.Machine.execCompareMatch k late s
  | .capture k rising => Sys2Proof.Machine.execCapture k rising s
  | .ppsPulseEnd k => Sys2Proof.Machine.execPpsPulseEnd k s
  | .ppsInputMissing => Sys2Proof.Machine.execPpsInputMissing s
  | .timePortFault output => Sys2Proof.Machine.execTimePortFault output s
  | .tsPop m mac rx => Sys2Proof.Machine.execTsPop m mac rx s
  | .bkChangeover nah => Sys2Proof.Machine.execBkChangeover nah s
  | .backupStateLost => Sys2Proof.Machine.execBackupStateLost s
  | .bkWriteTaken => Sys2Proof.Machine.execBkWriteTaken s
  | .rtcSecond => Sys2Proof.Machine.execRtcSecond s
  | .rtcSnapshot m => Sys2Proof.Machine.execRtcSnapshot m s
  | .rtcSecWrite m value => Sys2Proof.Machine.execRtcSecWrite m value s
  | .rtcCommit => Sys2Proof.Machine.execRtcCommit s
  | .rtcTrim => Sys2Proof.Machine.execRtcTrim s
  | .eviEdge k rising => Sys2Proof.Machine.execEviEdge k rising s
  | .opsecTick => Sys2Proof.Machine.execOpsecTick s
  | .bkValidate m => Sys2Proof.Machine.execBkValidate m s
  | .coulombTake m => Sys2Proof.Machine.execCoulombTake m s
  | .cellLoadTest m => Sys2Proof.Machine.execCellLoadTest m s
  | .loadTestComplete mv nah => Sys2Proof.Machine.execLoadTestComplete mv nah s
  | .cartridgeInsert c => Sys2Proof.Machine.execCartridgeInsert c s
  | .cartridgeIdentify scap => Sys2Proof.Machine.execCartridgeIdentify scap s
  | .journalEntryWritten => Sys2Proof.Machine.execJournalEntryWritten s
  | .ckptCommand m => Sys2Proof.Machine.execCkptCommand m s
  | .checkpointComplete => Sys2Proof.Machine.execCheckpointComplete s
  | .crtFlushComplete => Sys2Proof.Machine.execCrtFlushComplete s
  | .cartridgeRelease m => Sys2Proof.Machine.execCartridgeRelease m s
  | .cartridgeRemoved => Sys2Proof.Machine.execCartridgeRemoved s
  | .cartridgeContactBreak => Sys2Proof.Machine.execCartridgeContactBreak s
  | .cartridgeFormat m key => Sys2Proof.Machine.execCartridgeFormat m key s
  | .cartridgeAdopt m key => Sys2Proof.Machine.execCartridgeAdopt m key s
  | .nandRead m => Sys2Proof.Machine.execNandRead m s
  | .nandProgram m => Sys2Proof.Machine.execNandProgram m s
  | .nandErase m => Sys2Proof.Machine.execNandErase m s
  | .nandOpComplete fail uncorr maxflip corr => Sys2Proof.Machine.execNandOpComplete fail uncorr maxflip corr s
  | .erWriteRequest m n => Sys2Proof.Machine.execErWriteRequest m n s
  | .seqnextWrite m value => Sys2Proof.Machine.execSeqnextWrite m value s
  | .erSectorProgram ok => Sys2Proof.Machine.execErSectorProgram ok s
  | .erFlush => Sys2Proof.Machine.execErFlush s
  | .erFlushComplete => Sys2Proof.Machine.execErFlushComplete s
  | .erCursorOldest m => Sys2Proof.Machine.execErCursorOldest m s
  | .erCursorNewest m => Sys2Proof.Machine.execErCursorNewest m s
  | .erCursorSeek m => Sys2Proof.Machine.execErCursorSeek m s
  | .erNext m => Sys2Proof.Machine.execErNext m s
  | .erCursorMoveComplete m => Sys2Proof.Machine.execErCursorMoveComplete m s
  | .clrtokenRead m => Sys2Proof.Machine.execClrtokenRead m s
  | .clearTokenExpiry => Sys2Proof.Machine.execClearTokenExpiry s
  | .erClr m priv value => Sys2Proof.Machine.execErClr m priv value s
  | .erClearComplete => Sys2Proof.Machine.execErClearComplete s
  | .lioGroupSample g levels => Sys2Proof.Machine.execLioGroupSample g levels s
  | .readbackMismatch k => Sys2Proof.Machine.execReadbackMismatch k s
  | .openLoad k off => Sys2Proof.Machine.execOpenLoad k off s
  | .currentLimit k => Sys2Proof.Machine.execCurrentLimit k s
  | .thermalShutdown k => Sys2Proof.Machine.execThermalShutdown k s
  | .thermalCool k => Sys2Proof.Machine.execThermalCool k s
  | .dqclr m value => Sys2Proof.Machine.execDqclr m value s
  | .fieldSupplyChange group missing low mv => Sys2Proof.Machine.execFieldSupplyChange group missing low mv s
  | .seatedOpen contact => Sys2Proof.Machine.execSeatedOpen contact s
  | .seatedMade contact => Sys2Proof.Machine.execSeatedMade contact s
  | .rbBusIdle u => Sys2Proof.Machine.execRbBusIdle u s
  | .rbObjWrite m u => Sys2Proof.Machine.execRbObjWrite m u s
  | .rbObjRead m u => Sys2Proof.Machine.execRbObjRead m u s
  | .rbObjLoad m u => Sys2Proof.Machine.execRbObjLoad m u s
  | .rbTxRequest m u k bits => Sys2Proof.Machine.execRbTxRequest m u k bits s
  | .rbTxCancel m u k bits => Sys2Proof.Machine.execRbTxCancel m u k bits s
  | .rbTxStart u => Sys2Proof.Machine.execRbTxStart u s
  | .rbTxSuccess u => Sys2Proof.Machine.execRbTxSuccess u s
  | .rbTxError u kind inData counts lost => Sys2Proof.Machine.execRbTxError u kind inData counts lost s
  | .rbFrameReceived u f ago => Sys2Proof.Machine.execRbFrameReceived u f ago s
  | .rbRxSelect m u obj pos => Sys2Proof.Machine.execRbRxSelect m u obj pos s
  | .rbRxAck m u obj n => Sys2Proof.Machine.execRbRxAck m u obj n s
  | .rbBusOff u => Sys2Proof.Machine.execRbBusOff u s
  | .rbBusoffRecovery u => Sys2Proof.Machine.execRbBusoffRecovery u s
  | .gateCmdWrite m => Sys2Proof.Machine.execGateCmdWrite m s
  | .gateCmdRead m => Sys2Proof.Machine.execGateCmdRead m s
  | .dbgNewchal m => Sys2Proof.Machine.execDbgNewchal m s
  | .dbgUnlock m => Sys2Proof.Machine.execDbgUnlock m s
  | .dbgRelock m => Sys2Proof.Machine.execDbgRelock m s
  | .dbgReset m => Sys2Proof.Machine.execDbgReset m s
  | .dbgHalt m cores => Sys2Proof.Machine.execDbgHalt m cores s
  | .dbgResume m cores => Sys2Proof.Machine.execDbgResume m cores s
  | .ncpHello q cert chosen => Sys2Proof.Machine.execNcpHello q cert chosen s
  | .ncpFinish q => Sys2Proof.Machine.execNcpFinish q s
  | .ncpKeepalive q => Sys2Proof.Machine.execNcpKeepalive q s
  | .ncpBye q => Sys2Proof.Machine.execNcpBye q s
  | .ncpIdent q => Sys2Proof.Machine.execNcpIdent q s
  | .ncpCartid q => Sys2Proof.Machine.execNcpCartid q s
  | .ncpReadvar q => Sys2Proof.Machine.execNcpReadvar q s
  | .ncpWritevar q => Sys2Proof.Machine.execNcpWritevar q s
  | .ncpStop q => Sys2Proof.Machine.execNcpStop q s
  | .ncpRestart q => Sys2Proof.Machine.execNcpRestart q s
  | .ncpJoin q => Sys2Proof.Machine.execNcpJoin q s
  | .ncpCastle q => Sys2Proof.Machine.execNcpCastle q s
  | .ncpEnterService q => Sys2Proof.Machine.execNcpEnterService q s
  | .ncpLeaveService q => Sys2Proof.Machine.execNcpLeaveService q s
  | .ncpReset q => Sys2Proof.Machine.execNcpReset q s
  | .ncpPkgload q => Sys2Proof.Machine.execNcpPkgload q s
  | .ncpVerify q => Sys2Proof.Machine.execNcpVerify q s
  | .ncpSeal q => Sys2Proof.Machine.execNcpSeal q s
  | .ncpUnseal q => Sys2Proof.Machine.execNcpUnseal q s
  | .ncpForce q => Sys2Proof.Machine.execNcpForce q s
  | .ncpForcelist q => Sys2Proof.Machine.execNcpForcelist q s
  | .ncpImgload q room => Sys2Proof.Machine.execNcpImgload q room s
  | .ncpImgstat q => Sys2Proof.Machine.execNcpImgstat q s
  | .ncpErread q => Sys2Proof.Machine.execNcpErread q s
  | .ncpErclear q => Sys2Proof.Machine.execNcpErclear q s
  | .ncpAdopt q => Sys2Proof.Machine.execNcpAdopt q s
  | .ncpCartformat q => Sys2Proof.Machine.execNcpCartformat q s
  | .ncpAcyc q => Sys2Proof.Machine.execNcpAcyc q s
  | .ncpPubkey q => Sys2Proof.Machine.execNcpPubkey q s
  | .acycTimeout seg st => Sys2Proof.Machine.execAcycTimeout seg st s
  | .publish id => Sys2Proof.Machine.execPublish id s
  | .publicationKeyRotate => Sys2Proof.Machine.execPublicationKeyRotate s
  | .helloTimeout session => Sys2Proof.Machine.execHelloTimeout session s
  | .sessionTimeout session => Sys2Proof.Machine.execSessionTimeout session s
  | .transferTimeout image object => Sys2Proof.Machine.execTransferTimeout image object s
  | .emacFrameReceived mac f => Sys2Proof.Machine.execEmacFrameReceived mac f s
  | .emacTxkick m mac => Sys2Proof.Machine.execEmacTxkick m mac s
  | .emacFrameSent mac sfd => Sys2Proof.Machine.execEmacFrameSent mac sfd s
  | .emacLinkChange mac up speed fdx => Sys2Proof.Machine.execEmacLinkChange mac up speed fdx s
  | .updBlockSubmit m room => Sys2Proof.Machine.execUpdBlockSubmit m room s
  | .updVerifyComplete => Sys2Proof.Machine.execUpdVerifyComplete s
  | .updCancel m => Sys2Proof.Machine.execUpdCancel m s
  | .updUnpend m type => Sys2Proof.Machine.execUpdUnpend m type s
  | .coreLockstepError pair info => Sys2Proof.Machine.execCoreLockstepError pair info s
  | .uncorrectableEcc site addr => Sys2Proof.Machine.execUncorrectableEcc site addr s
  | .clockMonitorFault clock => Sys2Proof.Machine.execClockMonitorFault clock s
  | .voltageMonitorFault rail deep => Sys2Proof.Machine.execVoltageMonitorFault rail deep s
  | .temperatureFault => Sys2Proof.Machine.execTemperatureFault s
  | .safeStateReadbackFault => Sys2Proof.Machine.execSafeStateReadbackFault s
  | .safChannelMismatch => Sys2Proof.Machine.execSafChannelMismatch s
  | .diagPassStart => Sys2Proof.Machine.execDiagPassStart s
  | .diagPassComplete durUs checkersOk => Sys2Proof.Machine.execDiagPassComplete durUs checkersOk s
  | .eccCountSecond count => Sys2Proof.Machine.execEccCountSecond count s
  | .watchdogService n value => Sys2Proof.Machine.execWatchdogService n value s
  | .watchdogPreExpiry n => Sys2Proof.Machine.execWatchdogPreExpiry n s
  | .watchdogExpiry n => Sys2Proof.Machine.execWatchdogExpiry n s
  | .watchdogKeyTimeout n => Sys2Proof.Machine.execWatchdogKeyTimeout n s
  | .safInject m => Sys2Proof.Machine.execSafInject m s
  | .activationComplete => Sys2Proof.Machine.execActivationComplete s
  | .rbReceiveError u kind inData heavy => Sys2Proof.Machine.execRbReceiveError u kind inData heavy s
  | .ppsInputEdge => Sys2Proof.Machine.execPpsInputEdge s

end Sys2Proof.Machine
end

