-- ==== Sys2Proof/Machine/Leds.lean ====
section
/-! DEFINITION. The front-panel LEDs (22 R458, Table 22.9): hardware drives them from the registers that each names. -/

namespace Sys2Proof.Machine

inductive Colour where
  | off | green | yellow | red
  deriving DecidableEq, Repr

/-- What an LED shows; `flash`: at 1 Hz. -/
structure Led where
  colour : Colour
  flash : Bool
  deriving DecidableEq, Repr

/-- RUN, from SYS.MODE. -/
def State.ledRun (s : State) : Led :=
  if s.mode = 0 then ⟨.off, false⟩
  else if s.isLead then ⟨.green, false⟩
  else if s.isTrack && s.flag R.SYS_MODE_SYNC then ⟨.green, true⟩
  else ⟨.yellow, false⟩

/-- PAIR, from PAIR.STAT; a mismatch goes before the other rows, and without a partner the LED is off (log entry 59). -/
def State.ledPair (s : State) : Led :=
  if s.mode = 0 then ⟨.off, false⟩
  else if s.rd R.PAIR_STAT_MISMATCH ≠ 0 then ⟨.red, false⟩
  else if !s.flag R.PAIR_STAT_PARTNER then ⟨.off, false⟩
  else if s.flag R.PAIR_STAT_PSYNC || s.flag R.PAIR_STAT_SYNC then ⟨.green, false⟩
  else ⟨.yellow, false⟩

/-- CART, from CRT.STAT; end of life goes before ACTIVE, and a state without a row is off (log entry 59). -/
def State.ledCart (s : State) : Led :=
  if s.mode = 0 then ⟨.off, false⟩
  else match s.rd R.CRT_STAT_STATE with
    | 0 => ⟨.off, false⟩
    | 3 => if s.flag R.CRT_STAT_EOL then ⟨.yellow, false⟩ else ⟨.green, false⟩
    | 5 => ⟨.yellow, false⟩
    | 2 => ⟨.yellow, false⟩
    | 4 => ⟨.red, false⟩
    | _ => ⟨.off, false⟩

/-- SAF, from SAF.STAT: the driven safe state takes precedence over the flashing (R458). -/
def State.ledSaf (s : State) : Led :=
  if s.flag R.SAF_STAT_SAFE then ⟨.red, false⟩ else if s.flag R.SAF_STAT_DEGRADED then ⟨.red, true⟩ else ⟨.off, false⟩

end Sys2Proof.Machine
end

