-- ==== Sys2Proof/Safety.lean ====
section
/-! DEFINITION. What claims call safe: the conditions that every state of a run keeps, and the safe state of 21 R428 as its outputs show
it. -/

namespace Sys2Proof.Machine

/-- The memory is in its canonical form: addresses rising, no byte listed that reads as the unlisted byte does. -/
abbrev State.MemOk (s : State) : Prop := Memory.wf s.mem

/-- The registers are in their canonical form: keys rising. -/
abbrev State.RegsOk (s : State) : Prop := s.regs.Pairwise fun a b => a.1 < b.1

/-- The mode is one of the six of 03 Table 3.1. -/
abbrev State.ModeOk (s : State) : Prop := s.mode ≤ 5

/-- No local output is driven, no REFLEX and no OUT frame can be sent, and no lease or claim is held (21 R428, R430). -/
def State.Silent (s : State) : Prop := s.dqDrive = 0

/-- The invariant of every step: both canonical forms. -/
abbrev State.Inv (s : State) : Prop := s.MemOk ∧ s.RegsOk

/-- Every register field reads in `t` as in `s`, but for those whose keys are listed. -/
def State.RegsBut (s t : State) (keys : List Nat) : Prop := ∀ (r : Row) (k u m : Nat), r.key k u m ∉ keys → t.rd r k u m = s.rd r k u m

/-- Every register field of a page outside the list reads in `t` as in `s`. -/
def State.PagesBut (s t : State) (pages : List Nat) : Prop :=
  ∀ (r : Row) (k u m : Nat), (r.page + u) % 256 ∉ pages → t.rd r k u m = s.rd r k u m

/-- In `t` a reset has come over the registers of `s`: but for the keys listed, a field that the reset keeps reads as in `s`, and any
other reads its reset value (03 R57). -/
def State.ResetRegs (s t : State) (powerOn : Bool) (keys : List Nat) : Prop :=
  ∀ (r : Row) (k u m : Nat), r.key k u m ∉ keys → t.rd r k u m = if keepsReset powerOn (r.key k u m) then s.rd r k u m else r.reset k u

/-- In `t` the backup state of `s` is lost: but for the keys listed, a "backup loss" field reads its reset value, and any other reads as
in `s` (13 R286). -/
def State.LostRegs (s t : State) (keys : List Nat) : Prop :=
  ∀ (r : Row) (k u m : Nat), r.key k u m ∉ keys → t.rd r k u m = if keyCls (r.key k u m) = 2 then r.reset k u else s.rd r k u m

/-- What the recorder shows of its queue and units (15 Table 15.7). -/
def erKeys : List Nat := [R.ER_BUF_LEVEL, R.ER_STAT_FULL, R.ER_STAT_BUFMODE, R.ER_STAT_HELD, R.ER_STAT_OP].map (·.key 0 0 0)

/-- The bytes of a journal entry of `n` lines, and the bytes that its append skips at the end of the journal (14 Table 14.5, R313). -/
def entryLen (n : Nat) : Nat := 128 + (4 * n + 63) / 64 * 64 + 64 * n
def State.jSkip (s : State) (len : Nat) : Nat := if s.mramSize < s.crt.pos + len then s.mramSize - s.crt.pos else 0

/-- The words of a record that a reader finds in a sector. -/
def LogItem.words : LogItem → Option (List Nat)
  | .record r _ => some r
  | .torn => none

/-- The valid records of the log in SEQ order, each with whether it is still in the queue or buffer, and the one that a cursor move of
a master ends on: 1 the oldest, 2 the newest, 3 the one sought or the next, 4 the next after the cursor (15 R339). -/
def State.logRecords (s : State) : List (List Nat × Bool) :=
  s.logItems.filterMap fun i => match i with | .record r b => some (r, b) | .torn => none
def State.cursorTarget (s : State) (m op : Nat) : Option (List Nat × Bool) :=
  if op = 1 ∨ (op = 4 ∧ smGet 0 s.er.pos m = 0) then s.logRecords.head?
  else if op = 2 then s.logRecords.getLast?
  else if op = 3 then s.logRecords.find? fun e => decide (s.seqAge (recSeq e.1) ≤ s.seqAge (s.rd R.ER_CURSOR 0 0 m))
  else s.logRecords.find? fun e => decide (s.seqAge (recSeq e.1) < s.seqAge (smGet 0 s.er.pos m - 1))

/-- `t` is `s` but for register fields: memory, wires, free values, and what the units hold beside their registers are as before. -/
abbrev State.RegsAlone (s t : State) : Prop := t = { s with regs := t.regs }

/-- `t` is `s` but for the register fields whose keys are listed. -/
abbrev State.OnlyRegs (s t : State) (keys : List Nat) : Prop := s.RegsBut t keys ∧ s.RegsAlone t

/-- The fields of ERRINFO, and of EVRAW and EVSTAT, of the unit of a page (02 Table 2.3). -/
def errKeys (page : Nat) : List Nat :=
  [R.H_ERR_CODE.key 0 (firstPage page) 0, R.H_ERR_OFFSET.key 0 (firstPage page) 0, R.H_ERR_MORE.key 0 (firstPage page) 0]
def evKeys (page : Nat) : List Nat := [R.H_EVRAW.key 0 page 0, R.H_EVSTAT.key 0 page 0]

/-- What the judgement of the cartridge's life writes (14 R307). -/
def lifeKeys : List Nat := [R.CRT_LIFE_PCT, R.CRT_LIFE_WHICH, R.CRT_STAT_EOL].map (·.key 0 0 0) ++ evKeys 0x50

/-- Between `s` and `t` error `code` of the word at `off` was recorded on the page: the first one shows its code and offset, a later one
sets MORE (02 Table 2.3). -/
def State.Recorded (s t : State) (page code off : Nat) : Prop :=
  if s.rd R.H_ERR_CODE 0 (firstPage page) = 0 then
    t.rd R.H_ERR_CODE 0 (firstPage page) = code ∧ t.rd R.H_ERR_OFFSET 0 (firstPage page) = off
  else
    t.rd R.H_ERR_CODE 0 (firstPage page) = s.rd R.H_ERR_CODE 0 (firstPage page) ∧
      t.rd R.H_ERR_OFFSET 0 (firstPage page) = s.rd R.H_ERR_OFFSET 0 (firstPage page) ∧ t.rd R.H_ERR_MORE 0 (firstPage page) = 1

/-- Between `s` and `t` an access was refused with error `code` of the word at `off`, and did nothing else. -/
def State.Refused (s t : State) (page code off : Nat) : Prop := s.Recorded t page code off ∧ s.OnlyRegs t (errKeys page)

/-- Between `s` and `t` the event condition `bit` of a page rose: where it was not at 1 already its EVSTAT bit is set (02 R30). -/
def State.Rose (s t : State) (page bit : Nat) : Prop :=
  nbit (s.rd R.H_EVRAW 0 page) bit = false → nbit (t.rd R.H_EVSTAT 0 page) bit = true

/-- The fields of a force entry fit the registers that show them (07 Table 7.9). -/
abbrev Force.Fits (f : Force) : Prop := f.symid < 2 ^ 32 ∧ f.offset < 2 ^ 25 ∧ f.type < 2 ^ 16 ∧ f.value < 2 ^ 128 ∧ f.mask < 2 ^ 128

/-- Every byte of memory whose address has the property `p` reads in `t` as in `s`. -/
def State.MemWhere (s t : State) (p : Nat → Prop) : Prop := ∀ a, p a → t.rb a = s.rb a

/-- Between `s` and `t` a counter that stays at its highest value counted one event. -/
abbrev State.Counted (s t : State) (r : Row) (k u : Nat := 0) : Prop := t.rd r k u = min (s.rd r k u + 1) (2 ^ r.width - 1)

/-- No result is in flight but those of level `l`. -/
abbrev State.FlightOnly (s : State) (l : Nat) : Prop := ∀ v ∈ allLevels, v = l ∨ (s.seq v).flight = []

/-- Every ply and event task but work `w` is idle, nothing of another level is in flight, no event task is pending, and no mirror escape
awaits its reaction: the lanes are `w`'s alone (04 R65). -/
abbrev State.Alone (s : State) (w : Nat) : Prop :=
  (∀ v ∈ workOrder, v = w ∨ (s.ply v).phase = 0) ∧ s.FlightOnly (levelOf w) ∧ s.rd R.XE_ET_PEND = 0 ∧ s.pr.esc = false

/-- No SET and no step waits for the next tick: time that passes advances the clocks and does nothing else (12 R265, R269, R270). -/
abbrev State.ClocksFree (s : State) : Prop := s.tim.set = none ∧ s.tim.steps = []

/-- What the ticks of the time base write among the registers. -/
def tickKeys : List Nat :=
  [R.H_EVRAW.key 0 0x40 0, R.H_EVSTAT.key 0 0x40 0, R.TIM_NTSTAT_STEPPEND.key 0 0 0, R.TIM_NTSTEP_CMD_GO.key 0 0 0, R.TIM_NTSTAT_GEN.key 0 0 0]

/-- MT in `t` is at or above `n`, as far as MT holds it. -/
def State.NotBefore (t : State) (n : Nat) : Prop := n + 4 ≤ 2 ^ 64 → n ≤ t.mt

/-- The window of partition `p` in column 0's bank, where it has one, and whether a write of `n` bytes at offset `o` of it lies in the
mirror ranges of work `w` (11 R240). -/
abbrev State.winCovered (s : State) (w o n : Nat) : Prop :=
  s.biBase s.half (mainPart w) 0 = listNone ∨ s.uncovered (s.biBase s.half (mainPart w) 0 + o) n (writerOf w) = []

/-- Every byte of memory reads in `t` as in `s`. -/
def State.SameMem (s t : State) : Prop := ∀ a, t.rb a = s.rb a

/-- Every byte of memory reads in `t` as in `s`, but for the `n` from address `a` up. -/
def State.MemBut (s t : State) (a n : Nat) : Prop := ∀ c, (c < a ∨ a + n ≤ c) → t.rb c = s.rb c

/-- A page whose unit is present and whose LOCK sequence is not under way: a register access of it has its own effect alone
(02 R26, R33). -/
abbrev State.Open (s : State) (page : Nat) : Prop := s.present page = true ∧ s.flag R.H_LOCK_ARMED 0 (firstPage page) = false

/-- The register page that a command writes, for the commands that are writes of a register word other than LOCK. -/
def writesPage : Instr → Option Nat
  | .ctrlEnWrite _ page _ => some page.toNat
  | .softReset _ page => some page.toNat
  | .evforceWrite _ page _ => some page.toNat
  | .evcComplete _ _ => some 0x03
  | .modecmdToLead _ _ _ => some 0x00
  | .modecmdToTrack _ _ _ => some 0x00
  | .modecmdToHold _ _ _ => some 0x00
  | .modecmdToService _ _ _ => some 0x00
  | .modecmdToStartOrDormant _ _ _ _ => some 0x00
  | .rstcmd _ _ _ => some 0x00
  | .classCfgWrite _ _ _ _ => some 0x11
  | .etTrigWrite _ _ => some 0x11
  | .activate _ _ => some 0x10
  | .lsInject _ _ => some 0x12
  | .smVerify _ _ => some 0x10
  | .smArm _ _ => some 0x10
  | .smCancel _ => some 0x10
  | .forceTableWrite _ => some 0x12
  | .forceTableRead _ => some 0x12
  | .teLock _ _ _ => some 0x18
  | .teUnlock _ _ => some 0x18
  | .teCfgdataAccess _ write _ => if write then some 0x18 else none
  | .serviceQueue _ seg _ _ => some (segPage seg)
  | .mlCheck _ => some 0x3A
  | .mldataAccess _ write _ => if write then some 0x3A else none
  | .syncCmdJoin _ => some 0x3A
  | .castleCmdReq _ _ => some 0x3A
  | .timeSnapshot _ => some 0x40
  | .ntincWrite _ _ => some 0x40
  | .ntSet _ => some 0x40
  | .ntStep _ _ => some 0x40
  | .ntLockedWrite _ _ => some 0x40
  | .tsPop _ mac _ => some (0x41 + mac)
  | .rtcSecWrite _ _ => some 0x48
  | .bkValidate _ => some 0x48
  | .coulombTake _ => some 0x48
  | .cellLoadTest _ => some 0x48
  | .ckptCommand _ => some 0x50
  | .cartridgeRelease _ => some 0x50
  | .cartridgeFormat _ _ => some 0x50
  | .cartridgeAdopt _ _ => some 0x50
  | .nandRead _ => some 0x50
  | .nandProgram _ => some 0x50
  | .nandErase _ => some 0x50
  | .erWriteRequest _ _ => some 0x51
  | .seqnextWrite _ _ => some 0x51
  | .erCursorOldest _ => some 0x51
  | .erCursorNewest _ => some 0x51
  | .erCursorSeek _ => some 0x51
  | .erNext _ => some 0x51
  | .erClr _ _ _ => some 0x51
  | .dqclr _ _ => some 0x58
  | .rbObjWrite _ u => some (rbPage u)
  | .rbObjRead _ u => some (rbPage u)
  | .rbObjLoad _ u => some (rbPage u)
  | .rbTxRequest _ u _ _ => some (rbPage u)
  | .rbTxCancel _ u _ _ => some (rbPage u)
  | .rbRxSelect _ u _ _ => some (rbPage u)
  | .rbRxAck _ u _ _ => some (rbPage u)
  | .gateCmdWrite _ => some 0x06
  | .gateCmdRead _ => some 0x06
  | .dbgNewchal _ => some 0x70
  | .dbgUnlock _ => some 0x70
  | .dbgRelock _ => some 0x70
  | .dbgReset _ => some 0x70
  | .dbgHalt _ _ => some 0x70
  | .dbgResume _ _ => some 0x70
  | .emacTxkick _ mac => some (macPage mac)
  | .updBlockSubmit _ _ => some 0x68
  | .updCancel _ => some 0x68
  | .updUnpend _ _ => some 0x68
  | .watchdogService _ _ => some 0x05
  | .safInject _ => some 0x05
  | .registerWrite _ page word _ => if page.toNat = firstPage page.toNat ∧ word = 10 then none else some page.toNat
  | _ => none

/-- The register page that a command reads, for the commands that are reads of register words. -/
def readsPage : Instr → Option Nat
  | .teCfgdataAccess _ write _ => if write then none else some 0x18
  | .mldataAccess _ write _ => if write then none else some 0x3A
  | .mtRead _ => some 0x40
  | .ntRead _ => some 0x40
  | .rtcSnapshot _ => some 0x48
  | .clrtokenRead _ => some 0x51
  | .errinfoRead _ page => some (firstPage page.toNat)
  | .rcCounterRead _ page _ => some page.toNat
  | .evcClaim _ _ => some 0x03
  | _ => none

/-- The lowest byte of an access that fails its check: undecoded, or with a cause of 18 Table 18.5 (18 R387). -/
def State.failsAt (s : State) (m : Nat) (priv : Bool) (k : AccessKind) (a n : Nat) : Option Nat :=
  (((upTo n).map (a + ·)).filter fun b => !s.decodes b || s.byteCause m priv k a n b != 0).head?

/-- The fields of the fault record of gate `g`, of the decode record, and of the record of refused debug accesses (18 Tables 18.9, 18.10). -/
def fltKeys (g : Nat) : List Nat :=
  [R.GATE_FLT_ADDRLO, R.GATE_FLT_ADDRHI, R.GATE_FLT_INFO_MASTER, R.GATE_FLT_INFO_PRIV, R.GATE_FLT_INFO_TYPE, R.GATE_FLT_INFO_CAUSE,
    R.GATE_FLT_INFO_STRADDLE, R.GATE_FLT_INFO_ENTRY, R.GATE_FLT_INFO_NOENT, R.GATE_FLT_INFO_MORE, R.GATE_FLT_INFO_VALID, R.GATE_FLT_COUNT].map (·.key g 0 0)
def decKeys : List Nat :=
  [R.GATE_DEC_ADDRLO, R.GATE_DEC_ADDRHI, R.GATE_DEC_INFO_MASTER, R.GATE_DEC_INFO_TYPE, R.GATE_DEC_INFO_MORE, R.GATE_DEC_INFO_VALID,
    R.GATE_DEC_COUNT].map (·.key 0 0 0)
def dbgKeys : List Nat := [R.DBG_ERR_STICKY, R.DBG_ERRADDRLO, R.DBG_ERRADDRHI, R.DBG_ERRCOUNT].map (·.key 0 0 0)

/-- The staging fields of a master for region entries (18 Table 18.9). -/
def stageRows : List Row :=
  [R.GATE_BASELO, R.GATE_BASEHI, R.GATE_LIMLO, R.GATE_LIMHI, R.GATE_MASKLO, R.GATE_MASKHI, R.GATE_ATTR_P, R.GATE_ATTR_U, R.GATE_ATTR_MEMTYPE,
    R.GATE_ATTR_SHARE, R.GATE_ATTR_DBG, R.GATE_ATTR_LOCK, R.GATE_ATTR_VALID]

/-- No ply or event task runs or waits, nothing is in flight, and no mirror escape awaits its reaction. -/
abbrev State.NoWork (s : State) : Prop :=
  (∀ v ∈ workOrder, (s.ply v).phase = 0) ∧ (∀ v ∈ allLevels, (s.seq v).flight = []) ∧ s.rd R.XE_ET_PEND = 0 ∧ s.pr.esc = false

/-! Frames on the Ramette bus (09, 10). -/

/-- The rows of a received long-form frame. -/
def frameRows (f : Frame) : List Instr :=
  [.dataFrameReceived f, .nullFrameReceived f, .syncFrameReceived f, .csfReceived f, .beaconReceived f, .serviceFrameReceived f]

/-- A port takes frames in: its segment takes part, and its channel is enabled (09 R207, 10 Table 10.9). -/
abbrev State.PortOpen (s : State) (g : Nat) (b : Bool) : Prop := s.hears g = true ∧ nbit (s.rd R.RMT_CFG_CHEN 0 g) (b2n b) = true

/-- The frame starts in slot `n`, entry `e`, and its channel is not muted there (09 R191); its deviation from where its scheduled sender's
frame is due (10 R210). -/
abbrev State.InSlot (s : State) (f : Frame) (n : Nat) (e : Slot) : Prop :=
  s.placeOf f.seg f.chanB f.start.toNat = .slot n e ∧ (s.rmt f.seg).mute f.chanB ≠ n + 1
def State.devOf (s : State) (f : Frame) (e : Slot) : Int := s.devFrom f.seg f.chanB (s.senderOf f.seg f.chanB e) e.action f.start.toNat

/-- The frame passes every check of 09 Table 9.5 in slot `n`, entry `e`. -/
abbrev State.Passes (s : State) (f : Frame) (n : Nat) (e : Slot) : Prop :=
  s.InSlot f n e ∧ inWindow (s.devOf f e) = true ∧ (s.laterChecks f n e).1 = 0

/-- The half that a frame of an in-slot fills, whether it repeats a dual frame that this cycle has brought, the number of the buffer
that takes it, and that buffer's address (09 R194). -/
def frameHalf (f : Frame) (e : Slot) : Nat := if e.dual then 0 else b2n f.chanB
def State.repeats (s : State) (f : Frame) (e : Slot) : Bool := e.dual && (s.stn f.seg e.station).filled
def State.bufNo (s : State) (f : Frame) (e : Slot) : Nat :=
  let cur := (s.rb (mboxBase f.seg e.station + 0x600 + frameHalf f e)).toNat
  if s.repeats f e then cur else (cur + 1) % 3
def State.bufAt (s : State) (f : Frame) (e : Slot) : Nat := mboxBase f.seg e.station + 0x300 * frameHalf f e + 0x100 * s.bufNo f e

/-- What the module sends in its out-slot `n`, entry `e` (09 R188, R195): DATA from the active out-buffer where it leads and the station's
OUTEN is set, else NULL. -/
def State.outBytes (s : State) (g n : Nat) (e : Slot) : List (BitVec 8) :=
  let data : Bool := s.mode == 3 && s.flag R.RMT_ST_OUTEN e.station g
  longFrame g n s.rmCycle (if data then 2 else 3) (if (s.rmt g).ownall = true ∧ e.chan = 3 then 8 else 0)
    (if data then wireLines (e.p / 16)
      (s.rbs (mboxBase g e.station + 0x800 + 0x100 * ((s.rb (mboxBase g e.station + 0x602)).toNat % 2)) e.p) else [])

/-- The type of the module's frames: CSF in COLDSTART, else BEACON in TRACK, LEAD and HOLD, and SYNC (09 R192); and the frame in slot `n` of
a segment. -/
def State.ownType (s : State) : Nat := if s.cstate = 2 then 5 else if s.mode = 2 ∨ s.mode = 3 ∨ s.mode = 4 then 7 else 4
def State.ownFrame (s : State) (g n : Nat) : List (BitVec 8) := longFrame g n s.rmCycle s.ownType 0x88 (s.moduleBytes g s.ownType)

/-- `t` is `s` but for registers, the clocks, and what the engine shifts with a step of network time. -/
abbrev State.ClocksAlone (s t : State) : Prop := t = { s with regs := t.regs, mt := t.mt, tim := t.tim, xe := t.xe }

/-- A byte of plain memory: core SRAM, or LPDDR5 (02 Table 2.1). -/
def isPlainByte (a : Nat) : Bool := gateOf a == some 1 || gateOf a == some 4

/-- A hardware master's access to a buffer in plain memory that its gates allow (18 R382). -/
abbrev State.DmaPlain (s : State) (m : Nat) (k : AccessKind) (a n : Nat) : Prop :=
  s.failsAt m true k a n = none ∧ ∀ i ∈ upTo n, isPlainByte (a + i) = true

/-- A MIRROR frame on a pair link (11 Table 11.1, TYPE 0x02). -/
def outIsMirror (o : Out) : Bool :=
  match o with
  | .pl _ b => b.getD 0 0 == 0x02
  | _ => false

/-- A HANDOVER on link l (11 R261). -/
def outIsHandover (o : Out) (l : Nat) : Bool :=
  match o with
  | .handover k _ _ _ _ _ _ => k == l
  | _ => false

/-! NCP (19). -/

/-- Every command of an open session beside FINISH: its CMD code and the role it asks for (19 Table 19.3; WRITEVAR's is R407's). -/
def ncpRows (q : NcpReq) (room : Bool) : List (Instr × Nat × Nat) :=
  [(.ncpKeepalive q, 0x03, 0), (.ncpBye q, 0x04, 0), (.ncpIdent q, 0x10, 0), (.ncpCartid q, 0x11, 0), (.ncpReadvar q, 0x20, 0),
    (.ncpWritevar q, 0x21, 0), (.ncpStop q, 0x30, 1), (.ncpRestart q, 0x31, 2), (.ncpJoin q, 0x32, 2), (.ncpCastle q, 0x33, 2),
    (.ncpEnterService q, 0x34, 3), (.ncpLeaveService q, 0x35, 3), (.ncpReset q, 0x36, 3), (.ncpPkgload q, 0x40, 2),
    (.ncpVerify q, 0x41, 2), (.ncpSeal q, 0x42, 2), (.ncpUnseal q, 0x43, 2), (.ncpForce q, 0x48, 2), (.ncpForcelist q, 0x49, 0),
    (.ncpImgload q room, 0x50, 3), (.ncpImgstat q, 0x51, 0), (.ncpErread q, 0x58, 0), (.ncpErclear q, 0x59, 3), (.ncpAdopt q, 0x60, 3),
    (.ncpCartformat q, 0x61, 3), (.ncpAcyc q, 0x68, 2), (.ncpPubkey q, 0x70, 0)]

/-- The packet passes checks 1 to 5 of 19 Table 19.2. -/
abbrev NcpWhole (q : NcpReq) : Prop :=
  q.magic = 0x4E43 ∧ q.ver = 3 ∧ q.flags = 0 ∧ q.status = 0 ∧ q.rsv = 0 ∧ q.length.toNat ≤ 1024 ∧ q.payload.length = q.length.toNat

/-- Firmware serves the packet's port, and the packet is a new request of open session `x` with the right tag: checks 1 to 8. -/
abbrev State.Admits (s : State) (q : NcpReq) (cmd : Nat) (x : Sess) : Prop :=
  s.ncpServes q.mac = true ∧ NcpWhole q ∧ s.session q.session.toNat = some x ∧ x.opened = true ∧ q.tag.toNat = ncpTag x.h2m (reqBytes q cmd) ∧
    (∀ e ∈ x.cache, e.1 ≠ q.seq.toNat) ∧ (x.h < q.seq.toNat ∨ (x.h ≤ q.seq.toNat + 63 ∧ q.seq.toNat ∉ x.seen))

/-- The response in session `x` to a request (19 R401), and one without authentication (R400). -/
def answerTo (q : NcpReq) (x : Sess) (cmd status flags offset total : Nat) (pay : List (BitVec 8)) : Out :=
  .ncp q.mac q.host.toNat cmd (1 + flags) status q.session.toNat q.seq.toNat q.object.toNat offset total pay
    (ncpTag x.m2h (ncpBytes cmd (1 + flags) status q.session.toNat q.seq.toNat q.object.toNat offset total pay))
def plainAnswer (q : NcpReq) (cmd status : Nat) : Out :=
  .ncp q.mac q.host.toNat cmd 1 status q.session.toNat q.seq.toNat q.object.toNat 0 0 [] 0

/-- The packet is refused without authentication, at most 100 times in a second of MT on a port (19 R400). -/
def State.Rejected (s t : State) (q : NcpReq) (cmd status : Nat) : Prop :=
  let sec := s.mt / 1000000000 + 1
  let r := smGet (0, 0) s.ncp.refuse q.mac
  if r.1 = sec ∧ 100 ≤ r.2 then t = s
  else t = { s with outs := plainAnswer q cmd status :: s.outs, ncp := { s.ncp with refuse := t.ncp.refuse } } ∧
    smGet (0, 0) t.ncp.refuse q.mac = (sec, if r.1 = sec then r.2 + 1 else 1)

/-- Session `x` after request `q` was taken at MT `at_` and answered with `o`; and where it was refused, which takes no SEQ. -/
def sessTook (x : Sess) (q : NcpReq) (at_ : Nat) (o : Out) : Sess :=
  { x with since := at_, h := max x.h q.seq.toNat, cache := ((q.seq.toNat, o) :: x.cache).take 8,
           seen := q.seq.toNat :: x.seen.filter fun n => decide (max x.h q.seq.toNat ≤ n + 63) }
def sessSaw (x : Sess) (q : NcpReq) (o : Out) : Sess := { x with cache := ((q.seq.toNat, o) :: x.cache).take 8 }

/-- The request is refused in its session with a status and changes nothing else (19 R400, R401). -/
def State.Declined (s t : State) (q : NcpReq) (x : Sess) (cmd status : Nat) : Prop :=
  let o := answerTo q x cmd status 0 0 0 []
  t = { s with outs := o :: s.outs, ncp := s.ncp.putSess (sessSaw x q o) }

/-- The request is taken and answered with `o`; of NCP nothing else changes. -/
def State.Served (s t : State) (q : NcpReq) (x : Sess) (o : Out) : Prop :=
  t.outs = o :: s.outs ∧ t.ncp = s.ncp.putSess (sessTook x q s.mt o)

/-- The request is taken; its response waits. -/
def State.Kept (s t : State) (q : NcpReq) (x : Sess) : Prop :=
  t.ncp.sess = (s.ncp.putSess { sessTook x q s.mt (plainAnswer q 0 0) with cache := x.cache }).sess

/-- The request is taken and answered with `o`, beside what else NCP sends and answers. -/
def State.Took (s t : State) (q : NcpReq) (x : Sess) (o : Out) : Prop :=
  o ∈ t.outs ∧ ∃ y ∈ (t.session q.session.toNat).toList, y.role = x.role ∧ y.since = s.mt ∧ y.h = max x.h q.seq.toNat ∧ q.seq.toNat ∈ y.seen ∧
    (q.seq.toNat, o) ∈ y.cache

/-- A variable's bytes as the wire carries them (19 R407): element by element, each field most significant byte first. -/
def State.wireBytes (s : State) (y : Sym) : List (BitVec 8) :=
  let e := if y.tv then 16 else max 1 y.elem
  (upTo (y.size / e)).flatMap fun i =>
    let bs := s.rbs (instBase + y.offset + e * i) e
    if y.tv then wireLine bs else bs.reverse

/-- The records from the front of a list that fit in `room` bytes. -/
def fitting : List (List Nat) → Nat → List (List Nat)
  | [], _ => []
  | r :: l, room => if 4 * r.length ≤ room then r :: fitting l (room - 4 * r.length) else []

/-- The block of a transfer is within its object (19 R408). -/
abbrev State.BlockOk (s : State) (q : NcpReq) (image : Bool) (object cap : Nat) : Prop :=
  q.offset.toNat + q.length.toNat ≤ q.total.toNat ∧ q.total.toNat ≤ cap ∧ q.offset.toNat % 1024 = 0 ∧ q.length ≠ 0 ∧
    (q.length = 1024 ∨ q.offset.toNat + q.length.toNat = q.total.toNat) ∧ ∀ x ∈ (s.xferOf image object).toList, x.total = q.total.toNat

/-- UPD answered with a result code and check; its transfer and the image book are as before. -/
abbrev State.UpdRes (t : State) (c k : Nat) : Prop := t.rd R.UPD_RES_CODE = c ∧ t.rd R.UPD_RES_CHECK = k
abbrev State.UpdKept (s t : State) : Prop := t.upd = s.upd ∧ t.rd R.UPD_STAT_TYPE = s.rd R.UPD_STAT_TYPE ∧ t.crt = s.crt

/-- UPD takes a block of an image (19 R408, 20 R419–R421): what `t` shows of it. `room`: the slot region has the blocks for the image. -/
def State.UpdTook (s t : State) (type off len total : Nat) (data : List (BitVec 8)) (room : Bool) : Prop :=
  let d := s.typeDir type
  let again := s.rd R.UPD_STAT_TYPE
  if s.flag R.UPD_STAT_BUSY = true then s.Recorded t 0x68 0xF0 0x1A4 ∧ s.UpdKept t
  else if s.crtActive = false ∧ s.sys.recovery = false then t.UpdRes 6 0 ∧ s.UpdKept t
  else if type = 0 ∨ 5 < type then t.UpdRes 2 2 ∧ s.Recorded t 0x68 0xF1 0x1A4 ∧ s.Rose t 0x68 2 ∧ s.UpdKept t
  else if again ≠ 0 ∧ again ≠ type then t.UpdRes 5 0 ∧ s.Recorded t 0x68 0xF4 0x1A4 ∧ s.UpdKept t
  else if ¬(off % 1024 = 0 ∧ off + len ≤ total ∧ (len = 1024 ∨ off + len = total) ∧ len ≠ 0 ∧ len ≤ 1024 ∧ total ≤ slotCap type ∧
      (again = 0 ∨ s.upd.total = total)) then t.UpdRes 3 0 ∧ s.UpdKept t
  else if off = 0 ∧ s.upd.head = false ∧ s.headCheck data type total ≠ 0 then
    t.UpdRes 2 (s.headCheck data type total) ∧ s.Recorded t 0x68 0xF1 0x1A4 ∧ s.Rose t 0x68 2 ∧ t.rd R.UPD_STAT_TYPE = 0 ∧ t.upd.got = [] ∧ t.crt = s.crt
  else if off = 0 ∧ s.upd.head = false ∧ (room = false ∨ (s.mode = 4 ∧ s.rd R.SYS_MODE_HOLDCAUSE = 4 ∧ nbit s.upd.tried (type - 1) = true)) then
    t.UpdRes 5 0 ∧ s.Recorded t 0x68 0xF4 0x1A4 ∧ s.UpdKept t
  else
    t.rd R.UPD_STAT_TYPE = type ∧ t.upd.total = total ∧ off ∈ t.upd.got ∧ (∀ o ∈ s.upd.got, o ∈ t.upd.got) ∧ s.Rose t 0x68 0 ∧
      t.upd.head = (s.upd.head || decide (off = 0)) ∧
      (if t.upd.head = true ∧ (total + 1023) / 1024 ≤ t.upd.got.length then t.upd.verifying = true ∧ t.flag R.UPD_STAT_BUSY = true
       else t.rd R.UPD_RES_CODE = 0 ∧ t.upd.verifying = s.upd.verifying) ∧
      (off = 0 → s.upd.head = false → (t.typeDir type).slot d.target = ⟨1, imgNum data 8 4, imgNum data 0x10 4, Config.sha256 (data.take 256)⟩ ∧
        (t.typeDir type).slot (1 - d.target) = d.slot (1 - d.target)) ∧
      (t.upd.head = true → data.length = len → bookBytes t.updBook type d.target off len = data)

/-- A ply or event task of this module wrote the tagged value of every symbol of a list. -/
abbrev State.AllWritten (s : State) (l : List Nat) : Prop :=
  ∀ id ∈ l, ∃ y ∈ (symNamed s.ncp.symbols id).toList, (s.plyTOf y.offset).isSome = true

/-- A tagged value as R14 forms it for publication at MT `now`: its age then, and past the limit UNCERTAIN and STALE. -/
def State.published (s : State) (stale now : Nat) (y : Sym) : List (BitVec 8) :=
  let v := s.rdLe (instBase + y.offset) 16
  let age := tvAge v + (now - (s.plyTOf y.offset).getD 0) / 1000
  let d := qDemote 7 (tvQ v)
  wireLine (leBytes 16 (mkTv (tvVal v) (if stale < age then mkQ (qState d) (qSub d) (qFlags d ||| qfStale) (qLimit d) else tvQ v) age))

/-- MAC `x` accepts a frame (19 R416, Table 19.9): ON, or draining with the frame begun; RXEN; its own or the broadcast address, a
multicast one with ALLMC or its hash bin, or any with PROMISC; 1,522 bytes at most. -/
abbrev State.MacAccepts (s : State) (x : Nat) (f : EthFrame) : Prop :=
  let bin := crc32 (f.bytes.take 6) / 2 ^ 26
  (s.on (0x41 + x) = true ∨ (s.running (0x41 + x) = true ∧ f.sfd.toNat ≤ s.mt)) ∧ s.flag R.EMAC_MACCFG_RXEN 0 x = true ∧ f.bytes.length + 4 ≤ 1522 ∧
    (s.flag R.EMAC_MACCFG_PROMISC 0 x = true ∨ f.dst = s.rd R.EMAC_ADDRLO 0 x + s.rd R.EMAC_ADDRHI 0 x * 2 ^ 32 ∨ f.dst = 2 ^ 48 - 1 ∨
      (nbit f.dst 40 = true ∧ (s.flag R.EMAC_MACCFG_ALLMC 0 x = true ∨
        (if bin < 32 then nbit (s.rd R.EMAC_MCHASH0 0 x) bin else nbit (s.rd R.EMAC_MCHASH1 0 x) (bin - 32)) = true)))

/-- The descriptor at the head of a MAC's receive ring, and of its transmit ring. -/
def State.rxDesc (s : State) (x : Nat) : Nat := s.rxRing x + 16 * s.rd R.EMAC_RXHEAD 0 x
def State.txDesc (s : State) (x : Nat) : Nat := s.txRing x + 16 * s.rd R.EMAC_TXHEAD 0 x
/-- The MAC may read the descriptor at `d` and write it back. -/
abbrev State.DescPlain (s : State) (x d : Nat) : Prop := s.DmaPlain (0x10 + x) .read d 16 ∧ s.DmaPlain (0x10 + x) .write d 16
/-- The MAC sends the frame of the descriptor at its transmit head next: it is ON with TXEN, and owns the descriptor. -/
abbrev State.sendsNext (s : State) (x : Nat) : Prop :=
  s.on (0x41 + x) = true ∧ s.flag R.EMAC_MACCFG_TXEN 0 x = true ∧ nbit (s.rdLe (s.txDesc x + 10) 2) 15 = true

/-! The safety fault (21). -/

/-- A safety fault is taken: the module is out of DORMANT, and no reset is asserted (03 R48). -/
abbrev State.Faultable (s : State) : Prop := s.mode ≠ 0 ∧ s.sys.resetHeld = false ∧ s.sys.cut = none

/-- SAF's record of a cause found at MT `mt` in mode `mode`: FIRST takes it while empty, and from a higher cause of the same clock; its
CAUSES bit is set and the fault counted (21 R433). `same`: FIRST was filled in this clock. -/
def State.CauseKept (s t : State) (cause unit info mt mode : Nat) (same : Bool) : Prop :=
  (if s.rd R.SAF_FIRST_CAUSE = 0 ∨ (same = true ∧ cause < s.rd R.SAF_FIRST_CAUSE) then
    t.rd R.SAF_FIRST_CAUSE = cause ∧ t.rd R.SAF_FIRST_UNIT = unit ∧ t.rd R.SAF_FIRST_MODE = mode ∧ t.rd R.SAF_FIRST_INFO = info ∧
      t.rd2 R.SAF_FIRST_MTLO R.SAF_FIRST_MTHI = mt % 2 ^ 64
   else ∀ r ∈ [R.SAF_FIRST_CAUSE, R.SAF_FIRST_UNIT, R.SAF_FIRST_MODE, R.SAF_FIRST_INFO, R.SAF_FIRST_MTLO, R.SAF_FIRST_MTHI], t.rd r = s.rd r) ∧
  (∀ i ∈ upTo 21, nbit (t.rd R.SAF_CAUSES) i = (nbit (s.rd R.SAF_CAUSES) i || decide (i + 1 = cause))) ∧ s.Counted t R.SAF_COUNT_SF

/-- The reaction to a safety fault of a kind (21 R428–R432): a reset, or the safe state and HOLD with HOLDCAUSE 4. -/
def State.Reacted (s t : State) (kind : Reaction) : Prop :=
  if kind = .watchdogReset ∨ ((kind = .safetyReset ∨ s.flag R.SAF_CFG_RSTALL = true) ∧ s.rd R.SAF_COUNT_SRST < s.rd R.SAF_CFG_MAXRST) then
    t.mode = 1 ∧ t.sys.resetHeld = true ∧ t.rd R.SYS_RSTCAUSE_LAST = (if kind = .watchdogReset then 2 else 3) ∧ s.Counted t R.SAF_COUNT_SRST
  else
    t.mode = 4 ∧ t.rd R.SYS_MODE_HOLDCAUSE = 4 ∧ t.safe = true ∧ t.flag R.SAF_STAT_FAULTED = true ∧ t.rd R.SAF_SSL_DRIVE = 7 ∧ t.rd R.SAF_SSL_READ = 7 ∧
      t.rd R.TE_DQOUT = 0 ∧ t.rd2 R.TE_RXOUT0 R.TE_RXOUT1 = 0 ∧ t.dqDrive = 0 ∧ (s.mode = 3 → t.flag R.PAIR_STAT_LEASE = false) ∧
      t.rd R.PAIR_STAT_PSYNC = s.rd R.PAIR_STAT_PSYNC ∧ (∀ w ∈ workOrder, (t.ply w).phase = 0) ∧ s.Rose t 0x05 0 ∧
      t.rd R.SAF_COUNT_SRST = s.rd R.SAF_COUNT_SRST ∧ t.sys.resetHeld = false ∧ t.ledSaf = ⟨.red, false⟩ ∧ t.ledRun = ⟨.yellow, false⟩

/-- A safety fault was taken between `s` and `t`. -/
abbrev State.Faulted (s t : State) (cause : Nat) (kind : Reaction) (unit info : Nat) : Prop :=
  s.CauseKept t cause unit info s.mt s.mode (decide (s.saf.faultAt = s.mt + 1)) ∧ s.Reacted t kind ∧ s.SameMem t

/-- A command that reports a safety fault (21 Table 21.1; 22 R456), with the cause, the reaction, the unit and the detail recorded, and the
events beside source 0. -/
inductive Finding : Instr → Nat → Reaction → Nat → Nat → List (Nat × Nat) → Prop
  | lockstep (pair : Fin 2) (info : BitVec 32) : Finding (.coreLockstepError pair info) (1 + pair) .safetyReset 0x05 info.toNat [(0x05, 2)]
  | temperature : Finding .temperatureFault 0x0E .hold 0x01 0 []
  | readback : Finding .safeStateReadbackFault 0x11 .safetyReset 0x05 0 []
  | channels : Finding .safChannelMismatch 0x12 .safetyReset 0x05 0 []
  | xeMemory (site : EccSite) (addr : BitVec 36) : site ∈ [.instance_, .move, .constant, .station] →
      Finding (.uncorrectableEcc site addr) 0x07 .hold 0x05 (addr.toNat % 2 ^ 32) [(0x05, 3)]
  | dram (addr : BitVec 36) : Finding (.uncorrectableEcc .dram addr) 0x08 .hold 0x05 (addr.toNat % 2 ^ 32) [(0x05, 3)]
  | sram (addr : BitVec 36) : Finding (.uncorrectableEcc .sram addr) 0x09 .safetyReset 0x05 (addr.toNat % 2 ^ 32) [(0x05, 3)]
  | rom (addr : BitVec 36) : Finding (.uncorrectableEcc .rom addr) 0x0A .safetyReset 0x05 (addr.toNat % 2 ^ 32) [(0x05, 3)]
  | lock (clock : Fin 7) : Finding (.clockMonitorFault (.pllLock clock)) 0x0D .hold 0x02 (2 ^ clock.val) [(0x02, 0), (0x02, 1)]
  | clock (c : ClockId) (bit : Nat) :
      (c, bit) ∈ [(.reference, 0), (.core, 1), (.lane, 2), (.trip, 3), (.fabric, 4), (.timeBase, 5), (.pairLink, 6)] →
      Finding (.clockMonitorFault c) 0x0D .hold 0x02 (2 ^ bit) [(0x02, 0)]

/-- The step answers a next state. -/
def State.Goes (s : State) : Prop := ∃ t, step s = .next t

end Sys2Proof.Machine
end

