-- ==== Sys2Proof/Certificates/Slice0/Obligations.lean ====
section
/-! DEFINITION. The statements for the provers: what the commands of each family do, and what every step keeps. -/

open Sys2Proof Sys2Proof.Machine

/-- For every state, command c and queue rest cs: where the queue is c followed by cs, the step is exec of c on the state with the queue cs.
(The queue is the form this model gives a block, log entry 1.) (95_what_each_step_holds.md) -/
def Obligations.StepRunsTheFrontCommand : Prop :=
  ∀ (s : State) (c : Instr) (cs : List Instr), s.pending = c :: cs → step s = exec c { s with pending := cs }

/-- With no command waiting the step answers the state after one tick: MT advances by 4 ns modulo 2^64; where no SET and no network-time
step waits for the tick and no compare channel matches in it, NT and its fraction advance by TIM.NTINC and nothing else changes. That the
tick is what an empty queue does is the model's choice (log entry 1). (12_time.md, Time bases; 95_what_each_step_holds.md) -/
def Obligations.EmptyQueueIsOneTick : Prop :=
  ∀ s : State, s.pending = [] → s.tim.set = none → s.tim.steps = [] → (∀ k ∈ upTo 8, s.clockTick.matchesNow k = false) →
    ∃ t, step s = .next t ∧ t.mt = (s.mt + 4) % 2 ^ 64 ∧
      t.tim.nt = (s.tim.nt * 2 ^ 28 + s.tim.frac + s.rd R.TIM_NTINC) / 2 ^ 28 % 2 ^ 64 ∧
      t.tim.frac = (s.tim.nt * 2 ^ 28 + s.tim.frac + s.rd R.TIM_NTINC) % 2 ^ 28 ∧
      s.RegsBut t (evKeys 0x40) ∧ t = { s with regs := t.regs, mt := t.mt, tim := t.tim }

/-- No command faults or is refused in any state, and none adds to or takes from the queue of waiting commands: the queue is the step's
alone. (95_what_each_step_holds.md) -/
def Obligations.EveryCommandAnswersAndLeavesTheQueue : Prop :=
  ∀ (c : Instr) (s : State), ∃ t, exec c s = .next t ∧ t.pending = s.pending

/-- From every state whose memory and register maps are in canonical form (addresses and keys strictly rising, no byte listed that reads as
an unlisted byte does), every step answers a next state whose maps are in canonical form too, and its queue is the old one without its front
command. (02_register_pages.md, Physical memory map; 95_what_each_step_holds.md) -/
def Obligations.EveryStepKeepsTheForms : Prop :=
  ∀ s : State, s.Inv → ∃ t, step s = .next t ∧ t.Inv ∧ t.pending = s.pending.tail

/-- For every command that writes a register word, on the page of an absent unit it changes nothing at all, LOCK keys included; every
command that reads register words answers zero bytes and changes nothing else; and an event source all of whose EVRAW bits belong to absent
units does not assert. (02_register_pages.md, R26) -/
def Obligations.AbsentPagesReadZeroAndIgnoreWrites : Prop :=
  (∀ (c : Instr) (p : Nat) (s : State), writesPage c = some p → s.present p = false → exec c s = .next s) ∧
  (∀ (m : BitVec 6) (page : BitVec 8) (v : BitVec 32) (s : State), s.present (firstPage page.toNat) = false →
    exec (.lockKeyWrite m page v) s = .next s) ∧
  (∀ (c : Instr) (p : Nat) (s : State), readsPage c = some p → s.present p = false →
    ∃ t, exec c s = .next t ∧ (∀ b ∈ t.bus.data, b = 0) ∧ t.bus.refused = false ∧ t = { s with bus := t.bus }) ∧
  (∀ (n : Nat) (s : State), (∀ e ∈ srcBits n, s.present e.1 = false) → s.asserts n = false)

/-- On the page of a present unit that is not locked: the first key 0x4C4F sets ARMED (and restarts a sequence under way); the second key
0x434B with ARMED set clears ARMED and locks; any other value, and the second key without the first, clears ARMED and records code 0x05 at
offset 0x028. On a locked page a write to LOCK changes nothing. Any other register access of the unit while ARMED is set clears ARMED,
records code 0x05 and then has the effect it has in the state so left. In each case nothing else changes. (R33) -/
def Obligations.LockSequence : Prop :=
  (∀ (m : BitVec 6) (page : BitVec 8) (v : BitVec 32) (s : State), s.present (firstPage page.toNat) = true →
    ∃ t, exec (.lockKeyWrite m page v) s = .next t ∧
      if s.flag R.H_LOCK_LOCKED 0 (firstPage page.toNat) then t = s
      else if v = 0x4C4F then
        t.flag R.H_LOCK_ARMED 0 (firstPage page.toNat) = true ∧ t.flag R.H_LOCK_LOCKED 0 (firstPage page.toNat) = false ∧
          s.OnlyRegs t [R.H_LOCK_ARMED.key 0 (firstPage page.toNat) 0]
      else if v = 0x434B ∧ s.flag R.H_LOCK_ARMED 0 (firstPage page.toNat) = true then
        t.flag R.H_LOCK_ARMED 0 (firstPage page.toNat) = false ∧ t.flag R.H_LOCK_LOCKED 0 (firstPage page.toNat) = true ∧
          s.OnlyRegs t [R.H_LOCK_ARMED.key 0 (firstPage page.toNat) 0, R.H_LOCK_LOCKED.key 0 (firstPage page.toNat) 0]
      else
        t.flag R.H_LOCK_ARMED 0 (firstPage page.toNat) = false ∧ s.Recorded t page.toNat 0x05 0x028 ∧
          s.OnlyRegs t (R.H_LOCK_ARMED.key 0 (firstPage page.toNat) 0 :: errKeys page.toNat)) ∧
  (∀ (c : Instr) (p : Nat) (s : State), writesPage c = some p ∨ readsPage c = some p → s.present p = true →
    s.flag R.H_LOCK_ARMED 0 (firstPage p) = true →
    ∃ u, u.flag R.H_LOCK_ARMED 0 (firstPage p) = false ∧ s.Recorded u p 0x05 0x028 ∧
      s.OnlyRegs u (R.H_LOCK_ARMED.key 0 (firstPage p) 0 :: errKeys p) ∧ exec c s = exec c u)

/-- On an open page: a read of ERRINFO answers the recorded code, offset and MORE and clears them; EVFORCE sets the EVSTAT bits written 1,
but on a locked page outside SERVICE it is ignored with code 0x06 at offset 0x024; a REGISTER_WRITE of EVSTAT clears the bits written 1, and
one of EVEN stores the word. A read of a segment's guardian cut counter answers the count of both channels, as an instance of a
read-to-clear counter (CRCERR of a pair link), and clears it. Nothing else changes. (02_register_pages.md, Tables 2.3 and 2.4; 00_scope.md,
Table 0.4; 02_register_pages.md, R31) -/
def Obligations.HeaderAccesses : Prop :=
  (∀ (m : BitVec 6) (page : BitVec 8) (s : State), s.Open (firstPage page.toNat) →
    ∃ t, exec (.errinfoRead m page) s = .next t ∧
      t.bus.data = leBytes 4 (s.rd R.H_ERR_CODE 0 (firstPage page.toNat) + s.rd R.H_ERR_OFFSET 0 (firstPage page.toNat) * 2 ^ 8 +
        s.rd R.H_ERR_MORE 0 (firstPage page.toNat) * 2 ^ 31) ∧ t.bus.refused = false ∧
      t.rd R.H_ERR_CODE 0 (firstPage page.toNat) = 0 ∧ t.rd R.H_ERR_OFFSET 0 (firstPage page.toNat) = 0 ∧
      t.rd R.H_ERR_MORE 0 (firstPage page.toNat) = 0 ∧
      s.RegsBut t (errKeys page.toNat) ∧ t = { s with regs := t.regs, bus := t.bus }) ∧
  (∀ (m : BitVec 6) (l : Fin 2) (s : State), s.Open (plPage l) →
    ∃ t, exec (.rcCounterRead m (BitVec.ofNat 8 (plPage l)) 68) s = .next t ∧ t.bus.data = leBytes 4 (s.rd R.PL_CRCERR 0 l) ∧
      t.bus.refused = false ∧ t.rd R.PL_CRCERR 0 l = 0 ∧ s.RegsBut t [R.PL_CRCERR.key 0 l 0] ∧ t = { s with regs := t.regs, bus := t.bus }) ∧
  (∀ (m : BitVec 6) (page : BitVec 8) (v : BitVec 32) (s : State), s.Open page.toNat →
    ∃ t, exec (.evforceWrite m page v) s = .next t ∧
      if s.flag R.H_LOCK_LOCKED 0 (firstPage page.toNat) = true ∧ s.mode ≠ 5 then s.Refused t page.toNat 0x06 0x024
      else
        t.rd R.H_EVSTAT 0 (firstPage page.toNat) = (s.rd R.H_EVSTAT 0 (firstPage page.toNat) ||| v.toNat) % 2 ^ 32 ∧
          s.OnlyRegs t [R.H_EVSTAT.key 0 (firstPage page.toNat) 0]) ∧
  (∀ (m : BitVec 6) (page : BitVec 8) (v : BitVec 32) (s : State), s.Open page.toNat → page.toNat = firstPage page.toNat →
    ∃ t, exec (.registerWrite m page 7 v) s = .next t ∧ t.rd R.H_EVEN 0 page.toNat = v.toNat ∧
      s.OnlyRegs t [R.H_EVEN.key 0 page.toNat 0]) ∧
  (∀ (m : BitVec 6) (page : BitVec 8) (v : BitVec 32) (s : State), s.Open page.toNat → page.toNat = firstPage page.toNat →
    s.rd R.H_EVSTAT 0 page.toNat < 2 ^ 32 →
    ∃ t, exec (.registerWrite m page 8 v) s = .next t ∧
      t.rd R.H_EVSTAT 0 page.toNat = s.rd R.H_EVSTAT 0 page.toNat - (s.rd R.H_EVSTAT 0 page.toNat &&& v.toNat) ∧
      s.OnlyRegs t [R.H_EVSTAT.key 0 page.toNat 0])

/-- On an open page, by the access code of the field: RW, EVC.THR0 takes its five bits (and code 0x04 is recorded for reserved bits that are
not 0); RWL, PWR.PFCTL takes FOEN where the page is unlocked (0x04 for reserved bits), and where it is locked keeps it and records 0x01; RO,
a write of RMC.OFFSET changes nothing and records 0x03 just where the word differs from what it reads; an offset no chapter defines takes
nothing and records 0x04 just where the word is not 0. CFGGEN counts a change of value. Nothing else changes. (02_register_pages.md, R25;
02_register_pages.md, R29; 02_register_pages.md, R34; 00_scope.md, Table 0.4) -/
def Obligations.PlainRegisterWrites : Prop :=
  (∀ (m : BitVec 6) (v : BitVec 32) (s : State), s.Open 0x03 →
    ∃ t, exec (.registerWrite m 0x03 0x50 v) s = .next t ∧ t.rd R.EVC_THR_THR = v.toNat % 32 ∧
      t.rd R.H_CFGGEN 0 0x03 = (if s.rd R.EVC_THR_THR = v.toNat % 32 then s.rd R.H_CFGGEN 0 0x03 else (s.rd R.H_CFGGEN 0 0x03 + 1) % 2 ^ 32) ∧
      (if v.toNat < 32 then s.OnlyRegs t [R.EVC_THR_THR.key 0 0 0, R.H_CFGGEN.key 0 0x03 0]
       else s.Recorded t 0x03 0x04 0x140 ∧ s.OnlyRegs t ([R.EVC_THR_THR.key 0 0 0, R.H_CFGGEN.key 0 0x03 0] ++ errKeys 0x03))) ∧
  (∀ (m : BitVec 6) (v : BitVec 32) (s : State), s.Open 0x01 → s.flag R.H_LOCK_LOCKED 0 0x01 = false →
    ∃ t, exec (.registerWrite m 0x01 0x42 v) s = .next t ∧ t.rd R.PWR_PFCTL_FOEN = v.toNat % 2 ∧
      t.rd R.H_CFGGEN 0 0x01 = (if s.rd R.PWR_PFCTL_FOEN = v.toNat % 2 then s.rd R.H_CFGGEN 0 0x01 else (s.rd R.H_CFGGEN 0 0x01 + 1) % 2 ^ 32) ∧
      (if v.toNat < 2 then s.OnlyRegs t [R.PWR_PFCTL_FOEN.key 0 0 0, R.H_CFGGEN.key 0 0x01 0]
       else s.Recorded t 0x01 0x04 0x108 ∧ s.OnlyRegs t ([R.PWR_PFCTL_FOEN.key 0 0 0, R.H_CFGGEN.key 0 0x01 0] ++ errKeys 0x01))) ∧
  (∀ (m : BitVec 6) (v : BitVec 32) (s : State), s.Open 0x01 → s.flag R.H_LOCK_LOCKED 0 0x01 = true → v.toNat < 2 →
    ∃ t, exec (.registerWrite m 0x01 0x42 v) s = .next t ∧ s.Refused t 0x01 0x01 0x108) ∧
  (∀ (m : BitVec 6) (v : BitVec 32) (s : State), s.Open 0x30 → s.rd R.RMC_OFFSET < 2 ^ 32 →
    ∃ t, exec (.registerWrite m 0x30 0x41 v) s = .next t ∧
      if v.toNat = s.rd R.RMC_OFFSET then t = s else s.Refused t 0x30 0x03 0x104) ∧
  (∀ (m : BitVec 6) (v : BitVec 32) (s : State), s.Open 0x30 →
    ∃ t, exec (.registerWrite m 0x30 0x80 v) s = .next t ∧
      if v = 0 then t = s else s.Refused t 0x30 0x04 0x200)

/-- On a present unit. A write to CTRL.EN of an open page whose EN is RW leaves EN at the value written and STATE and EN_PENDING by Table
2.5 (clearing EN of a segment controller, a pair link or MAC starts draining; a write of 1 in DRAINING sets EN_PENDING, one of 0 clears it;
0 in FAULT leads to OFF; 1 in STARTING or ON and 0 in OFF change no state); where EN is RO a differing bit records 0x03 and changes nothing.
A start-up in STATE STARTING that ends with EN 0 leads to DRAINING, one with EN 1 of a unit other than a segment controller to ON. In
DRAINING the end of draining of a unit without draining work of its own leads to OFF, or with EN_PENDING to STARTING; the timeout leads to
FAULT with EN_PENDING cleared, as a unit fault does from any state but FAULT. A soft reset in STARTING or DRAINING is refused with 0x02; one
of CLK in OFF, ON or FAULT clears EVSTAT, counts CFGGEN, and leads to STARTING with EN 1. (02_register_pages.md, Table 2.5;
02_register_pages.md, R32; 02_register_pages.md, R35; 02_register_pages.md, R37) -/
def Obligations.UnitStates : Prop :=
  (∀ (m : BitVec 6) (n : Fin 16) (en : Bool) (s : State), s.Open (0x20 + n) →
    ∃ t, exec (.ctrlEnWrite m (BitVec.ofNat 8 (0x20 + n)) en) s = .next t ∧ t.flag R.H_CTRL_EN 0 (0x20 + n) = en ∧
      t.unit (0x20 + n) = (match s.unit (0x20 + n), en with
        | 0, true => 1 | 2, false => 3 | 4, false => 0 | x, _ => x) ∧
      t.rd R.H_EN_PENDING 0 (0x20 + n) = (if s.unit (0x20 + n) = 3 then b2n en else s.rd R.H_EN_PENDING 0 (0x20 + n)) ∧
      s.OnlyRegs t [R.H_CTRL_EN.key 0 (0x20 + n) 0, R.H_STATE.key 0 (0x20 + n) 0, R.H_EN_PENDING.key 0 (0x20 + n) 0,
        R.PWR_DOMAIN_SEG.key 0 0 0]) ∧
  (∀ (m : BitVec 6) (page : BitVec 8) (en : Bool) (s : State), s.Open page.toNat → enRo page.toNat = true → s.unit page.toNat ≠ 1 →
    ∃ t, exec (.ctrlEnWrite m page en) s = .next t ∧
      if s.flag R.H_CTRL_EN 0 (firstPage page.toNat) = en then t = s else s.Refused t page.toNat 0x03 0x010) ∧
  (∀ (page : BitVec 8) (s : State), s.present (firstPage page.toNat) = true → s.unit page.toNat = 1 →
    s.flag R.H_CTRL_EN 0 (firstPage page.toNat) = false →
    ∃ t, exec (.startUpComplete page) s = .next t ∧ t.unit page.toNat = 3 ∧ s.OnlyRegs t [R.H_STATE.key 0 (firstPage page.toNat) 0]) ∧
  (∀ (x : Fin 3) (s : State), s.present (0x41 + x) = true → s.unit (0x41 + x) = 1 → s.flag R.H_CTRL_EN 0 (0x41 + x) = true →
    ∃ t, exec (.startUpComplete (BitVec.ofNat 8 (0x41 + x))) s = .next t ∧ t.unit (0x41 + x) = 2 ∧ s.OnlyRegs t [R.H_STATE.key 0 (0x41 + x) 0]) ∧
  (∀ (x : Fin 3) (s : State), s.present (0x41 + x) = true → s.unit (0x41 + x) = 3 → s.flag R.H_EN_PENDING 0 (0x41 + x) = false →
    ∃ t, exec (.drainingComplete (BitVec.ofNat 8 (0x41 + x))) s = .next t ∧ t.unit (0x41 + x) = 0 ∧ s.OnlyRegs t [R.H_STATE.key 0 (0x41 + x) 0]) ∧
  (∀ (s : State), s.present 0x70 = true → s.unit 0x70 = 3 → s.flag R.H_EN_PENDING 0 0x70 = true →
    ∃ t, exec (.drainingComplete 0x70) s = .next t ∧ t.unit 0x70 = 1 ∧ t.flag R.H_EN_PENDING 0 0x70 = false ∧
      s.OnlyRegs t [R.H_STATE.key 0 0x70 0, R.H_EN_PENDING.key 0 0x70 0]) ∧
  (∀ (s : State), s.present 0x70 = true → s.unit 0x70 = 3 →
    ∃ t, exec (.drainingTimeout 0x70) s = .next t ∧ t.unit 0x70 = 4 ∧ t.flag R.H_EN_PENDING 0 0x70 = false ∧
      s.OnlyRegs t [R.H_STATE.key 0 0x70 0, R.H_EN_PENDING.key 0 0x70 0]) ∧
  (∀ (x : Fin 3) (s : State), s.present (0x41 + x) = true → s.unit (0x41 + x) ≠ 4 →
    ∃ t, exec (.unitFault (BitVec.ofNat 8 (0x41 + x))) s = .next t ∧ t.unit (0x41 + x) = 4 ∧ t.flag R.H_EN_PENDING 0 (0x41 + x) = false ∧
      (t.emac x).sending = false ∧
      s.RegsBut t [R.H_STATE.key 0 (0x41 + x) 0, R.H_EN_PENDING.key 0 (0x41 + x) 0] ∧ t = { s with regs := t.regs, emacs := t.emacs }) ∧
  (∀ (m : BitVec 6) (page : BitVec 8) (s : State), s.Open page.toNat → s.unit page.toNat = 1 ∨ s.unit page.toNat = 3 →
    ∃ t, exec (.softReset m page) s = .next t ∧ s.Refused t page.toNat 0x02 0x010) ∧
  (∀ (m : BitVec 6) (s : State), s.Open 0x02 → s.unit 0x02 ≠ 1 → s.unit 0x02 ≠ 3 → s.flag R.H_CTRL_EN 0 0x02 = true →
    ∃ t, exec (.softReset m 0x02) s = .next t ∧ t.unit 0x02 = 1 ∧ t.rd R.H_EVSTAT 0 0x02 = 0 ∧
      t.rd R.H_CFGGEN 0 0x02 = (s.rd R.H_CFGGEN 0 0x02 + 1) % 2 ^ 32 ∧ t.mem = s.mem)

/-- A read of EVC.CLAIMn on the open page answers VALID and the number of the winning deliverable source and puts it in service for the
pair, a maskable one routed to both pairs for both; with nothing deliverable it answers 0 and changes nothing. Both pairs claiming in one
clock, CP0's claim is resolved first and CP1 gets what then wins for it. The winner is deliverable, and no deliverable source has a higher
priority, or an equal one and a lower number; a source in service for the pair is not deliverable. A write to EVC.COMPLETEn naming a source
in service for the pair (and, if maskable, claimed by it) ends service, of a maskable source for both pairs, and leaves the source pending
just where it was; any other is ignored with code 0x10 at 0x160 + 4n. (R39) -/
def Obligations.ClaimAndComplete : Prop :=
  (∀ (s : State) (n k : Nat), s.winner n = some k →
    s.deliverable n k = true ∧ ∀ j, j < 256 → s.deliverable n j = true → s.srcPrio j < s.srcPrio k ∨ (s.srcPrio j = s.srcPrio k ∧ k ≤ j)) ∧
  (∀ (s : State) (n : Nat), s.winner n = none → ∀ j, j < 256 → s.deliverable n j = false) ∧
  (∀ (s : State) (n k : Nat), s.flag (servRow n) k = true → s.deliverable n k = false) ∧
  (∀ (s : State) (n : Fin 2), s.Open 0x03 → s.winner n = none →
    ∃ t, exec (.evcClaim (n == 0) (n == 1)) s = .next t ∧ t.bus.data = leBytes 4 0 ∧ t = { s with bus := t.bus }) ∧
  (∀ (s : State) (n : Fin 2) (k : Nat), s.Open 0x03 → s.winner n = some k →
    ∃ t, exec (.evcClaim (n == 0) (n == 1)) s = .next t ∧ t.bus.data = leBytes 4 (2 ^ 31 + k) ∧ t.flag (servRow n) k = true ∧
      (8 ≤ k → s.srcRouted 0 k = true → s.srcRouted 1 k = true → t.flag R.EVC_SRCCFG_SERV0 k = true ∧ t.flag R.EVC_SRCCFG_SERV1 k = true) ∧
      s.RegsBut t [R.EVC_SRCCFG_SERV0.key k 0 0, R.EVC_SRCCFG_SERV1.key k 0 0] ∧
      t = { s with regs := t.regs, bus := t.bus, evcOwner := t.evcOwner }) ∧
  (∀ (s : State), s.Open 0x03 →
    ∃ t, exec (.evcClaim true true) s = .next t ∧ t.bus.data = leBytes 4 (s.claim 0).1 ++ leBytes 4 ((s.claim 0).2.claim 1).1 ∧
      t = { ((s.claim 0).2.claim 1).2 with bus := t.bus }) ∧
  (∀ (s : State) (n : Fin 2) (k : BitVec 8), s.Open 0x03 →
    ∃ t, exec (.evcComplete n k) s = .next t ∧
      if s.flag (servRow n) k.toNat = true ∧ (k.toNat < 8 ∨ smGet 0 s.evcOwner k.toNat = n + 1) then
        t.flag (servRow n) k.toNat = false ∧ t.srcPending k.toNat = s.srcPending k.toNat ∧ (8 ≤ k.toNat → t.flag (servRow 0) k.toNat = false ∧ t.flag (servRow 1) k.toNat = false) ∧
          s.RegsBut t (if k.toNat < 8 then [(servRow n).key k.toNat 0 0] else [R.EVC_SRCCFG_SERV0.key k.toNat 0 0, R.EVC_SRCCFG_SERV1.key k.toNat 0 0]) ∧
          t = { s with regs := t.regs, evcOwner := t.evcOwner }
      else s.Refused t 0x03 0x10 (0x160 + 4 * n))

/-- On the open SYS page. With a key other than 0x4D44 every target is refused with 0x11; targets START and DORMANT with 0x10. LEAD from
START, or from HOLD with HOLDCAUSE neither 4 nor 9, is refused with 0x12 while the lease is not held; from any other mode with 0x10. TRACK
is accepted from START, and from such a HOLD while the partner leads; else 0x10. HOLD with a CAUSE of 1, 3, 5, 6, 7 or 8 is accepted from
START, TRACK and LEAD; from such a HOLD it changes HOLDCAUSE (and the after-effect of a SEATED contact that LIO holds) alone. SERVICE is
refused with 0x13 while the key switch stands at RUN, from TRACK and from HOLD with HOLDCAUSE other than 9; else 0x10. An accepted change
sets MODE and HOLDCAUSE, counts CHANGES and raises EVRAW bit 0 of SYS; a change to TRACK, HOLD or SERVICE leaves the bytes of memory. A
refusal changes ERRINFO and, by EVRAW bit 3, EVSTAT alone. (03_modes.md, R47; 03_modes.md, Table 3.2; 03_modes.md, Table 3.9; 03_modes.md,
R62) -/
def Obligations.ModeCommands : Prop :=
  (∀ (m : BitVec 6) (cause : BitVec 4) (key : BitVec 16) (s : State), s.Open 0x00 → key ≠ 0x4D44 →
    ∀ c ∈ [Instr.modecmdToLead m cause key, .modecmdToTrack m cause key, .modecmdToHold m cause key, .modecmdToService m cause key,
      .modecmdToStartOrDormant m true cause key, .modecmdToStartOrDormant m false cause key],
    ∃ t, exec c s = .next t ∧ s.Recorded t 0x00 0x11 0x110 ∧ s.Rose t 0x00 3 ∧ s.OnlyRegs t (errKeys 0x00 ++ evKeys 0x00)) ∧
  (∀ (m : BitVec 6) (start : Bool) (cause : BitVec 4) (s : State), s.Open 0x00 →
    ∃ t, exec (.modecmdToStartOrDormant m start cause 0x4D44) s = .next t ∧ s.Recorded t 0x00 0x10 0x110 ∧ s.Rose t 0x00 3 ∧
      s.OnlyRegs t (errKeys 0x00 ++ evKeys 0x00)) ∧
  (∀ (m : BitVec 6) (cause : BitVec 4) (s : State), s.Open 0x00 →
    ∃ t, exec (.modecmdToLead m cause 0x4D44) s = .next t ∧
      if s.mode ≠ 1 ∧ ¬ (s.mode = 4 ∧ s.rd R.SYS_MODE_HOLDCAUSE ≠ 4 ∧ s.rd R.SYS_MODE_HOLDCAUSE ≠ 9) then
        s.Recorded t 0x00 0x10 0x110 ∧ s.Rose t 0x00 3 ∧ s.OnlyRegs t (errKeys 0x00 ++ evKeys 0x00)
      else if s.flag R.PAIR_STAT_LEASE = false then
        s.Recorded t 0x00 0x12 0x110 ∧ s.Rose t 0x00 3 ∧ s.OnlyRegs t (errKeys 0x00 ++ evKeys 0x00)
      else
        t.mode = 3 ∧ t.rd R.SYS_MODE_HOLDCAUSE = 0 ∧ t.rd R.SYS_MODE_CHANGES = (s.rd R.SYS_MODE_CHANGES + 1) % 2 ^ 16 ∧ s.Rose t 0x00 0 ∧
          t.flag R.PAIR_STAT_LEASE = true) ∧
  (∀ (m : BitVec 6) (cause : BitVec 4) (s : State), s.Open 0x00 →
    ∃ t, exec (.modecmdToTrack m cause 0x4D44) s = .next t ∧
      if s.mode = 1 ∨ (s.mode = 4 ∧ s.rd R.SYS_MODE_HOLDCAUSE ≠ 4 ∧ s.rd R.SYS_MODE_HOLDCAUSE ≠ 9 ∧ s.rd R.PAIR_STAT_PMODE = 3 ∧
          s.flag R.PAIR_STAT_PARTNER = true) then
        t.mode = 2 ∧ t.rd R.SYS_MODE_HOLDCAUSE = 0 ∧ t.rd R.SYS_MODE_CHANGES = (s.rd R.SYS_MODE_CHANGES + 1) % 2 ^ 16 ∧ s.Rose t 0x00 0 ∧
          s.SameMem t
      else s.Recorded t 0x00 0x10 0x110 ∧ s.Rose t 0x00 3 ∧ s.OnlyRegs t (errKeys 0x00 ++ evKeys 0x00)) ∧
  (∀ (m : BitVec 6) (cause : BitVec 4) (s : State), s.Open 0x00 → cause ∈ [1, 3, 5, 6, 7, 8] →
    ∃ t, exec (.modecmdToHold m cause 0x4D44) s = .next t ∧
      if s.mode = 1 ∨ s.mode = 2 ∨ s.mode = 3 then
        t.mode = 4 ∧ t.rd R.SYS_MODE_HOLDCAUSE = cause.toNat ∧ t.rd R.SYS_MODE_CHANGES = (s.rd R.SYS_MODE_CHANGES + 1) % 2 ^ 16 ∧
          s.Rose t 0x00 0 ∧ s.SameMem t
      else if s.mode = 4 ∧ s.rd R.SYS_MODE_HOLDCAUSE ≠ 4 ∧ s.rd R.SYS_MODE_HOLDCAUSE ≠ 9 then
        t.rd R.SYS_MODE_HOLDCAUSE = cause.toNat ∧ s.RegsBut t [R.SYS_MODE_HOLDCAUSE.key 0 0 0] ∧ t = { s with regs := t.regs, lio := t.lio }
      else s.Recorded t 0x00 0x10 0x110 ∧ s.Rose t 0x00 3 ∧ s.OnlyRegs t (errKeys 0x00 ++ evKeys 0x00)) ∧
  (∀ (m : BitVec 6) (cause : BitVec 4) (s : State), s.Open 0x00 →
    ∃ t, exec (.modecmdToService m cause 0x4D44) s = .next t ∧
      if s.mode = 2 ∨ (s.mode = 4 ∧ s.rd R.SYS_MODE_HOLDCAUSE ≠ 9) then
        if s.flag R.SYS_KEYSW_POS = true then
          t.mode = 5 ∧ t.rd R.SYS_MODE_HOLDCAUSE = 0 ∧ t.rd R.SYS_MODE_CHANGES = (s.rd R.SYS_MODE_CHANGES + 1) % 2 ^ 16 ∧ s.Rose t 0x00 0 ∧
            s.SameMem t
        else s.Recorded t 0x00 0x13 0x110 ∧ s.Rose t 0x00 3 ∧ s.OnlyRegs t (errKeys 0x00 ++ evKeys 0x00)
      else s.Recorded t 0x00 0x10 0x110 ∧ s.Rose t 0x00 3 ∧ s.OnlyRegs t (errKeys 0x00 ++ evKeys 0x00))

/-- RESET_ASSERT with a cause, in a module that is not DORMANT or with the power-on cause: the mode is START, the reset is held, MT is 0,
RSTCAUSE.LAST is the lowest cause; HIST gains the causes and RSTCOUNT counts up to 0xFFFF, or, at a power-on reset, HIST is the causes and
RSTCOUNT is 0; local outputs are off; every other register is at its reset value but for what the reset keeps (the backup domain, pins,
values of the die, and the power-on-only fields unless it is a power-on reset), the words that show the backup domain, and PWR's EVRAW,
which shows the feeds that are low; a reset that is not a power-on reset leaves every byte of memory. With no cause, or DORMANT without the
power-on cause, nothing changes. SYS.RSTCMD with GO and the key 0x7A5E, leaving SERVICE by the key switch, a feed that becomes good in
DORMANT with both contacts made (20 ms after they were made), and START_TIMEOUT outside the recovery service have the effect of RESET_ASSERT
with their cause (4, 4, 0 and 2); RSTCMD with another key records 0x14, without GO it does nothing. (03_modes.md, R57; 03_modes.md, R58;
03_modes.md, R59; 03_modes.md, Table 3.8; 03_modes.md, Table 3.9; 03_modes.md, R45; 03_modes.md, R50; 03_modes.md, R62) -/
def Obligations.ResetsTakeTheModuleToStart : Prop :=
  (∀ (causes : BitVec 6) (s : State), causes = 0 ∨ (s.mode = 0 ∧ causes.getLsbD 0 = false) → exec (.resetAssert causes) s = .next s) ∧
  (∀ (causes : BitVec 6) (s : State), causes ≠ 0 → s.mode ≠ 0 ∨ causes.getLsbD 0 = true →
    ∃ t, exec (.resetAssert causes) s = .next t ∧ t.mode = 1 ∧ t.sys.resetHeld = true ∧ t.mt = 0 ∧ t.dqDrive = 0 ∧
      t.rd R.SYS_RSTCAUSE_LAST = lowestCause causes.toNat ∧
      (if causes.getLsbD 0 then t.rd R.SYS_RSTCAUSE_HIST = causes.toNat ∧ t.rd R.SYS_RSTCOUNT_COUNT = 0
       else t.rd R.SYS_RSTCAUSE_HIST = (s.rd R.SYS_RSTCAUSE_HIST ||| causes.toNat) % 2 ^ 6 ∧
        t.rd R.SYS_RSTCOUNT_COUNT = (if s.rd R.SYS_RSTCOUNT_COUNT < 0xFFFF then s.rd R.SYS_RSTCOUNT_COUNT + 1 else 0xFFFF) ∧ s.SameMem t) ∧
      s.ResetRegs t (causes.getLsbD 0)
        ([R.SYS_RSTCAUSE_LAST.key 0 0 0, R.SYS_RSTCAUSE_HIST.key 0 0 0, R.SYS_RSTCOUNT_COUNT.key 0 0 0, R.PWR_STATUS_BKSRC.key 0 0 0,
          R.BKD_PWRCYC_COUNT.key 0 0 0, R.BKD_STAT_LOSTSEEN.key 0 0 0, R.H_EVRAW.key 0 0x01 0] ++ evKeys 0x00 ++ evKeys 0x48) ∧
      (s.rd R.PWR_STATUS_P1OK ≤ 1 → s.rd R.PWR_STATUS_P2OK ≤ 1 → t.rd R.PWR_STATUS_P1OK = s.rd R.PWR_STATUS_P1OK ∧
        t.rd R.H_EVRAW 0 0x01 = 4 * (1 - s.rd R.PWR_STATUS_P1OK) + 8 * (1 - s.rd R.PWR_STATUS_P2OK))) ∧
  (∀ (m : BitVec 6) (go : Bool) (key : BitVec 16) (s : State), s.Open 0x00 →
    if go = false then exec (.rstcmd m go key) s = .next s
    else if key = 0x7A5E then s.mode ≠ 0 → exec (.rstcmd m go key) s = exec (.resetAssert 0x10) s
    else ∃ t, exec (.rstcmd m go key) s = .next t ∧ s.Refused t 0x00 0x14 0x130) ∧
  (∀ (service : Bool) (s : State),
    if s.mode = 0 ∨ s.flag R.SYS_KEYSW_POS = service then
      ∃ t, exec (.keySwitchChange service) s = .next t ∧ t.flag R.SYS_KEYSW_POS = service ∧ s.OnlyRegs t [R.SYS_KEYSW_POS.key 0 0 0]
    else if s.mode = 5 ∧ service = false then ∃ t, exec (.keySwitchChange service) s = .next t ∧ t.mode = 1 ∧ t.rd R.SYS_RSTCAUSE_LAST = 4 ∧
      t.flag R.SYS_KEYSW_POS = false ∧ s.SameMem t
    else ∃ t, exec (.keySwitchChange service) s = .next t ∧ t.flag R.SYS_KEYSW_POS = service ∧ s.Rose t 0x00 2 ∧
      s.OnlyRegs t (R.SYS_KEYSW_POS.key 0 0 0 :: evKeys 0x00)) ∧
  (∀ s : State, if s.mode = 0 ∧ s.pwr.seated1 = true ∧ s.pwr.seated2 = true then
      exec .feedGood s = exec (.resetAssert 1) (match s.pwr.madeAt with | some t => s.awaitMt (t + 20000000) | none => s)
    else exec .feedGood s = .next s) ∧
  (∀ s : State, if s.mode = 1 ∧ s.sys.resetHeld = false ∧ s.sys.recovery = false then
      ∃ t, exec .startTimeout s = .next t ∧ t.mode = 1 ∧ t.sys.resetHeld = true ∧ t.rd R.SYS_RSTCAUSE_LAST = 2 ∧ s.SameMem t
    else exec .startTimeout s = .next s)

/-- Release of a held reset: MT is 0, step 0x01 begins, and every present unit that is OFF with EN 1 is in STARTING (a MAC or rack-bus
controller whose checks there fail in FAULT). In START, after the release: steps 1 and 2 lead on when they succeed and stay, with FAIL and
the failure recorded, when they fail; step 3 leads to step 4 when the image book gives bootable firmware and starts the recovery service
when it does not; step 4 leads to 5 when the four other images load too; step 5 to 6; step 6 without a cartridge to 7; step 7 takes the
archive and leads to 8, failed without one or when the mirror formats differ; step 8 to 9. RECOVERY_SERVICE starts the service at step 3
just where no firmware boots. END_OF_START at step 9 with a failed step 4 or 5 ends START in HOLD with HOLDCAUSE 4; without a partner,
mismatch and failed step 7, and start policy HOLD, in HOLD with HOLDCAUSE 7. (02_register_pages.md, R464; 03_modes.md, R50; 03_modes.md,
Tables 3.3, 3.4 and 3.5; 20_image_book.md, R424; 03_modes.md, R52) -/
def Obligations.ReleaseAndStartSteps : Prop :=
  (∀ s : State, s.mode = 1 → s.sys.resetHeld = true →
    ∃ t, exec .resetRelease s = .next t ∧ t.mt = 0 ∧ t.sys.resetHeld = false ∧ t.rd R.SYS_STARTSTEP_STEP = 1 ∧
      (∀ p ∈ unitHeads, s.present p = true → s.flag R.H_CTRL_EN 0 p = true → s.unit p = 0 →
        t.unit p = 1 ∨ (t.unit p = 4 ∧ p ∈ [0x41, 0x42, 0x43, 0x60, 0x61])) ∧ s.SameMem t) ∧
  (∀ (ok : Bool) (scap : BitVec 16) (archive : Option Archive) (s : State), s.mode = 1 → s.sys.resetHeld = false →
    s.rd R.SYS_STARTSTEP_STEP ∈ [1, 2] →
    ∃ t, exec (.startStepComplete ok scap archive) s = .next t ∧
      if ok then t.rd R.SYS_STARTSTEP_STEP = s.rd R.SYS_STARTSTEP_STEP + 1 ∧ s.OnlyRegs t [R.SYS_STARTSTEP_STEP.key 0 0 0]
      else (s.rd R.SYS_STARTSTEP_FAIL = 0 → t.rd R.SYS_STARTSTEP_FAIL = s.rd R.SYS_STARTSTEP_STEP) ∧
        nbit t.sys.failed (s.rd R.SYS_STARTSTEP_STEP) = true ∧ s.RegsBut t [R.SYS_STARTSTEP_FAIL.key 0 0 0] ∧
        t = { s with regs := t.regs, sys := t.sys }) ∧
  (∀ (ok : Bool) (scap : BitVec 16) (archive : Option Archive) (s : State), s.mode = 1 → s.sys.resetHeld = false →
    s.rd R.SYS_STARTSTEP_STEP = 3 → s.sys.recovery = false →
    ∃ t, exec (.startStepComplete ok scap archive) s = .next t ∧
      if ok = true ∧ s.step3.boots = true then t.rd R.SYS_STARTSTEP_STEP = 4 ∧ t.sys.recovery = false ∧ s.SameMem t
      else t.rd R.SYS_STARTSTEP_STEP = 3 ∧ t.sys.recovery = true ∧ s.SameMem t) ∧
  (∀ (ok : Bool) (scap : BitVec 16) (archive : Option Archive) (s : State), s.mode = 1 → s.sys.resetHeld = false →
    s.rd R.SYS_STARTSTEP_STEP ∈ [4, 5] →
    ∃ t, exec (.startStepComplete ok scap archive) s = .next t ∧ t.rd R.SYS_STARTSTEP_STEP = s.rd R.SYS_STARTSTEP_STEP + 1 ∧
      (ok = false → nbit t.sys.failed (s.rd R.SYS_STARTSTEP_STEP) = true) ∧
      s.RegsBut t [R.SYS_STARTSTEP_STEP.key 0 0 0, R.SYS_STARTSTEP_FAIL.key 0 0 0, R.TE_BASEVER.key 0 0 0] ∧
      t = { s with regs := t.regs, sys := t.sys }) ∧
  (∀ (ok : Bool) (scap : BitVec 16) (archive : Option Archive) (s : State), s.mode = 1 → s.sys.resetHeld = false →
    s.rd R.SYS_STARTSTEP_STEP = 6 → s.flag R.CRT_STAT_LATCH = false →
    ∃ t, exec (.startStepComplete ok scap archive) s = .next t ∧ t.rd R.SYS_STARTSTEP_STEP = 7 ∧ s.OnlyRegs t [R.SYS_STARTSTEP_STEP.key 0 0 0]) ∧
  (∀ (ok : Bool) (scap : BitVec 16) (archive : Option Archive) (s : State), s.mode = 1 → s.sys.resetHeld = false →
    s.rd R.SYS_STARTSTEP_STEP = 7 →
    ∃ t, exec (.startStepComplete ok scap archive) s = .next t ∧ t.rd R.SYS_STARTSTEP_STEP = 8 ∧ t.ncp.archive = archive ∧
      (ok = false ∨ archive = none ∨ s.rd R.XE_LAYOUT_MIRRORFMT ≠ s.rd R.PAIR_LOCAL_MFV → nbit t.sys.failed 7 = true) ∧
      (ok = true → archive.isSome = true → s.rd R.XE_LAYOUT_MIRRORFMT = s.rd R.PAIR_LOCAL_MFV → t.sys = s.sys) ∧
      s.RegsBut t [R.SYS_STARTSTEP_STEP.key 0 0 0, R.SYS_STARTSTEP_FAIL.key 0 0 0] ∧
      t = { s with regs := t.regs, sys := t.sys, ncp := t.ncp, pr := t.pr }) ∧
  (∀ (ok : Bool) (scap : BitVec 16) (archive : Option Archive) (s : State), s.mode = 1 → s.sys.resetHeld = false →
    s.rd R.SYS_STARTSTEP_STEP = 8 →
    ∃ t, exec (.startStepComplete ok scap archive) s = .next t ∧ t.rd R.SYS_STARTSTEP_STEP = 9 ∧ s.OnlyRegs t [R.SYS_STARTSTEP_STEP.key 0 0 0]) ∧
  (∀ s : State, s.mode = 1 → s.sys.resetHeld = false → s.rd R.SYS_STARTSTEP_STEP = 3 → s.sys.recovery = false → s.step3.boots = false →
    ∃ t, exec .recoveryService s = .next t ∧ t.sys.recovery = true ∧ t.upd.ram = 0 ∧ t.rd R.SYS_STARTSTEP_STEP = 3 ∧ s.SameMem t) ∧
  (∀ s : State, s.mode = 1 → s.sys.resetHeld = false → s.rd R.SYS_STARTSTEP_STEP = 9 → nbit s.sys.failed 4 || nbit s.sys.failed 5 →
    ∃ t, exec .endOfStart s = .next t ∧ t.mode = 4 ∧ t.rd R.SYS_MODE_HOLDCAUSE = 4 ∧ t.rd R.SYS_STARTSTEP_STEP = 0 ∧ s.Rose t 0x00 0 ∧
      s.SameMem t) ∧
  (∀ s : State, s.mode = 1 → s.sys.resetHeld = false → s.rd R.SYS_STARTSTEP_STEP = 9 → s.sys.failed = 0 → s.rd R.PAIR_STAT_MISMATCH = 0 →
    s.flag R.PAIR_STAT_PARTNER = false → s.rd R.SYS_NEXTSTART_KIND = 0 → s.rd R.SYS_STARTPOL_POLICY = 0 →
    ∃ t, exec .endOfStart s = .next t ∧ t.mode = 4 ∧ t.rd R.SYS_MODE_HOLDCAUSE = 7 ∧ t.rd R.SYS_STARTSTEP_STEP = 0 ∧ s.Rose t 0x00 0 ∧
      s.SameMem t)

/-- The warning outside DORMANT (200 µs after a SEATED contact opened, where one is open) sets PFW, counts PFCOUNT, raises EVRAW bit 0 of
PWR and starts the cartridge and the recorder flush; a feed at 18.0 V clears PFW and the level and nothing else, while the contacts are
made. Still active after 15 ms it forces HOLD with HOLDCAUSE 9 (which 4 outlasts), FORCEDHOLD, and the segment domains off, with FLUSHONLY
just where FOEN and SCAP are set. The end of the flush-only phase, at 2 s where a flush still runs, clears FLUSHONLY and SCAP and ends the
flushes; feeds that return after the forced HOLD are noted, and with no flush in progress lead to a supply reset. A feed's OK bit and its
level bit follow the comparator; the means are taken as they come; the hold-up store is charged. A SEATED contact that opens outside DORMANT
holds every local output at 0; the loss of AON makes the module DORMANT at step 0 with the backup domain's registers, the pins and the
power-on-only fields kept. (03_modes.md, R61; 03_modes.md, R63; 03_modes.md, Table 3.10; 22_hardware.md, R448; 22_hardware.md, R450;
22_hardware.md, R451; 16_local_io.md, R463) -/
def Obligations.PowerAndFeeds : Prop :=
  (∀ s : State, s.mode ≠ 0 → s.flag R.PWR_STATUS_PFW = false →
    ∃ t, exec .powerFailWarning s = .next t ∧ t.flag R.PWR_STATUS_PFW = true ∧ t.crtFlush = true ∧ s.Rose t 0x01 0 ∧
      t.rd R.PWR_PFCOUNT_COUNT = (if s.rd R.PWR_PFCOUNT_COUNT < 0xFFFF then s.rd R.PWR_PFCOUNT_COUNT + 1 else 0xFFFF) ∧ t.mode = s.mode ∧
      t.er.due = true ∧ ((s.pwr.seated1 && s.pwr.seated2) = false → s.pwr.openAt + 200004 ≤ 2 ^ 64 → s.pwr.openAt + 200000 ≤ t.mt) ∧
      s.PagesBut t [0x01, 0x10, 0x3A, 0x40] ∧ s.SameMem t) ∧
  (∀ s : State, ∃ t, exec .powerFailClear s = .next t ∧
      if s.pwr.seated1 = true ∧ s.pwr.seated2 = true then
        t.flag R.PWR_STATUS_PFW = false ∧ nbit (t.rd R.H_EVRAW 0 0x01) 0 = false ∧ s.OnlyRegs t [R.PWR_STATUS_PFW.key 0 0 0, R.H_EVRAW.key 0 0x01 0]
      else t = s) ∧
  (∀ s : State, s.mode ≠ 0 → s.flag R.PWR_STATUS_PFW = true → s.flag R.PWR_STATUS_FORCEDHOLD = false →
    ∃ t, exec .powerFailHold s = .next t ∧ t.mode = 4 ∧ t.flag R.PWR_STATUS_FORCEDHOLD = true ∧ t.rd R.PWR_DOMAIN_SEG = 0 ∧
      t.rd R.SYS_MODE_HOLDCAUSE = (if s.mode = 4 ∧ s.rd R.SYS_MODE_HOLDCAUSE = 4 then 4 else 9) ∧ t.dqDrive = 0 ∧
      (s.pwr.warnAt + 15000004 ≤ 2 ^ 64 → s.pwr.warnAt + 15000000 ≤ t.mt) ∧
      (s.flag R.PWR_PFCTL_FOEN = true → s.flag R.PWR_STATUS_SCAP = true → t.flag R.PWR_STATUS_FLUSHONLY = true ∧ t.pwr.off = true) ∧
      (s.flag R.PWR_PFCTL_FOEN = false ∨ s.flag R.PWR_STATUS_SCAP = false → t.flag R.PWR_STATUS_FLUSHONLY = s.flag R.PWR_STATUS_FLUSHONLY)) ∧
  (∀ s : State, s.flag R.PWR_STATUS_FLUSHONLY = true → s.pwr.returned = false →
    ∃ t, exec .flushOnlyEnd s = .next t ∧ t.flag R.PWR_STATUS_FLUSHONLY = false ∧ t.flag R.PWR_STATUS_SCAP = false ∧ t.crtFlush = false ∧
      t.er.flushing = false ∧ s.PagesBut t [0x01, 0x40] ∧ s.SameMem t ∧
      if s.crtFlush = true ∨ s.er.flushing = true then s.pwr.flushAt + 2000000004 ≤ 2 ^ 64 → s.pwr.flushAt + 2000000000 ≤ t.mt
      else s.OnlyRegs t [R.PWR_STATUS_FLUSHONLY.key 0 0 0, R.PWR_STATUS_SCAP.key 0 0 0]) ∧
  (∀ s : State, s.flag R.PWR_STATUS_FORCEDHOLD = true →
    ∃ t, exec .feedsReturn s = .next t ∧
      if s.crtFlush = true ∨ s.er.flushing = true ∨ s.flag R.PWR_STATUS_FLUSHONLY = true then t = { s with pwr := { s.pwr with returned := true } }
      else t.mode = 1 ∧ t.rd R.SYS_RSTCAUSE_LAST = 1 ∧ s.SameMem t) ∧
  (∀ (feed : Fin 2) (low : Bool) (s : State),
    ∃ t, exec (.feedLow feed low) s = .next t ∧
      t.flag (if feed = 0 then R.PWR_STATUS_P1OK else R.PWR_STATUS_P2OK) = !low ∧
      (low = true → s.Rose t 0x01 (2 + feed)) ∧ (low = false → nbit (t.rd R.H_EVRAW 0 0x01) (2 + feed) = false) ∧
      s.OnlyRegs t ((if feed = 0 then R.PWR_STATUS_P1OK else R.PWR_STATUS_P2OK).key 0 0 0 :: evKeys 0x01)) ∧
  (∀ (p1 p2 : BitVec 16) (s : State),
    ∃ t, exec (.feedMeanUpdate p1 p2) s = .next t ∧ t.rd R.PWR_FEED_P1MV = p1.toNat ∧ t.rd R.PWR_FEED_P2MV = p2.toNat ∧
      s.OnlyRegs t [R.PWR_FEED_P1MV.key 0 0 0, R.PWR_FEED_P2MV.key 0 0 0]) ∧
  (∀ s : State, exec .holdupStoreCharged s = .next { s with pwr := { s.pwr with stored := true } }) ∧
  (∀ (c : Fin 2) (s : State),
    ∃ t, exec (.seatedOpen c) s = .next t ∧ (if c = 0 then t.pwr.seated1 else t.pwr.seated2) = false ∧
      (s.mode ≠ 0 → t.lio.seat = 0xFFFF ∧ t.dqDrive = 0) ∧ t = { s with pwr := t.pwr, lio := t.lio, outs := t.outs }) ∧
  (∀ (c : Fin 2) (s : State),
    ∃ t, exec (.seatedMade c) s = .next t ∧ (if c = 0 then t.pwr.seated1 else t.pwr.seated2) = true ∧
      (t.pwr.seated1 = true → t.pwr.seated2 = true → t.outputsOff = true → t.lio.seat = 0) ∧ t = { s with pwr := t.pwr, lio := t.lio }) ∧
  (∀ s : State,
    ∃ t, exec .aonSupplyLost s = .next t ∧ t.mode = 0 ∧ t.rd R.SYS_STARTSTEP_STEP = 0 ∧ t.dqDrive = 0 ∧
      t.pwr.stored = false ∧
      s.ResetRegs t false [R.SYS_MODE_MODE.key 0 0 0, R.SYS_STARTSTEP_STEP.key 0 0 0, R.PWR_STATUS_BKSRC.key 0 0 0, R.H_EVRAW.key 0 0x48 0,
        R.H_EVRAW.key 0 0x01 0])

/-- PLY_TRIGGER does nothing unless the class owns the compare channel it names and has a trigger scheduled. It comes no earlier than that
trigger's instant; the match raises the channel's source and counts; where XE takes no triggers that is all. Otherwise PLY counts up. With
SKIPNEXT set, or a ply of the class in progress, the trigger is skipped: SKIPS counts, SKIPNEXT is 0, FF.CONSEC and every ply are as before,
and the next trigger lies one period on, or, after a re-anchoring, at the first instant of the new scheme at least one period on. With the
lanes free and nothing waiting, the ply starts 4 lane clocks after the match at the earliest: FREEZE, PLY_T is MT, it carries the new ply
number, STAT reads FREEZE and ENG.STAT its level, and of memory only the local input image and the trip-engine image in its window are
written. FLAG_FALL in LEAD, of a ply before COMMIT that has not fallen yet, comes at the deadline, counts TOTAL and CONSEC, sets SKIPNEXT
and raises the class's source; the ply goes on; in any other case it does nothing. (12_time.md, R274; 04_ply.md, R65; 04_ply.md, R67;
04_ply.md, R68; 04_ply.md, R69; 04_ply.md, R77; 04_ply.md, R78; 03_modes.md, R44; 05_execution_engine.md, R461) -/
def Obligations.ClassTriggersAndFlagFalls : Prop :=
  (∀ (n : Fin 3) (late : Nat) (s : State), s.ownerOf (s.rd R.XE_CLS_CFG_TRIGCH n) ≠ n + 1 ∨ (s.ply n).next = none →
    exec (.plyTrigger n late) s = .next s) ∧
  (∀ (n : Fin 3) (late at_ : Nat) (s : State), s.ownerOf (s.rd R.XE_CLS_CFG_TRIGCH n) = n + 1 → (s.ply n).next = some at_ → s.xeTakes = false →
    ∃ t, exec (.plyTrigger n late) s = .next t ∧ s.Rose t 0x40 (s.rd R.XE_CLS_CFG_TRIGCH n) ∧
      t.rd R.TIM_CMP_COUNT (s.rd R.XE_CLS_CFG_TRIGCH n) = (s.rd R.TIM_CMP_COUNT (s.rd R.XE_CLS_CFG_TRIGCH n) + 1) % 2 ^ 32 ∧
      ((s.ply n).aligned = false → t.NotBefore at_) ∧ s.PagesBut t [0x40] ∧
      t = { s with regs := t.regs, mt := t.mt, tim := t.tim, outs := t.outs, xe := t.xe } ∧ (s.ClocksFree → t.xe = s.xe)) ∧
  (∀ (n : Fin 3) (late at_ : Nat) (s : State), s.ownerOf (s.rd R.XE_CLS_CFG_TRIGCH n) = n + 1 → (s.ply n).next = some at_ → s.xeTakes = true →
    s.ClocksFree → s.flag R.XE_CLS_STAT_SKIPNEXT n = true ∨ (s.ply n).phase ≠ 0 →
    ∃ t, exec (.plyTrigger n late) s = .next t ∧ t.rd R.XE_CLS_PLY n = (s.rd R.XE_CLS_PLY n + 1) % 2 ^ 32 ∧
      s.Counted t R.XE_CLS_SKIP_SKIPS n ∧ t.flag R.XE_CLS_STAT_SKIPNEXT n = false ∧ s.Rose t 0x40 (s.rd R.XE_CLS_CFG_TRIGCH n) ∧
      (∀ w : Fin 19, t.ply w = if w.val = n.val then
        { s.ply n with next := (t.ply n).next, aligned := (t.ply n).aligned, reanch := (t.ply n).reanch } else s.ply w) ∧
      ((s.ply n).reanch = false → (t.ply n).next = some (at_ + s.periodNs n)) ∧
      ((s.ply n).reanch = true →
        (t.ply n).next = some (s.firstAt n ((if (s.ply n).aligned = s.usesNet n then at_ else t.baseNow (s.usesNet n)) + s.periodNs n)) ∧
          (t.ply n).reanch = false) ∧
      ((s.ply n).aligned = false → t.NotBefore at_) ∧
      t.rd R.XE_CLS_FF_CONSEC n = s.rd R.XE_CLS_FF_CONSEC n ∧ s.PagesBut t [0x11, 0x40] ∧
      t = { s with regs := t.regs, mt := t.mt, xe := t.xe, tim := t.tim, outs := t.outs }) ∧
  (∀ (n : Fin 3) (late at_ : Nat) (s : State), s.ownerOf (s.rd R.XE_CLS_CFG_TRIGCH n) = n + 1 → (s.ply n).next = some at_ → s.xeTakes = true →
    s.flag R.XE_CLS_STAT_SKIPNEXT n = false → (s.ply n).phase = 0 → s.NoWork → s.xe.ftPend = [] → s.pr.joinLead = false →
    s.winCovered n 0x100 32 →
    ∃ t, exec (.plyTrigger n late) s = .next t ∧ t.rd R.XE_CLS_PLY n = (s.rd R.XE_CLS_PLY n + 1) % 2 ^ 32 ∧
      (t.ply n).phase = 2 ∧ (t.ply n).plyT = t.mt ∧ (t.ply n).num = t.rd R.XE_CLS_PLY n ∧ laneClk (t.ply n).trigAt + 4 ≤ (t.ply n).base ∧
      ((s.ply n).aligned = false → t.NotBefore at_) ∧
      t.xeView.rd R.XE_CLS_STAT_PHASE n = 2 ∧ t.xeView.rd R.XE_ENG_STAT_LEVEL = levelOf n + 1 ∧ s.Rose t 0x40 (s.rd R.XE_CLS_CFG_TRIGCH n) ∧
      t.rd R.XE_CLS_SKIP_SKIPS n = s.rd R.XE_CLS_SKIP_SKIPS n ∧ t.rd R.XE_CLS_FF_CONSEC n = s.rd R.XE_CLS_FF_CONSEC n ∧
      s.PagesBut t [0x10, 0x11, 0x40] ∧
      t = { s with regs := t.regs, mem := t.mem, mt := t.mt, xe := t.xe, pr := t.pr, tim := t.tim, outs := t.outs } ∧
      (if s.biBase s.half (mainPart n) 0 = listNone then s.SameMem t
       else s.MemBut t (instBase + s.biBase s.half (mainPart n) 0 + 0x100) 32)) ∧
  (∀ (n : Fin 3) (s : State), ∃ t, exec (.flagFall n) s = .next t ∧
    if s.mode = 3 ∧ 1 ≤ (s.ply n).phase ∧ (s.ply n).phase ≤ 4 ∧ (s.ply n).fell = false then
      t.NotBefore ((s.ply n).trigAt + s.periodNs n * s.rd R.XE_CLS_CFG_DLPCT n / 100) ∧
        s.Counted t R.XE_CLS_FF_TOTAL n ∧ s.Counted t R.XE_CLS_FF_CONSEC n ∧ t.flag R.XE_CLS_STAT_SKIPNEXT n = true ∧ s.Rose t 0x10 n ∧
        (t.ply n).fell = true ∧ (t.ply n).phase = (s.ply n).phase ∧ (s.ClocksFree → t.ply n = { s.ply n with fell := true }) ∧
        s.RegsBut t ([R.XE_CLS_FF_TOTAL.key n 0 0, R.XE_CLS_FF_CONSEC.key n 0 0, R.XE_CLS_STAT_SKIPNEXT.key n 0 0] ++ evKeys 0x10 ++ tickKeys) ∧
        t = { s with regs := t.regs, mt := t.mt, tim := t.tim, xe := t.xe }
    else t = s)

/-- On the open page, a write of CFG takes EN and TRIGCH, and TBASE, DLPCT, FFLIMIT and REACT where they are in range; a field out of range
keeps its value and records 0x22. Enabling the class places its first trigger at the first instant of R66 at least 10 us ahead and counts
REANCHOR; clearing EN leaves no trigger. A write of PER takes PERIOD in the class's range (else 0x20) and PHASE below the period then in
force (else 0x21); of an enabled class it counts REANCHOR when a value is taken, and the trigger already scheduled stays. That the other
fields of the word take effect beside a refused one is the model's choice. (04_ply.md, R64; 04_ply.md, R66; 04_ply.md, R67; 04_ply.md, R84)
-/
def Obligations.ClassConfiguration : Prop :=
  (∀ (m : BitVec 6) (n : Fin 3) (v : BitVec 32) (s : State), s.Open 0x11 →
    ∃ t, exec (.classCfgWrite m n false v) s = .next t ∧
      t.rd R.XE_CLS_CFG_EN n = nfield v.toNat 0 1 ∧ t.rd R.XE_CLS_CFG_TRIGCH n = nfield v.toNat 4 3 ∧
      t.rd R.XE_CLS_CFG_TBASE n = (if nfield v.toNat 8 2 ≤ 1 then nfield v.toNat 8 2 else s.rd R.XE_CLS_CFG_TBASE n) ∧
      t.rd R.XE_CLS_CFG_DLPCT n = (if 50 ≤ nfield v.toNat 16 7 ∧ nfield v.toNat 16 7 ≤ 100 then nfield v.toNat 16 7 else s.rd R.XE_CLS_CFG_DLPCT n) ∧
      t.rd R.XE_CLS_CFG_FFLIMIT n = (if 1 ≤ nfield v.toNat 24 4 then nfield v.toNat 24 4 else s.rd R.XE_CLS_CFG_FFLIMIT n) ∧
      t.rd R.XE_CLS_CFG_REACT n = (if nfield v.toNat 28 2 ≤ 1 then nfield v.toNat 28 2 else s.rd R.XE_CLS_CFG_REACT n) ∧
      (s.rd R.H_ERR_CODE 0 0x10 = 0 → (2 ≤ nfield v.toNat 8 2 ∨ nfield v.toNat 16 7 < 50 ∨ 100 < nfield v.toNat 16 7 ∨ nfield v.toNat 24 4 = 0 ∨
        2 ≤ nfield v.toNat 28 2) → t.rd R.H_ERR_CODE 0 0x10 = 0x22 ∧ t.rd R.H_ERR_OFFSET 0 0x10 = 0x20 * n) ∧
      (nfield v.toNat 0 1 = 1 → s.flag R.XE_CLS_CFG_EN n = false →
        (t.ply n).next = some (t.firstAt n (t.baseNow (t.usesNet n) + 10000)) ∧ s.Counted t R.XE_CLS_SKIP_REANCHOR n) ∧
      (nfield v.toNat 0 1 = 0 → (t.ply n).next = none) ∧
      s.PagesBut t [0x10, 0x11] ∧ t = { s with regs := t.regs, xe := t.xe }) ∧
  (∀ (m : BitVec 6) (n : Fin 3) (v : BitVec 32) (s : State), s.Open 0x11 →
    ∃ t, exec (.classCfgWrite m n true v) s = .next t ∧
      t.rd R.XE_CLS_PER_PERIOD n = (if (n = 0 ∧ 2 ≤ nfield v.toNat 0 14 ∧ nfield v.toNat 0 14 ≤ 200) ∨
          (n = 1 ∧ 4 ≤ nfield v.toNat 0 14 ∧ nfield v.toNat 0 14 ≤ 400) ∨ (n = 2 ∧ 10 ≤ nfield v.toNat 0 14 ∧ nfield v.toNat 0 14 ≤ 10000)
        then nfield v.toNat 0 14 else s.rd R.XE_CLS_PER_PERIOD n) ∧
      t.rd R.XE_CLS_PER_PHASE n = (if nfield v.toNat 16 14 < t.rd R.XE_CLS_PER_PERIOD n then nfield v.toNat 16 14 else s.rd R.XE_CLS_PER_PHASE n) ∧
      (s.rd R.H_ERR_CODE 0 0x10 = 0 → t.rd R.XE_CLS_PER_PERIOD n ≠ nfield v.toNat 0 14 →
        t.rd R.H_ERR_CODE 0 0x10 = 0x20 ∧ t.rd R.H_ERR_OFFSET 0 0x10 = 0x20 * n + 4) ∧
      (s.flag R.XE_CLS_CFG_EN n = true → nfield v.toNat 16 14 < t.rd R.XE_CLS_PER_PERIOD n → (s.ply n).next ≠ none →
        (t.ply n).next = (s.ply n).next ∧ (t.ply n).reanch = true ∧ s.Counted t R.XE_CLS_SKIP_REANCHOR n) ∧
      s.PagesBut t [0x10, 0x11] ∧ t = { s with regs := t.regs, xe := t.xe })

/-- With the lanes to itself, work w: FREEZE_COMPLETE over an empty list latches the cause word and the station lists, clears those
gathered, writes the freeze status into the windows alone and begins EXECUTE in the error-task or main partition with every lane register of
its level at 0. EXECUTE_COMPLETE with no row left clears the causes that have been seen to in the windows and leads to MIRROR-WAIT where
ranges await the partner's acknowledgment, else to COMMIT, which clears FF.CONSEC of a class that had no flag fall. COMMIT_COMPLETE with one
out-mailbox switches it after writing the output area into its inactive buffer, and touches no other byte. Each comes no earlier than the
clock in which that phase has ended (Table 4.2, R97), and a time-out no earlier than TIMEOUT microseconds of waiting. MIRROR_WAIT_TIMEOUT
raises source 21, counts, ends the partner's synchronisation and begins COMMIT. With no work in that phase (no time-out running) each does
nothing. (04_ply.md, R69; 04_ply.md, R71; 04_ply.md, R72; 04_ply.md, R73; 04_ply.md, R78; 04_ply.md, R81; 05_execution_engine.md, R97) -/
def Obligations.PhasesOfAPly : Prop :=
  (∀ s : State, s.current = none → exec .freezeComplete s = .next s ∧ exec .executeComplete s = .next s ∧ exec .commitComplete s = .next s) ∧
  (∀ (w : Nat) (s : State), s.current = some w → (s.ply w).phase = 2 → s.Alone w → s.xe.warm = none → s.pr.joinLead = false →
    s.freezeList s.half (mainPart w) = listNone →
    (∀ c ∈ upTo (s.hdrLanes s.half), s.biBase s.half (mainPart w) c = listNone ∨ (s.biBase s.half (mainPart w) c + 0x100 ≤ s.instSize ∧
      s.uncovered (s.biBase s.half (mainPart w) c) 0x100 (writerOf w) = [])) →
    ∃ t, exec .freezeComplete s = .next t ∧ (t.ply w).phase = 3 ∧ (t.ply w).base ≤ t.clk ∧ (s.ply w).base + 8 ≤ t.clk ∧ (t.ply w).causeF = (s.ply w).causeF ||| (s.ply w).cause ∧
      (t.ply w).lostF = (s.ply w).lostF ||| (s.ply w).lost ∧ (t.ply w).backF = (s.ply w).backF ||| (s.ply w).back ∧
      (t.ply w).cause = 0 ∧ (t.ply w).lost = 0 ∧ (t.ply w).back = 0 ∧
      (if w < 3 ∧ (t.ply w).causeF ≠ 0 ∧ s.desc s.half (2 * w + 1) 4 4 ≠ 0 then
        (t.seq (levelOf w)).part = 2 * w + 1 ∧ (t.seq (levelOf w)).row = s.desc s.half (2 * w + 1) 0 4 ∧
          ∀ c ∈ upTo 4, ∀ r ∈ upTo 64, t.lane (levelOf w) c r = 0
       else if s.desc s.half (mainPart w) 4 4 ≠ 0 then
        (t.seq (levelOf w)).part = mainPart w ∧ (t.seq (levelOf w)).row = s.desc s.half (mainPart w) 0 4 ∧
          ∀ c ∈ upTo 4, ∀ r ∈ upTo 64, t.lane (levelOf w) c r = 0
       else (t.seq (levelOf w)).ended = true) ∧
      s.PagesBut t [0x10, 0x11, 0x40] ∧ t = { s with regs := t.regs, mem := t.mem, mt := t.mt, tim := t.tim, xe := t.xe } ∧
      s.MemWhere t fun a => ∀ c ∈ upTo (s.hdrLanes s.half), s.biBase s.half (mainPart w) c ≠ listNone →
        a < instBase + s.biBase s.half (mainPart w) c ∨ instBase + s.biBase s.half (mainPart w) c + 0x100 ≤ a) ∧
  (∀ (w : Nat) (s : State), s.current = some w → (s.ply w).phase = 3 → s.Alone w → (s.seq (levelOf w)).ended = true →
    (s.seq (levelOf w)).follows = false → (s.seq (levelOf w)).flight = [] → s.pr.finalW ≠ w + 1 → s.pr.joinLead = false →
    (∀ c ∈ upTo (s.hdrLanes s.half), s.biBase s.half (mainPart w) c = listNone ∨ (s.biBase s.half (mainPart w) c + 0x100 ≤ s.instSize ∧
      s.uncovered (s.biBase s.half (mainPart w) c) 0x100 (writerOf w) = [])) →
    ∃ t, exec .executeComplete s = .next t ∧ (t.ply w).execEnd ≤ t.mt ∧ s.drainClk w ≤ t.clk ∧
      (if s.mode = 3 ∧ s.flag R.PAIR_STAT_PSYNC = true ∧ s.ranges (writerOf w) ≠ [] ∧ (s.ply w).acked = false then
        (t.ply w).phase = 4 ∧ s.RegsBut t tickKeys
       else (t.ply w).phase = 5 ∧ t.rd R.XE_MW_STAT_LASTTAIL = 0 ∧ (w < 3 → (s.ply w).fell = false → t.rd R.XE_CLS_FF_CONSEC w = 0)) ∧
      s.PagesBut t [0x10, 0x11, 0x40] ∧
      t = { s with regs := t.regs, mem := t.mem, mt := t.mt, tim := t.tim, outs := t.outs, pr := t.pr, xe := t.xe } ∧
      s.MemWhere t fun a => ∀ c ∈ upTo (s.hdrLanes s.half), s.biBase s.half (mainPart w) c ≠ listNone →
        a < instBase + s.biBase s.half (mainPart w) c ∨ instBase + s.biBase s.half (mainPart w) c + 0x100 ≤ a) ∧
  (∀ (w : Nat) (e : ListEntry) (s : State), s.current = some w → (s.ply w).phase = 5 → s.Alone w → w ≠ 1 →
    w < 3 → s.biBase s.half (mainPart w) 0 = listNone → s.listAt s.half (s.commitList s.half (mainPart w)) = [e] → (s.ply w).fell = false → (s.ply w).pos = 0 →
    (s.seq (levelOf w)).flight = [] → s.rd R.XE_SM_STAT_STATE ≠ 3 → s.pr.finalW ≠ w + 1 →
    ∃ t, exec .commitComplete s = .next t ∧ (t.ply w).phase = 0 ∧ (s.ply w).base + 10 + e.lines ≤ t.clk ∧
      t.rd R.XE_CLS_LASTDUR w = min (2 ^ 32 - 1) ((t.mt - (s.ply w).trigAt) / 10) ∧
      (nbit (s.rd R.XE_ENG_PCSEL_CLS) w = true → s.Rose t 0x10 4) ∧
      t.rb (mboxBase e.seg e.st + 0x602) = (if s.rb (mboxBase e.seg e.st + 0x602) = 0 then 1 else 0) ∧
      (∀ i ∈ upTo (16 * e.lines), t.rb (mboxBase e.seg e.st + 0x800 + 0x100 * (1 - (s.rb (mboxBase e.seg e.st + 0x602)).toNat % 2) + i) =
        s.forced (e.area + i) (s.rb (instBase + e.area + i))) ∧
      (s.MemWhere t fun a => a ≠ mboxBase e.seg e.st + 0x602 ∧
        (a < mboxBase e.seg e.st + 0x800 + 0x100 * (1 - (s.rb (mboxBase e.seg e.st + 0x602)).toNat % 2) ∨
          mboxBase e.seg e.st + 0x800 + 0x100 * (1 - (s.rb (mboxBase e.seg e.st + 0x602)).toNat % 2) + 16 * e.lines ≤ a)) ∧
      s.RegsBut t ([R.XE_CLS_LASTDUR.key w 0 0, R.XE_CLS_MAXDUR.key w 0 0, R.RMT_ST_OUTEN.key e.st e.seg 0] ++ evKeys 0x10 ++ tickKeys)) ∧
  (∀ (w : Fin 19) (late at_ : Nat) (s : State), (s.ply w).since = some at_ → (s.ply w).phase = 4 → (s.ply w).acked = false → s.Alone w →
    (s.seq (levelOf w)).flight = [] → s.mode = 3 → s.safe = false → s.ncp.forceGo = none → s.ncp.sealGo = none → s.pr.finalW ≠ w + 1 →
    ∃ t, exec (.mirrorWaitTimeout w late) s = .next t ∧ (t.ply w).phase = 5 ∧ s.Counted t R.XE_MW_STAT_TIMEOUTS ∧ s.Rose t 0x10 5 ∧
      t.NotBefore (at_ + (s.rd R.XE_MW_CFG_TIMEOUT * 1000 - (s.ply w).ran)) ∧
      t.flag R.PAIR_STAT_PSYNC = false ∧ (w.val < 3 → nbit (t.ply w).cause 3 = true) ∧ s.PagesBut t [0x10, 0x11, 0x3A, 0x40] ∧
      t = { s with regs := t.regs, mt := t.mt, tim := t.tim, xe := t.xe }) ∧
  (∀ (w : Fin 19) (late : Nat) (s : State), (s.ply w).since = none → exec (.mirrorWaitTimeout w late) s = .next s)

/-- ET_TRIG_WRITE of one bit does nothing unless XE takes triggers and the task is enabled; during a switch it is held; else the task is
pending, and the trigger is coalesced when the task was pending or running already or MININT does not permit its start yet.
EVENT_TASK_TRIGGER has the same effect where the source that SRC names asserts, and none where it does not. EVENT_TASK_START with the lanes
free starts the lowest-numbered pending task that may start: it is pending no more, in FREEZE, with its start MT as PLY_T; with no such task
it does nothing. (04_ply.md, R82; 04_ply.md, R83; 07_sealed_move.md, R152) -/
def Obligations.EventTasks : Prop :=
  (∀ (m : BitVec 6) (k : Fin 16) (s : State), s.Open 0x11 → ∃ t, exec (.etTrigWrite m (BitVec.ofNat 32 (2 ^ k.val))) s = .next t ∧
    if s.xeTakes = false ∨ s.flag R.XE_ET_CFG_EN k = false then t = s
    else if s.rd R.XE_SM_STAT_STATE = 4 then t = { s with xe := { s.xe with held := s.xe.held ++ [k.val] } }
    else nbit (t.rd R.XE_ET_PEND) k = true ∧
      t.rd R.XE_ET_COAL = (if nbit (s.rd R.XE_ET_PEND) k = true ∨ (s.ply (k + 3)).phase ≠ 0 ∨
        ((s.ply (k + 3)).startAt ≠ 0 ∧ s.mt < (s.ply (k + 3)).startAt + s.rd R.XE_ET_CFG_MININT k * 10000)
        then (s.rd R.XE_ET_COAL + 1) % 2 ^ 32 else s.rd R.XE_ET_COAL) ∧
      (∀ j : Fin 16, j ≠ k → nbit (t.rd R.XE_ET_PEND) j = nbit (s.rd R.XE_ET_PEND) j) ∧
      ((s.ply (k + 3)).phase = 0 → (t.ply (k + 3)).trigAt = s.mt) ∧ (∀ w : Fin 19, w.val ≠ k.val + 3 → t.ply w = s.ply w) ∧
      s.RegsBut t [R.XE_ET_PEND.key 0 0 0, R.XE_ET_COAL.key 0 0 0] ∧ t = { s with regs := t.regs, xe := t.xe }) ∧
  (∀ (m : BitVec 6) (k : Fin 16) (s : State), s.Open 0x11 → s.asserts (s.rd R.XE_ET_CFG_SRC k) = true →
    exec (.eventTaskTrigger k) s = exec (.etTrigWrite m (BitVec.ofNat 32 (2 ^ k.val))) s) ∧
  (∀ (k : Fin 16) (s : State), s.asserts (s.rd R.XE_ET_CFG_SRC k) = false → exec (.eventTaskTrigger k) s = .next s) ∧
  (∀ (rows : Nat) (s : State), s.nextTask = none → exec (.eventTaskStart rows) s = .next s) ∧
  (∀ (rows k : Nat) (s : State), s.nextTask = some k → (∀ v ∈ workOrder, (s.ply v).phase = 0) →
    (∀ v ∈ allLevels, (s.seq v).flight = []) → s.pr.esc = false → s.xe.ftPend = [] → s.winCovered (k + 3) 0x100 32 → s.pr.joinLead = false →
    ∃ t, exec (.eventTaskStart rows) s = .next t ∧ (t.ply (k + 3)).phase = 2 ∧ (t.ply (k + 3)).plyT = t.mt ∧
      (t.ply (k + 3)).startAt = t.mt ∧ (s.ply (k + 3)).ready + 4 ≤ (t.ply (k + 3)).base ∧
      nbit (t.rd R.XE_ET_PEND) k = false ∧ t.xeView.rd R.XE_ET_RUN = 2 ^ k ∧ t.xeView.rd R.XE_ENG_STAT_LEVEL = 2 ∧
      (∀ j : Fin 16, nbit (s.rd R.XE_ET_PEND) j = true → s.flag R.XE_ET_CFG_EN j = true → s.taskPermitted j = true → k ≤ j) ∧
      s.PagesBut t [0x10, 0x11, 0x40] ∧ t = { s with regs := t.regs, mem := t.mem, mt := t.mt, tim := t.tim, xe := t.xe, pr := t.pr } ∧
      (if s.biBase s.half (mainPart (k + 3)) 0 = listNone then s.SameMem t
       else s.MemBut t (instBase + s.biBase s.half (mainPart (k + 3)) 0 + 0x100) 32))

/-- SCHEDULE_FAULT and XE_LOCKSTEP_ERROR, met by the work in EXECUTE before its next row and with no result in flight: the first one since
reset is described in SF.INFO or LS.INFO, the count goes up, every ply and task is abandoned, SAF records cause 0x04 or 0x03 and drives the
safe state, and, with RSTALL 0, the module is in HOLD with HOLDCAUSE 4 with its outputs at 0; no byte of memory changes. With no work in
progress both do nothing. LS_INJECT outside SERVICE is refused with 0x27; in SERVICE, with bit 4, it has the reaction of a sequencer
mismatch; with all zeros it does nothing. (05_execution_engine.md, R100; 05_execution_engine.md, R110; 05_execution_engine.md, R113;
05_execution_engine.md, R114; 21_safety.md, R430) -/
def Obligations.EngineFaults : Prop :=
  (∀ (kind : Fin 9) (col : Fin 4) (w : Nat) (s : State), s.current = some w → (s.ply w).phase = 3 → (∀ v ∈ allLevels, (s.seq v).flight = []) →
    (s.seq (levelOf w)).ended = false → s.clk < s.rowClk w → s.sys.resetHeld = false →
    s.mode = 3 → s.flag R.SAF_CFG_RSTALL = false → s.pr.esc = false →
    ∃ t, exec (.scheduleFault 0 kind col) s = .next t ∧ t.mode = 4 ∧ t.rd R.SYS_MODE_HOLDCAUSE = 4 ∧ t.safe = true ∧ t.dqDrive = 0 ∧
      s.Counted t R.XE_SF_COUNT ∧ nbit (t.rd R.SAF_CAUSES) 3 = true ∧ s.Counted t R.SAF_COUNT_SF ∧
      (s.rd R.XE_SF_INFO_KIND = 0 → t.rd R.XE_SF_INFO_ROW = (s.seq (levelOf w)).row % 2 ^ 20 ∧
        (if s.hdrUsed s.half < 64 + ((s.seq (levelOf w)).row + 1) * s.hdrLanes s.half then t.rd R.XE_SF_INFO_KIND = 8
         else t.rd R.XE_SF_INFO_KIND = kind + 1 ∧ t.rd R.XE_SF_INFO_COL = col)) ∧ s.rowClk w ≤ t.clk ∧
      (∀ v ∈ workOrder, (t.ply v).phase = 0) ∧ s.SameMem t) ∧
  (∀ (unit : Fin 5) (dest : BitVec 32) (w : Nat) (s : State), s.current = some w → (s.ply w).phase = 3 → (∀ v ∈ allLevels, (s.seq v).flight = []) →
    (s.seq (levelOf w)).ended = false → s.clk < s.rowClk w → s.sys.resetHeld = false →
    s.mode = 3 → s.flag R.SAF_CFG_RSTALL = false → s.pr.esc = false →
    ∃ t, exec (.xeLockstepError 0 unit dest) s = .next t ∧ t.mode = 4 ∧ t.rd R.SYS_MODE_HOLDCAUSE = 4 ∧ t.safe = true ∧ t.dqDrive = 0 ∧
      s.Counted t R.XE_LS_COUNT ∧ nbit (t.rd R.SAF_CAUSES) 2 = true ∧ s.Rose t 0x05 2 ∧
      (s.rd R.XE_LS_COUNT = 0 → t.rd R.XE_LS_INFO_UNIT = unit ∧ t.rd R.XE_LS_INFO_LEVEL = levelOf w + 1 ∧
        (unit ≠ 4 → t.rd R.XE_LS_DEST = dest.toNat)) ∧
      (∀ v ∈ workOrder, (t.ply v).phase = 0) ∧ s.SameMem t) ∧
  (∀ (rows : Nat) (kind : Fin 9) (col : Fin 4) (unit : Fin 5) (dest : BitVec 32) (s : State), s.NoWork →
    exec (.scheduleFault rows kind col) s = .next s ∧ exec (.xeLockstepError rows unit dest) s = .next s) ∧
  (∀ (m : BitVec 6) (v : BitVec 32) (s : State), s.Open 0x12 → s.mode ≠ 5 →
    ∃ t, exec (.lsInject m v) s = .next t ∧ s.Refused t 0x12 0x27 0x018) ∧
  (∀ (m : BitVec 6) (s : State), s.Open 0x12 → s.mode = 5 → exec (.lsInject m 0) s = .next s) ∧
  (∀ (m : BitVec 6) (s : State), s.Open 0x12 → s.mode = 5 → s.flag R.SAF_CFG_RSTALL = false → s.sys.resetHeld = false →
    ∃ t, exec (.lsInject m 0x10) s = .next t ∧ t.mode = 4 ∧ t.rd R.SYS_MODE_HOLDCAUSE = 4 ∧ t.safe = true ∧ s.Counted t R.XE_LS_COUNT ∧
      (s.rd R.XE_LS_COUNT = 0 → t.rd R.XE_LS_INFO_UNIT = 4 ∧ t.rd R.XE_LS_INFO_LEVEL = 4) ∧ s.Rose t 0x05 2 ∧ s.SameMem t)

/-- A write of MM.CTRL with ACTIVATE stores SEL and no more while an activation runs, or where firmware finds a program above the mirror
volume of one link; else, in START, HOLD, SERVICE or TRACK unsynchronised, begins the checks of that half; in any other mode it records
0x25. ACTIVATION_COMPLETE stores the first failed check, 0 for none, and VALID; with a failed check it records 0x26, or 0x24 for check 10,
and the active half stays; with none that half is active, its lane pairs are allocated, and LAYOUT shows its LAYOUTID. No byte of memory
changes. With no activation under way it does nothing. (05_execution_engine.md, R103; 05_execution_engine.md, Table 5.5;
05_execution_engine.md, R115) -/
def Obligations.Activation : Prop :=
  (∀ (m : BitVec 6) (sel : Fin 2) (s : State), s.Open 0x10 →
    ∃ t, exec (.activate m sel) s = .next t ∧ t.rd R.XE_MM_CTRL_SEL = sel ∧
      if s.act ≠ 0 ∨ (m.toNat < 2 ∧ s.volumeShown = true) then s.OnlyRegs t [R.XE_MM_CTRL_SEL.key 0 0 0, R.H_CFGGEN.key 0 0x10 0]
      else if s.mode = 1 ∨ s.mode = 4 ∨ s.mode = 5 ∨ (s.mode = 2 ∧ s.flag R.SYS_MODE_SYNC = false) then
        t.act = sel + 1 ∧ s.RegsBut t [R.XE_MM_CTRL_SEL.key 0 0 0, R.H_CFGGEN.key 0 0x10 0] ∧ t = { s with regs := t.regs, act := t.act }
      else s.Recorded t 0x10 0x25 0x110 ∧ s.OnlyRegs t (R.XE_MM_CTRL_SEL.key 0 0 0 :: R.H_CFGGEN.key 0 0x10 0 :: errKeys 0x10)) ∧
  (∀ s : State, s.act = 0 → exec .activationComplete s = .next s) ∧
  (∀ (h : Fin 2) (s : State), s.act = h + 1 → s.rd R.PAIR_SYNC_STAT_PHASE ≠ 1 →
    ∃ t, exec .activationComplete s = .next t ∧ t.act = 0 ∧ t.rd R.XE_MM_HDR_CHECK h = s.halfCheck h ∧
      t.flag R.XE_MM_HDR_VALID h = (s.halfCheck h == 0) ∧
      (if s.halfCheck h = 0 then
        t.half = h ∧ t.rd R.XE_ENG_STAT_LANES = 2 ^ s.hdrLanes h - 1 ∧ t.layoutId = s.hdr h 0x010 16 ∧
          t.rd R.XE_LAYOUT_MIRRORFMT = s.hdr h 0x020 2
       else t.half = s.half ∧ s.Recorded t 0x10 (if s.halfCheck h = 10 then 0x24 else 0x26) 0x110 ∧
        s.RegsBut t ([R.XE_MM_HDR_CHECK.key h 0 0, R.XE_MM_HDR_VALID.key h 0 0, R.XE_ENG_STAT_STAGEDOK.key 0 0 0] ++ errKeys 0x10)) ∧
      s.PagesBut t [0x01, 0x10, 0x13] ∧ t = { s with regs := t.regs, act := 0 })

/-- On the open page, VERIFY stores DIR; while a verification runs that is all; in LEAD, TRACK or HOLD and from IDLE or VERIFIED it leads to
VERIFYING, else it records 0x28. The end of a verification stores the first failed check of Table 7.4: VERIFIED with none, else IDLE with
0x26, or 0x24 for check 10. ARM stores DIR and, in LEAD, HOLD or synchronised TRACK and from VERIFIED or, with REVOK, against the last
switch's direction, leads to ARMED in that direction; a lead whose ply P has passed counts a lapse at once; else 0x28. CANCEL of an armed
seal leads back to VERIFIED, or to IDLE where it was armed on REVOK, counts LAPSES and raises source 23; CANCEL in any other state records
0x28. SEAL_LAPSE is the next trigger of SEALCLS in a lead armed for a ply that has passed, and nothing else: the trigger that starts the ply
lapses the seal in the same way. (07_sealed_move.md, R147; 07_sealed_move.md, R150; 07_sealed_move.md, R151; 07_sealed_move.md, R155;
07_sealed_move.md, Table 7.7; 07_sealed_move.md, Table 7.8) -/
def Obligations.SealVerifyArmCancel : Prop :=
  (∀ (m : BitVec 6) (dir : Bool) (s : State), s.Open 0x10 →
    ∃ t, exec (.smVerify m dir) s = .next t ∧ t.flag R.XE_SM_CTRL_DIR = dir ∧ s.PagesBut t [0x01, 0x10] ∧ s.RegsAlone t ∧
      if s.rd R.XE_SM_STAT_STATE = 1 then s.OnlyRegs t [R.XE_SM_CTRL_DIR.key 0 0 0, R.H_CFGGEN.key 0 0x10 0]
      else if (s.mode = 2 ∨ s.mode = 3 ∨ s.mode = 4) ∧ (s.rd R.XE_SM_STAT_STATE = 0 ∨ s.rd R.XE_SM_STAT_STATE = 2) then
        t.rd R.XE_SM_STAT_STATE = 1 ∧ ∀ c ∈ upTo (min s.lanePairs (s.hdrLanes (1 - s.half))), nbit (t.rd R.PWR_DOMAIN_XE) c = true
      else t.rd R.XE_SM_STAT_STATE = s.rd R.XE_SM_STAT_STATE ∧ s.Recorded t 0x10 0x28 0x140) ∧
  (∀ s : State, s.rd R.XE_SM_STAT_STATE ≠ 1 → exec .smVerifyComplete s = .next s) ∧
  (∀ s : State, s.rd R.XE_SM_STAT_STATE = 1 → s.ncp.verify = none →
    ∃ t, exec .smVerifyComplete s = .next t ∧ t.rd R.XE_SM_STAT_VCHECK = s.verifyCheck ∧
      t.rd R.XE_MM_HDR_CHECK (1 - s.half) = s.halfCheck (1 - s.half) ∧
      (if s.verifyCheck = 0 then t.rd R.XE_SM_STAT_STATE = 2
       else t.rd R.XE_SM_STAT_STATE = 0 ∧ s.Recorded t 0x10 (if s.verifyCheck = 10 then 0x24 else 0x26) 0x140) ∧
      s.PagesBut t [0x10] ∧ s.RegsAlone t) ∧
  (∀ (m : BitVec 6) (dir : Bool) (s : State), s.Open 0x10 → s.ncp.seal_ = none → s.ncp.sealGo = none → s.flag R.PAIR_STAT_PSYNC = false →
    ∃ t, exec (.smArm m dir) s = .next t ∧ t.flag R.XE_SM_CTRL_DIR = dir ∧ s.PagesBut t [0x10] ∧
      t = { s with regs := t.regs, xe := { s.xe with sl := t.xe.sl } } ∧
      if (s.mode = 3 ∨ s.mode = 4 ∨ (s.mode = 2 ∧ s.flag R.PAIR_STAT_SYNC = true)) ∧ (s.rd R.XE_SM_STAT_STATE = 2 ∨
          (s.rd R.XE_SM_STAT_STATE = 0 ∧ s.flag R.XE_SM_STAT_REVOK = true ∧ s.rd R.XE_SM_STAT_LAST = (if dir then 1 else 2))) then
        t.xe.sl.rev = dir ∧ t.xe.sl.passed = false ∧
        if s.mode = 3 ∧ s.sealPassed = true then
          t.rd R.XE_SM_STAT_STATE = s.rd R.XE_SM_STAT_STATE ∧ s.Counted t R.XE_SM_COUNT_LAPSES ∧ s.Rose t 0x10 7
        else t.rd R.XE_SM_STAT_STATE = 3
      else t.rd R.XE_SM_STAT_STATE = s.rd R.XE_SM_STAT_STATE ∧ s.Recorded t 0x10 0x28 0x140 ∧ s.xe = t.xe) ∧
  (∀ (m : BitVec 6) (s : State), s.Open 0x10 → s.ncp.seal_ = none → s.ncp.sealGo = none → s.flag R.PAIR_STAT_PSYNC = false →
    ∃ t, exec (.smCancel m) s = .next t ∧
      if s.rd R.XE_SM_STAT_STATE = 3 then
        t.rd R.XE_SM_STAT_STATE = (if s.xe.sl.fromVerified then 2 else 0) ∧ s.Counted t R.XE_SM_COUNT_LAPSES ∧ s.Rose t 0x10 7 ∧
          s.OnlyRegs t ([R.XE_SM_STAT_STATE.key 0 0 0, R.XE_SM_COUNT_LAPSES.key 0 0 0] ++ evKeys 0x10)
      else s.Refused t 0x10 0x28 0x140) ∧
  (∀ s : State, s.mode ≠ 3 ∨ s.rd R.XE_SM_STAT_STATE ≠ 3 ∨ s.sealPassed = false → exec .sealLapse s = .next s) ∧
  (∀ (n : Fin 3) (s : State), s.mode = 3 → s.rd R.XE_SM_STAT_STATE = 3 → s.rd R.XE_SM_CLS = n + 1 → s.sealPassed = true →
    exec .sealLapse s = exec (.plyTrigger n 0) s) ∧
  (∀ (n : Fin 3) (at_ : Nat) (s : State), s.mode = 3 → s.rd R.XE_SM_STAT_STATE = 3 → s.rd R.XE_SM_CLS = n + 1 → s.rd R.XE_SM_PLY = s.rd R.XE_CLS_PLY n →
    s.ownerOf (s.rd R.XE_CLS_CFG_TRIGCH n) = n + 1 ∧ (s.ply n).next = some at_ ∧ s.xeTakes = true ∧ s.flag R.XE_CLS_STAT_SKIPNEXT n = false →
    (s.ply n).phase = 0 ∧ s.NoWork ∧ s.xe.ftPend = [] ∧ s.pr.joinLead = false ∧ s.flag R.PAIR_STAT_PSYNC = false ∧ s.ncp.seal_ = none ∧
      s.ncp.sealGo = none ∧ s.winCovered n 0x100 32 →
    ∃ t, exec .sealLapse s = .next t ∧ t.rd R.XE_SM_STAT_STATE = (if s.xe.sl.fromVerified then 2 else 0) ∧ s.Counted t R.XE_SM_COUNT_LAPSES ∧
      s.Rose t 0x10 7 ∧ (t.ply n).phase = 2 ∧ t.half = s.half)

/-- SWITCH_BEGIN does nothing unless the seal is ARMED and the module is in HOLD, or leads with its gap free; SWITCH_MARKER_RECEIVED nothing
unless it is ARMED in synchronised TRACK. Else, with no force write pending and no marker to send, a running checkpoint is given up, the
state is SWITCHING and T_SW is that of the armed map: with an empty map no byte changes, and with one COPY descriptor whose ranges are apart
the destination takes the source's bytes under the force table and no other byte changes. SWITCH_END in SWITCHING comes T_SW after its begin
at the earliest; with no cartridge in use, no staged force and nothing that waited: the other half is active, the mirror lists and the force
tables have changed places, cause bit 5 is set in every class, REVOK is 1, LAST gives the direction, SWITCHES counts, LASTSW shows T_SW,
source 22 is raised, the state is IDLE, and no byte of memory changes; in any other state it does nothing. (07_sealed_move.md, R145;
07_sealed_move.md, R146; 07_sealed_move.md, R150; 07_sealed_move.md, R151; 07_sealed_move.md, R152; 07_sealed_move.md, R154;
07_sealed_move.md, R155; 07_sealed_move.md, Table 7.3) -/
def Obligations.TheSwitch : Prop :=
  (∀ s : State, s.rd R.XE_SM_STAT_STATE ≠ 3 ∨ ((s.mode ≠ 3 ∨ s.sealGap = false) ∧ s.mode ≠ 4) → exec .switchBegin s = .next s) ∧
  (∀ s : State, s.rd R.XE_SM_STAT_STATE ≠ 3 ∨ s.mode ≠ 2 ∨ s.flag R.PAIR_STAT_SYNC = false → exec .switchMarkerReceived s = .next s) ∧
  (∀ s : State, s.rd R.XE_SM_STAT_STATE = 3 → s.xe.ftPend = [] → s.flag R.PAIR_STAT_PSYNC = false → s.pr.joinLead = false →
    ∀ c ∈ [Instr.switchBegin, .switchMarkerReceived], (c = .switchBegin ∧ ((s.mode = 3 ∧ s.sealGap = true) ∨ s.mode = 4)) ∨
      (c = .switchMarkerReceived ∧ s.mode = 2 ∧ s.flag R.PAIR_STAT_SYNC = true) →
    ∃ t, exec c s = .next t ∧ t.rd R.XE_SM_STAT_STATE = 4 ∧ t.xe.sl.took = tswOf (s.mapDescs s.xe.sl.rev) ∧
      (s.mapCount s.xe.sl.rev = 0 → s.SameMem t) ∧
      (s.mapCount s.xe.sl.rev = 1 → ∀ d ∈ s.mapDescs s.xe.sl.rev, d.conv = 0 → d.len % 4 = 0 → meets d.dst d.len d.src d.len = false →
        (∀ i ∈ upTo d.len, t.rb (instBase + d.dst + i) = s.forced (d.dst + i) (s.rb (instBase + d.src + i))) ∧
        s.MemBut t (instBase + d.dst) d.len) ∧
      t.crt.ck = none ∧ s.RegsBut t [R.XE_SM_STAT_STATE.key 0 0 0, R.XE_SM_CRC.key 0 0 0, R.CRT_STAT_CKPT.key 0 0 0] ∧
      t = { s with regs := t.regs, mem := t.mem, crt := t.crt, xe := { s.xe with sl := t.xe.sl } }) ∧
  (∀ s : State, s.rd R.XE_SM_STAT_STATE ≠ 4 → exec .switchEnd s = .next s) ∧
  (∀ s : State, s.rd R.XE_SM_STAT_STATE = 4 → (∀ v ∈ workOrder, (s.ply v).phase = 0) → s.rd R.XE_ET_PEND = 0 → s.pr.esc = false →
    s.crtActive = false → s.xe.staged = [] → s.xe.held = [] → s.pr.queued = [] → s.ncp.seal_ = none → s.half ≤ 1 →
    ∃ t, exec .switchEnd s = .next t ∧ t.half = 1 - s.half ∧ t.layoutId = s.hdr (1 - s.half) 0x010 16 ∧
      t.pr.active = s.pr.staged ∧ t.pr.staged = s.pr.active ∧ t.xe.forces = [] ∧ t.xe.staged = s.xe.forces ∧
      (∀ n : Fin 3, nbit (t.ply n).cause 5 = true) ∧ t.rd R.XE_SM_STAT_STATE = 0 ∧ t.flag R.XE_SM_STAT_REVOK = true ∧
      t.rd R.XE_SM_STAT_LAST = (if s.xe.sl.rev then 2 else 1) ∧ t.rd R.XE_SM_COUNT_SWITCHES = (s.rd R.XE_SM_COUNT_SWITCHES + 1) % 2 ^ 16 ∧
      t.rd R.XE_SM_LASTSW = s.xe.sl.took / 10 % 2 ^ 32 ∧ s.Rose t 0x10 6 ∧ t.NotBefore (s.xe.sl.since + s.xe.sl.took) ∧
      s.PagesBut t [0x01, 0x10, 0x11, 0x12, 0x13, 0x40] ∧ s.SameMem t)

/-- On the open page, FT WRITE while ARMED or SWITCHING records 0x29; of an entry whose offset is not aligned, outside memory, forced by
another valid entry, or in the retain area with no MASK bit, 0x2A; of the staged table it stores the entry, and of the active table it waits
for its effect with PEND at 1. FT READ shows the entry in the staging registers. FORCE_APPLY with nothing pending does nothing; with one
valid write pending, to a granule that no other entry forces, the entry is active and the 16 bytes of its granule carry VALUE where MASK is
1, and FORCED in quality bit 6 of a tagged value, and no other byte changes. (07_sealed_move.md, R156; 07_sealed_move.md, R157;
07_sealed_move.md, R158; 07_sealed_move.md, R162) -/
def Obligations.ForceTable : Prop :=
  (∀ (m : BitVec 6) (s : State), s.Open 0x12 →
    ∃ t, exec (.forceTableWrite m) s = .next t ∧
      if s.rd R.XE_SM_STAT_STATE = 3 ∨ s.rd R.XE_SM_STAT_STATE = 4 then s.Refused t 0x12 0x29 0x130
      else if s.ftOk (s.flag R.XE_FT_INDEX_TABLE) (s.rd R.XE_FT_INDEX_ENTRY) s.ftStaging = false then s.Refused t 0x12 0x2A 0x130
      else if s.flag R.XE_FT_INDEX_TABLE = true then
        smGet Force.none t.xe.staged (s.rd R.XE_FT_INDEX_ENTRY) = s.ftStaging ∧
          (∀ i : Fin 1024, i.val ≠ s.rd R.XE_FT_INDEX_ENTRY → smGet Force.none t.xe.staged i = smGet Force.none s.xe.staged i) ∧
          t = { s with xe := { s.xe with staged := t.xe.staged } }
      else t.xe.ftPend = s.xe.ftPend ++ [(s.rd R.XE_FT_INDEX_ENTRY, s.ftStaging)] ∧ t.flag R.XE_FT_STAT_PEND = true ∧
        s.RegsBut t [R.XE_FT_STAT_PEND.key 0 0 0, R.XE_FT_STAT_USED.key 0 0 0] ∧
        t = { s with regs := t.regs, xe := { s.xe with ftPend := t.xe.ftPend } }) ∧
  (∀ s : State, s.ftOk false (s.rd R.XE_FT_INDEX_ENTRY) s.ftStaging = true → s.rd R.XE_FT_ADDR_OFFSET % 16 = 0 ∧
    s.rd R.XE_FT_ADDR_OFFSET + 16 ≤ s.instSize) ∧
  (∀ (m : BitVec 6) (s : State), s.Open 0x12 →
    (smGet Force.none (if s.flag R.XE_FT_INDEX_TABLE then s.xe.staged else s.xe.forces) (s.rd R.XE_FT_INDEX_ENTRY)).Fits →
    ∃ t, exec (.forceTableRead m) s = .next t ∧
      t.ftStaging = smGet Force.none (if s.flag R.XE_FT_INDEX_TABLE then s.xe.staged else s.xe.forces) (s.rd R.XE_FT_INDEX_ENTRY) ∧
      s.PagesBut t [0x12] ∧ s.RegsAlone t) ∧
  (∀ s : State, s.xe.ftPend = [] → exec .forceApply s = .next s) ∧
  (∀ s : State, s.xe.ftPend ≠ [] → ∀ p ∈ s.xe.ftPend, s.xe.ftPend = [p] → p.2.valid = true → p.2.offset % 16 = 0 →
    (∀ e ∈ s.xe.forces, e.1 ≠ p.1 → e.2.valid = true → e.2.offset ≠ p.2.offset) →
    ∃ t, exec .forceApply s = .next t ∧ t.xe.forces = smSet Force.none s.xe.forces p.1 p.2 ∧ t.xe.ftPend = [] ∧
      t.flag R.XE_FT_STAT_PEND = false ∧
      (∀ j : Fin 16, t.rb (instBase + p.2.offset + j) = p.2.byte j (s.rb (instBase + p.2.offset + j))) ∧
      s.MemBut t (instBase + p.2.offset) 16 ∧ s.RegsBut t [R.XE_FT_STAT_PEND.key 0 0 0, R.XE_FT_STAT_USED.key 0 0 0])

/-- A product term selects literals true or complemented and is 1 just where it selects one, every literal selected true is 1 and every one
selected complemented is 0; so a term that selects none, or one both ways, is 0. A sum is the OR of its selected terms, inverted by INV; one
that selects none is 0 before inversion. A pass of a running, locked trip engine takes the literals of Table 8.1, and its sums drive Table
8.2: 0-15 the local output commands that are assigned where the mode does not keep the outputs off, 16-79 the reflex outputs outside the
safe state and HOLD with HOLDCAUSE 4, 80-95 SWOUT, 96-111 the F bits, all at its last clock, 80 ns on. Without a lock, or in a held reset,
no pass runs. No byte of memory and no page but TE's changes, the clocks apart. (R164) -/
def Obligations.MatrixTermsSumsAndOutputs : Prop :=
  (∀ (lits : Nat) (k : Fin 512) (s : State), nbit (s.teTerms lits) k =
    (decide (∃ i : Fin 176, nbit (s.teTrue k) i = true ∨ nbit (s.teComp k) i = true) &&
      decide (∀ i : Fin 176, (nbit (s.teTrue k) i = true → nbit lits i = true) ∧ (nbit (s.teComp k) i = true → nbit lits i = false)))) ∧
  (∀ (terms : Nat) (k : Fin 112) (s : State), terms < 2 ^ 512 → nbit (s.teSums terms) k =
    (decide (∃ j : Fin 512, nbit (s.teSumMask k) j = true ∧ nbit terms j = true) != s.teInv k)) ∧
  (∀ (di : BitVec 32) (s : State), s.running 0x18 = false ∨ s.flag R.TE_CFGSTAT_LOCKED = false ∨ s.sys.resetHeld = true →
    exec (.tePass di) s = .next s) ∧
  (∀ (di : BitVec 32) (s : State), s.running 0x18 = true → s.flag R.TE_CFGSTAT_LOCKED = true → s.sys.resetHeld = false →
    ∃ t, exec (.tePass di) s = .next t ∧
      (∀ k : Fin 64, nbit (t.rd2 R.TE_RXIN0 R.TE_RXIN1) k = nbit s.rxNow k) ∧
      (∀ k : Fin 64, nbit (t.rd2 R.TE_RXSTALE0 R.TE_RXSTALE1) k = nbit s.rxStale k) ∧ t.NotBefore (s.mt + 80) ∧
      t.te.sums = s.teSums (s.teTerms (s.literals di.toNat (t.rd2 R.TE_RXIN0 R.TE_RXIN1))) ∧
      (∀ j : Fin 16, nbit (t.rd R.TE_DQOUT) j = (!s.outputsOff && nbit (s.rd R.TE_DQASSIGN) j && nbit t.te.sums j)) ∧
      (∀ j : Fin 64, nbit (t.rd2 R.TE_RXOUT0 R.TE_RXOUT1) j = (!s.safe && !(s.mode == 4 && s.rd R.SYS_MODE_HOLDCAUSE == 4) && nbit t.te.sums (16 + j))) ∧
      (∀ j : Fin 16, nbit (t.rd R.TE_SWOUT) j = nbit t.te.sums (80 + j)) ∧ (∀ j : Fin 16, nbit t.te.f j = nbit t.te.sums (96 + j)) ∧
      s.PagesBut t [0x18, 0x40] ∧ t = { s with regs := t.regs, mt := t.mt, tim := t.tim, xe := t.xe, te := t.te })

/-- Literals 0-31 are the assigned local inputs (0 on S08), 32-95 the reflex inputs, 96-111 SWIN, 112-127 TQ, 128-159 LQ, 160-175 the F
bits. A pass sets latch k where its set term alone is 1, clears it where its reset term alone is, takes SETDOM where both are and keeps it
where neither is. Timer k: in mode 3 TQ is 0; in mode 0 it is 0 while F is 0; in mode 1 it is 1 while F is 1; a timer whose running count
has reached PT before the pass has TQ 1 in mode 0 and 0 in modes 1 and 2, and one whose count has not keeps TQ in mode 2; a rise of F with
TQ 0 begins a pulse in mode 2, whose count runs from the end of the pass. PASSCNT counts. TE_TIMER_EXPIRY is the tick in which the count of
a running timer of a locked engine reaches PT, and changes the clocks alone. (08_trip_engine.md, R163; 08_trip_engine.md, R166;
08_trip_engine.md, R167; 08_trip_engine.md, R182) -/
def Obligations.LiteralsTimersAndLatches : Prop :=
  (∀ (di : BitVec 32) (rx : Nat) (i : Fin 176) (s : State), rx < 2 ^ 64 → s.rd R.TE_SWIN < 2 ^ 16 → s.rd R.TE_TQ < 2 ^ 16 →
    s.rd R.TE_LQ < 2 ^ 32 → s.te.f < 2 ^ 16 → nbit (s.literals di.toNat rx) i =
    if i.val < 32 then !s.isS08 && nbit di.toNat i && nbit (s.rd R.TE_DIASSIGN) i
    else if i.val < 96 then nbit rx (i - 32) else if i.val < 112 then nbit (s.rd R.TE_SWIN) (i - 96)
    else if i.val < 128 then nbit (s.rd R.TE_TQ) (i - 112) else if i.val < 160 then nbit (s.rd R.TE_LQ) (i - 128) else nbit s.te.f (i - 160)) ∧
  (∀ (di : BitVec 32) (s : State), s.running 0x18 = true → s.flag R.TE_CFGSTAT_LOCKED = true → s.sys.resetHeld = false →
    ∃ t, exec (.tePass di) s = .next t ∧ t.rd R.TE_PASSCNT = (s.rd R.TE_PASSCNT + 1) % 2 ^ 32 ∧
      (∀ k : Fin 32, nbit (t.rd R.TE_LQ) k =
        match nbit (s.teTerms (s.literals di.toNat (t.rd2 R.TE_RXIN0 R.TE_RXIN1))) (nfield (s.teLatch k) 0 9),
          nbit (s.teTerms (s.literals di.toNat (t.rd2 R.TE_RXIN0 R.TE_RXIN1))) (nfield (s.teLatch k) 16 9) with
        | true, false => true
        | false, true => false
        | true, true => nbit (s.teLatch k) 12
        | false, false => nbit (s.rd R.TE_LQ) k) ∧
      (∀ k : Fin 16,
        (s.teMode k = 3 → nbit (t.rd R.TE_TQ) k = false) ∧
        (s.teMode k = 0 → nbit t.te.f k = false → nbit (t.rd R.TE_TQ) k = false) ∧
        (s.teMode k = 1 → nbit t.te.f k = true → nbit (t.rd R.TE_TQ) k = true) ∧
        (s.teMode k = 0 → nbit t.te.f k = true → nbit s.te.counting k = true → smGet 0 s.te.tFrom k + s.tePt k * 1000 < s.mt + 1 →
          nbit (t.rd R.TE_TQ) k = true) ∧
        (s.teMode k = 1 → nbit t.te.f k = false → nbit s.te.counting k = true → smGet 0 s.te.tFrom k + s.tePt k * 1000 < s.mt + 1 →
          nbit (t.rd R.TE_TQ) k = false) ∧
        (s.teMode k = 2 → nbit s.te.counting k = true →
          nbit (t.rd R.TE_TQ) k = (nbit (s.rd R.TE_TQ) k && decide (s.mt + 1 ≤ smGet 0 s.te.tFrom k + s.tePt k * 1000))) ∧
        (s.teMode k = 2 → nbit (s.rd R.TE_TQ) k = false → nbit s.te.counting k = false → nbit t.te.f k = true → nbit s.te.f k = false →
          nbit (t.rd R.TE_TQ) k = true ∧ nbit t.te.counting k = true ∧ smGet 0 t.te.tFrom k = s.mt + 81))) ∧
  (∀ (k : Fin 16) (s : State), ∃ t, exec (.teTimerExpiry k) s = .next t ∧
    if s.flag R.TE_CFGSTAT_LOCKED = true ∧ nbit s.te.counting k = true then
      t.NotBefore (smGet 0 s.te.tFrom k - 1 + s.tePt k * 1000) ∧ s.RegsBut t tickKeys ∧
        t = { s with regs := t.regs, mt := t.mt, tim := t.tim, xe := t.xe }
    else t = s)

/-- On the open page: a CFGDATA write stores the word at CFGADDR while nothing is locked or locking; it is ignored with 0x31 while LOCKED is
1, with 0x35 beyond the store, and with 0x31 within it during a LOCK; every access moves CFGADDR on by one word, wrapping, and every write
counts CFGGEN. CFGCMD with UNLOCK and LOCK records 0x37, a wrong key 0x30, LOCK while locked or locking 0x36; LOCK else stores the first
failed check of Table 8.7 and begins the copy only with none (else 0x33). TE_LOCK_COMPLETE sets CFGCRC, LOCKED, the INIT values, zero timers
and F bits, and raises source 27. UNLOCK outside SERVICE records 0x32; in SERVICE it clears LOCKED, the outputs and the bursts left. A
mismatch counts, leads to FAULT, raises source 26, and is a safety fault of cause 0x05 or 0x06; a burst whose signature is SIG counts as
passed and swaps the matrices. (08_trip_engine.md, R176; 08_trip_engine.md, R177; 08_trip_engine.md, Table 8.7; 08_trip_engine.md, R178;
08_trip_engine.md, R179) -/
def Obligations.TripConfiguration : Prop :=
  (∀ (m : BitVec 6) (v : BitVec 32) (s : State), s.Open 0x18 →
    ∃ t, exec (.teCfgdataAccess m true v) s = .next t ∧ t.rd R.TE_CFGADDR_WORD = (s.rd R.TE_CFGADDR_WORD + 1) % 2 ^ 14 ∧
      t.rd R.H_CFGGEN 0 0x18 = (s.rd R.H_CFGGEN 0 0x18 + 1) % 2 ^ 32 ∧
      if s.flag R.TE_CFGSTAT_LOCKED = true ∨ (s.te.locking = true ∧ s.rd R.TE_CFGADDR_WORD < 8196) then
        s.Recorded t 0x18 0x31 0x10C ∧ s.OnlyRegs t (R.TE_CFGADDR_WORD.key 0 0 0 :: R.H_CFGGEN.key 0 0x18 0 :: errKeys 0x18)
      else if 8196 ≤ s.rd R.TE_CFGADDR_WORD then
        s.Recorded t 0x18 0x35 0x10C ∧ s.OnlyRegs t (R.TE_CFGADDR_WORD.key 0 0 0 :: R.H_CFGGEN.key 0 0x18 0 :: errKeys 0x18)
      else t.teWord (s.rd R.TE_CFGADDR_WORD) = v.toNat ∧
        (∀ i : Fin 8196, i.val ≠ s.rd R.TE_CFGADDR_WORD → t.teWord i = s.teWord i) ∧
        s.RegsBut t [R.TE_CFGADDR_WORD.key 0 0 0, R.H_CFGGEN.key 0 0x18 0] ∧
        t = { s with regs := t.regs, te := { s.te with store := t.te.store } }) ∧
  (∀ (m : BitVec 6) (v : BitVec 32) (s : State), s.Open 0x18 →
    ∃ t, exec (.teCfgdataAccess m false v) s = .next t ∧ t.rd R.TE_CFGADDR_WORD = (s.rd R.TE_CFGADDR_WORD + 1) % 2 ^ 14 ∧
      t.bus.data = leBytes 4 (if s.rd R.TE_CFGADDR_WORD < 8196 then s.teWord (s.rd R.TE_CFGADDR_WORD) else 0) ∧
      s.RegsBut t [R.TE_CFGADDR_WORD.key 0 0 0] ∧ t = { s with regs := t.regs, bus := t.bus }) ∧
  (∀ (m : BitVec 6) (key : BitVec 16) (unlock : Bool) (s : State), s.Open 0x18 →
    ∃ t, exec (.teLock m key unlock) s = .next t ∧
      if unlock = true then s.Refused t 0x18 0x37 0x100
      else if key ≠ 0x7E1C then s.Refused t 0x18 0x30 0x100
      else if s.flag R.TE_CFGSTAT_LOCKED = true ∨ s.te.locking = true then s.Refused t 0x18 0x36 0x100
      else t.rd R.TE_CFGSTAT_CHECK = s.teCheck ∧
        (if s.teCheck = 0 then t.te.locking = true ∧ s.RegsBut t [R.TE_CFGSTAT_CHECK.key 0 0 0]
         else t.te = s.te ∧ s.Recorded t 0x18 0x33 0x100 ∧ s.RegsBut t (R.TE_CFGSTAT_CHECK.key 0 0 0 :: errKeys 0x18)) ∧
        t = { s with regs := t.regs, te := { s.te with locking := t.te.locking } }) ∧
  (∀ s : State, s.te.locking = false → exec .teLockComplete s = .next s) ∧
  (∀ s : State, s.te.locking = true →
    ∃ t, exec .teLockComplete s = .next t ∧ t.flag R.TE_CFGSTAT_LOCKED = true ∧ t.te.locking = false ∧ t.rd R.TE_CFGCRC = crc32 s.teBytes ∧
      t.rd R.TE_TQ = 0 ∧ t.te.f = 0 ∧ t.te.counting = 0 ∧ (∀ k : Fin 32, nbit (t.rd R.TE_LQ) k = nbit (s.teLatch k) 13) ∧ s.Rose t 0x18 3 ∧
      s.PagesBut t [0x18] ∧ t = { s with regs := t.regs, te := t.te }) ∧
  (∀ (m : BitVec 6) (key : BitVec 16) (s : State), s.Open 0x18 →
    ∃ t, exec (.teUnlock m key) s = .next t ∧
      if key ≠ 0x7E1C then s.Refused t 0x18 0x30 0x100
      else if s.mode ≠ 5 then s.Refused t 0x18 0x32 0x100
      else t.flag R.TE_CFGSTAT_LOCKED = false ∧
        (s.flag R.TE_CFGSTAT_LOCKED = true → t.rd R.TE_DQOUT = 0 ∧ t.rd2 R.TE_RXOUT0 R.TE_RXOUT1 = 0 ∧ s.Rose t 0x18 3) ∧
        (s.flag R.TE_CFGSTAT_LOCKED = true → t.te.bursts = 0 ∧ t.rd R.TE_CFGSTAT_BURST = 0) ∧
        s.PagesBut t [0x18] ∧ t = { s with regs := t.regs, te := { s.te with bursts := t.te.bursts } }) ∧
  (∀ s : State, s.running 0x18 = false ∨ s.flag R.TE_CFGSTAT_LOCKED = false → exec .teCompareMismatch s = .next s) ∧
  (∀ s : State, s.running 0x18 = true → s.flag R.TE_CFGSTAT_LOCKED = true → s.mode ≠ 0 → s.sys.resetHeld = false → s.flag R.SAF_CFG_RSTALL = false →
    ∃ t, exec .teCompareMismatch s = .next t ∧ t.unit 0x18 = 4 ∧ s.Counted t R.TE_ST_FAILS ∧ s.Rose t 0x18 2 ∧ t.mode = 4 ∧
      t.rd R.SYS_MODE_HOLDCAUSE = 4 ∧ nbit (t.rd R.SAF_CAUSES) 4 = true ∧ t.safe = true ∧ t.rd R.TE_DQOUT = 0 ∧
      t.rd2 R.TE_RXOUT0 R.TE_RXOUT1 = 0 ∧ s.SameMem t) ∧
  (∀ (sig : BitVec 32) (s : State), s.te.bursts = 0 ∨ s.running 0x18 = false ∨ s.flag R.TE_CFGSTAT_LOCKED = false → exec (.teBurstComplete sig) s = .next s) ∧
  (∀ (sig : BitVec 32) (s : State), s.te.bursts ≠ 0 → s.running 0x18 = true → s.flag R.TE_CFGSTAT_LOCKED = true →
    (sig.toNat = s.teWord 0x2002 → ∃ t, exec (.teBurstComplete sig) s = .next t ∧ t.te.bursts = s.te.bursts - 1 ∧
      t.rd R.TE_ST_LASTSIG = sig.toNat ∧ t.rd R.TE_ST_PASSES = (s.rd R.TE_ST_PASSES + 1) % 2 ^ 16 ∧
      (s.rd R.TE_CFGSTAT_FUNC ≤ 1 → t.rd R.TE_CFGSTAT_FUNC = 1 - s.rd R.TE_CFGSTAT_FUNC) ∧ s.PagesBut t [0x18] ∧
      t = { s with regs := t.regs, te := { s.te with bursts := t.te.bursts } }) ∧
    (sig.toNat ≠ s.teWord 0x2002 → s.mode ≠ 0 → s.sys.resetHeld = false → s.flag R.SAF_CFG_RSTALL = false →
      ∃ t, exec (.teBurstComplete sig) s = .next t ∧ t.te.bursts = 0 ∧ t.unit 0x18 = 4 ∧ s.Counted t R.TE_ST_FAILS ∧ s.Rose t 0x18 2 ∧
        t.mode = 4 ∧ nbit (t.rd R.SAF_CAUSES) 5 = true ∧ t.safe = true ∧ t.rd R.TE_CFGSTAT_FUNC = s.rd R.TE_CFGSTAT_FUNC ∧ s.SameMem t))

/-- With no work on the lanes: a REFLEX frame on a segment that is off, a disabled channel, or with RMC OFF has no effect. In ACTIVE or
PASSIVE, a frame in the minislot of a station that starts outside its window, has a wrong format or a wrong CRC-16 counts that error against
the station and changes no payload; one that passes is that station's payload, with its end as its instant, whether TE is locked or not. RX
k reads its map entry's payload bit while it is not stale: disabled, on a segment not enabled, never received, or TMO rounds old. Its
time-out comes then. REFLEX_SEND comes at the start of the next own minislot: where the module sends REFLEX frames, the reflex outputs then
go out with their CRC-16 on every open channel of every enabled and joined segment where the frame fits the guardian's window, and nothing
else goes out but what the guardian leaves of one; where it does not, nothing goes out. (08_trip_engine.md, R172; 08_trip_engine.md, R173;
09_ramette_bus.md, R187; 09_ramette_bus.md, R190; 09_ramette_bus.md, R207; 09_ramette_bus.md, R462; 10_ramette_stations.md, R210;
10_ramette_stations.md, R213) -/
def Obligations.ReflexPath : Prop :=
  (∀ (g : Fin 16) (b : Bool) (start : BitVec 64) (jk codes tr : Bool) (pay : BitVec 64) (crc : BitVec 16) (s : State), s.NoWork →
    s.segOn g = false ∨ s.cstate = 0 ∨ nbit (s.rd R.RMT_CFG_CHEN 0 g) (b2n b) = false →
    ∃ t, exec (.reflexFrameReceived g b start jk codes tr pay crc) s = .next t ∧ t.NotBefore (start.toNat + 960) ∧ s.RegsBut t tickKeys ∧
      t = { s with regs := t.regs, mt := t.mt, tim := t.tim, xe := t.xe }) ∧
  (∀ (g : Fin 16) (b : Bool) (start : BitVec 64) (jk codes tr : Bool) (pay : BitVec 64) (crc : BitVec 16) (k : Fin 32) (s : State), s.NoWork →
    s.hears g = true → s.cstate = 5 ∨ s.cstate = 6 → nbit (s.rd R.RMT_CFG_CHEN 0 g) (b2n b) = true →
    ∀ r ∈ upTo 16, ∀ m ∈ upTo 6, s.placeOf g b start.toNat = .mini r m → s.miniOwner g r m = some k.val →
    ∃ t, exec (.reflexFrameReceived g b start jk codes tr pay crc) s = .next t ∧ t.NotBefore (start.toNat + 960) ∧
      (if (s.miniDev g b r m start.toNat).any inWindow = false ∨ (jk && codes && tr) = false ∨ crc.toNat ≠ crc16 (beBytes 8 pay.toNat) then
        s.Counted t (if (s.miniDev g b r m start.toNat).any inWindow = false then R.RMT_ERR_TIMING
          else if (jk && codes && tr) = false then R.RMT_ERR_FORMAT else R.RMT_ERR_CRC) k g ∧
          s.PagesBut t [segPage g, 0x40] ∧ t.te = s.te
      else t.te = { s.te with rxPay := smSet 0 s.te.rxPay (32 * g + k) pay.toNat, rxAt := smSet 0 s.te.rxAt (32 * g + k) (t.mt + 1) } ∧
        s.RegsBut t tickKeys) ∧
      t = { s with regs := t.regs, mt := t.mt, tim := t.tim, xe := t.xe, rmts := t.rmts, te := t.te }) ∧
  (∀ (k : Fin 64) (s : State), nbit s.rxNow k = (!nbit s.rxStale k &&
      nbit (smGet 0 s.te.rxPay (32 * mapSeg (s.teMap k) + mapSt (s.teMap k))) (mapBit (s.teMap k))) ∧
    nbit s.rxStale k = decide (mapEn (s.teMap k) = false ∨ s.segOn (mapSeg (s.teMap k)) = false ∨
      smGet 0 s.te.rxAt (32 * mapSeg (s.teMap k) + mapSt (s.teMap k)) = 0 ∨
      smGet 0 s.te.rxAt (32 * mapSeg (s.teMap k) + mapSt (s.teMap k)) + mapTmo (s.teMap k) * 125000 ≤ s.mt + 1)) ∧
  (∀ (k : Fin 64) (s : State), ∃ t, exec (.reflexInputTimeout k) s = .next t ∧
    (smGet 0 s.te.rxAt (32 * mapSeg (s.teMap k) + mapSt (s.teMap k)) + mapTmo (s.teMap k) * 125000 + 4 ≤ 2 ^ 64 →
      nbit t.rxNow k = false ∧ nbit (t.rd2 R.TE_RXSTALE0 R.TE_RXSTALE1) k = true) ∧
    s.RegsBut t ([R.TE_RXSTALE0.key 0 0 0, R.TE_RXSTALE1.key 0 0 0] ++ tickKeys) ∧
    t = { s with regs := t.regs, mt := t.mt, tim := t.tim, xe := t.xe }) ∧
  (∀ s : State, s.ownMini = none → exec .reflexSend s = .next s) ∧
  (∀ s : State, s.NoWork → ∀ r ∈ upTo 16, s.ownMini = some (miniAt r (6 + s.side)) →
    ∃ t, exec .reflexSend s = .next t ∧ t.NotBefore (s.mtIn (miniAt r (6 + s.side))) ∧
      t = { s with regs := t.regs, mt := t.mt, tim := t.tim, xe := t.xe, rmc := t.rmc, rmts := t.rmts, outs := t.outs } ∧
      if s.flag R.TE_CFGSTAT_LOCKED = false ∨ s.sys.resetHeld = true ∨ s.cstate ≠ 5 ∨ s.mode = 0 ∨ s.mode = 5 ∨ s.flag R.PWR_STATUS_FLUSHONLY = true ∨
        (s.mode = 4 ∧ s.rd R.SYS_MODE_HOLDCAUSE = 9) then t.outs = s.outs ∧ s.RegsBut t tickKeys
      else s.mode ≤ 5 → s.PagesBut t (0x40 :: (upTo 16).map segPage) ∧
        (∀ o ∈ t.outs, o ∈ s.outs ∨ ∃ g ∈ upTo 16, ∃ b ∈ [false, true], s.segOn g = true ∧ (s.rmt g).joined = true ∧ s.chanOpen g b = true ∧
          (o = .wire g b true (shortFrame (s.rd2 R.TE_RXOUT0 R.TE_RXOUT1)) true ∨
            ∃ n ∈ upTo 10, o = .wire g b true ((shortFrame (s.rd2 R.TE_RXOUT0 R.TE_RXOUT1)).take n) false)) ∧
        ∀ g ∈ upTo 16, ∀ b ∈ [false, true], s.segOn g = true → (s.rmt g).joined = true → s.chanOpen g b = true →
          t.mt + 960 ≤ s.miniClose g b (miniAt r (6 + s.side)) → .wire g b true (shortFrame (s.rd2 R.TE_RXOUT0 R.TE_RXOUT1)) true ∈ t.outs)

/-- With no work on the lanes, and each at the frame's end. On a segment that takes no part, a disabled channel, or with RMC OFF, no frame
of any kind has an effect. In ACTIVE or PASSIVE: a frame in no slot raises the segment's offset 3 condition and does nothing else; one in
the in-slot of a station that misses its window or fails a check counts that error against the station alone, and writes no byte. A valid
DATA frame fills the buffer after the newest of its half (of a dual station's second frame in a cycle the same buffer, by channel A alone)
with MTS, the station status and its tagged values as the wire orders them, makes it the newest, marks the channel valid with its vote, and
touches no other byte; a valid NULL frame marks the channel and writes nothing. A stray start in a station's in-slot outside its window
counts a timing error against it; one within does nothing. (09_ramette_bus.md, R190; 09_ramette_bus.md, R191; 09_ramette_bus.md, R192;
09_ramette_bus.md, R193; 09_ramette_bus.md, R194; 09_ramette_bus.md, R462; 09_ramette_bus.md, Table 9.5; 10_ramette_stations.md, R210;
10_ramette_stations.md, R215) -/
def Obligations.FramesAreJudged : Prop :=
  (∀ (f : Frame) (s : State), s.NoWork → ¬ s.PortOpen f.seg f.chanB ∨ s.cstate = 0 → ∀ c ∈ frameRows f,
    ∃ t, exec c s = .next t ∧ t.NotBefore f.endAt ∧ s.RegsBut t tickKeys ∧ s.ClocksAlone t) ∧
  (∀ (f : Frame) (s : State), s.NoWork → s.PortOpen f.seg f.chanB → s.cstate = 5 ∨ s.cstate = 6 → s.placeOf f.seg f.chanB f.start.toNat = .none →
    ∀ c ∈ frameRows f, ∃ t, exec c s = .next t ∧ t.NotBefore f.endAt ∧ s.Rose t (segPage f.seg) 4 ∧
      s.RegsBut t (evKeys (segPage f.seg) ++ tickKeys) ∧ s.ClocksAlone t) ∧
  (∀ (f : Frame) (s : State), s.NoWork → s.PortOpen f.seg f.chanB → s.cstate = 5 ∨ s.cstate = 6 →
    ∀ n ∈ upTo (s.rmt f.seg).slots.length, ∀ e ∈ (s.slotAt f.seg n).toList, e.kind = 0 → s.InSlot f n e →
    inWindow (s.devOf f e) = false ∨ (s.laterChecks f n e).1 ≠ 0 → ∀ c ∈ frameRows f,
      ∃ t, exec c s = .next t ∧ t.NotBefore f.endAt ∧
        s.Counted t (if inWindow (s.devOf f e) = false then R.RMT_ERR_TIMING else if (s.laterChecks f n e).1 = 2 then R.RMT_ERR_FORMAT else R.RMT_ERR_CRC)
          e.station f.seg ∧
        s.RegsBut t ([R.RMT_ERR_TIMING.key e.station f.seg 0, R.RMT_ERR_FORMAT.key e.station f.seg 0, R.RMT_ERR_CRC.key e.station f.seg 0] ++
          evKeys (segPage f.seg) ++ tickKeys) ∧
        t = { s with regs := t.regs, mt := t.mt, tim := t.tim, xe := t.xe, rmts := t.rmts }) ∧
  (∀ (f : Frame) (s : State), s.NoWork → s.PortOpen f.seg f.chanB → s.cstate = 5 ∨ s.cstate = 6 →
    ∀ n ∈ upTo (s.rmt f.seg).slots.length, ∀ e ∈ (s.slotAt f.seg n).toList, e.kind = 0 → s.Passes f n e →
    (f.type = 1 → 16 ≤ f.length → f.length % 16 = 0 → ∃ t, exec (.dataFrameReceived f) s = .next t ∧ t.NotBefore f.endAt ∧
      (if s.repeats f e = true ∧ f.chanB = true then s.SameMem t
       else t.rb (mboxBase f.seg e.station + 0x600 + frameHalf f e) = BitVec.ofNat 8 (s.bufNo f e) ∧
        (∀ x ∈ (s.mtsOf (f.payload.getD 0 0).toNat (beNat ((f.payload.drop 1).take 3)) f.start.toNat).toList, t.rdLe (s.bufAt f e) 8 = x % 2 ^ 64) ∧
        t.rdLe (s.bufAt f e + 8) 4 = beNat ((f.payload.drop 4).take 4) ∧
        t.rbs (s.bufAt f e + 16) (f.length - 16) = wireLines ((f.length - 16) / 16) (f.payload.drop 16) ∧
        (s.MemWhere t fun a => a ≠ mboxBase f.seg e.station + 0x600 + frameHalf f e ∧ (a < s.bufAt f e ∨ s.bufAt f e + f.length ≤ a))) ∧
      nbit (t.stn f.seg e.station).valid (b2n f.chanB) = true ∧
      (if f.chanB then (t.stn f.seg e.station).voteB else (t.stn f.seg e.station).voteA) = 1 + nfield f.flags 4 2 ∧
      t.rd R.RMT_STSTAT e.station f.seg = beNat ((f.payload.drop 4).take 4) ∧ s.PagesBut t [segPage f.seg, 0x40] ∧
      t = { s with regs := t.regs, mem := t.mem, free := t.free, mt := t.mt, tim := t.tim, xe := t.xe, rmc := t.rmc, rmts := t.rmts, stns := t.stns, svc := t.svc }) ∧
    (f.type = 3 → ∃ t, exec (.nullFrameReceived f) s = .next t ∧ t.NotBefore f.endAt ∧ nbit (t.stn f.seg e.station).valid (b2n f.chanB) = true ∧
      s.RegsBut t tickKeys ∧ t = { s with regs := t.regs, mt := t.mt, tim := t.tim, xe := t.xe, rmc := t.rmc, rmts := t.rmts, stns := t.stns })) ∧
  (∀ (g : Fin 16) (b : Bool) (start : BitVec 64) (s : State), s.NoWork → s.PortOpen g b → s.cstate = 5 ∨ s.cstate = 6 →
    ∀ n ∈ upTo (s.rmt g).slots.length, ∀ e ∈ (s.slotAt g n).toList, e.kind = 0 → s.placeOf g b start.toNat = .slot n e →
    ∃ t, exec (.strayFrame g b start) s = .next t ∧ t.NotBefore start.toNat ∧ s.ClocksAlone t ∧
      if inWindow (s.devFrom g b (.station e.station) e.action start.toNat) = true then s.RegsBut t tickKeys
      else s.Counted t R.RMT_ERR_TIMING e.station g ∧ s.Rose t (segPage g) 4 ∧
        s.RegsBut t (R.RMT_ERR_TIMING.key e.station g 0 :: evKeys (segPage g) ++ tickKeys))

/-- With no work on the lanes. In ACTIVE or PASSIVE a valid frame in the other side's module slot with SYNCF is measured against its node
unless it is a CSF frame, shows an OWNALL conflict where the table has OWNALL, and has no effect beside these but that of its type; a valid
BEACON that shows the lease or a claim raises SEEN and EPOCH to its claim at least and marks the cycle. In LISTEN or BACKOFF a CSF of a
module slot that passes the checks of R462 begins an integration: CSTATE is INTEGRATE and the cycle count is the frame's. A valid SERVICE
frame of an odd cycle with a whole uplink message writes its data into the station's uplink area and raises the segment's offset 7, and
touches no other byte. (09_ramette_bus.md, R196; 09_ramette_bus.md, R201; 09_ramette_bus.md, R206; 09_ramette_bus.md, R462;
10_ramette_stations.md, R217; 11_pair.md, R245; 11_pair.md, R246) -/
def Obligations.SyncBeaconAndServiceFrames : Prop :=
  (∀ (f : Frame) (s : State), s.NoWork → s.PortOpen f.seg f.chanB → s.cstate = 5 ∨ s.cstate = 6 → s.side ≤ 1 →
    ∀ n ∈ upTo (s.rmt f.seg).slots.length, ∀ e ∈ (s.slotAt f.seg n).toList, s.otherSlot e = true → s.Passes f n e →
    (f.type = 4 → ∃ t, exec (.syncFrameReceived f) s = .next t ∧
      t.rmc = { s.rmc with meas := s.rmc.meas ++ if nbit f.flags 7 then [(1 - s.side, s.devOf f e)] else [] } ∧
      ((s.rmt f.seg).ownall = true → t.flag R.RMT_STAT_OWNCONF 0 f.seg = true) ∧
      s.RegsBut t (R.RMT_STAT_OWNCONF.key 0 f.seg 0 :: evKeys (segPage f.seg) ++ tickKeys) ∧
      t = { s with regs := t.regs, mt := t.mt, tim := t.tim, xe := t.xe, rmc := t.rmc, rmts := t.rmts }) ∧
    (f.type = 5 → ∃ t, exec (.csfReceived f) s = .next t ∧ ((s.rmt f.seg).ownall = true → t.flag R.RMT_STAT_OWNCONF 0 f.seg = true) ∧
      s.RegsBut t (R.RMT_STAT_OWNCONF.key 0 f.seg 0 :: evKeys (segPage f.seg) ++ tickKeys) ∧
      t = { s with regs := t.regs, mt := t.mt, tim := t.tim, xe := t.xe, rmts := t.rmts }) ∧
    (f.type = 7 → ∃ t, exec (.beaconReceived f) s = .next t ∧ t.pr.beaconAny = true ∧
      t.rmc.meas = s.rmc.meas ++ (if nbit f.flags 7 then [(1 - s.side, s.devOf f e)] else []) ∧
      t.pr.beacon0 = (s.pr.beacon0 || nbit (f.payload.getD 13 0).toNat 0) ∧
      (nbit (f.payload.getD 13 0).toNat 0 = true ∨ nbit (f.payload.getD 13 0).toNat 1 = true →
        beNat ((f.payload.drop 4).take 8) < 2 ^ 33 → s.rd R.PAIR_EPOCH < 2 ^ 32 → s.rd2 R.PAIR_SEENLO R.PAIR_SEENHI < 2 ^ 33 →
        t.rd2 R.PAIR_SEENLO R.PAIR_SEENHI = max (beNat ((f.payload.drop 4).take 8)) (s.rd2 R.PAIR_SEENLO R.PAIR_SEENHI) ∧
        t.rd R.PAIR_EPOCH = max (s.rd R.PAIR_EPOCH) (beNat ((f.payload.drop 4).take 8) / 2)) ∧
      s.PagesBut t [0x00, 0x3A, segPage f.seg, 0x40] ∧
      t = { s with regs := t.regs, mt := t.mt, tim := t.tim, xe := t.xe, rmc := t.rmc, rmts := t.rmts, pr := t.pr, ncp := t.ncp })) ∧
  (∀ (f : Frame) (s : State), s.NoWork → s.PortOpen f.seg f.chanB → s.cstate = 1 ∨ s.cstate = 3 → f.type = 5 → ∀ e ∈ (s.looseChecks f).toList,
    e.kind = 2 ∨ e.kind = 3 →
    ∃ t, exec (.csfReceived f) s = .next t ∧ t.cstate = 4 ∧ t.rd R.RMC_STAT_CYCLE = f.cycle ∧ t.rmc.step = 1 ∧ t.rmc.node = e.kind - 2 ∧
      t.rmc.start = f.start.toNat - 900 - e.action ∧ t.rmc.target = (f.cycle + (f.payload.getD 14 0).toNat + 1) % 256 ∧
      (∀ b ∈ [false, true], ((t.rmt f.seg).guard b).at_ = t.rmc.start ∧ ((t.rmt f.seg).guard b).cyc = f.cycle) ∧ s.Rose t 0x30 0 ∧ s.SameMem t) ∧
  (∀ (f : Frame) (s : State), s.NoWork → s.PortOpen f.seg f.chanB → s.cstate = 5 ∨ s.cstate = 6 → s.rmCycle % 2 = 1 →
    ∀ n ∈ upTo (s.rmt f.seg).slots.length, ∀ e ∈ (s.slotAt f.seg n).toList, e.kind = 4 → s.Passes f n e →
    f.type = 8 ∧ (f.payload.getD 1 0).toNat % 2 = 1 ∧ f.payload.getD 6 0 = 0x20 ∧ f.payload.getD 7 0 = 0 ∧ f.payload.getD 8 0 = 1 ∧
      beNat ((f.payload.drop 10).take 2) = 0 ∧ (s.stn f.seg ((f.payload.getD 0 0).toNat % 32)).upSeq ≠ beNat ((f.payload.drop 2).take 2) + 1 →
    ∃ t, exec (.serviceFrameReceived f) s = .next t ∧ s.Rose t (segPage f.seg) 8 ∧
      t.rbs (mboxBase f.seg ((f.payload.getD 0 0).toNat % 32) + 0x7000)
          (((f.payload.drop 12).take (beNat ((f.payload.drop 4).take 2) - 6)).take 0xC00).length =
        ((f.payload.drop 12).take (beNat ((f.payload.drop 4).take 2) - 6)).take 0xC00 ∧
      s.MemBut t (mboxBase f.seg ((f.payload.getD 0 0).toNat % 32) + 0x7000)
        (((f.payload.drop 12).take (beNat ((f.payload.drop 4).take 2) - 6)).take 0xC00).length ∧
      s.RegsBut t (evKeys (segPage f.seg) ++ tickKeys) ∧
      t = { s with regs := t.regs, mem := t.mem, mt := t.mt, tim := t.tim, xe := t.xe, stns := t.stns, rmts := t.rmts })

/-- With no work on the lanes. CYCLE_START in ACTIVE or PASSIVE comes at the instant that the last correction gives, counts CYCLE modulo
256, latches MTCS, and begins every station's records anew. CLOCK_CORRECTION, once a cycle in its NIT, limits OFFSET to 750 ns and RATE to
200 ppm, counts the nodes, makes OFFSET act on this cycle's end, and leads from ACTIVE to PASSIVE when a limit is passed and back after two
good cycles. LISTEN_TIMEOUT and BACKOFF_END, after their cycles of waiting, begin COLDSTART with cycle 0, the former unless a sync frame was
heard; then it awaits one of a sync node. COLDSTART_CYCLE_END backs off when the CSF cycle was met, and leads to ACTIVE after four cycles. A
guardian that blocks counts a cut of kind SYNC, a window cut one of kind WINDOW, and a guardian reopens after three cycle starts. In any
other state each does nothing. (09_ramette_bus.md, R185; 09_ramette_bus.md, R202; 09_ramette_bus.md, R203; 09_ramette_bus.md, R205;
09_ramette_bus.md, Table 9.9; 10_ramette_stations.md, R211; 10_ramette_stations.md, R212; 10_ramette_stations.md, R213) -/
def Obligations.ClusterStartUpAndClock : Prop :=
  (∀ s : State, s.hasCycle = false → exec .cycleStart s = .next s) ∧
  (∀ s : State, s.NoWork → s.cstate = 5 ∨ s.cstate = 6 → (s.stns.map (·.1)).Nodup →
    ∃ t, exec .cycleStart s = .next t ∧ t.NotBefore s.nextStart ∧ t.rd R.RMC_STAT_CYCLE = (s.rd R.RMC_STAT_CYCLE + 1) % 256 ∧
      t.rd2 R.RMC_MTCSLO R.RMC_MTCSHI = t.mt % 2 ^ 64 ∧ t.cstate = s.cstate ∧ t.rmc.start = max s.nextStart s.mt ∧
      t.rmc.shift = 0 ∧ t.rmc.nit = false ∧
      (∀ (g : Fin 16) (k : Fin 32), (t.stn g k).valid = 0 ∧ (t.stn g k).prev = decide ((s.stn g k).valid ≠ 0) ∧ (t.stn g k).voteA = 0 ∧
        (t.stn g k).fillA = (s.stn g k).fillA) ∧
      s.PagesBut t (0x30 :: 0x40 :: (upTo 16).map segPage) ∧
      t = { s with regs := t.regs, mt := t.mt, tim := t.tim, xe := t.xe, rmts := t.rmts, stns := t.stns, svc := t.svc, rmc := t.rmc }) ∧
  (∀ s : State, (s.busLive = false ∧ (s.cstate ≠ 4 ∨ s.rmc.step = 0)) ∨ s.rmc.nit = true → exec .clockCorrection s = .next s) ∧
  (∀ s : State, s.NoWork → s.busLive = true → s.rmc.nit = false →
    ∃ t, exec .clockCorrection s = .next t ∧ t.NotBefore (s.mtIn (s.cycleNs - 2000)) ∧
      t.rd R.RMC_STAT_NSYNC = (s.rmc.correction s.side s.cycleNs).2.2.length % 2 ^ R.RMC_STAT_NSYNC.width ∧
      sgn 32 (t.rd R.RMC_OFFSET) = max (-750) (min 750 (s.rmc.correction s.side s.cycleNs).1) ∧
      sgn 32 (t.rd R.RMC_RATE) = max (-200000) (min 200000 (sgn 32 (s.rd R.RMC_RATE) + (s.rmc.correction s.side s.cycleNs).2.1)) ∧
      t.rmc.meas = [] ∧ t.rmc.nit = true ∧ t.rmc.shift = sgn 32 (t.rd R.RMC_OFFSET) ∧
      (s.cstate = 5 → (750 < (s.rmc.correction s.side s.cycleNs).1.natAbs ∨
          200000 < (sgn 32 (s.rd R.RMC_RATE) + (s.rmc.correction s.side s.cycleNs).2.1).natAbs) →
        t.cstate = 6 ∧ s.Counted t R.RMC_COUNT_PASSIVE) ∧
      (s.cstate = 6 → (s.rmc.correction s.side s.cycleNs).1.natAbs ≤ 750 →
        (sgn 32 (s.rd R.RMC_RATE) + (s.rmc.correction s.side s.cycleNs).2.1).natAbs ≤ 200000 → 1 ≤ s.rmc.good → t.cstate = 5) ∧
      s.PagesBut t (0x30 :: 0x40 :: (upTo 16).map segPage) ∧ t = { s with regs := t.regs, mt := t.mt, tim := t.tim, xe := t.xe, rmc := t.rmc }) ∧
  (∀ s : State, s.NoWork → ∀ c ∈ [(Instr.listenTimeout, 1, (4 + s.side) * s.cycleNs / 2), (.backoffEnd, 3, (1 + 2 * s.side) * s.cycleNs)],
    ∃ t, exec c.1 s = .next t ∧
    if s.cstate ≠ c.2.1 then t = s
    else t.NotBefore (s.rmc.since + c.2.2) ∧ s.SameMem t ∧
      if s.rmc.heard = true ∧ s.cstate = 1 then t.cstate = 4 ∧ t.rmc.step = 0 ∧ s.Rose t 0x30 0
      else t.cstate = 2 ∧ t.rd R.RMC_STAT_CYCLE = 0 ∧ s.Counted t R.RMC_COUNT_COLD ∧ s.Rose t 0x30 0 ∧ t.rmc.met = false ∧
        (∀ g ∈ s.onSegs, ∀ b ∈ [false, true], ((t.rmt g).guard b).at_ = t.rmc.start ∧ ((t.rmt g).guard b).cyc = 0) ∧
        s.PagesBut t (0x30 :: 0x40 :: (upTo 16).map segPage)) ∧
  (∀ s : State, s.NoWork → ∃ t, exec .coldstartCycleEnd s = .next t ∧
    if s.cstate ≠ 2 then t = s
    else t.NotBefore s.nextStart ∧ s.SameMem t ∧ s.PagesBut t (0x30 :: 0x40 :: (upTo 16).map segPage) ∧
      if s.rmc.met = true then t.cstate = 3 ∧ s.Counted t R.RMC_COUNT_BACKOFF ∧ s.Rose t 0x30 1
      else if 3 ≤ s.rd R.RMC_STAT_CYCLE then t.cstate = 5 ∧ s.Rose t 0x30 0 ∧ s.ClocksAlone t
      else s.RegsBut t tickKeys ∧ s.ClocksAlone t) ∧
  (∀ (g : Fin 16) (b : Bool) (s : State),
    (s.segOn g = false → exec (.guardianBlock g b) s = .next s ∧ exec (.guardianCut g b) s = .next s) ∧
    (s.segOn g = true → ∃ t, exec (.guardianBlock g b) s = .next t ∧ s.Counted t (if b then R.RMT_GCUT_B else R.RMT_GCUT_A) 0 g ∧
      t.rd (if b then R.RMT_GKIND_B else R.RMT_GKIND_A) 0 g = 1 ∧ nbit (t.rd R.RMT_STAT_GBLK 0 g) (b2n b) = true ∧
      s.Rose t (segPage g) (2 + b2n b) ∧ s.PagesBut t [segPage g] ∧ t = { s with regs := t.regs, rmts := t.rmts }) ∧
    (s.segOn g = true → ∃ t, exec (.guardianCut g b) s = .next t ∧ s.Counted t (if b then R.RMT_GCUT_B else R.RMT_GCUT_A) 0 g ∧
      t.rd (if b then R.RMT_GKIND_B else R.RMT_GKIND_A) 0 g = 0 ∧ s.Rose t (segPage g) (2 + b2n b) ∧
      t.rd R.RMT_STAT_GBLK 0 g = s.rd R.RMT_STAT_GBLK 0 g ∧ s.PagesBut t [segPage g] ∧ s.RegsAlone t) ∧
    (∃ t, exec (.guardianReopen g b) s = .next t ∧ nbit (t.rd R.RMT_STAT_GBLK 0 g) (b2n b) =
        (nbit (s.rd R.RMT_STAT_GBLK 0 g) (b2n b) && decide (((s.rmt g).guard b).clean < 3)) ∧
      s.OnlyRegs t [R.RMT_STAT_GBLK.key 0 g 0]))

/-- STATION_EVALUATION in ACTIVE or PASSIVE, once a cycle at the end of the station's in-slot on an enabled segment, with no work on the
lanes: MISS is 0 after a valid frame and counts up to 15 else; the state goes from ABSENT or LOST to INTEGRATING on a valid frame, from
INTEGRATING to PARAMETERISING on one in two cycles running, from PARAMETERISING to OPERATE on a DATA frame in RUN with the expected PCHK,
from OPERATE to PARAMETERISING on one without, and from any of these three to LOST after LOSTN cycles without one. A change raises the
segment's offset 0, LOST also offset 1 and LOSTS, and leaving OPERATE clears OUTEN. No other page and no byte of memory changes. In any
other case nothing changes. (10_ramette_stations.md, R218; 10_ramette_stations.md, R219; 10_ramette_stations.md, R220;
10_ramette_stations.md, Table 10.5) -/
def Obligations.StationStates : Prop :=
  (∀ (g : Fin 16) (k : Fin 32) (s : State), s.inSlotOf g k = none ∨ s.segOn g = false ∨ s.busLive = false ∨ (s.stn g k).done = true →
    exec (.stationEvaluation g k) s = .next s) ∧
  (∀ (g : Fin 16) (k : Fin 32) (s : State), s.NoWork → ∀ e ∈ (s.inSlotOf g k).toList, s.segOn g = true → s.busLive = true → (s.stn g k).done = false →
    ∃ t, exec (.stationEvaluation g k) s = .next t ∧ t.NotBefore (s.mtIn e.end_) ∧ (t.stn g k).done = true ∧
      t.rd R.RMT_ST_MISS k g = (if (s.stn g k).valid ≠ 0 then 0 else min 15 (s.rd R.RMT_ST_MISS k g + 1)) ∧
      t.rd R.RMT_ST_STATE k g =
        (if s.rd R.RMT_ST_STATE k g = 0 then (if (s.stn g k).valid ≠ 0 then 1 else 0)
         else if s.rd R.RMT_ST_STATE k g = 1 then
          (if (s.stn g k).valid ≠ 0 ∧ (s.stn g k).prev = true then 2
           else if s.rd R.RMT_CFG_LOSTN 0 g ≤ t.rd R.RMT_ST_MISS k g then 4 else 1)
         else if s.rd R.RMT_ST_STATE k g = 2 then
          (if (s.stn g k).good = true then 3 else if s.rd R.RMT_CFG_LOSTN 0 g ≤ t.rd R.RMT_ST_MISS k g then 4 else 2)
         else if s.rd R.RMT_ST_STATE k g = 3 then
          (if (s.stn g k).bad = true then 2 else if s.rd R.RMT_CFG_LOSTN 0 g ≤ t.rd R.RMT_ST_MISS k g then 4 else 3)
         else if (s.stn g k).valid ≠ 0 then 1 else 4) ∧
      (t.rd R.RMT_ST_STATE k g ≠ s.rd R.RMT_ST_STATE k g → s.Rose t (segPage g) 0 ∧
        (t.rd R.RMT_ST_STATE k g = 4 → s.Counted t R.RMT_ERR_LOSTS k g ∧ s.Rose t (segPage g) 1) ∧
        (s.rd R.RMT_ST_STATE k g = 3 → t.rd R.RMT_ST_OUTEN k g = 0)) ∧
      s.PagesBut t [segPage g, 0x40] ∧ t = { s with regs := t.regs, mt := t.mt, tim := t.tim, xe := t.xe, stns := t.stns, svc := t.svc })

/-- With no work on the lanes. OUT_SLOT_SEND in an out-slot that the module owns, while ACTIVE on an open channel without an OWNALL
conflict, sends at the action point the active out-buffer as DATA where the module leads and the station's OUTEN is set, else NULL, in the
long form with its HCRC and CRC-32, whole where it ends within the guardian's window and cut to it else; it sends nothing in any other case.
MODULE_SLOT_SEND sends CSF, BEACON or SYNC by the states in its own module slots alone. SERVICE_DOWNLINK_SEND in an odd cycle, on a closed
channel or in the other side's turn sends nothing, and NULL with no message to send. A service request of a leading module with SRC 0, 1 or
2 and nothing queued for the station queues one message with the next sequence number, else it records 0x41. DOWNLINK_RESEND, 16 cycles
after the last fragment, begins the message anew, and gives it up with 0x42 after four sends. (09_ramette_bus.md, R186; 09_ramette_bus.md,
R188; 09_ramette_bus.md, R192; 09_ramette_bus.md, R195; 09_ramette_bus.md, R196; 09_ramette_bus.md, R198; 10_ramette_stations.md, R213;
10_ramette_stations.md, R217; 10_ramette_stations.md, R219; 10_ramette_stations.md, R229; 03_modes.md, R44) -/
def Obligations.SendingInSlots : Prop :=
  (∀ (g : Fin 16) (b : Bool) (n : BitVec 12) (s : State), (∀ e ∈ (s.slotAt g n.toNat).toList, e.kind ≠ 1) ∨ s.cstate ≠ 5 →
    exec (.outSlotSend g b n) s = .next s) ∧
  (∀ (g : Fin 16) (b : Bool) (n : BitVec 12) (s : State), s.NoWork → s.cstate = 5 → ∀ e ∈ (s.slotAt g n.toNat).toList, e.kind = 1 →
    ∃ t, exec (.outSlotSend g b n) s = .next t ∧ t.NotBefore (s.mtIn e.action) ∧
      t = { s with regs := t.regs, mt := t.mt, tim := t.tim, xe := t.xe, rmts := t.rmts, outs := t.outs } ∧
      if s.segSends g b = true ∧ nbit e.chan (b2n b) = true ∧ s.flag R.RMT_STAT_OWNCONF 0 g = false ∧
          ((s.rmt g).ownall = true ∨ (s.rmCycle + b2n b) % 2 = s.side) then
        if t.mt + wireNs (s.outBytes g n.toNat e) ≤ s.slotClose g b e then
          t.outs = .wire g b false (s.outBytes g n.toNat e) true :: s.outs ∧ s.RegsBut t tickKeys
        else s.Counted t (if b then R.RMT_GCUT_B else R.RMT_GCUT_A) 0 g ∧ s.Rose t (segPage g) (2 + b2n b) ∧
          (if (s.slotClose g b e - t.mt) / 80 = 0 then t.outs = s.outs
           else t.outs = .wire g b false ((s.outBytes g n.toNat e).take ((s.slotClose g b e - t.mt) / 80 - 1)) false :: s.outs) ∧
          s.PagesBut t [segPage g, 0x40]
      else t.outs = s.outs ∧ s.RegsBut t tickKeys) ∧
  (∀ s : State, s.cstate ≠ 2 → s.cstate ≠ 5 → exec .moduleSlotSend s = .next s) ∧
  (∀ s : State, s.NoWork → s.cstate = 2 ∨ s.cstate = 5 →
    ∃ t, exec .moduleSlotSend s = .next t ∧ s.PagesBut t (0x3A :: 0x40 :: (upTo 16).map segPage) ∧
      t = { s with regs := t.regs, mt := t.mt, tim := t.tim, xe := t.xe, rmts := t.rmts, outs := t.outs } ∧
      (∀ x ∈ s.ownSlots, ∀ b ∈ [false, true], s.sendsIn x.1 b x.2.2 = true → t.mt + 2240 ≤ s.slotClose x.1 b x.2.2 →
        .wire x.1 b false (s.ownFrame x.1 x.2.1) true ∈ t.outs) ∧
      ∀ o ∈ t.outs, o ∈ s.outs ∨ ∃ x ∈ s.ownSlots, ∃ b ∈ [false, true], s.sendsIn x.1 b x.2.2 = true ∧ ∃ k ∈ upTo 29, ∃ w ∈ [false, true],
        o = .wire x.1 b false ((s.ownFrame x.1 x.2.1).take k) w) ∧
  (∀ (g : Fin 16) (b : Bool) (s : State), s.cstate ≠ 5 ∨ (∀ e ∈ (s.rmt g).slots, e.kind ≠ 4) → exec (.serviceDownlinkSend g b) s = .next s) ∧
  (∀ (g : Fin 16) (b : Bool) (s : State), s.NoWork → s.cstate = 5 → ∀ e ∈ ((s.rmt g).slots.find? (·.kind == 4)).toList, nbit e.chan (b2n b) = true →
    s.mode ≠ 3 ∨ s.nextDown g = none →
    ∃ t, exec (.serviceDownlinkSend g b) s = .next t ∧ t.NotBefore (s.mtIn e.action) ∧
      t = { s with regs := t.regs, mt := t.mt, tim := t.tim, xe := t.xe, rmts := t.rmts, outs := t.outs } ∧
      if s.segSends g b = false ∨ s.rmCycle % 2 = 1 ∨ (s.rmCycle / 2 + b2n b) % 2 ≠ s.side ∨ s.flag R.RMT_STAT_OWNCONF 0 g = true then
        t.outs = s.outs ∧ s.RegsBut t tickKeys
      else t.mt + 1120 ≤ s.slotClose g b e → s.RegsBut t tickKeys ∧ ∃ n ∈ upTo (s.rmt g).slots.length, s.slotAt g n = some e ∧
        t.outs = .wire g b false (longFrame g n s.rmCycle 3 0 []) true :: s.outs) ∧
  (∀ (m : BitVec 6) (g : Fin 16) (k : Fin 32) (src : BitVec 2) (s : State), s.Open (segPage g) →
    ∃ t, exec (.serviceQueue m g k src) s = .next t ∧
      if s.mode = 3 ∧ src ≠ 3 ∧ s.svcList g k = [] then
        (∃ x ∈ t.svcList g k, t.svcList g k = [x] ∧ x.seq = ((s.stn g k).downSeq + 1) % 2 ^ 16 ∧ x.count = 0 ∧
          (src = 1 → x.mtype = 1 ∧ x.bytes = s.paramBlock g k) ∧ (src = 2 → x.mtype = 3 ∧ x.bytes = s.schedBytes g)) ∧
          nbit (t.rd R.RMT_SVCPEND 0 g) k = true ∧ s.RegsBut t [R.RMT_SVCPEND.key 0 g 0] ∧
          t = { s with regs := t.regs, svc := t.svc, stns := t.stns }
      else s.Refused t (segPage g) 0x41 0x3A0) ∧
  (∀ (g : Fin 16) (k : Fin 32) (s : State), ∃ t, exec (.downlinkResend g k) s = .next t ∧
    (s.svcList g k = [] → t = s) ∧
    ∀ x ∈ (s.svcList g k).head?.toList,
      if x.count = 0 ∨ x.frag < x.count then t = s
      else t.NotBefore (x.at_ + 16 * s.stretch s.cycleNs) ∧ s.SameMem t ∧ t.outs = s.outs ∧
        if 4 ≤ x.sends then t.svcList g k = (s.svcList g k).tail ∧ s.Recorded t (segPage g) 0x42 0x3A0
        else t.svcList g k = { x with frag := 0, count := 0 } :: (s.svcList g k).tail)

/-- No HEARTBEAT is sent in DORMANT or before start step 0x08; else one goes out on every link that is up, with EPOCH at least the own
claim's. One received on a link that is down, or in DORMANT, has no effect. In START, HOLD and SERVICE it stores the partner's mode,
versions, variant, side and HOLDCAUSE, sets HBOK, raises EPOCH to any epoch it carries, ends step 0x08, and at first detection sets PARTNER,
raises source 166 and compares by R234. In LEAD one that shows neither a synchronised TRACK nor a LEAD that castles ends PSYNC; in TRACK one
that shows LEAD without PSYNC ends SYNC. A HEARTBEAT missing for 25 us clears HBOK and counts, with source 164 while the other link has it;
a silence of 100 us on both raises source 165, ends a lead's PSYNC and any castling not handed over; after 1 ms the partner is lost with
source 166; step 0x08 ends after 400 ms with the partner judged by its BEACONs. A bad frame counts CRCERR; a link goes down, its chunks in
flight sent again on the other, and up, with a join where one may start. (11_pair.md, R231; 11_pair.md, R232; 11_pair.md, R233; 11_pair.md,
R234; 11_pair.md, R237; 11_pair.md, R239; 11_pair.md, R245; 11_pair.md, R262; 11_pair.md, R263) -/
def Obligations.HeartbeatsAndLinks : Prop :=
  (∀ s : State, s.mode = 0 ∨ (s.mode = 1 ∧ s.rd R.SYS_STARTSTEP_STEP < 8) → exec .heartbeatSend s = .next s) ∧
  (∀ s : State, s.mode ≠ 0 → s.mode ≠ 1 ∨ 8 ≤ s.rd R.SYS_STARTSTEP_STEP →
    ∃ t, exec .heartbeatSend s = .next t ∧ t.rd R.PAIR_EPOCH = max (s.rd R.PAIR_EPOCH) (s.ownClaim / 2 % 2 ^ 32) % 2 ^ 32 ∧
      (∀ l ∈ s.upLinks, .pl l (plFrame 0x01 0 (s.seqOf l 1) (t.hbBytes l)) ∈ t.outs ∧ t.seqOf l 1 = (s.seqOf l 1 + 1) % 2 ^ 32) ∧
      (∀ o ∈ t.outs, o ∈ s.outs ∨ ∃ l ∈ s.upLinks, o = .pl l (plFrame 0x01 0 (s.seqOf l 1) (t.hbBytes l))) ∧
      s.RegsBut t [R.PAIR_EPOCH.key 0 0 0] ∧ t = { s with regs := t.regs, outs := t.outs, pr := { s.pr with txSeq := t.pr.txSeq } }) ∧
  (∀ (l : Fin 2) (hb : Heartbeat) (s : State), s.linkUp l = false ∨ s.mode = 0 → exec (.heartbeatReceived l hb) s = .next s) ∧
  (∀ (l : Fin 2) (hb : Heartbeat) (s : State), s.linkUp l = true → s.mode = 1 ∨ s.mode = 4 ∨ s.mode = 5 → s.NoWork →
    s.rd R.PAIR_EPOCH < 2 ^ 32 →
    ∃ t, exec (.heartbeatReceived l hb) s = .next t ∧ t.rd R.PAIR_STAT_PMODE = hb.mode.toNat % 8 ∧ t.rd R.PAIR_PEER_MFV = hb.mfv.toNat ∧
      t.rd R.PAIR_PEER_FWVER = hb.fwver.toNat ∧ t.rd R.PAIR_PEER_VARIANT = hb.variant.toNat ∧ t.rd R.PAIR_PEER_SIDE = hb.flags.toNat % 2 ∧
      t.rd R.PAIR_PEER_HOLDCAUSE = hb.holdcause.toNat % 16 ∧ t.flag R.PL_STAT_HBOK 0 l = true ∧ nbit (t.rd R.PAIR_STAT_LINKS) l = true ∧
      t.rd R.PAIR_EPOCH = max (max (s.rd R.PAIR_EPOCH) hb.epoch.toNat) (hb.claim.toNat / 2 % 2 ^ 32) ∧ t.pr.heard = true ∧
      t.rd R.SYS_STARTSTEP_STEP = (if s.mode = 1 ∧ s.rd R.SYS_STARTSTEP_STEP = 8 then 9 else s.rd R.SYS_STARTSTEP_STEP) ∧
      (s.pr.heard = false → t.flag R.PAIR_STAT_PARTNER = true ∧ s.Rose t 0x3A 2 ∧ t.rd R.PAIR_STAT_MISMATCH =
        (if hb.variant.toNat ≠ s.rd R.SYS_IDENT_VARIANT then 1 else if hb.mfv.toNat ≠ s.rd R.PAIR_LOCAL_MFV then 2
         else if hb.fwver.toNat / 256 ≠ s.rd R.PAIR_LOCAL_FWVER / 256 then 3 else if hb.flags.toNat % 2 = s.side then 4 else 0)) ∧
      t.pr.silent = false ∧ t.mode = s.mode ∧ s.PagesBut t [0x00, plPage l, 0x3A, 0x51] ∧ s.SameMem t) ∧
  (∀ (l : Fin 2) (hb : Heartbeat) (s : State), s.linkUp l = true → s.mode = 3 → s.flag R.PAIR_STAT_PSYNC = true → s.safe = false →
    s.pr.handed = false → s.pr.castKind = 0 → s.rd R.PAIR_STAT_MISMATCH ≠ 0 → s.pr.heard = true →
    s.pr.esc = false → hb.mode ≠ 2 ∨ nbit hb.flags.toNat 1 = false → hb.mode ≠ 3 ∨ nbit hb.flags.toNat 5 = false →
    ∃ t, exec (.heartbeatReceived l hb) s = .next t ∧ t.flag R.PAIR_STAT_PSYNC = false) ∧
  (∀ (l : Fin 2) (hb : Heartbeat) (s : State), s.linkUp l = true → s.mode = 2 → s.flag R.PAIR_STAT_SYNC = true → s.sys.partnerWait = false →
    s.pr.heard = true → s.NoWork → hb.mode = 3 → nbit hb.flags.toNat 2 = false →
    ∃ t, exec (.heartbeatReceived l hb) s = .next t ∧ t.flag R.PAIR_STAT_SYNC = false ∧ t.flag R.SYS_MODE_SYNC = false ∧ t.mode = 2 ∧
      s.SameMem t) ∧
  (∀ (l : Fin 2) (s : State), ∃ t, exec (.heartbeatMissing l) s = .next t ∧
    if s.flag R.PL_STAT_HBOK 0 l = false then t = s
    else t.NotBefore (s.lastRx l + 25000) ∧ t.flag R.PL_STAT_HBOK 0 l = false ∧ nbit (t.rd R.PAIR_STAT_LINKS) l = false ∧
      s.Counted t (if l = 0 then R.PAIR_HBMISS_PL0 else R.PAIR_HBMISS_PL1) ∧ (s.flag R.PL_STAT_HBOK 0 (1 - l) = true → s.Rose t 0x3A 0) ∧
      s.PagesBut t [plPage l, 0x3A, 0x40] ∧ s.ClocksAlone t) ∧
  (∀ s : State, s.pr.silent = true → exec .heartbeatsLost100us s = .next s) ∧
  (∀ s : State, s.pr.silent = false → s.safe = false → s.NoWork → s.ncp.forceGo = none → s.ncp.sealGo = none → s.ncp.castle = none →
    ∃ t, exec .heartbeatsLost100us s = .next t ∧ t.pr.silent = true ∧ t.NotBefore (s.lastBeat + 100000) ∧ s.Rose t 0x3A 1 ∧ t.mode = s.mode ∧
      t.flag R.PAIR_STAT_PSYNC = (s.flag R.PAIR_STAT_PSYNC && s.mode != 3) ∧
      (s.mode = 3 → s.pr.castKind ≠ 0 → s.pr.handed = false →
        t.rd R.PAIR_STAT_CASTLE = 0 ∧ t.rd R.PAIR_CASTLE_STAT_RESULT = 4 ∧ t.pr.castKind = 0) ∧
      (s.mode = 2 → s.pr.claimKind = 2 → s.pr.handed = false → t.pr.claimKind = 0 ∧ t.ownClaim = 0 ∧ t.flag R.PAIR_STAT_SYNC = false) ∧
      s.PagesBut t [0x00, 0x3A, 0x40] ∧ s.SameMem t) ∧
  (∀ s : State, s.sys.partnerWait = false → s.NoWork → ∃ t, exec .partnerLost s = .next t ∧
    if s.pr.heard = false then t = s
    else t.NotBefore (s.lastBeat + 1000000) ∧ t.pr.heard = false ∧ t.flag R.PAIR_STAT_PARTNER = false ∧ s.Rose t 0x3A 2 ∧
      s.RegsBut t (R.PAIR_STAT_PARTNER.key 0 0 0 :: evKeys 0x3A ++ tickKeys) ∧
      t = { s with regs := t.regs, mt := t.mt, tim := t.tim, xe := t.xe, pr := { s.pr with heard := false } }) ∧
  (∀ s : State, ∃ t, exec .partnerDetectionTimeout s = .next t ∧
    if s.mode = 1 ∧ s.rd R.SYS_STARTSTEP_STEP = 8 then
      t.NotBefore (s.pr.step8At + 400000000) ∧
        t.rd R.SYS_STARTSTEP_STEP = 9 ∧ t.flag R.PAIR_STAT_PARTNER = (s.flag R.PAIR_STAT_PARTNER || s.pr.step8 != 0) ∧
        s.RegsBut t ([R.SYS_STARTSTEP_STEP.key 0 0 0, R.PAIR_STAT_PARTNER.key 0 0 0] ++ tickKeys) ∧ s.ClocksAlone t
    else t = s) ∧
  (∀ (l : Fin 2) (s : State), ∃ t, exec (.plFrameBad l) s = .next t ∧ s.Counted t R.PL_CRCERR 0 l ∧ s.OnlyRegs t [R.PL_CRCERR.key 0 l 0]) ∧
  (∀ (x : LinkLoss) (s : State), s.linkUp x.link = false → exec (.plLinkDown x) s = .next s) ∧
  (∀ (x : LinkLoss) (s : State), s.linkUp x.link = true → s.pr.handed = false → s.pr.castKind = 0 → s.pr.claimKind ≠ 2 → s.NoWork →
    ∃ t, exec (.plLinkDown x) s = .next t ∧ t.linkUp x.link = false ∧ t.flag R.PL_STAT_TRAINING 0 x.link = true ∧ s.Counted t R.PL_RETRAINS 0 x.link ∧
      s.Rose t (plPage x.link) 0 ∧ s.Rose t (plPage x.link) 1 ∧ s.PagesBut t [plPage x.link] ∧
      t = { s with regs := t.regs, outs := t.outs, pr := { s.pr with txSeq := t.pr.txSeq } } ∧
      (t.upLinks = [] → t.outs = s.outs) ∧
      ∀ o ∈ t.outs, o ∈ s.outs ∨ ∃ c ∈ s.pr.flight, c.1 = x.link ∧
        ∃ n ∈ upTo (s.pr.flight.length + 1), o = .pl (1 - x.link) (plFrame c.2.1 c.2.2.1 ((s.seqOf (1 - x.link) c.2.1 + n) % 2 ^ 32) c.2.2.2)) ∧
  (∀ (l : Fin 2) (s : State), ∃ t, exec (.plLinkUp l) s = .next t ∧
    if s.running (plPage l) = false ∨ s.linkUp l = true then t = s
    else t.linkUp l = true ∧ t.flag R.PL_STAT_TRAINING 0 l = false ∧ s.Rose t (plPage l) 0 ∧
      if s.canJoin = true ∧ s.pr.heard = true ∧ (s.pr.failedAt = 0 ∨ s.pr.failedAt + 1000000000 ≤ s.mt + 1) then
        (t.rd R.PAIR_SYNC_STAT_PHASE = 1 ∨ t.rd R.PAIR_SYNC_STAT_PHASE = 2) ∧ t.pr.joinLead = false ∧ t.rd R.SYS_MODE_RESTART = 3 ∧ s.SameMem t
      else s.PagesBut t [plPage l] ∧ s.RegsAlone t)

/-- A MIRROR frame on a link that is down, or in a module that does not receive the mirror, has no effect. One whose SEQ leaves a gap ends
SYNC and writes nothing. One in sequence (not of C2, no switch running) that its gate lets through stores its data at its offset of instance
memory through the force table, and no other byte changes; the chunk that completes its writer's ply sends an ACK on every link that is up.
BULK data, no switch running, is stored the same way in a joining module alone. An ACK of the ply that waits in MIRROR-WAIT begins its
COMMIT; one of another ply does not. A range that is final while its ply waits is counted as sent, and only frames of TYPE 2 go out. A
mirror escape in LEAD or synchronised TRACK is counted, its first address recorded, and it is a safety fault of cause 0x0C; in any other
case it is not. (11_pair.md, R237; 11_pair.md, R239; 11_pair.md, R240; 11_pair.md, R242; 04_ply.md, R71; 07_sealed_move.md, R154) -/
def Obligations.MirrorAndBulk : Prop :=
  (∀ (l : Fin 2) (w : BitVec 8) (seq ply off cnt : BitVec 32) (last : Bool) (d : List (BitVec 8)) (s : State),
    s.linkUp l = false ∨ s.takesMirror = false → exec (.mirrorReceived l w seq ply off cnt last d) s = .next s) ∧
  (∀ (l : Fin 2) (w : BitVec 8) (seq ply off cnt : BitVec 32) (last : Bool) (d : List (BitVec 8)) (s : State),
    s.linkUp l = true → s.takesMirror = true →
    smGet 0 s.pr.rxSeq (16 * l + 2) ≠ 0 → (smGet 0 s.pr.rxSeq (16 * l + 2) - 1) % 2 ^ 32 ≠ seq.toNat →
    ∃ t, exec (.mirrorReceived l w seq ply off cnt last d) s = .next t ∧ t.flag R.PAIR_STAT_SYNC = false ∧ t.flag R.SYS_MODE_SYNC = false ∧
      s.RegsBut t [R.PAIR_STAT_SYNC.key 0 0 0, R.SYS_MODE_SYNC.key 0 0 0] ∧ t = { s with regs := t.regs, pr := t.pr }) ∧
  (∀ (l : Fin 2) (w : BitVec 8) (seq ply off cnt : BitVec 32) (last : Bool) (d : List (BitVec 8)) (s : State),
    s.linkUp l = true → s.takesMirror = true → s.rd R.XE_SM_STAT_STATE ≠ 4 → w ≠ 2 → s.pr.crcOwed = false →
    (s.dmaStore 0x08 (instBase + off.toNat) d).1 = true → off.toNat + d.length ≤ s.instSize → s.pr.esc = false →
    smGet 0 s.pr.rxSeq (16 * l + 2) = 0 ∨ (smGet 0 s.pr.rxSeq (16 * l + 2) - 1) % 2 ^ 32 = seq.toNat →
    ∃ t, exec (.mirrorReceived l w seq ply off cnt last d) s = .next t ∧
      t.rbs (instBase + off.toNat) d.length = s.forcedAll off.toNat d ∧ s.MemBut t (instBase + off.toNat) d.length ∧
      (last = true → cnt = 1 → (smGet (⟨0, 0, 0⟩ : Rx) s.pr.rx w.toNat).ply ≠ ply.toNat → ∀ k ∈ s.upLinks,
        .pl k (plFrame 0x03 0 (s.seqOf k 3) (leBytes 4 w.toNat ++ leBytes 4 ply.toNat ++ leBytes 4 1)) ∈ t.outs)) ∧
  (∀ (l : Fin 2) (off : BitVec 32) (d : List (BitVec 8)) (s : State), (s.dmaStore 0x08 (instBase + off.toNat) d).1 = true → s.rd R.XE_SM_STAT_STATE ≠ 4 → off.toNat + d.length ≤ s.instSize → s.pr.esc = false → ∃ t, exec (.bulkReceived l off d) s = .next t ∧
    if s.linkUp l = true ∧ s.mode = 2 ∧ s.pr.joinLead = false ∧ 2 ≤ s.rd R.PAIR_SYNC_STAT_PHASE ∧ s.rd R.PAIR_SYNC_STAT_PHASE ≤ 4 then
      t.rbs (instBase + off.toNat) d.length = s.forcedAll off.toNat d ∧ s.MemBut t (instBase + off.toNat) d.length ∧
        t = { s with mem := t.mem, pr := { s.pr with round := t.pr.round } }
    else t = s) ∧
  (∀ (l : Fin 2) (w : BitVec 8) (ply : BitVec 32) (crc : Option (BitVec 32)) (rows : Nat) (s : State), s.linkUp l = false ∨ s.mode ≠ 3 →
    exec (.ackReceived l w ply crc rows) s = .next s) ∧
  (∀ (l : Fin 2) (w : Fin 3) (ply : BitVec 32) (s : State), s.linkUp l = true → s.mode = 3 → s.Alone w → (s.ply w).phase = 4 →
    (s.ply w).acked = false →
    ∃ t, exec (.ackReceived l (BitVec.ofNat 8 (w + 1)) ply none 0) s = .next t ∧
      (t.ply w).phase = (if (s.ply w).num = ply.toNat then 5 else 4) ∧ s.PagesBut t [0x10, 0x11] ∧ t = { s with regs := t.regs, xe := t.xe }) ∧
  (∀ (i : BitVec 14) (s : State), s.mode ≠ 3 ∨ s.pr.handed = true ∨ mlCount s.pr.active ≤ i.toNat →
    exec (.mirrorRangeFinal i) s = .next s) ∧
  (∀ (i : BitVec 14) (w : Fin 3) (s : State), s.mode = 3 → s.pr.handed = false → i.toNat < mlCount s.pr.active →
    (mlEntry s.pr.active i.toNat).writer = w + 1 → s.flag R.PAIR_STAT_PSYNC = true → s.pr.finalW ≠ w + 1 → s.Alone w → (s.ply w).phase = 4 →
    (s.ply w).acked = false → (smGet (0, 0) s.pr.sent (w + 1)).2 < (s.ranges (w + 1)).length →
    ∃ t, exec (.mirrorRangeFinal i) s = .next t ∧ (smGet (0, 0) t.pr.sent (w + 1)).2 = (smGet (0, 0) s.pr.sent (w + 1)).2 + 1 ∧
      (t.ply w).phase = 4 ∧ s.RegsBut t [] ∧ t = { s with regs := t.regs, outs := t.outs, pr := t.pr, xe := t.xe } ∧
      ∀ o ∈ t.outs, o ∈ s.outs ∨ outIsMirror o = true) ∧
  (∀ (a : BitVec 25) (w : BitVec 8) (m : BitVec 6) (s : State), s.mode ≠ 3 → s.mode ≠ 2 ∨ s.flag R.SYS_MODE_SYNC = false →
    exec (.mirrorEscape a w m) s = .next s) ∧
  (∀ (a : BitVec 25) (w : BitVec 8) (m : BitVec 6) (s : State), s.mode = 3 ∨ (s.mode = 2 ∧ s.flag R.PAIR_STAT_SYNC = true ∧ s.flag R.SYS_MODE_SYNC = true) →
    s.flag R.SAF_CFG_RSTALL = false →
    ∃ t, exec (.mirrorEscape a w m) s = .next t ∧ s.Counted t R.PAIR_ESC_COUNT ∧ (s.rd R.PAIR_ESC_COUNT = 0 → t.rd R.PAIR_ESC_ADDR = a.toNat ∧
      t.rd R.PAIR_ESC_WRITER = w.toNat ∧ t.rd R.PAIR_ESC_MASTER = m.toNat) ∧ t.mode = 4 ∧ t.rd R.SYS_MODE_HOLDCAUSE = 4 ∧
      nbit (t.rd R.SAF_CAUSES) 11 = true ∧ s.Rose t 0x05 4 ∧ t.safe = true ∧ s.SameMem t)

/-- On the open page a MLDATA write stores the word at MLADDR in the staged list, in the active list only in START, SERVICE or the Program
phase of a join (else 0x55), and nowhere beyond the list; an access moves MLADDR on by one word, a write counts CFGGEN, and a read answers
the word. ML_CHECK computes MLVOL and stores 0 in MLCHK for a list that meets R236, else records 0x54 with the number of the first entry
that fails. A message on a link that is down has no effect; one on a link that is up: ECHO stores the partner's echo delays, a publication
key is kept, a seal cancel counts only in TRACK, a joining module alone takes the lead's ply numbers, and a reply that nothing waits for has
no effect. (11_pair.md, R231; 11_pair.md, R236; 11_pair.md, R241; 11_pair.md, R243; 07_sealed_move.md, R151; 10_ramette_stations.md, R209;
19_command_protocol.md, R414) -/
def Obligations.MirrorListsAndMessages : Prop :=
  (∀ (m : BitVec 6) (v : BitVec 32) (s : State), s.Open 0x3A →
    ∃ t, exec (.mldataAccess m true v) s = .next t ∧ t.rd R.PAIR_MLADDR_OFFSET = (s.rd R.PAIR_MLADDR_OFFSET + 1) % 2 ^ 16 ∧
      t.rd R.H_CFGGEN 0 0x3A = (s.rd R.H_CFGGEN 0 0x3A + 1) % 2 ^ 32 ∧
      if 32772 ≤ s.rd R.PAIR_MLADDR_OFFSET then s.OnlyRegs t [R.PAIR_MLADDR_OFFSET.key 0 0 0, R.H_CFGGEN.key 0 0x3A 0]
      else if s.flag R.PAIR_MLADDR_LIST = false then
        t.pr = { s.pr with staged := smSet 0 s.pr.staged (s.rd R.PAIR_MLADDR_OFFSET) v.toNat } ∧
          s.RegsBut t [R.PAIR_MLADDR_OFFSET.key 0 0 0, R.H_CFGGEN.key 0 0x3A 0] ∧ t = { s with regs := t.regs, pr := t.pr }
      else if s.mode = 1 ∨ s.mode = 5 ∨ (s.mode = 2 ∧ s.rd R.PAIR_SYNC_STAT_PHASE = 1 ∧ s.pr.joinLead = false) then
        t.pr = { s.pr with active := smSet 0 s.pr.active (s.rd R.PAIR_MLADDR_OFFSET) v.toNat } ∧
          s.RegsBut t [R.PAIR_MLADDR_OFFSET.key 0 0 0, R.H_CFGGEN.key 0 0x3A 0] ∧ t = { s with regs := t.regs, pr := t.pr }
      else s.Recorded t 0x3A 0x55 0x180 ∧ s.OnlyRegs t (R.PAIR_MLADDR_OFFSET.key 0 0 0 :: R.H_CFGGEN.key 0 0x3A 0 :: errKeys 0x3A)) ∧
  (∀ (m : BitVec 6) (v : BitVec 32) (s : State), s.Open 0x3A → s.rd R.PAIR_MLADDR_OFFSET < 32772 →
    ∃ t, exec (.mldataAccess m false v) s = .next t ∧ t.rd R.PAIR_MLADDR_OFFSET = (s.rd R.PAIR_MLADDR_OFFSET + 1) % 2 ^ 16 ∧
      t.bus.data = leBytes 4 (smGet 0 (if s.flag R.PAIR_MLADDR_LIST then s.pr.active else s.pr.staged) (s.rd R.PAIR_MLADDR_OFFSET)) ∧
      s.RegsBut t [R.PAIR_MLADDR_OFFSET.key 0 0 0] ∧ t = { s with regs := t.regs, bus := t.bus }) ∧
  (∀ (m : BitVec 6) (s : State), s.Open 0x3A → s.rd R.PAIR_SYNC_STAT_PHASE ≠ 1 →
    ∃ t, exec (.mlCheck m) s = .next t ∧
      (s.mlHeadOk = true → (∀ i ∈ upTo (mlCount s.pr.staged), s.mlEntryOk i = true) → t.rd R.PAIR_MLCHK = 0 ∧
        t.rd R.H_ERR_CODE 0 0x3A = s.rd R.H_ERR_CODE 0 0x3A) ∧
      (s.mlHeadOk = false → t.rd R.PAIR_MLCHK = 0 ∧ s.Recorded t 0x3A 0x54 0x178) ∧
      (s.mlHeadOk = true → ∀ i ∈ upTo (mlCount s.pr.staged), s.mlEntryOk i = false → (∀ j ∈ upTo i, s.mlEntryOk j = true) →
        t.rd R.PAIR_MLCHK = i + 1 ∧ s.Recorded t 0x3A 0x54 0x178) ∧
      (∀ n : Fin 3, t.rd R.PAIR_MLVOL n = s.mlVolume n % 2 ^ 32) ∧ s.PagesBut t [0x3A] ∧ s.RegsAlone t) ∧
  (∀ (l : Fin 2) (msg : FwdMsg) (s : State), s.linkUp l = false → exec (.fwdReceived l msg) s = .next s) ∧
  (∀ (l : Fin 2) (g : Fin 16) (a b : BitVec 8) (s : State), s.linkUp l = true →
    ∃ t, exec (.fwdReceived l (.echo g a b)) s = .next t ∧ t.rd R.RMT_PECHO_A 0 g = a.toNat % 2 ^ R.RMT_PECHO_A.width ∧
      t.rd R.RMT_PECHO_B 0 g = b.toNat % 2 ^ R.RMT_PECHO_B.width ∧ s.OnlyRegs t [R.RMT_PECHO_A.key 0 g 0, R.RMT_PECHO_B.key 0 g 0, R.H_CFGGEN.key 0 (segPage g) 0]) ∧
  (∀ (l : Fin 2) (slot : Bool) (key : BitVec 256) (s : State), s.linkUp l = true →
    ∃ t, exec (.fwdReceived l (.publicationKey slot key)) s = .next t ∧ t.ncp.hasKeys = true ∧
      (if slot then t.ncp.key1 else t.ncp.key0) = key.toNat ∧ (if slot then t.ncp.key0 = s.ncp.key0 else t.ncp.key1 = s.ncp.key1) ∧
      t = { s with ncp := t.ncp }) ∧
  (∀ (l : Fin 2) (ok : Bool) (s : State), s.linkUp l = true → s.ncp.sealGo = none → s.ncp.forceGo = none →
    exec (.fwdReceived l (.sealReply ok)) s = .next s ∧ exec (.fwdReceived l (.forceReply ok)) s = .next s) ∧
  (∀ (l : Fin 2) (s : State), s.linkUp l = true → s.mode ≠ 2 ∨ s.rd R.XE_SM_STAT_STATE ≠ 3 → exec (.fwdReceived l .sealCancel) s = .next s) ∧
  (∀ (l : Fin 2) (a b c : BitVec 32) (s : State), s.linkUp l = true → ∃ t, exec (.fwdReceived l (.join (.plies a b c))) s = .next t ∧
    if s.joins = true then t.rd R.XE_CLS_PLY 0 = a.toNat ∧ t.rd R.XE_CLS_PLY 1 = b.toNat ∧ t.rd R.XE_CLS_PLY 2 = c.toNat ∧
      s.RegsBut t [R.XE_CLS_PLY.key 0 0 0, R.XE_CLS_PLY.key 1 0 0, R.XE_CLS_PLY.key 2 0 0] ∧ t = { s with regs := t.regs, crt := t.crt }
    else t = s)

/-- A JOIN command of an unsynchronised TRACK whose partner leads without a mismatch starts the join, in Program when the layouts differ and
in Bulk else; in any other case it records 0x53. JOIN_PHASE_COMPLETE leads from Program to Bulk and from Bulk to the dirty rounds; the final
phase ends in the joining module with SYNC and source 172. A failed join shows its cause in FAIL and PHASE FAILED. At the end of a cycle a
lead (with arbiters, alone) with a majority has NOMAJ 0; without one for LEASECYC cycles it enters HOLD with HOLDCAUSE 3 and source 167;
where the other side has the majority it enters TRACK unsynchronised. A synchronised TRACK that hears neither HEARTBEAT nor a BEACON with
LEASE claims with EPOCH + 1 and its side; its claim wins LEAD with a majority, and is withdrawn with SYNC where the other side has it.
(11_pair.md, R242; 11_pair.md, R244; 11_pair.md, R245; 11_pair.md, R250; 11_pair.md, R253; 11_pair.md, Tables 11.5, 11.6 and 11.7) -/
def Obligations.JoinsClaimsAndLeases : Prop :=
  (∀ (m : BitVec 6) (s : State), s.Open 0x3A →
    ∃ t, exec (.syncCmdJoin m) s = .next t ∧
      if s.mode = 2 ∧ s.flag R.PAIR_STAT_SYNC = false ∧ s.rd R.PAIR_STAT_PMODE = 3 ∧ s.flag R.PAIR_STAT_PARTNER = true ∧
        s.rd R.PAIR_STAT_MISMATCH = 0 ∧ (s.rd R.PAIR_SYNC_STAT_PHASE = 0 ∨ 5 ≤ s.rd R.PAIR_SYNC_STAT_PHASE) then
        t.rd R.PAIR_SYNC_STAT_PHASE = (if s.pr.playout = s.layoutId then 2 else 1) ∧ t.rd R.PAIR_SYNC_STAT_FAIL = 0 ∧
          t.rd R.SYS_MODE_RESTART = 3 ∧ t.pr.joinLead = false ∧ t.mode = 2 ∧ s.SameMem t
      else s.Refused t 0x3A 0x53 0x1A0) ∧
  (∀ s : State, (s.rd R.PAIR_SYNC_STAT_PHASE = 0 ∨ 5 ≤ s.rd R.PAIR_SYNC_STAT_PHASE) → exec .joinPhaseComplete s = .next s) ∧
  (∀ s : State, s.pr.joinLead = false → s.rd R.PAIR_SYNC_STAT_PHASE = 1 ∨ s.rd R.PAIR_SYNC_STAT_PHASE = 2 →
    ∃ t, exec .joinPhaseComplete s = .next t ∧ t.rd R.PAIR_SYNC_STAT_PHASE = s.rd R.PAIR_SYNC_STAT_PHASE + 1 ∧
      s.RegsBut t [R.PAIR_SYNC_STAT_PHASE.key 0 0 0] ∧ t = { s with regs := t.regs, pr := { s.pr with round := t.pr.round } }) ∧
  (∀ s : State, s.pr.joinLead = false → s.mode = 2 → s.rd R.PAIR_SYNC_STAT_PHASE = 4 →
    ∃ t, exec .joinPhaseComplete s = .next t ∧ t.rd R.PAIR_SYNC_STAT_PHASE = 0 ∧ t.flag R.PAIR_STAT_SYNC = true ∧ t.flag R.SYS_MODE_SYNC = true ∧
      s.Rose t 0x3A 8 ∧ s.OnlyRegs t ([R.PAIR_SYNC_STAT_PHASE.key 0 0 0, R.PAIR_STAT_SYNC.key 0 0 0, R.SYS_MODE_SYNC.key 0 0 0] ++ evKeys 0x3A)) ∧
  (∀ (cause : BitVec 3) (s : State), (∀ v ∈ workOrder, (s.ply v).phase = 0) → s.pr.esc = false → s.rd R.XE_ET_PEND = 0 →
    ∃ t, exec (.joinFail cause) s = .next t ∧ s.PagesBut t [0x3A, 0x10, 0x11] ∧ s.SameMem t ∧
      if 1 ≤ s.rd R.PAIR_SYNC_STAT_PHASE ∧ s.rd R.PAIR_SYNC_STAT_PHASE ≤ 4 then
        t.rd R.PAIR_SYNC_STAT_PHASE = 5 ∧ t.rd R.PAIR_SYNC_STAT_FAIL = cause.toNat ∧ t.pr.joinLead = false
      else t.rd R.PAIR_SYNC_STAT_PHASE = s.rd R.PAIR_SYNC_STAT_PHASE) ∧
  (∀ s : State, s.mode = 0 → exec .pairCycleEnd s = .next s) ∧
  (∀ s : State, s.mode = 3 → 1 ≤ s.rd R.PAIR_ARB_N → s.pr.claimKind = 0 → s.pr.handed = false → s.pr.castKind = 0 → s.flag R.PAIR_STAT_PSYNC = false →
    s.pr.esc = false → (∀ v ∈ workOrder, (s.ply v).phase = 0) → s.rd R.XE_ET_PEND = 0 →
    ∃ t, exec .pairCycleEnd s = .next t ∧ t.rd R.PAIR_VOTES_OWN = s.votes s.side % 2 ^ 4 ∧ t.rd R.PAIR_VOTES_OTHER = s.votes (1 - s.side) % 2 ^ 4 ∧
      if s.rd R.PAIR_ARB_N < 2 * s.votes s.side then t.mode = 3 ∧ t.rd R.PAIR_LEASE_NOMAJ = 0
      else if s.rd R.PAIR_ARB_N < 2 * s.votes (1 - s.side) then t.mode = 2 ∧ t.flag R.PAIR_STAT_SYNC = false ∧ t.flag R.PAIR_STAT_LEASE = false ∧
        t.ownClaim = 0 ∧ s.Rose t 0x3A 3
      else s.Counted t R.PAIR_LEASE_NOMAJ ∧ if s.rd R.PAIR_LEASE_LEASECYC ≤ t.rd R.PAIR_LEASE_NOMAJ then
          t.mode = 4 ∧ t.rd R.SYS_MODE_HOLDCAUSE = 3 ∧ t.flag R.PAIR_STAT_LEASE = false ∧ s.Rose t 0x3A 3
        else t.mode = 3) ∧
  (∀ s : State, s.mode = 2 → s.flag R.PAIR_STAT_SYNC = true → s.pr.claimKind = 0 → s.pr.handed = false → s.pr.castRecv = 0 → s.pr.silent = true →
    s.pr.beacon0 = false → s.pr.beacon1 = false → 1 ≤ s.rd R.PAIR_ARB_N → s.rd R.PAIR_EPOCH < 0xFFFFFFFE → s.rd R.XE_SM_STAT_STATE ≠ 3 →
    ∃ t, exec .pairCycleEnd s = .next t ∧ t.ownClaim = (s.rd R.PAIR_EPOCH + 1) * 2 + s.side % 2 ∧ t.pr.claimKind = 1 ∧ t.rd R.PAIR_STAT_ROLE = 3 ∧
      t.mode = 2 ∧ s.SameMem t) ∧
  (∀ s : State, s.mode = 2 → s.pr.claimKind = 1 → 1 ≤ s.pr.claimCyc → s.pr.handed = false → 1 ≤ s.rd R.PAIR_ARB_N → s.pr.esc = false →
    (s.rd R.PAIR_ARB_N < 2 * s.votes s.side →
      ∃ t, exec .pairCycleEnd s = .next t ∧ t.mode = 3 ∧ t.flag R.PAIR_STAT_LEASE = true ∧ t.rd R.PAIR_STAT_ROLE = 1 ∧ s.Rose t 0x3A 5) ∧
    (2 * s.votes s.side ≤ s.rd R.PAIR_ARB_N → s.rd R.PAIR_ARB_N < 2 * s.votes (1 - s.side) →
      ∃ t, exec .pairCycleEnd s = .next t ∧ t.mode = 2 ∧ t.ownClaim = 0 ∧ t.flag R.PAIR_STAT_SYNC = false ∧ t.pr.claimKind = 0 ∧ s.SameMem t))

/-- CASTLE.CMD stores FORCED and, in a lead with a synchronised partner, a link up, no castling and no switch in progress, shows CASTLE
REQUESTED and sends CASTLE on every link that is up, else records 0x52. A request received in TRACK without a claim is kept for the end of
the cycle; an abandonment of one not yet claimed ends it with result 3; neither has an effect on a link that is down or outside TRACK.
CASTLING_HANDOVER, with the majority, no switch, and the gap of step 4 when planned, or a C1 COMMIT that ends or nothing running when
forced, abandons what runs, sends HANDOVER on every link that is up and shows ROLE and CASTLE of a module handed over; without these it does
nothing. CASTLING_NO_GAP of a planned castling ends it with result 3. HANDOVER_RECEIVED with the majority makes the claimant LEAD, raises
sources 169 and 171, counts the castling and takes the pending event tasks. (11_pair.md, R259; 11_pair.md, R260; 11_pair.md, R261;
11_pair.md, R262) -/
def Obligations.Castling : Prop :=
  (∀ (m : BitVec 6) (forced : Bool) (s : State), s.Open 0x3A →
    ∃ t, exec (.castleCmdReq m forced) s = .next t ∧ t.flag R.PAIR_CASTLE_CMD_FORCED = forced ∧ s.PagesBut t [0x3A] ∧
      if s.mode = 3 ∧ s.flag R.PAIR_STAT_PSYNC = true ∧ s.upLinks ≠ [] ∧ s.pr.castKind = 0 ∧ s.pr.handed = false ∧ s.rd R.XE_SM_STAT_STATE ≠ 4 then
        t.rd R.PAIR_STAT_CASTLE = 1 ∧ t.pr.castKind = (if forced then 2 else 1) ∧ t.pr.castMaj = false ∧
          (∀ l ∈ s.upLinks, .pl l (plFrame 0x06 0 (s.seqOf l 6) [if forced then 2 else 1]) ∈ t.outs) ∧
          t = { s with regs := t.regs, outs := t.outs, pr := t.pr }
      else s.Recorded t 0x3A 0x52 0x1A4 ∧ s.RegsAlone t) ∧
  (∀ (l : Fin 2) (kind : BitVec 8) (s : State), s.linkUp l = false ∨ s.mode ≠ 2 → exec (.castleReceived l kind) s = .next s) ∧
  (∀ (l : Fin 2) (kind : BitVec 8) (s : State), s.linkUp l = true → s.mode = 2 → s.pr.claimKind = 0 → s.ncp.castle = none →
    ∃ t, exec (.castleReceived l kind) s = .next t ∧
      if kind = 1 ∨ kind = 2 then t.rd R.PAIR_STAT_CASTLE = 1 ∧ t.pr = { s.pr with castRecv := kind.toNat } ∧ t = { s with regs := t.regs, pr := t.pr } ∧
        s.RegsBut t [R.PAIR_STAT_CASTLE.key 0 0 0]
      else if kind = 3 ∧ s.pr.castRecv ≠ 0 then t.rd R.PAIR_STAT_CASTLE = 0 ∧ t.rd R.PAIR_CASTLE_STAT_RESULT = 3 ∧ t.pr.castRecv = 0 ∧
        s.RegsBut t [R.PAIR_STAT_CASTLE.key 0 0 0, R.PAIR_CASTLE_STAT_RESULT.key 0 0 0]
      else t = s) ∧
  (∀ s : State, s.mode ≠ 3 ∨ s.pr.castKind = 0 ∨ s.pr.castMaj = false ∨ s.pr.handed = true ∨
      s.rd R.XE_SM_STAT_STATE = 4 ∨ (s.pr.castKind = 1 ∧ (s.allIdle = false ∨ s.gapFree 50000 = false)) ∨
      (s.pr.castKind = 2 ∧ s.allIdle = false ∧ s.commitEnded = false) → exec .castlingHandover s = .next s) ∧
  (∀ s : State, s.mode = 3 → s.pr.castKind ≠ 0 → s.pr.castMaj = true → s.pr.handed = false → s.rd R.XE_SM_STAT_STATE ≠ 4 →
    s.pr.castKind ≠ 1 ∨ s.gapFree 50000 = true → s.NoWork →
    ∃ t, exec .castlingHandover s = .next t ∧ t.pr.handed = true ∧ t.rd R.PAIR_STAT_ROLE = 4 ∧ t.rd R.PAIR_STAT_CASTLE = 4 ∧ t.rd R.XE_ET_PEND = 0 ∧
      (∀ l ∈ s.upLinks, ∃ o ∈ t.outs, outIsHandover o l = true) ∧ t.mode = 3 ∧ s.PagesBut t [0x3A, 0x10, 0x11] ∧ s.SameMem t) ∧
  (∀ s : State, s.mode ≠ 3 ∨ s.pr.castKind ≠ 1 ∨ s.pr.castMaj = false ∨ s.pr.handed = true → exec .castlingNoGap s = .next s) ∧
  (∀ s : State, s.mode = 3 → s.pr.castKind = 1 → s.pr.castMaj = true → s.pr.handed = false → s.ncp.castle = none →
    ∃ t, exec .castlingNoGap s = .next t ∧ t.rd R.PAIR_STAT_CASTLE = 0 ∧ t.rd R.PAIR_CASTLE_STAT_RESULT = 3 ∧ t.pr.castKind = 0 ∧ t.mode = 3 ∧
      s.RegsBut t [R.PAIR_STAT_CASTLE.key 0 0 0, R.PAIR_CASTLE_STAT_RESULT.key 0 0 0] ∧ t = { s with regs := t.regs, outs := t.outs, pr := t.pr }) ∧
  (∀ (l : Fin 2) (abrupt : Bool) (plies : List (BitVec 32)) (nexts : List (BitVec 64)) (inNt : List Bool) (tasks : BitVec 16) (s : State),
    s.linkUp l = false ∨ s.mode ≠ 2 ∨ s.pr.claimKind ≠ 2 ∨ s.pr.castMaj = false →
    exec (.handoverReceived l abrupt plies nexts inNt tasks) s = .next s) ∧
  (∀ (l : Fin 2) (plies : List (BitVec 32)) (nexts : List (BitVec 64)) (inNt : List Bool) (tasks : BitVec 16) (s : State),
    s.linkUp l = true → s.mode = 2 → s.pr.claimKind = 2 → s.pr.castMaj = true → s.pr.esc = false → s.safe = false → s.unitOn 0x10 = true →
    (∀ v ∈ workOrder, (s.ply v).phase = 0) →
    ∃ t, exec (.handoverReceived l false plies nexts inNt tasks) s = .next t ∧ t.mode = 3 ∧ t.flag R.PAIR_STAT_LEASE = true ∧
      t.flag R.PAIR_STAT_PSYNC = true ∧ t.rd R.PAIR_CASTLE_STAT_COUNT = (s.rd R.PAIR_CASTLE_STAT_COUNT + 1) % 2 ^ 16 ∧ s.Rose t 0x3A 5 ∧
      s.Rose t 0x3A 7 ∧ t.pr.newLead = true ∧
      (∀ n : Fin 3, s.flag R.XE_CLS_CFG_EN n = true → (t.ply n).next = some (nexts.getD n 0).toNat ∧
        t.rd R.XE_CLS_PLY n = ((plies.getD n 0).toNat + 2 ^ 32 - 1) % 2 ^ 32))

/-- On the open TIM page a read of MTLO or NTLO answers the low half and latches the upper half for its master alone; SNAP latches MT, NT
and the fraction of one tick. NTINC takes a value from 0x3FEF9DB2 to 0x4010624E and refuses any other with 0x61. SET with LOCKED 0 and no
step pending counts GEN, and the next tick loads NT with fraction 0, else it records 0x63. A step while one is pending is refused with 0x60;
one beyond NTSTEPMAX without FORCE sets JUMP, raises source 186 and counts STEPREJ; any other is accepted, waits with STEPPEND and GO 1
while a switch runs, and re-anchors the classes on network time. The tick that applies accepted steps adds each VAL and NTINC to NT, counts
GEN, clears STEPPEND, and shifts the targets of owned channels on network time. NT_WRAP awaits the tick in which NTHI changes, with source
185. A change of LOCKED re-anchors each enabled class with TBASE 0 and no other. (12_time.md, R265; 12_time.md, R266; 12_time.md, R267;
12_time.md, R268; 12_time.md, R269; 12_time.md, R270; 12_time.md, R272) -/
def Obligations.ClocksAreReadSetAndStepped : Prop :=
  (∀ (m : BitVec 6) (s : State), s.Open 0x40 → ∃ t, exec (.mtRead m) s = .next t ∧ t.bus.data = leBytes 4 (s.mt % 2 ^ 32) ∧
    t.rd R.TIM_MTHI 0 0 m.toNat = s.mt / 2 ^ 32 % 2 ^ 32 ∧ s.RegsBut t [R.TIM_MTHI.key 0 0 m.toNat] ∧
    t = { s with regs := t.regs, bus := t.bus }) ∧
  (∀ (m : BitVec 6) (s : State), s.Open 0x40 → ∃ t, exec (.ntRead m) s = .next t ∧ t.bus.data = leBytes 4 (s.tim.nt % 2 ^ 32) ∧
    t.rd R.TIM_NTHI 0 0 m.toNat = s.tim.nt / 2 ^ 32 % 2 ^ 32 ∧ s.RegsBut t [R.TIM_NTHI.key 0 0 m.toNat] ∧
    t = { s with regs := t.regs, bus := t.bus }) ∧
  (∀ (m : BitVec 6) (s : State), s.Open 0x40 → s.mt < 2 ^ 64 → s.tim.nt < 2 ^ 64 → s.tim.frac < 2 ^ 28 →
    ∃ t, exec (.timeSnapshot m) s = .next t ∧ t.rd2 R.TIM_SNAP_MTLO R.TIM_SNAP_MTHI = s.mt ∧
      t.rd2 R.TIM_SNAP_NTLO R.TIM_SNAP_NTHI = s.tim.nt ∧ t.rd R.TIM_SNAP_NTFRAC = s.tim.frac ∧
      s.OnlyRegs t [R.TIM_SNAP_MTLO.key 0 0 0, R.TIM_SNAP_MTHI.key 0 0 0, R.TIM_SNAP_NTLO.key 0 0 0, R.TIM_SNAP_NTHI.key 0 0 0,
        R.TIM_SNAP_NTFRAC.key 0 0 0]) ∧
  (∀ (m : BitVec 6) (v : BitVec 32) (s : State), s.Open 0x40 → ∃ t, exec (.ntincWrite m v) s = .next t ∧
    if 0x3FEF9DB2 ≤ v.toNat ∧ v.toNat ≤ 0x4010624E then
      t.rd R.TIM_NTINC = v.toNat ∧ s.OnlyRegs t [R.TIM_NTINC.key 0 0 0, R.H_CFGGEN.key 0 0x40 0]
    else s.Refused t 0x40 0x61 0x110) ∧
  (∀ (m : BitVec 6) (s : State), s.Open 0x40 → ∃ t, exec (.ntSet m) s = .next t ∧
    if s.flag R.TIM_NTCTL_LOCKED = true ∨ s.flag R.TIM_NTSTAT_STEPPEND = true then s.Refused t 0x40 0x63 0x128
    else t.tim = { s.tim with set := some (s.rd R.TIM_NTSETLO + s.rd R.TIM_NTSETHI * 2 ^ 32) } ∧
      t.rd R.TIM_NTSTAT_GEN = (s.rd R.TIM_NTSTAT_GEN + 1) % 2 ^ 8 ∧ s.RegsBut t [R.TIM_NTSTAT_GEN.key 0 0 0] ∧
      t = { s with regs := t.regs, tim := t.tim }) ∧
  (∀ (v : BitVec 64) (s : State), s.pending = [] → s.tim.steps = [] →
    (∀ k ∈ upTo 8, ({ s with tim := { s.tim with set := some v.toNat } } : State).clockTick.matchesNow k = false) →
    ∃ t, step { s with tim := { s.tim with set := some v.toNat } } = .next t ∧ t.mt = (s.mt + 4) % 2 ^ 64 ∧ t.tim.nt = (v.toNat + s.rd R.TIM_NTINC / 2 ^ 28) % 2 ^ 64 ∧
      t.tim.frac = s.rd R.TIM_NTINC % 2 ^ 28 ∧ t.tim.set = none ∧
      (t.tim.nt / 2 ^ 32 = v.toNat / 2 ^ 32 → t.regs = s.regs) ∧ (t.tim.nt / 2 ^ 32 ≠ v.toNat / 2 ^ 32 → s.Rose t 0x40 9) ∧
      s.RegsBut t (evKeys 0x40) ∧ t = { s with regs := t.regs, mt := t.mt, tim := t.tim }) ∧
  (∀ (m : BitVec 6) (force : Bool) (s : State), s.Open 0x40 → ∃ t, exec (.ntStep m force) s = .next t ∧
    if s.flag R.TIM_NTSTAT_STEPPEND = true then s.Refused t 0x40 0x60 0x118
    else if force = false ∧ s.rd R.TIM_NTSTEPMAX < (BitVec.ofNat 32 (s.rd R.TIM_NTSTEP_VAL)).toInt.natAbs then
      t.flag R.TIM_NTSTAT_JUMP = true ∧ s.Rose t 0x40 10 ∧ s.Counted t R.TIM_NTSTAT_STEPREJ ∧
        s.OnlyRegs t ([R.TIM_NTSTAT_JUMP.key 0 0 0, R.TIM_NTSTAT_STEPREJ.key 0 0 0] ++ evKeys 0x40)
    else t.tim = { s.tim with steps := s.tim.steps ++ [s.rd R.TIM_NTSTEP_VAL] } ∧
      (if s.rd R.XE_SM_STAT_STATE = 4 then t.flag R.TIM_NTSTAT_STEPPEND = true ∧ t.flag R.TIM_NTSTEP_CMD_GO = true
        else t.rd R.TIM_NTSTAT_STEPPEND = s.rd R.TIM_NTSTAT_STEPPEND ∧ t.rd R.TIM_NTSTEP_CMD_GO = s.rd R.TIM_NTSTEP_CMD_GO) ∧
      (∀ n : Fin 3, if s.flag R.XE_CLS_CFG_EN n = true ∧ s.rd R.XE_CLS_CFG_TBASE n = 0 ∧ s.flag R.TIM_NTCTL_LOCKED = true then
          s.Counted t R.XE_CLS_SKIP_REANCHOR n ∧ nbit (t.ply n).cause 4 = true ∧ ((s.ply n).next ≠ none → (t.ply n).reanch = true) ∧
            ((s.ply n).next ≠ none → (t.ply n).next = (s.ply n).next)
        else t.ply n = s.ply n ∧ t.rd R.XE_CLS_SKIP_REANCHOR n = s.rd R.XE_CLS_SKIP_REANCHOR n) ∧
      s.RegsBut t ([R.TIM_NTSTAT_STEPPEND.key 0 0 0, R.TIM_NTSTEP_CMD_GO.key 0 0 0] ++ (upTo 3).map (R.XE_CLS_SKIP_REANCHOR.key · 0 0)) ∧
      t = { s with regs := t.regs, tim := t.tim, xe := t.xe }) ∧
  (∀ s : State, s.tim.steps = [] ∨ (s.flag R.TIM_NTSTAT_STEPPEND = true ∧ s.rd R.XE_SM_STAT_STATE = 4) → exec .ntStepApply s = .next s) ∧
  (∀ (v : BitVec 32) (vs : List (BitVec 32)) (s : State), s.tim.steps = (v :: vs).map BitVec.toNat ∧ s.tim.set = none →
    ¬ (s.flag R.TIM_NTSTAT_STEPPEND = true ∧ s.rd R.XE_SM_STAT_STATE = 4) → s.tim.nt < 2 ^ 64 ∧ s.tim.frac < 2 ^ 28 →
    (∀ k ∈ upTo 8, s.clockTick.matchesNow k = false) →
    ∃ t, exec .ntStepApply s = .next t ∧ t.mt = (s.mt + 4) % 2 ^ 64 ∧ t.tim.steps = [] ∧
      ((t.tim.nt : Int) * 2 ^ 28 + t.tim.frac) =
        ((s.tim.nt + ((v :: vs).map BitVec.toInt).sum) * 2 ^ 28 + s.tim.frac + s.rd R.TIM_NTINC) % 2 ^ 92 ∧
      t.rd R.TIM_NTSTAT_GEN = (s.rd R.TIM_NTSTAT_GEN + vs.length + 1) % 2 ^ 8 ∧ t.flag R.TIM_NTSTAT_STEPPEND = false ∧ t.flag R.TIM_NTSTEP_CMD_GO = false ∧
      (t.tim.nt / 2 ^ 32 ≠ s.tim.nt / 2 ^ 32 → s.Rose t 0x40 9) ∧
      (∀ n : Fin 3, t.ply n = if s.flag R.XE_CLS_CFG_EN n = true ∧ s.ownerOf (s.rd R.XE_CLS_CFG_TRIGCH n) = n + 1 ∧ (s.ply n).aligned = true then
          { s.ply n with next := (s.ply n).next.map fun a => (((a : Int) + ((v :: vs).map BitVec.toInt).sum) % 2 ^ 64).toNat }
        else s.ply n) ∧
      s.RegsBut t tickKeys ∧ t = { s with regs := t.regs, mt := t.mt, tim := t.tim, xe := t.xe }) ∧
  (∀ s : State, s.ClocksFree → s.tim.nt < 2 ^ 64 → s.tim.frac < 2 ^ 28 → 1 ≤ s.rd R.TIM_NTINC → s.tim.nt / 2 ^ 32 + 1 < 2 ^ 32 →
    ∃ t, exec .ntWrap s = .next t ∧ t.tim.nt / 2 ^ 32 = s.tim.nt / 2 ^ 32 + 1 ∧ s.Rose t 0x40 9 ∧
      t.tim.nt * 2 ^ 28 + t.tim.frac < (s.tim.nt / 2 ^ 32 + 1) * 2 ^ 60 + s.rd R.TIM_NTINC ∧
      (t.tim.nt * 2 ^ 28 + t.tim.frac - (s.tim.nt * 2 ^ 28 + s.tim.frac)) % s.rd R.TIM_NTINC = 0 ∧
      (t.mt + 2 ^ 64 - s.mt % 2 ^ 64) % 2 ^ 64 =
        (t.tim.nt * 2 ^ 28 + t.tim.frac - (s.tim.nt * 2 ^ 28 + s.tim.frac)) / s.rd R.TIM_NTINC * 4 % 2 ^ 64 ∧
      s.RegsBut t (evKeys 0x40) ∧ t = { s with regs := t.regs, mt := t.mt, tim := t.tim }) ∧
  (∀ (m : BitVec 6) (b : Bool) (s : State), s.Open 0x40 → ∃ t, exec (.ntLockedWrite m b) s = .next t ∧ t.flag R.TIM_NTCTL_LOCKED = b ∧
    (∀ n : Fin 3, s.flag R.TIM_NTCTL_LOCKED ≠ b → s.flag R.XE_CLS_CFG_EN n = true → s.rd R.XE_CLS_CFG_TBASE n = 0 →
      s.Counted t R.XE_CLS_SKIP_REANCHOR n ∧ nbit (t.ply n).cause 4 = true ∧ ((s.ply n).next ≠ none → (t.ply n).reanch = true)) ∧
    (∀ n : Fin 3, s.flag R.TIM_NTCTL_LOCKED = b ∨ s.flag R.XE_CLS_CFG_EN n = false ∨ s.rd R.XE_CLS_CFG_TBASE n ≠ 0 → t.ply n = s.ply n) ∧
    s.RegsBut t ([R.TIM_NTCTL_LOCKED.key 0 0 0, R.H_CFGGEN.key 0 0x40 0] ++ (upTo 3).map (R.XE_CLS_SKIP_REANCHOR.key · 0 0)) ∧
    t = { s with regs := t.regs, xe := t.xe })

/-- COMPARE_MATCH awaits the first tick in which the channel's time base is at or above its target. There a channel that no class owns, in
MODE 1 or 2, raises its source, counts, is captured by the channels that select it, and starts a pulse when PPSOUT is set; MODE 1 goes to
off, MODE 2 to the next target above its time base; in MODE 0 nothing happens. An owned channel matches at its class's next trigger and does
so as well, its stored target and MODE unused. A pulse ends PWIDTH ms after its start; the output falls when no other is high. An edge that
an enabled capture channel selects (of no DI on S08) latches MT, NT and GEN with source 184, or while VALID is 1 counts as lost and keeps
what is held; any other edge does nothing. 1,100 ms without a 1PPS edge raise source 187, a line fault 191. POP removes the head of a stamp
FIFO. (12_time.md, R273; 12_time.md, R274; 12_time.md, R275; 12_time.md, R276; 12_time.md, R277; 12_time.md, R279; 12_time.md, Table 12.2)
-/
def Obligations.ComparesCapturesAndTheTimePort : Prop :=
  (∀ (k : Fin 8) (late : Nat) (s : State), s.ownerOf k = 0 → s.rd R.TIM_CMP_CFG_MODE k ≠ 1 → s.rd R.TIM_CMP_CFG_MODE k ≠ 2 →
    exec (.compareMatch k late) s = .next s) ∧
  (∀ (k : Fin 8) (late : Nat) (s : State), s.ownerOf k = 0 → s.rd R.TIM_CMP_CFG_MODE k = 1 ∨ s.rd R.TIM_CMP_CFG_MODE k = 2 → s.ClocksFree →
    s.mt < 2 ^ 64 ∧ s.tim.nt < 2 ^ 64 ∧ s.tim.frac < 2 ^ 28 ∧ s.rd2 R.TIM_CMP_TGTLO R.TIM_CMP_TGTHI k + 2 ^ 32 < 2 ^ 64 →
    smGet 0 s.tim.armed k + 2 ^ 32 < 2 ^ 64 ∧ 1 ≤ s.rd R.TIM_NTINC →
    ∃ t, exec (.compareMatch k late) s = .next t ∧
      (if s.flag R.TIM_CMP_CFG_TBASE k = true then
        s.rd2 R.TIM_CMP_TGTLO R.TIM_CMP_TGTHI k ≤ t.tim.nt ∧
          (t.tim.nt * 2 ^ 28 + t.tim.frac < s.rd2 R.TIM_CMP_TGTLO R.TIM_CMP_TGTHI k * 2 ^ 28 + s.rd R.TIM_NTINC ∨
            t.mt < smGet 0 s.tim.armed k + 4 ∨ t.mt = s.mt)
      else max (s.rd2 R.TIM_CMP_TGTLO R.TIM_CMP_TGTHI k) (smGet 0 s.tim.armed k) ≤ t.mt ∧
        (t.mt < max (s.rd2 R.TIM_CMP_TGTLO R.TIM_CMP_TGTHI k) (smGet 0 s.tim.armed k) + 4 ∨ t.mt = s.mt)) ∧
      s.Rose t 0x40 k ∧ t.rd R.TIM_CMP_COUNT k = (s.rd R.TIM_CMP_COUNT k + 1) % 2 ^ 32 ∧
      (s.flag R.TIM_CMP_CFG_PPSOUT k = true → t.flag R.TIM_TPSTAT_PPSOUT = true ∧ smGet 0 t.tim.pulses k = t.mt + 1 ∧
        t.outs = if s.tim.pulses = [] then .pps true :: s.outs else s.outs) ∧
      (s.flag R.TIM_CMP_CFG_PPSOUT k = false → t.tim.pulses = s.tim.pulses ∧ t.outs = s.outs ∧
        t.rd R.TIM_TPSTAT_PPSOUT = s.rd R.TIM_TPSTAT_PPSOUT) ∧
      (∀ j : Fin 8, s.flag R.TIM_CAP_CFG_EN j = true → s.rd R.TIM_CAP_CFG_SRC j = 0x24 + k → s.rd R.TIM_CAP_CFG_EDGE j ≠ 0 →
        if s.flag R.TIM_CAP_STAT_VALID j = true then t.flag R.TIM_CAP_STAT_OVF j = true ∧ s.Counted t R.TIM_CAP_STAT_LOST j
        else t.rd2 R.TIM_CAP_MTLO R.TIM_CAP_MTHI j = t.mt ∧ t.rd2 R.TIM_CAP_NTLO R.TIM_CAP_NTHI j = t.tim.nt ∧
          t.flag R.TIM_CAP_STAT_VALID j = true ∧ t.rd R.TIM_CAP_STAT_GEN j = s.rd R.TIM_NTSTAT_GEN ∧ s.Rose t 0x40 8) ∧
      (s.rd R.TIM_CMP_CFG_MODE k = 1 → t.rd R.TIM_CMP_CFG_MODE k = 0 ∧
        t.rd2 R.TIM_CMP_TGTLO R.TIM_CMP_TGTHI k = s.rd2 R.TIM_CMP_TGTLO R.TIM_CMP_TGTHI k) ∧
      (s.rd R.TIM_CMP_CFG_MODE k = 2 → 1 ≤ s.rd R.TIM_CMP_PERIOD k →
        (if s.flag R.TIM_CMP_CFG_TBASE k then t.tim.nt else t.mt) + 2 ^ 32 < 2 ^ 64 → t.rd R.TIM_CMP_CFG_MODE k = 2 ∧
        (if s.flag R.TIM_CMP_CFG_TBASE k then t.tim.nt else t.mt) < t.rd2 R.TIM_CMP_TGTLO R.TIM_CMP_TGTHI k ∧
        s.rd2 R.TIM_CMP_TGTLO R.TIM_CMP_TGTHI k < t.rd2 R.TIM_CMP_TGTLO R.TIM_CMP_TGTHI k ∧
        (t.rd2 R.TIM_CMP_TGTLO R.TIM_CMP_TGTHI k - s.rd2 R.TIM_CMP_TGTLO R.TIM_CMP_TGTHI k) % s.rd R.TIM_CMP_PERIOD k = 0 ∧
        (t.rd2 R.TIM_CMP_TGTLO R.TIM_CMP_TGTHI k - s.rd R.TIM_CMP_PERIOD k = s.rd2 R.TIM_CMP_TGTLO R.TIM_CMP_TGTHI k ∨
          t.rd2 R.TIM_CMP_TGTLO R.TIM_CMP_TGTHI k - s.rd R.TIM_CMP_PERIOD k ≤ if s.flag R.TIM_CMP_CFG_TBASE k then t.tim.nt else t.mt)) ∧
      s.PagesBut t [0x40] ∧ t = { s with regs := t.regs, mt := t.mt, tim := t.tim, outs := t.outs }) ∧
  (∀ (k : Fin 8) (late : Nat) (n : Fin 3) (s : State), s.ownerOf k = n + 1 → (s.ply n).next = none → exec (.compareMatch k late) s = .next s) ∧
  (∀ (k : Fin 8) (late : Nat) (n : Fin 3) (at_ : BitVec 64) (s : State), s.ownerOf k = n + 1 → (s.ply n).next = some at_.toNat →
    s.ClocksFree → (s.ply n).aligned = false →
    ∃ t, exec (.compareMatch k late) s = .next t ∧ t.NotBefore at_.toNat ∧ s.Rose t 0x40 k ∧
      t.rd R.TIM_CMP_COUNT k = (s.rd R.TIM_CMP_COUNT k + 1) % 2 ^ 32 ∧
      t.rd R.TIM_CMP_CFG_MODE k = s.rd R.TIM_CMP_CFG_MODE k ∧ t.rd R.TIM_CMP_TGTLO k = s.rd R.TIM_CMP_TGTLO k ∧
      t.rd R.TIM_CMP_TGTHI k = s.rd R.TIM_CMP_TGTHI k ∧ (s.flag R.TIM_CMP_CFG_PPSOUT k = true → t.flag R.TIM_TPSTAT_PPSOUT = true)) ∧
  (∀ (k : Fin 8) (late : Nat) (n : Fin 3) (s : State), s.ownerOf k = n + 1 → (s.ply n).next ≠ none →
    s.xeTakes = false ∨ s.flag R.XE_CLS_STAT_SKIPNEXT n = true →
    ∃ t, exec (.compareMatch k late) s = .next t ∧ s.Rose t 0x40 k ∧ t.rd R.TIM_CMP_COUNT k = (s.rd R.TIM_CMP_COUNT k + 1) % 2 ^ 32 ∧
      t.rd R.TIM_CMP_CFG_MODE k = s.rd R.TIM_CMP_CFG_MODE k ∧ t.rd R.TIM_CMP_TGTLO k = s.rd R.TIM_CMP_TGTLO k ∧
      t.rd R.TIM_CMP_TGTHI k = s.rd R.TIM_CMP_TGTHI k ∧ s.PagesBut t [0x40, 0x11] ∧ s.SameMem t) ∧
  (∀ (m : BitVec 6) (k : Fin 8) (n : Fin 3) (at_ : BitVec 64) (s : State), s.ownerOf k = n + 1 → (s.ply n).next = some at_.toNat → s.Open 0x40 →
    (∃ t, exec (.rcCounterRead m 0x40 (BitVec.ofNat 10 (0x81 + 8 * k))) s = .next t ∧ t.bus.data = leBytes 4 (at_.toNat % 2 ^ 32)) ∧
    (∃ t, exec (.rcCounterRead m 0x40 (BitVec.ofNat 10 (0x82 + 8 * k))) s = .next t ∧ t.bus.data = leBytes 4 (at_.toNat / 2 ^ 32))) ∧
  (∀ (k : Fin 8) (s : State), smGet 0 s.tim.pulses k = 0 → exec (.ppsPulseEnd k) s = .next s) ∧
  (∀ (k : Fin 8) (p : BitVec 64) (s : State), s.ClocksFree → smGet 0 s.tim.pulses k = p.toNat + 1 →
    ∃ t, exec (.ppsPulseEnd k) s = .next t ∧ t.NotBefore (p.toNat + s.rd R.TIM_TPCFG_PWIDTH * 1000000) ∧
      t.tim.pulses = smSet 0 s.tim.pulses k 0 ∧ t.flag R.TIM_TPSTAT_PPSOUT = (smSet 0 s.tim.pulses k 0 != []) ∧
      t.outs = (if smSet 0 s.tim.pulses k 0 = [] then .pps false :: s.outs else s.outs) ∧
      s.RegsBut t (R.TIM_TPSTAT_PPSOUT.key 0 0 0 :: evKeys 0x40) ∧ t = { s with regs := t.regs, mt := t.mt, tim := t.tim, outs := t.outs }) ∧
  (∀ (k : Fin 8) (rising : Bool) (s : State), s.flag R.TIM_CAP_CFG_EN k = false ∨ 0x20 < s.rd R.TIM_CAP_CFG_SRC k ∨
      (s.rd R.SYS_IDENT_VARIANT = 2 ∧ s.rd R.TIM_CAP_CFG_SRC k < 0x20) ∨ nbit (s.rd R.TIM_CAP_CFG_EDGE k) (if rising then 0 else 1) = false →
    exec (.capture k rising) s = .next s) ∧
  (∀ (k : Fin 8) (rising : Bool) (s : State), s.flag R.TIM_CAP_CFG_EN k = true → s.rd R.TIM_CAP_CFG_SRC k ≤ 0x20 →
    ¬ (s.rd R.SYS_IDENT_VARIANT = 2 ∧ s.rd R.TIM_CAP_CFG_SRC k < 0x20) → nbit (s.rd R.TIM_CAP_CFG_EDGE k) (if rising then 0 else 1) = true →
    s.mt < 2 ^ 64 → s.tim.nt < 2 ^ 64 →
    ∃ t, exec (.capture k rising) s = .next t ∧ s.PagesBut t [0x40] ∧ s.RegsAlone t ∧
      if s.flag R.TIM_CAP_STAT_VALID k = true then t.flag R.TIM_CAP_STAT_OVF k = true ∧ s.Counted t R.TIM_CAP_STAT_LOST k ∧
        s.RegsBut t [R.TIM_CAP_STAT_OVF.key k 0 0, R.TIM_CAP_STAT_LOST.key k 0 0]
      else t.rd2 R.TIM_CAP_MTLO R.TIM_CAP_MTHI k = s.mt ∧ t.rd2 R.TIM_CAP_NTLO R.TIM_CAP_NTHI k = s.tim.nt ∧
        t.flag R.TIM_CAP_STAT_VALID k = true ∧ t.flag R.TIM_CAP_STAT_RISE k = rising ∧ t.rd R.TIM_CAP_STAT_GEN k = s.rd R.TIM_NTSTAT_GEN ∧
        s.Rose t 0x40 8) ∧
  (∀ s : State, exec .ppsInputEdge s = .next { s with tim := { s.tim with edgeAt := s.mt } }) ∧
  (∀ s : State, s.flag R.TIM_TPCFG_INEN = false → exec .ppsInputMissing s = .next s) ∧
  (∀ s : State, s.flag R.TIM_TPCFG_INEN = true → s.ClocksFree → ∃ t, exec .ppsInputMissing s = .next t ∧
    t.NotBefore (s.tim.edgeAt + 1100000000) ∧ t.tim.edgeAt = t.mt ∧ s.Rose t 0x40 11 ∧ s.RegsBut t (evKeys 0x40) ∧
    t = { s with regs := t.regs, mt := t.mt, tim := t.tim }) ∧
  (∀ (output : Bool) (s : State), ∃ t, exec (.timePortFault output) s = .next t ∧ nbit (t.rd R.H_EVSTAT 0 0x40) 12 = true ∧
    if output then t.flag R.TIM_TPSTAT_OUTFAULT = true ∧ s.OnlyRegs t (R.TIM_TPSTAT_OUTFAULT.key 0 0 0 :: evKeys 0x40)
    else t.flag R.TIM_TPSTAT_INFAULT = true ∧ s.OnlyRegs t (R.TIM_TPSTAT_INFAULT.key 0 0 0 :: evKeys 0x40)) ∧
  (∀ (m : BitVec 6) (mac : Fin 3) (rx : Bool) (s : State), s.Open (0x41 + mac) →
    (s.emac mac).tx.length ≤ 16 → (s.emac mac).rx.length ≤ 32 →
    ∃ t, exec (.tsPop m mac rx) s = .next t ∧
      t.emac mac = (if rx then { s.emac mac with rx := (s.emac mac).rx.tail } else { s.emac mac with tx := (s.emac mac).tx.tail }) ∧
      t.rd R.EMAC_TSSTAT_TXLEVEL 0 mac = (t.emac mac).tx.length ∧ t.rd R.EMAC_TSSTAT_RXLEVEL 0 mac = (t.emac mac).rx.length ∧
      t.flag R.EMAC_TXTS_W3_VALID 0 mac = !(t.emac mac).tx.isEmpty ∧ s.PagesBut t [0x41 + mac] ∧ t = { s with regs := t.regs, emacs := t.emacs })

/-- RTC_SECOND awaits the wrap of the prescaler and moves the calendar to the next binary date (29 February in leap years alone; after 2199
back to 2000 with RTC_VALID cleared), with prescaler 0, and raises source 196 while AON is up. A RTC_SEC write with a commit pending records
0x71, with a date or second out of range 0x70; else the copy is pending and COMMITPEND 1. The next tick loads the copy, sets RTC_VALID,
raises no source 196 and leaves OPSEC. After either, an enabled alarm whose unmasked fields match sets its flag, another does not, and the
cartridge's age is judged anew. A snapshot of one tick goes to its master's shadow registers alone. The trim adds T ticks to both
prescalers. A selected edge of an event input stamps and counts, with source 194 + k while AON is up; the level follows in any case. (The
tick of a stamp is the model's reading of its prescaler, log entry 13.) (13_backup_rtc.md, R290; 13_backup_rtc.md, R291; 13_backup_rtc.md,
R292; 13_backup_rtc.md, R293; 13_backup_rtc.md, R294; 13_backup_rtc.md, R295; 13_backup_rtc.md, R296; 13_backup_rtc.md, Table 13.3) -/
def Obligations.CalendarAlarmsAndInputs : Prop :=
  (∀ s : State, s.bk.cal.ok = true → s.ClocksFree → s.mt ≤ wrapAt s.bk.base s.bk.at_ → wrapAt s.bk.base s.bk.at_ + 4 ≤ 2 ^ 64 →
    ∃ t, exec .rtcSecond s = .next t ∧ t.bk.cal.ok = true ∧ t.presc = 0 ∧ wrapAt s.bk.base s.bk.at_ ≤ t.mt ∧ t.mt < wrapAt s.bk.base s.bk.at_ + 4 ∧
    (s.bk.cal ≠ ⟨199, 12, 31, 23, 59, 59⟩ → t.bk.cal.seconds = s.bk.cal.seconds + 1 ∧ t.flag R.BKD_STAT_RTC_VALID = s.flag R.BKD_STAT_RTC_VALID) ∧
    (s.bk.cal = ⟨199, 12, 31, 23, 59, 59⟩ → t.bk.cal = ⟨0, 1, 1, 0, 0, 0⟩ ∧ t.flag R.BKD_STAT_RTC_VALID = false) ∧
    t.bk.cal.wday = (t.bk.cal.days + 5) % 7 + 1 ∧ (s.mode ≠ 0 → s.Rose t 0x48 4) ∧
    (∀ a : Fin 2, nbit (t.rd R.BKD_ALMFLAG) a = (nbit (s.rd R.BKD_ALMFLAG) a || (s.flag R.BKD_ALM_MASK_EN a && t.alarmMatch a))) ∧
    (∀ a : Fin 2, s.flag R.BKD_ALM_MASK_EN a = true → t.alarmMatch a = true → s.mode ≠ 0 → nbit (t.rd R.H_EVSTAT 0 0x48) a = true) ∧
    t.bk.opBase = s.bk.opBase ∧ t.bk.opAt = s.bk.opAt ∧ t.bk.commit = s.bk.commit ∧ t.bk.wpend = s.bk.wpend ∧
    s.RegsBut t ([R.BKD_STAT_RTC_VALID.key 0 0 0, R.BKD_ALMFLAG.key 0 0 0] ++ evKeys 0x48 ++ evKeys 0x40 ++ lifeKeys) ∧
    t = { s with regs := t.regs, mt := t.mt, tim := t.tim, bk := t.bk, crt := t.crt }) ∧
  (∀ (a : Fin 2) (s : State), s.rd R.BKD_ALM_MASK_FIELDS a = 0x7F → s.alarmMatch a = true) ∧
  (∀ (a : Fin 2) (s : State), s.bk.cal.ok = true → s.rd R.BKD_ALM_MASK_FIELDS a = 0 → s.alarmMatch a =
    (s.rd R.BKD_ALM_TIME a / 2 ^ 16 % 64 == s.bk.cal.sec && s.rd R.BKD_ALM_TIME a / 2 ^ 8 % 64 == s.bk.cal.min &&
      s.rd R.BKD_ALM_TIME a % 32 == s.bk.cal.hour && s.rd R.BKD_ALM_DATE_DAY a == s.bk.cal.day && s.rd R.BKD_ALM_DATE_MONTH a == s.bk.cal.month &&
      s.rd R.BKD_ALM_DATE_YEAR a == s.bk.cal.year && s.rd R.BKD_ALM_DATE_WDAY a == s.bk.cal.wday)) ∧
  (∀ (m : BitVec 6) (v : BitVec 32) (s : State), s.Open 0x48 → s.bk.wpend = none → ∃ t, exec (.rtcSecWrite m v) s = .next t ∧
    if s.flag R.BKD_STAT_COMMITPEND = true then s.Refused t 0x48 0x71 0x124
    else if (s.staged (v.toNat % 64)).ok = false then s.Refused t 0x48 0x70 0x124
    else t.flag R.BKD_STAT_COMMITPEND = true ∧ t.bk = { s.bk with commit := some (s.staged (v.toNat % 64)), cdue := s.bkNext } ∧
      s.RegsBut t [R.BKD_STAT_COMMITPEND.key 0 0 0] ∧ t = { s with regs := t.regs, bk := t.bk }) ∧
  (∀ s : State, s.bk.commit = none → exec .rtcCommit s = .next s) ∧
  (∀ (c : Cal) (s : State), s.ClocksFree → s.mt ≤ s.bk.cdue → s.bk.cdue + 4 ≤ 2 ^ 64 →
    ∃ t, exec .rtcCommit { s with bk := { s.bk with commit := some c } } = .next t ∧ t.bk.cal = c ∧ t.presc = 0 ∧ t.bk.commit = none ∧
      s.bk.cdue ≤ t.mt ∧ t.mt < s.bk.cdue + 4 ∧
      t.bk.opBase = s.bk.opBase ∧ t.bk.opAt = s.bk.opAt ∧ t.flag R.BKD_STAT_COMMITPEND = false ∧ t.flag R.BKD_STAT_RTC_VALID = true ∧
      (∀ a : Fin 2, nbit (t.rd R.BKD_ALMFLAG) a = (nbit (s.rd R.BKD_ALMFLAG) a || (s.flag R.BKD_ALM_MASK_EN a && t.alarmMatch a))) ∧
      nbit (t.rd R.H_EVSTAT 0 0x48) 4 = nbit (s.rd R.H_EVSTAT 0 0x48) 4 ∧
      s.RegsBut t ([R.BKD_STAT_COMMITPEND.key 0 0 0, R.BKD_STAT_RTC_VALID.key 0 0 0, R.BKD_ALMFLAG.key 0 0 0] ++ evKeys 0x48 ++ evKeys 0x40 ++ lifeKeys) ∧
      t = { s with regs := t.regs, mt := t.mt, tim := t.tim, bk := t.bk, crt := t.crt }) ∧
  (∀ (m : BitVec 6) (s : State), s.Open 0x48 → s.bk.cal.ok = true → s.presc < 2 ^ 15 → ∃ t, exec (.rtcSnapshot m) s = .next t ∧
    t.bus.data = leBytes 4 (s.presc + 2 ^ 31 * s.rd R.BKD_STAT_RTC_VALID) ∧ t.rd R.BKD_RTC_SNAP_SUBSEC 0 0 m.toNat = s.presc ∧
    t.rd R.BKD_SHD_DATE_YEAR 0 0 m.toNat = s.bk.cal.year ∧ t.rd R.BKD_SHD_DATE_MONTH 0 0 m.toNat = s.bk.cal.month ∧
    t.rd R.BKD_SHD_DATE_DAY 0 0 m.toNat = s.bk.cal.day ∧ t.rd R.BKD_SHD_DATE_WDAY 0 0 m.toNat = s.bk.cal.wday ∧
    t.rd R.BKD_SHD_TIME_HOUR 0 0 m.toNat = s.bk.cal.hour ∧ t.rd R.BKD_SHD_TIME_MIN 0 0 m.toNat = s.bk.cal.min ∧
    t.rd R.BKD_SHD_TIME_SEC 0 0 m.toNat = s.bk.cal.sec ∧
    (s.bk.at_ ≤ s.mt → s.mt < 2 ^ 64 → t.rd2 R.BKD_SHD_MTLO R.BKD_SHD_MTHI 0 0 m.toNat ≤ s.mt ∧
      s.mt < t.rd2 R.BKD_SHD_MTLO R.BKD_SHD_MTHI 0 0 m.toNat + 30519) ∧
    s.RegsBut t ([R.BKD_RTC_SNAP_SUBSEC, R.BKD_RTC_SNAP_VALID, R.BKD_SHD_DATE_YEAR, R.BKD_SHD_DATE_MONTH, R.BKD_SHD_DATE_DAY, R.BKD_SHD_DATE_WDAY,
      R.BKD_SHD_TIME_HOUR, R.BKD_SHD_TIME_MIN, R.BKD_SHD_TIME_SEC, R.BKD_SHD_MTLO, R.BKD_SHD_MTHI].map (·.key 0 0 m.toNat)) ∧
    t = { s with regs := t.regs, bus := t.bus }) ∧
  (∀ s : State, exec .rtcTrim s = .next { s with bk := { s.bk with
    base := s.bk.base + (BitVec.ofNat 8 (s.rd R.BKD_RTC_TRIM)).toInt, opBase := s.bk.opBase + (BitVec.ofNat 8 (s.rd R.BKD_RTC_TRIM)).toInt } }) ∧
  (∀ (k : Fin 2) (rising : Bool) (s : State), ∃ t, exec (.eviEdge k rising) s = .next t ∧ t.flag R.BKD_EVI_CFG_LEVEL k = rising ∧ s.RegsAlone t ∧
    if nbit (s.rd R.BKD_EVI_CFG_EDGE k) (if rising then 0 else 1) = true then
      t.rd R.BKD_EVI_TSSUB_COUNT k = (s.rd R.BKD_EVI_TSSUB_COUNT k + 1) % 2 ^ 16 ∧ (s.mode ≠ 0 → s.Rose t 0x48 (2 + k)) ∧
        (s.bk.cal.ok = true → s.bk.prev.ok = true → s.presc < 2 ^ 15 → s.bk.prevSub < 2 ^ 15 →
          let back : Bool := decide (s.presc < s.rd R.BKD_EVI_CFG_FILT k)
          let c := if back then s.bk.prev else s.bk.cal
          (s.rd R.BKD_EVI_CFG_FILT k ≤ s.bk.prevSub → t.rd R.BKD_EVI_TSSUB_SUBSEC k + s.rd R.BKD_EVI_CFG_FILT k = s.presc + if back then s.bk.prevSub + 1 else 0) ∧
          t.rd R.BKD_EVI_TSDATE k = c.year + c.month * 2 ^ 8 + c.day * 2 ^ 16 + c.wday * 2 ^ 24 ∧
          t.rd R.BKD_EVI_TSTIME k = c.hour + c.min * 2 ^ 8 + c.sec * 2 ^ 16) ∧
        s.RegsBut t ([R.BKD_EVI_CFG_LEVEL, R.BKD_EVI_TSDATE, R.BKD_EVI_TSTIME, R.BKD_EVI_TSSUB_SUBSEC, R.BKD_EVI_TSSUB_COUNT].map (·.key k 0 0) ++ evKeys 0x48)
    else s.RegsBut t [R.BKD_EVI_CFG_LEVEL.key k 0 0])

/-- A change-over changes SRC and PWR.STATUS.BKSRC, counts CHGOVR, counts the charge when it leaves the cell, and raises source 197 while
AON is up. A loss sets every backup-loss field to its reset value, no other but LOSTSEEN and event bits, and starts the calendar at
2000-01-01; LOSTSEEN and source 199 follow while AON is up. A domain write is pending with WPEND 1 until BK_WRITE_TAKEN, the next tick,
writes its fields and clears WPEND; with none it does nothing; a further write stalls until that tick. VALIDATE sets BK_VALID and CCTAKE
moves COUL to CCTAKEN at that tick. LOADTEST on the rail sets LOADBUSY then, on the cell it is refused with 0x73, during a test it does
nothing; its end 10 ms later stores the voltage, counts the charge and judges CELLLOW by 2,600 mV, with source 198; without a test it does
nothing. An operating second counts OPSEC, saturating, while AON is up alone, and every 360th goes to the counter ring of an active
cartridge. (13_backup_rtc.md, R284; 13_backup_rtc.md, R286; 13_backup_rtc.md, R288; 13_backup_rtc.md, R289; 13_backup_rtc.md, R297;
13_backup_rtc.md, R299; 13_backup_rtc.md, R300; 13_backup_rtc.md, R301; 13_backup_rtc.md, R302) -/
def Obligations.BackupDomainAndCell : Prop :=
  (∀ (nah : BitVec 32) (s : State), ∃ t, exec (.bkChangeover nah) s = .next t ∧ t.rd R.BKD_STAT_SRC = 1 - s.rd R.BKD_STAT_SRC ∧
    t.rd R.PWR_STATUS_BKSRC = 1 - s.rd R.BKD_STAT_SRC ∧ t.rd R.BKD_CHGOVR = (s.rd R.BKD_CHGOVR + 1) % 2 ^ 16 ∧
    t.rd R.BKD_COUL = (if s.rd R.BKD_STAT_SRC = 1 then min (s.rd R.BKD_COUL + nah.toNat) (2 ^ 32 - 1) else s.rd R.BKD_COUL) ∧
    (s.mode ≠ 0 → s.Rose t 0x48 5) ∧
    s.OnlyRegs t ([R.BKD_STAT_SRC, R.PWR_STATUS_BKSRC, R.BKD_CHGOVR, R.BKD_COUL].map (·.key 0 0 0) ++ evKeys 0x48)) ∧
  (∀ s : State, ∃ t, exec .backupStateLost s = .next t ∧ t.bk.cal = ⟨0, 1, 1, 0, 0, 0⟩ ∧ t.presc = 0 ∧
    s.LostRegs t (R.BKD_STAT_LOSTSEEN.key 0 0 0 :: evKeys 0x48) ∧
    (s.mode ≠ 0 → t.flag R.BKD_STAT_LOSTSEEN = true ∧ s.Rose t 0x48 7) ∧ t = { s with regs := t.regs, bk := t.bk }) ∧
  (∀ s : State, s.bk.wpend = none → exec .bkWriteTaken s = .next s) ∧
  (∀ (j : Fin 64) (v : BitVec 32) (s : State), s.ClocksFree →
    ∃ t, exec .bkWriteTaken { s with bk := { s.bk with wpend := some (0x200 + 4 * j.val, v.toNat) } } = .next t ∧ t.NotBefore s.bk.due ∧
      t.rd R.BKD_BKUP j = v.toNat ∧ t.flag R.BKD_STAT_WPEND = false ∧
      s.RegsBut t ([R.BKD_BKUP.key j 0 0, R.BKD_STAT_WPEND.key 0 0 0] ++ evKeys 0x48 ++ evKeys 0x40) ∧
      t = { s with regs := t.regs, mt := t.mt, tim := t.tim, bk := { s.bk with wpend := none } }) ∧
  (∀ (v : BitVec 32) (s : State), s.ClocksFree →
    ∃ t, exec .bkWriteTaken { s with bk := { s.bk with wpend := some (0x150, v.toNat) } } = .next t ∧ t.NotBefore s.bk.due ∧
      (∀ a : Fin 2, nbit (t.rd R.BKD_ALMFLAG) a = (nbit (s.rd R.BKD_ALMFLAG) a && !v.getLsbD a) ∧
        nbit (t.rd R.H_EVRAW 0 0x48) a = nbit (t.rd R.BKD_ALMFLAG) a) ∧
      s.RegsBut t ([R.BKD_ALMFLAG.key 0 0 0, R.BKD_STAT_WPEND.key 0 0 0] ++ evKeys 0x48 ++ evKeys 0x40)) ∧
  (∀ (v : Fin 8) (s : State), s.ClocksFree →
    ∃ t, exec .bkWriteTaken { s with bk := { s.bk with wpend := some (0x104, v.val) } } = .next t ∧ t.NotBefore s.bk.due ∧ t.flag R.BKD_STAT_WPEND = false ∧
      t.flag R.BKD_STAT_BK_VALID = (nbit v 0 || s.flag R.BKD_STAT_BK_VALID) ∧
      (if nbit v 2 = true then t.rd R.BKD_CCTAKEN = s.rd R.BKD_COUL ∧ t.rd R.BKD_COUL = 0
        else t.rd R.BKD_CCTAKEN = s.rd R.BKD_CCTAKEN ∧ t.rd R.BKD_COUL = s.rd R.BKD_COUL) ∧
      t.flag R.BKD_STAT_LOADBUSY = (nbit v 1 || s.flag R.BKD_STAT_LOADBUSY) ∧
      t.bk = { s.bk with wpend := none, loadAt := if nbit v 1 then t.mt else s.bk.loadAt } ∧
      s.RegsBut t ([R.BKD_STAT_WPEND, R.BKD_STAT_BK_VALID, R.BKD_CCTAKEN, R.BKD_COUL, R.BKD_STAT_LOADBUSY].map (·.key 0 0 0) ++ evKeys 0x40) ∧
      t = { s with regs := t.regs, mt := t.mt, tim := t.tim, bk := t.bk }) ∧
  (∀ (m : BitVec 6) (s : State), s.Open 0x48 → s.bk.wpend = none →
    ∀ e ∈ [((1 : Nat), Instr.bkValidate m), (4, .coulombTake m), (2, .cellLoadTest m)], ∃ t, exec e.2 s = .next t ∧
      if e.1 = 2 ∧ s.flag R.BKD_STAT_SRC = true then s.Refused t 0x48 0x73 0x104
      else if e.1 = 2 ∧ s.flag R.BKD_STAT_LOADBUSY = true then t = s
      else t.flag R.BKD_STAT_WPEND = true ∧ t.bk = { s.bk with wpend := some (0x104, e.1), due := s.bkNext } ∧
        s.RegsBut t [R.BKD_STAT_WPEND.key 0 0 0] ∧ t = { s with regs := t.regs, bk := t.bk }) ∧
  (∀ (m : BitVec 6) (j : Fin 64) (v : BitVec 32) (s : State), s.Open 0x48 → s.ClocksFree → s.bk.commit = none →
    ∃ t, exec (.bkValidate m) { s with bk := { s.bk with wpend := some (0x200 + 4 * j.val, v.toNat) } } = .next t ∧ t.NotBefore s.bk.due ∧
      t.rd R.BKD_BKUP j = v.toNat ∧ t.flag R.BKD_STAT_BK_VALID = true ∧ t.flag R.BKD_STAT_WPEND = false ∧ t.bk.wpend = none ∧
      s.RegsBut t ([R.BKD_BKUP.key j 0 0, R.BKD_STAT_WPEND.key 0 0 0, R.BKD_STAT_BK_VALID.key 0 0 0] ++ evKeys 0x48 ++ evKeys 0x40)) ∧
  (∀ (mv nah : BitVec 16) (s : State), s.flag R.BKD_STAT_LOADBUSY = false → exec (.loadTestComplete mv nah) s = .next s) ∧
  (∀ (mv nah : BitVec 16) (s : State), s.flag R.BKD_STAT_LOADBUSY = true → s.ClocksFree → ∃ t, exec (.loadTestComplete mv nah) s = .next t ∧
    t.NotBefore (s.bk.loadAt + 10000000) ∧
    t.flag R.BKD_STAT_LOADBUSY = false ∧ t.rd R.BKD_CELL_MV = mv.toNat ∧ t.rd R.BKD_COUL = min (s.rd R.BKD_COUL + nah.toNat) (2 ^ 32 - 1) ∧
    t.flag R.BKD_STAT_CELLLOW = decide (mv.toNat < 2600) ∧ (mv.toNat < 2600 → s.mode ≠ 0 → nbit (t.rd R.H_EVSTAT 0 0x48) 6 = true) ∧
    s.RegsBut t ([R.BKD_STAT_LOADBUSY, R.BKD_CELL_MV, R.BKD_COUL, R.BKD_STAT_CELLLOW].map (·.key 0 0 0) ++ evKeys 0x48 ++ evKeys 0x40) ∧
    t = { s with regs := t.regs, mt := t.mt, tim := t.tim }) ∧
  (∀ s : State, s.mode = 0 → exec .opsecTick s = .next s) ∧
  (∀ s : State, s.mode ≠ 0 → s.ClocksFree → ∃ t, exec .opsecTick s = .next t ∧ t.NotBefore (wrapAt s.bk.opBase s.bk.opAt) ∧ s.Counted t R.BKD_OPSEC ∧
    s.RegsBut t (R.BKD_OPSEC.key 0 0 0 :: evKeys 0x40) ∧
    t = { s with regs := t.regs, mt := t.mt, tim := t.tim, bk := { s.bk with opBase := 0, opAt := wrapAt s.bk.opBase s.bk.opAt }, mem := t.mem, crt := t.crt } ∧
    (t.rd R.BKD_OPSEC % 360 ≠ 0 ∨ s.rd R.CRT_STAT_STATE ≠ 3 → t.mem = s.mem ∧ t.crt = s.crt))

/-- An insertion with the latch open brings identity, MRAM bytes and directory of the cartridge; STATE is IDENTIFYING from start step 0x07
on. CARTRIDGE_IDENTIFY, 100 ms after the latch closed: a block that does not verify, or a FOREIGN superblock, gives REFUSED with WHY 1 or 2
and source 205 and no byte of memory changes; an OWNED cartridge is ACTIVE, its bytes as they were; any other is formatted; INSERT counts
and source 200 rises unless refused. RELEASE in FORMATTING or ACTIVE writes a superblock that classifies as REMOVED and gives REMOVING, else
code 0x82; after the flushes REMOVED gives ABSENT and source 201. A contact break takes the contents away. FORMAT and ADOPT need the key
(0x81) and their state (0x82); a format writes an owned superblock, an empty journal and starts a checkpoint in slot 0. (What FORMAT and
ADOPT find as their state follows log entry 14.) (14_cartridge.md, R304; 14_cartridge.md, R305; 14_cartridge.md, R309; 14_cartridge.md,
R321; 14_cartridge.md, R322; 14_cartridge.md, R323; 14_cartridge.md, R324; 14_cartridge.md, R325; 14_cartridge.md, Table 14.9) -/
def Obligations.CartridgeInsertionAndRemoval : Prop :=
  (∀ (c : Cartridge) (s : State), s.rd R.CRT_STAT_STATE ≠ 5 → ∃ t, exec (.cartridgeInsert c) s = .next t ∧ t.flag R.CRT_STAT_LATCH = true ∧
    (s.flag R.CRT_STAT_LATCH = false → t.crt.ident = c.ident ∧ t.crt.dir = c.dir ∧ t.crt.hold = [] ∧ t.crt.lastC2 = s.crt.lastC2 ∧
      (∀ e ∈ c.mram, e.1 < 0x20000000 → (c.mram.filter fun x => x.1 == e.1).length = 1 → t.rb (cartBase + e.1) = e.2)) ∧
    (s.flag R.CRT_STAT_LATCH = true → t.crt = { s.crt with shutAt := s.mt } ∧ t.mem = s.mem) ∧ s.MemWhere t (fun a => a < cartBase ∨ dramBase ≤ a) ∧
    (if s.mode = 0 ∨ (s.mode = 1 ∧ s.rd R.SYS_STARTSTEP_STEP < 7) then t.rd R.CRT_STAT_STATE = s.rd R.CRT_STAT_STATE
     else t.rd R.CRT_STAT_STATE = 1) ∧ t.crt.shutAt = s.mt ∧
    s.RegsBut t [R.CRT_STAT_STATE.key 0 0 0, R.CRT_STAT_LATCH.key 0 0 0] ∧ t = { s with regs := t.regs, mem := t.mem, crt := t.crt }) ∧
  (∀ (c : Cartridge) (s : State), s.rd R.CRT_STAT_STATE = 5 → ∃ t, exec (.cartridgeInsert c) s = .next t ∧ t.flag R.CRT_STAT_LATCH = true ∧
    t.rd R.CRT_STAT_STATE = (if s.mode = 0 ∨ (s.mode = 1 ∧ s.rd R.SYS_STARTSTEP_STEP < 7) then 0 else 1) ∧ t.crt.hold = [] ∧ t.crt.ck = none ∧
    t.crt.shutAt = s.mt ∧ t.crtFlush = s.flag R.PWR_STATUS_PFW ∧ (s.flag R.CRT_STAT_LATCH = true → t.mem = s.mem ∧ t.crt.ident = s.crt.ident) ∧
    s.MemWhere t (fun a => a < cartBase ∨ dramBase ≤ a) ∧ s.PagesBut t [0x50, 0x51, 0x01, 0x68]) ∧
  (∀ (scap : BitVec 16) (s : State), s.rd R.CRT_STAT_STATE ≠ 1 ∨ s.flag R.CRT_STAT_LATCH = false → exec (.cartridgeIdentify scap) s = .next s) ∧
  (∀ (scap : BitVec 16) (s : State), s.rd R.CRT_STAT_STATE = 1 → s.flag R.CRT_STAT_LATCH = true → s.ClocksFree →
    ∃ t, exec (.cartridgeIdentify scap) s = .next t ∧ t.NotBefore (s.crt.shutAt + 100000000) ∧ (∀ j : Fin 32, t.rd R.CRT_ID j = leNat ((s.crt.ident.drop (4 * j)).take 4)) ∧
      s.PagesBut t [0x50, 0x01, 0x68, 0x40] ∧ s.MemWhere t (fun a => a < cartBase ∨ dramBase ≤ a) ∧
      if s.identOk = false then t.rd R.CRT_STAT_STATE = 4 ∧ t.rd R.CRT_STAT_WHY = 1 ∧ s.Rose t 0x50 5 ∧ t.mem = s.mem
      else if s.classify = 4 then t.rd R.CRT_STAT_STATE = 4 ∧ t.rd R.CRT_STAT_WHY = 2 ∧ s.Rose t 0x50 5 ∧ t.mem = s.mem
      else s.Rose t 0x50 0 ∧ t.rd R.CRT_STAT_WHY = 0 ∧ t.rd R.CRT_STAT_TYPE = s.cartType % 4 ∧
        (s.classify = 1 → t.rd R.CRT_STAT_STATE = 3 ∧ t.mem = s.mem) ∧
        (s.classify ≠ 1 → t.rd R.CRT_STAT_STATE = 2 ∧ ∃ k ∈ t.crt.ck.toList, k.slot = 0 ∧ k.format = true ∧ k.begin_ = s.crt.lastC2)) ∧
  (∀ (m : BitVec 6) (s : State), s.Open 0x50 → (∀ c : Fin 2, s.sbGen c + 1 < 2 ^ 32) → ∃ t, exec (.cartridgeRelease m) s = .next t ∧
    if nbit s.crt.cmd 2 = true then t = s
    else if s.rd R.CRT_STAT_STATE = 2 ∨ s.rd R.CRT_STAT_STATE = 3 then
      t.rd R.CRT_STAT_STATE = 5 ∧ t.rd R.CRT_STAT_CKPT = 0 ∧ t.crt = { s.crt with ck := none, cmd := 4, want := false } ∧
        t.er = { s.er with due := true, clearing := none } ∧ t.crtFlush = true ∧ t.classify = 3 ∧
        (∀ c ∈ t.sbCur.toList, t.mr (sbOff c + 28) 4 = s.crt.lastC2 % 2 ^ 32) ∧
        s.MemWhere t (fun a => a < cartBase ∨ cartBase + 0x2000 ≤ a) ∧ s.RegsBut t ([R.CRT_STAT_STATE.key 0 0 0, R.CRT_STAT_CKPT.key 0 0 0] ++ erKeys) ∧
        t = { s with regs := t.regs, mem := t.mem, crt := t.crt, er := t.er, crtFlush := true }
    else s.Refused t 0x50 0x82 0x10C) ∧
  (∀ s : State, ∃ t, exec .cartridgeRemoved s = .next t ∧
    if s.rd R.CRT_STAT_STATE = 5 ∧ s.crtFlush = false ∧ s.er.flushing = false then
      t.rd R.CRT_STAT_STATE = 0 ∧ s.Rose t 0x50 1 ∧ t.crt.hold = [] ∧ t.crt.ck = none ∧ t.rd R.PWR_STATUS_SCAP = 0 ∧ t.mem = s.mem ∧
        t.rd R.CRT_STAT_LATCH = s.rd R.CRT_STAT_LATCH ∧ t.crt.cmd = 0 ∧ s.PagesBut t [0x50, 0x51, 0x01, 0x68] ∧
        t = { s with regs := t.regs, crt := t.crt, er := t.er, upd := t.upd }
    else t = s) ∧
  (∀ s : State, ∃ t, exec .cartridgeContactBreak s = .next t ∧ t.rd R.CRT_STAT_STATE = 0 ∧ t.rd R.CRT_STAT_LATCH = 0 ∧ t.crt.ident = [] ∧
    t.crt.dir = [] ∧ t.crt.nand = [] ∧ t.crt.book = [] ∧ t.crt.hold = [] ∧ t.crt.lastC2 = s.crt.lastC2 ∧ (∀ e ∈ t.mem, e.1 < cartBase ∨ dramBase ≤ e.1) ∧
    s.MemWhere t (fun a => a < cartBase ∨ dramBase ≤ a) ∧ s.PagesBut t [0x50, 0x51, 0x01, 0x68] ∧
    t = { s with regs := t.regs, mem := t.mem, crt := t.crt, er := t.er, upd := t.upd }) ∧
  (∀ (m : BitVec 6) (key : BitVec 16) (s : State), s.Open 0x50 → (∀ c : Fin 2, s.sbGen c + 1 < 2 ^ 32) → s.modId < 2 ^ 64 →
    ∃ t, exec (.cartridgeFormat m key) s = .next t ∧
      if key.toNat ≠ 0x42C7 then s.Refused t 0x50 0x81 0x10C
      else if s.rd R.CRT_STAT_STATE = 3 ∧ (s.mode = 5 ∨ s.crt.cls = 2 ∨ s.crt.cls = 3) then
        t.rd R.CRT_STAT_STATE = 2 ∧ t.classify = 1 ∧ t.crt.hold = [] ∧ t.crt.pos = 0x920000 ∧ t.rd R.CRT_STAT_CKPT = 1 ∧ nbit t.crt.cmd 0 = true ∧
          (∃ k ∈ t.crt.ck.toList, k.slot = 0 ∧ k.format = true ∧ k.begin_ = s.crt.lastC2) ∧ s.MemWhere t (fun a => a < cartBase ∨ dramBase ≤ a) ∧
          s.PagesBut t [0x50] ∧ t = { s with regs := t.regs, mem := t.mem, crt := t.crt }
      else s.Refused t 0x50 0x82 0x10C) ∧
  (∀ (m : BitVec 6) (key : BitVec 16) (s : State), s.Open 0x50 → (∀ c : Fin 2, s.sbGen c + 1 < 2 ^ 32) → s.modId < 2 ^ 64 →
    ∃ t, exec (.cartridgeAdopt m key) s = .next t ∧ s.MemWhere t (fun a => a < cartBase ∨ dramBase ≤ a) ∧
      if key.toNat ≠ 0x42C7 then s.Refused t 0x50 0x81 0x10C
      else if s.rd R.CRT_STAT_STATE = 4 ∧ s.rd R.CRT_STAT_WHY = 2 ∧ 2 ≤ s.mode ∧ s.mode ≤ 5 then
        t.rd R.CRT_STAT_STATE = (if s.mode = 2 ∨ s.mode = 3 then 2 else 3) ∧ t.rd R.CRT_STAT_WHY = 0 ∧ t.classify = 1 ∧
          s.PagesBut t [0x50, 0x68] ∧
          (s.mode = 4 ∨ s.mode = 5 → s.MemWhere t fun a => a < cartBase ∨ (cartBase + 0x2000 ≤ a ∧ a < cartBase + 0x4000) ∨ cartBase + 0x5000 ≤ a)
      else s.Refused t 0x50 0x82 0x10C)

/-- CRT.CMD.CKPT requests a checkpoint and reads 1 until one is complete. JOURNAL_ENTRY_WRITTEN does nothing while no cartridge is ACTIVE or
nothing is held; else an entry of the oldest held ply goes to the journal, or, where it would overwrite what the last valid checkpoint
needs, a break drops the backlog and counts; an entry with all the lines of its ply seals it. CHECKPOINT_COMPLETE without a checkpoint does
nothing; else the retain area stands in the slot's data, and where the journal is sealed through END the slot is a complete checkpoint. A
flush that ends raises source 202; without one nothing happens. A NAND command stores OP; with an operation running it starts none, without
a cartridge or beyond its pages it records 0x82, else GO is set. The end of an erase leaves every byte of its block 0xFF, of a program the
DMA bytes in its page, of a read the page's bytes at the DMA address; one whose buffer a gate refuses sets FAIL and moves nothing. (What a
failed program or erase leaves, and bytes of an uncorrectable codeword, are free values.) (14_cartridge.md, R312; 14_cartridge.md, R313;
14_cartridge.md, R315; 14_cartridge.md, R316; 14_cartridge.md, R319; 14_cartridge.md, R320; 14_cartridge.md, Table 14.9) -/
def Obligations.JournalCheckpointsAndNand : Prop :=
  (∀ (m : BitVec 6) (s : State), s.Open 0x50 → exec (.ckptCommand m) s =
    .next (if nbit s.crt.cmd 3 = true then s else { s with crt := { s.crt with want := true, cmd := nsetBit s.crt.cmd 3 true } })) ∧
  (∀ s : State, s.rd R.CRT_STAT_STATE ≠ 3 ∨ s.crt.hold = [] → exec .journalEntryWritten s = .next s) ∧
  (∀ (h : Held) (rest : List Held) (s : State), s.rd R.CRT_STAT_STATE = 3 → h.lines.length ≤ min 2048 s.crt.budget →
    (∀ l ∈ h.lines, l.2.length = 64) → s.crt.seq + 1 < 2 ^ 64 → 0x920000 ≤ s.crt.pos → s.mramSize ≤ 0x4000000 →
    ∃ t, exec .journalEntryWritten { s with crt := { s.crt with hold := h :: rest, ck := none } } = .next t ∧ s.PagesBut t [0x50] ∧
      s.MemWhere t (fun a => a < cartBase + 0x920000 ∨ dramBase ≤ a) ∧ t = { s with regs := t.regs, mem := t.mem, crt := t.crt } ∧
      if s.crt.used + s.jSkip (entryLen h.lines.length) + entryLen h.lines.length ≤ s.jArea then
        t.crt.hold = rest ∧ t.crt.seq = s.crt.seq + 1 ∧ t.crt.budget = s.crt.budget - h.lines.length ∧ t.crt.sealed_ = h.ply ∧
          t.rd R.CRT_JNL_BREAKS = s.rd R.CRT_JNL_BREAKS ∧ (s.crt.broken = false → t.rd R.CRT_JNL_LASTPLY = h.ply % 2 ^ 32) ∧
          (∃ e ∈ (t.entryAt (t.crt.pos - entryLen h.lines.length) s.crt.seq).toList, e.whole = true ∧ e.crcOk = true ∧ e.kind = 1 ∧ e.last = true ∧
            e.ply = h.ply % 2 ^ 32 ∧ e.count = h.lines.length ∧ t.entryLines e = h.lines.map fun l => (l.1 % 2 ^ 32, l.2))
      else t.crt.hold = [] ∧ s.Counted t R.CRT_JNL_BREAKS ∧ t.crt.want = true ∧ t.crt.broken = true ∧ t.rd R.CRT_JNL_BACKLOG = 0 ∧
        t.rd R.CRT_JNL_LASTPLY = s.rd R.CRT_JNL_LASTPLY) ∧
  (∀ s : State, s.crt.ck = none → exec .checkpointComplete s = .next s) ∧
  (∀ (slot : Fin 2) (seq begin_ : BitVec 32) (s : State), s.rd R.XE_RET_BASE + s.rd R.XE_RET_SIZE ≤ 0x2000000 → s.rd R.XE_RET_SIZE ≤ 0x400000 →
    s.crt.hold = [] → s.mode ≠ 3 ∨ (s.ply 1).phase = 0 →
    ∃ t, exec .checkpointComplete { s with crt := { s.crt with ck := some ⟨slot.val, seq.toNat, begin_.toNat, none, none, false⟩ } } = .next t ∧ t.ckOk slot = true ∧
      t.ckSeqOf slot = seq.toNat ∧ t.rd R.CRT_CKPT_SLOT = slot ∧ t.rd R.CRT_CKPT_BEGIN = begin_.toNat ∧ t.rd R.CRT_CKPT_END = s.crt.lastC2 % 2 ^ 32 ∧
      t.rd R.CRT_STAT_CKPT = 0 ∧ t.crt.ck = none ∧ t.crt.used = 0 ∧ t.crt.broken = false ∧ t.crt.cmd = nsetBit s.crt.cmd 3 false ∧
      t.rbs (cartBase + slotData slot) (s.rd R.XE_RET_SIZE) = s.rbs (instBase + s.rd R.XE_RET_BASE) (s.rd R.XE_RET_SIZE) ∧
      s.MemWhere t (fun a => a < cartBase + slotOff slot ∨ cartBase + slotOff slot + 0x410000 ≤ a) ∧ s.PagesBut t [0x50]) ∧
  (∀ s : State, s.crtFlush = false → exec .crtFlushComplete s = .next s) ∧
  (∀ s : State, s.crtFlush = true → s.flag R.PWR_STATUS_PFW = false → s.pwr.returned = false → ∃ t, exec .crtFlushComplete s = .next t ∧ t.crtFlush = false ∧
    (s.rd R.CRT_STAT_STATE = 3 ∨ s.rd R.CRT_STAT_STATE = 5 → s.Rose t 0x50 2 ∧ t.crt.hold = []) ∧ s.PagesBut t [0x50] ∧ s.MemWhere t (fun a => a < cartBase ∨ dramBase ≤ a) ∧
    (s.rd R.CRT_STAT_STATE ≠ 3 → s.rd R.CRT_STAT_STATE ≠ 5 → t.mem = s.mem ∧ t.crt = s.crt)) ∧
  (∀ (m : BitVec 6) (s : State), s.Open 0x50 → ∀ c ∈ [(Instr.nandRead m, 1), (.nandProgram m, 2), (.nandErase m, 3)],
    ∃ t, exec c.1 s = .next t ∧ t.rd R.CRT_NAND_CMD_OP = c.2 ∧
      if s.crt.op ≠ 0 then s.OnlyRegs t [R.CRT_NAND_CMD_OP.key 0 0 0, R.H_CFGGEN.key 0 0x50 0]
      else if s.rd R.CRT_STAT_STATE ∉ [2, 3, 5] ∨ s.nandPages ≤ s.rd R.CRT_NAND_PAGE then
        s.Recorded t 0x50 0x82 0x14C ∧ s.OnlyRegs t (R.CRT_NAND_CMD_OP.key 0 0 0 :: R.H_CFGGEN.key 0 0x50 0 :: errKeys 0x50)
      else t.rd R.CRT_NAND_CMD_GO = 1 ∧ t.crt.op = c.2 ∧ t.crt.opPage = s.rd R.CRT_NAND_PAGE ∧
        t.crt.opDma = s.rd R.CRT_NAND_DMALO * 64 + s.rd R.CRT_NAND_DMAHI * 2 ^ 32 ∧
        t.crt = { s.crt with op := t.crt.op, opPage := t.crt.opPage, opDma := t.crt.opDma } ∧
        s.RegsBut t [R.CRT_NAND_CMD_OP.key 0 0 0, R.H_CFGGEN.key 0 0x50 0, R.CRT_NAND_CMD_GO.key 0 0 0] ∧ t = { s with regs := t.regs, crt := t.crt }) ∧
  (∀ (fail : Bool) (u : BitVec 4) (f : Fin 41) (corr : BitVec 16) (s : State), s.crt.op = 0 → exec (.nandOpComplete fail u f corr) s = .next s) ∧
  (∀ (u : BitVec 4) (f : Fin 41) (corr : BitVec 16) (page : Nat) (dma : BitVec 36) (s : State),
    (∃ t, exec (.nandOpComplete false u f corr) { s with crt := { s.crt with op := 3, opPage := page, opDma := dma.toNat } } = .next t ∧
      t.rd R.CRT_NAND_CMD_GO = 0 ∧ t.crt.op = 0 ∧ t.rd R.CRT_NAND_STAT_FAIL = 0 ∧
      (∀ (p : Fin 32) (i : Fin 4128), t.nb (nandByte (page / 32 * 32 + p) i) = 0xFF) ∧ t.mem = s.mem) ∧
    (s.DmaPlain 0x18 .read dma.toNat 4128 →
      ∃ t, exec (.nandOpComplete false u f corr) { s with crt := { s.crt with op := 2, opPage := page, opDma := dma.toNat } } = .next t ∧
      t.rd R.CRT_NAND_CMD_GO = 0 ∧ t.crt.op = 0 ∧ t.rd R.CRT_NAND_STAT_FAIL = 0 ∧
      (∀ i : Fin 4128, t.nb (nandByte page i) = s.rb (dma.toNat + i)) ∧ t.mem = s.mem) ∧
    (s.DmaPlain 0x18 .write dma.toNat 4128 → s.pr.esc = false →
      ∃ t, exec (.nandOpComplete false 0 f corr) { s with crt := { s.crt with op := 1, opPage := page, opDma := dma.toNat } } = .next t ∧
      t.rd R.CRT_NAND_CMD_GO = 0 ∧ t.crt.op = 0 ∧ t.rd R.CRT_NAND_STAT_FAIL = 0 ∧ t.rd R.CRT_NAND_STAT_UNCORR = 0 ∧ t.rd R.CRT_NAND_STAT_MAXFLIP = f ∧
      t.rd R.CRT_NAND_CORR = (s.rd R.CRT_NAND_CORR + corr.toNat) % 2 ^ 32 ∧
      (∀ i : Fin 4128, t.rb (dma.toNat + i) = s.nb (nandByte page i)) ∧ s.MemBut t dma.toNat 4128 ∧ t.crt.nand = s.crt.nand) ∧
    (s.failsAt 0x18 true .write dma.toNat 4128 ≠ none →
      ∃ t, exec (.nandOpComplete false 0 f corr) { s with crt := { s.crt with op := 1, opPage := page, opDma := dma.toNat } } = .next t ∧
      t.rd R.CRT_NAND_CMD_GO = 0 ∧ t.crt = { s.crt with op := 0, opPage := page, opDma := dma.toNat } ∧ t.rd R.CRT_NAND_STAT_FAIL = 1 ∧ t.mem = s.mem) ∧
    (s.failsAt 0x18 true .read dma.toNat 4128 ≠ none →
      ∃ t, exec (.nandOpComplete false u f corr) { s with crt := { s.crt with op := 2, opPage := page, opDma := dma.toNat } } = .next t ∧
      t.rd R.CRT_NAND_CMD_GO = 0 ∧ t.crt = { s.crt with op := 0, opPage := page, opDma := dma.toNat } ∧ t.rd R.CRT_NAND_STAT_FAIL = 1 ∧ t.mem = s.mem))

/-- On the open ER page a request whose N, LEN, SEV or SRCCLASS R329 refuses sets RESULT 1 and records 0x90; one that STOP covers, or that
would overflow, is dropped with RESULT 2, its severity's counter and source 206; any other is accepted: SEQNEXT counts, WSEQ is its SEQ, and
the sealed record, which a reader finds valid, is the last of the queue. SEQNEXT takes a write until a record was accepted, then 0x91. With
BC-1 a sector program writes the queued records that fit from the front, in order, into the open unit; a failed one retires the unit with
0x92 and keeps the records; with no unit open an erased one is opened; where none is erased the oldest closed one of lower HISEV is
reclaimed; where none qualifies the record is dropped and STOP set. A flush of a BC-2 cartridge starts where one is due, else 10 s after the
last; its end counts, raises source 207 and has written what it began with, where the open unit has room; with none fitted the records stay.
(15_event_recorder.md, R329; 15_event_recorder.md, R330; 15_event_recorder.md, R331; 15_event_recorder.md, R332; 15_event_recorder.md, R333;
15_event_recorder.md, R334; 15_event_recorder.md, R335; 15_event_recorder.md, R336; 15_event_recorder.md, R337; 15_event_recorder.md, R338)
-/
def Obligations.EventRecordsAreAcceptedAndWritten : Prop :=
  (∀ (m : BitVec 6) (n : BitVec 8) (s : State), s.Open 0x51 → ∃ t, exec (.erWriteRequest m n) s = .next t ∧
    if n.toNat < 8 ∨ recLen (s.rd R.ER_WBUF 0 0 m.toNat) ≠ n.toNat ∨ 8 ≤ recSev (s.rd R.ER_WBUF 0 0 m.toNat) ∨
        (4 ≤ recClass (s.rd R.ER_WBUF 0 0 m.toNat) ∧ recClass (s.rd R.ER_WBUF 0 0 m.toNat) ≤ 7) then
      t.rd R.ER_WRES_RESULT 0 0 m.toNat = 1 ∧ s.Recorded t 0x51 0x90 0x118 ∧ s.OnlyRegs t (R.ER_WRES_RESULT.key 0 0 m.toNat :: errKeys 0x51)
    else if (s.flag R.ER_STOP_ACTIVE = true ∧ recSev (s.rd R.ER_WBUF 0 0 m.toNat) ≤ s.rd R.ER_STOP_LEVEL) ∨ s.erCap < s.erBytes + 4 * n.toNat then
      t.rd R.ER_WRES_RESULT 0 0 m.toNat = 2 ∧ s.Rose t 0x51 0 ∧
        s.Counted t (if recSev (s.rd R.ER_WBUF 0 0 m.toNat) % 2 = 0 then R.ER_DROP_LOW else R.ER_DROP_HIGH) (recSev (s.rd R.ER_WBUF 0 0 m.toNat) / 2) ∧
        s.OnlyRegs t ([R.ER_WRES_RESULT.key 0 0 m.toNat] ++ evKeys 0x51 ++ (upTo 4).flatMap fun k => [R.ER_DROP_LOW.key k 0 0, R.ER_DROP_HIGH.key k 0 0])
    else
      t.rd R.ER_WRES_RESULT 0 0 m.toNat = 0 ∧ t.rd R.ER_WSEQ 0 0 m.toNat = s.rd R.ER_SEQNEXT ∧ t.rd R.ER_SEQNEXT = (s.rd R.ER_SEQNEXT + 1) % 2 ^ 32 ∧
        t.er.accepted = true ∧ t.er.queue.length = s.er.queue.length + 1 ∧ (∀ i ∈ upTo s.er.queue.length, t.er.queue[i]? = s.er.queue[i]?) ∧
        (∀ r ∈ t.er.queue.getLast?.toList, r.length = n.toNat ∧ recW0 r = s.rd R.ER_WBUF 0 0 m.toNat ∧ recSeq r = s.rd R.ER_SEQNEXT ∧
          r.getD 3 0 = s.rd R.BKD_OPSEC ∧ walkSector r 2 = [.record r false]) ∧ s.PagesBut t [0x51] ∧ t = { s with regs := t.regs, er := t.er }) ∧
  (∀ (m : BitVec 6) (v : BitVec 32) (s : State), s.Open 0x51 → ∃ t, exec (.seqnextWrite m v) s = .next t ∧
    if s.er.accepted = true then s.Refused t 0x51 0x91 0x108
    else t.rd R.ER_SEQNEXT = v.toNat ∧ s.OnlyRegs t [R.ER_SEQNEXT.key 0 0 0, R.H_CFGGEN.key 0 0x51 0]) ∧
  (∀ (ok : Bool) (s : State), s.erWrites = false ∨ s.rd R.CRT_STAT_TYPE ≠ 1 ∨ s.er.queue = [] → exec (.erSectorProgram ok) s = .next s) ∧
  (∀ (u : Fin 8) (s : State), s.erWrites = true → s.rd R.CRT_STAT_TYPE = 1 → s.er.queue ≠ [] → s.er.sector < 127 →
    (∀ r ∈ s.er.queue, r.length ≤ 256 ∧ ∀ w ∈ r, w < 2 ^ 32) →
    ∃ t, exec (.erSectorProgram true) { s with er := { s.er with unit := some u.val } } = .next t ∧
      t.er.queue = s.er.queue.drop (fitSector s.er.queue 256) ∧ t.er.sector = s.er.sector + 1 ∧ t.er.unit = some u.val ∧
      (t.sectorWords u s.er.sector).take ((s.er.queue.take (fitSector s.er.queue 256)).flatMap id).length =
        (s.er.queue.take (fitSector s.er.queue 256)).flatMap id ∧
      (∀ w ∈ (t.sectorWords u s.er.sector).drop ((s.er.queue.take (fitSector s.er.queue 256)).flatMap id).length, w = 0xFFFFFFFF) ∧
      t.unitState u = 1 ∧ s.MemBut t (s.utAddr + 8 * u) 5 ∧ s.PagesBut t [0x51]) ∧
  (∀ (u : Fin 8) (s : State), s.erWrites = true → s.rd R.CRT_STAT_TYPE = 1 → s.er.queue ≠ [] → s.er.sector < 127 →
    ∃ t, exec (.erSectorProgram false) { s with er := { s.er with unit := some u.val } } = .next t ∧ t.er.queue = s.er.queue ∧ t.er.unit = none ∧
      t.unitState u = 3 ∧ s.Recorded t 0x51 0x92 0x10C ∧ s.MemBut t (s.utAddr + 8 * u) 5) ∧
  (∀ (i : Fin 8) (s : State), s.erWrites = true → s.rd R.CRT_STAT_TYPE = 1 → s.er.queue ≠ [] → s.er.unit = none → i.val < s.rd R.ER_UNITS →
    (∀ j ∈ s.erUnits, s.unitState j ≠ 1) →
    (∀ j : Fin 8, j < i → s.unitState j ≠ 0) → s.unitState i = 0 →
    ∃ t, exec (.erSectorProgram true) s = .next t ∧ t.er.unit = some i.val ∧ t.er.sector = 1 ∧ t.unitState i = 1 ∧
      (∀ r ∈ s.er.queue.head?.toList, t.unitFirst i = recSeq r % 2 ^ 32)) ∧
  (∀ (u : Fin 8) (s : State), s.erWrites = true → s.rd R.CRT_STAT_TYPE = 1 → s.er.queue ≠ [] ∧ s.er.unit = none →
    u.val < s.rd R.ER_UNITS ∧ s.flag R.ER_STOP_ACTIVE = false → (∀ j ∈ s.erUnits, s.unitState j ≠ 0 ∧ s.unitState j ≠ 1) →
    s.unitState u = 2 ∧ s.unitHi u < recSev (recW0 (s.er.queue.headD [])) →
    (∀ j ∈ s.erUnits, j = u.val ∨ s.unitState j ≠ 2 ∨ recSev (recW0 (s.er.queue.headD [])) ≤ s.unitHi j ∨
      s.seqAge (s.unitFirst j) < s.seqAge (s.unitFirst u)) →
    ∃ t, exec (.erSectorProgram true) s = .next t ∧ t.er.unit = some u.val ∧ t.er.sector = 1 ∧ t.unitState u = 1 ∧
      t.unitFirst u = recSeq (s.er.queue.headD []) % 2 ^ 32 ∧ s.Counted t R.ER_COUNT_RECLAIMS ∧ s.MemBut t (s.utAddr + 8 * u) 5) ∧
  (∀ (ok : Bool) (s : State), s.erWrites = true → s.rd R.CRT_STAT_TYPE = 1 → s.er.queue ≠ [] → s.er.unit = none →
    (∀ j ∈ s.erUnits, s.unitState j ≠ 0 ∧ s.unitState j ≠ 1 ∧ (s.unitState j ≠ 2 ∨ recSev (recW0 (s.er.queue.headD [])) ≤ s.unitHi j)) →
    ∃ t, exec (.erSectorProgram ok) s = .next t ∧ t.er.queue = s.er.queue.tail ∧ t.rd R.ER_STOP_ACTIVE = 1 ∧ s.Rose t 0x51 0 ∧
      t.rd R.ER_STOP_LEVEL = max (recSev (recW0 (s.er.queue.headD []))) (s.rd R.ER_STOP_LEVEL) ∧ s.SameMem t) ∧
  (∀ s : State, s.erWrites = false ∨ s.rd R.CRT_STAT_TYPE ≠ 2 ∨ s.er.flushing = true → exec .erFlush s = .next s) ∧
  (∀ s : State, s.erWrites = true → s.rd R.CRT_STAT_TYPE = 2 → s.er.flushing = false → s.ClocksFree → ∃ t, exec .erFlush s = .next t ∧
    (if s.er.due = true then t.mt = s.mt else t.NotBefore (s.er.lastFlush + 10000000000)) ∧
    t.er = { s.er with flushing := true, flushN := s.er.queue.length, lastFlush := t.mt, due := false } ∧
    s.RegsBut t (erKeys ++ evKeys 0x40) ∧ t = { s with regs := t.regs, mt := t.mt, tim := t.tim, er := t.er }) ∧
  (∀ s : State, s.er.flushing = false → exec .erFlushComplete s = .next s) ∧
  (∀ s : State, s.er.flushing = true → (∀ r ∈ s.er.queue, r.length ≤ 256) → s.er.flushN ≤ s.er.queue.length → s.pwr.returned = false →
    (s.rd R.CRT_STAT_STATE ≠ 3 ∧ s.rd R.CRT_STAT_STATE ≠ 5) ∨ (s.er.unit ≠ none ∧ s.er.sector + s.er.flushN ≤ 127) →
    ∃ t, exec .erFlushComplete s = .next t ∧ t.er.flushing = false ∧ t.rd R.ER_COUNT_FLUSHES = (s.rd R.ER_COUNT_FLUSHES + 1) % 2 ^ 16 ∧
      s.Rose t 0x51 1 ∧ s.PagesBut t [0x51] ∧
      t.er.queue = (if s.rd R.CRT_STAT_STATE ≠ 3 ∧ s.rd R.CRT_STAT_STATE ≠ 5 then s.er.queue else s.er.queue.drop s.er.flushN))

/-- On the open ER page a cursor command of a master whose move runs does nothing, else OP and GO (or NEXT) are set for that master alone.
When the move ends, the window, CURSOR, RSTAT of that master show the oldest valid record, the newest, the one with the sought SEQ or the
next, or the next after the cursor; where there is none END is 1, VALID 0 and CURSOR stays. A move that does not run ends with no effect. A
read of CLRTOKEN answers a fresh non-zero token, which alone is valid from then on, for 10 s; its expiry leaves none. A CLR write without
privilege or the valid token invalidates it and records 0x93, in START, during a clear or without an ACTIVE cartridge 0x94; else the clear
begins and the first record of the unit it opened is CLEARED with the next SEQ. The end of the clear erases every closed unit of older
records, and resets the drop counters and STOP. (15_event_recorder.md, R332; 15_event_recorder.md, R339; 15_event_recorder.md, R340;
15_event_recorder.md, R341; 15_event_recorder.md, Table 15.3; 15_event_recorder.md, Table 15.6) -/
def Obligations.EventLogIsReadAndCleared : Prop :=
  (∀ (m : BitVec 6) (s : State), s.Open 0x51 →
    ∀ c ∈ [(Instr.erCursorOldest m, 1), (.erCursorNewest m, 2), (.erCursorSeek m, 3), (.erNext m, 4)],
    ∃ t, exec c.1 s = .next t ∧ if smGet 0 s.er.moves m.toNat ≠ 0 then t = s
      else smGet 0 t.er.moves m.toNat = c.2 ∧
        (if c.2 = 4 then t.rd R.ER_NEXT 0 0 m.toNat = 1 else t.rd R.ER_CURCMD_OP 0 0 m.toNat = c.2 ∧ t.rd R.ER_CURCMD_GO 0 0 m.toNat = 1) ∧
        s.RegsBut t [R.ER_CURCMD_OP.key 0 0 m.toNat, R.ER_CURCMD_GO.key 0 0 m.toNat, R.ER_NEXT.key 0 0 m.toNat, R.H_CFGGEN.key 0 0x51 0] ∧
        t = { s with regs := t.regs, er := { s.er with moves := t.er.moves } }) ∧
  (∀ (m : BitVec 6) (s : State), smGet 0 s.er.moves m.toNat = 0 → exec (.erCursorMoveComplete m) s = .next s) ∧
  (∀ (m : BitVec 6) (op : Fin 4) (s : State), (∀ e ∈ s.logRecords, recSeq e.1 < 2 ^ 32 ∧ e.1.length < 256 ∧ ∀ w ∈ e.1, w < 2 ^ 32) →
    ∃ t, exec (.erCursorMoveComplete m) { s with er := { s.er with moves := smSet 0 s.er.moves m.toNat (op + 1) } } = .next t ∧
      smGet 0 t.er.moves m.toNat = 0 ∧ t.rd R.ER_CURCMD_GO 0 0 m.toNat = 0 ∧ t.rd R.ER_NEXT 0 0 m.toNat = 0 ∧
      (s.cursorTarget m.toNat (op + 1) = none → t.rd R.ER_RSTAT_VALID 0 0 m.toNat = 0 ∧ t.rd R.ER_RSTAT_END 0 0 m.toNat = 1 ∧
        t.rd R.ER_CURSOR 0 0 m.toNat = s.rd R.ER_CURSOR 0 0 m.toNat) ∧
      (∀ e ∈ (s.cursorTarget m.toNat (op + 1)).toList, t.rd R.ER_RSTAT_VALID 0 0 m.toNat = 1 ∧ t.rd R.ER_RSTAT_END 0 0 m.toNat = 0 ∧
        t.rd R.ER_CURSOR 0 0 m.toNat = recSeq e.1 ∧ t.rd R.ER_RSTAT_LEN 0 0 m.toNat = e.1.length ∧ t.flag R.ER_RSTAT_INBUF 0 0 m.toNat = e.2 ∧
        ∀ j ∈ upTo 256, t.rd R.ER_WINDOW j 0 m.toNat = e.1.getD j 0) ∧
      s.RegsBut t (R.ER_TORN.key 0 0 0 :: ([R.ER_CURCMD_GO, R.ER_NEXT, R.ER_RSTAT_VALID, R.ER_RSTAT_END, R.ER_RSTAT_LEN, R.ER_RSTAT_INBUF,
        R.ER_CURSOR].map (·.key 0 0 m.toNat)) ++ (upTo 256).map (R.ER_WINDOW.key · 0 m.toNat)) ∧
      t = { s with regs := t.regs, er := { s.er with moves := t.er.moves, pos := t.er.pos } }) ∧
  (∀ (m : BitVec 6) (s : State), s.Open 0x51 → ∃ t, exec (.clrtokenRead m) s = .next t ∧ t.er.token ≠ none ∧
    (∀ k ∈ t.er.token.toList, 1 ≤ k ∧ k < 2 ^ 32 ∧ t.bus.data = leBytes 4 k) ∧ t = { s with er := { s.er with token := t.er.token, tokenAt := s.mt }, bus := t.bus, free := t.free }) ∧
  (∀ s : State, s.er.token = none → exec .clearTokenExpiry s = .next s) ∧
  (∀ (k : BitVec 32) (s : State), s.ClocksFree → ∃ t, exec .clearTokenExpiry { s with er := { s.er with token := some k.toNat } } = .next t ∧
    t.NotBefore (s.er.tokenAt + 10000000000) ∧ t.er = { s.er with token := none } ∧ s.RegsBut t (evKeys 0x40) ∧
    t = { s with regs := t.regs, mt := t.mt, tim := t.tim, er := t.er }) ∧
  (∀ (m : BitVec 6) (priv : Bool) (v : BitVec 32) (s : State), s.Open 0x51 → priv = false ∨ s.er.token ≠ some v.toNat ∨ s.er.tokenAt + 10000000000 ≤ s.mt →
    ∃ t, exec (.erClr m priv v) s = .next t ∧ t.er = { s.er with token := none } ∧ s.Recorded t 0x51 0x93 0x13C ∧ s.RegsBut t (errKeys 0x51) ∧
      t = { s with regs := t.regs, er := t.er }) ∧
  (∀ (m : BitVec 6) (v : BitVec 32) (s : State), s.Open 0x51 → s.mode = 1 ∨ s.er.clearing ≠ none ∨ s.rd R.CRT_STAT_STATE ≠ 3 →
    ∃ t, exec (.erClr m true v) { s with er := { s.er with token := some v.toNat, tokenAt := s.mt } } = .next t ∧
      t.er = { s.er with token := some v.toNat, tokenAt := s.mt } ∧ s.Recorded t 0x51 0x94 0x13C ∧ s.RegsBut t (errKeys 0x51) ∧ t = { s with regs := t.regs, er := t.er }) ∧
  (∀ (m : BitVec 6) (v : BitVec 32) (u : Fin 8) (s : State), s.Open 0x51 → s.mode ≠ 1 → s.er.clearing = none → s.rd R.CRT_STAT_STATE = 3 →
    s.er.queue = [] → s.er.unit = none → u.val < s.rd R.ER_UNITS → (∀ j : Fin 8, j < u → s.unitState j ≠ 0) → s.unitState u = 0 →
    ∃ t, exec (.erClr m true v) { s with er := { s.er with token := some v.toNat, tokenAt := s.mt } } = .next t ∧
      t.er.clearing = some (s.rd R.ER_SEQNEXT) ∧ t.rd R.ER_SEQNEXT = (s.rd R.ER_SEQNEXT + 1) % 2 ^ 32 ∧ t.er.unit = some u.val ∧ t.er.queue = [] ∧
      (∀ i ∈ walkSector (t.sectorWords u 0) 32, ∀ r ∈ i.words.toList, recW0 r = 16 * 2 ^ 24 + 6 * 2 ^ 20 + 4 * 2 ^ 16 + 1 ∧ recSeq r = s.rd R.ER_SEQNEXT) ∧
      (walkSector (t.sectorWords u 0) 32).length = 1 ∧ s.PagesBut t [0x51]) ∧
  (∀ s : State, s.er.clearing = none → exec .erClearComplete s = .next s) ∧
  (∀ (q : BitVec 32) (s : State), ∃ t, exec .erClearComplete { s with er := { s.er with clearing := some q.toNat } } = .next t ∧ t.er.clearing = none ∧
    (s.flag R.ER_STOP_ACTIVE = false → t.er.queue = s.er.queue) ∧ s.PagesBut t [0x51] ∧
    (∀ k : Fin 4, t.rd R.ER_DROP_LOW k = 0 ∧ t.rd R.ER_DROP_HIGH k = 0) ∧ t.rd R.ER_STOP_ACTIVE = 0 ∧ t.rd R.ER_STOP_LEVEL = 0 ∧
      (∀ i ∈ s.erUnits, s.unitState i = 2 → s.seqAge q.toNat < s.seqAge (s.unitFirst i) → t.unitState i = 0) ∧
      s.MemBut t s.utAddr (8 * s.rd R.ER_UNITS))

/-- A sample of a running LIO falls at the next whole multiple of the group's period and sets its raw levels; a filtered level changes with
the first sample since ON, or when FILT + 1 samples agree, and a selected change sets its COS bit; other groups stay. An output's drive is 0
in reset, safe state, with LIO not ON, with a SEATED contact open, in DORMANT, START, SERVICE and HOLD 4 or 9, and while HOT or LATCH; else
the trip sum where TE owns it; in LEAD 0, the image bit or the hold value; else the hold value. Readback mismatch, open load and current
limit set their sticky bit, with source, unless suspended or LIO does not run. A thermal shutdown sets HOT, counts, and LATCHes in latched
mode; cooling clears HOT, and LATCH with a pending clear, and latches an output switched to latched mode meanwhile. DQCLR clears LATCH, or
pends while HOT. A measured supply is missing below 10.0 V until 11.0 V, and low below 18.0 V until 19.0 V, with its sources.
(16_local_io.md, R344; 16_local_io.md, R346; 16_local_io.md, R347; 16_local_io.md, R349; 16_local_io.md, R351; 16_local_io.md, R354;
16_local_io.md, R355; 16_local_io.md, R356; 16_local_io.md, R357; 16_local_io.md, R358; 16_local_io.md, R359; 16_local_io.md, R360) -/
def Obligations.LocalInputsAndOutputs : Prop :=
  (∀ (g : Fin 4) (lv : BitVec 8) (s : State), s.running 0x58 = false → exec (.lioGroupSample g lv) s = .next s) ∧
  (∀ (g : Fin 4) (lv : BitVec 8) (s : State), s.running 0x58 = true → s.ClocksFree → s.mt % 4 = 0 → s.nextSample g + 4 ≤ 2 ^ 64 → 1 ≤ s.sper g →
    ∃ t, exec (.lioGroupSample g lv) s = .next t ∧ s.mt ≤ t.mt ∧ t.mt % (50000 * s.sper g) = 0 ∧ t.mt = s.nextSample g ∧
      (nbit s.lio.sampled g = true → smGet 0 s.lio.at_ g < t.mt) ∧
      (t.mt < s.mt + 50000 * s.sper g ∨ (nbit s.lio.sampled g = true ∧ t.mt ≤ smGet 0 s.lio.at_ g + 50000 * s.sper g)) ∧
      (∀ k : Fin 32, nbit (t.rd R.LIO_DIRAW) k = (if k.val / 8 = g then lv.getLsbD (k.val % 8) else nbit (s.rd R.LIO_DIRAW) k) ∧
        nbit (t.rd R.LIO_DISTAT) k = (if k.val / 8 = g ∧ (nbit s.lio.sampled g = false ∨ s.filt g < smGet 0 s.lio.agree k + 1) then lv.getLsbD (k.val % 8)
          else nbit (s.rd R.LIO_DISTAT) k) ∧
        nbit (t.rd R.LIO_COS) k = (nbit (s.rd R.LIO_COS) k || (nbit (t.rd R.LIO_DISTAT) k != nbit (s.rd R.LIO_DISTAT) k &&
          nbit (s.edgeSel k) (if nbit (t.rd R.LIO_DISTAT) k then 0 else 1)))) ∧
      nbit (t.rd R.H_EVRAW 0 0x58) g = (t.rd R.LIO_COS / 2 ^ (8 * g.val) % 2 ^ 8 != 0) ∧ nbit t.lio.sampled g = true ∧ smGet 0 t.lio.at_ g = t.mt ∧
      s.RegsBut t ([R.LIO_DIRAW.key 0 0 0, R.LIO_DISTAT.key 0 0 0, R.LIO_COS.key 0 0 0] ++ evKeys 0x58 ++ evKeys 0x40) ∧
      t = { s with regs := t.regs, mt := t.mt, tim := t.tim, lio := t.lio }) ∧
  (∀ (k : Fin 16) (s : State), s.sys.resetHeld = true ∨ s.safe = true ∨ s.unit 0x58 ≠ 2 ∨ s.flag R.PWR_STATUS_FLUSHONLY = true ∨ s.pwr.seated1 = false ∨
      s.pwr.seated2 = false ∨ s.mode ≤ 1 ∨ s.mode = 5 ∨ (s.mode = 4 ∧ (s.rd R.SYS_MODE_HOLDCAUSE = 4 ∨ s.rd R.SYS_MODE_HOLDCAUSE = 9)) ∨
      nbit (s.rd R.LIO_DQTHERM_HOT) k = true ∨ nbit (s.rd R.LIO_DQTHERM_LATCH) k = true → nbit s.dqDrive k = false) ∧
  (∀ (k : Fin 16) (s : State), s.sys.resetHeld = false → s.safe = false → s.unit 0x58 = 2 → s.flag R.PWR_STATUS_FLUSHONLY = false → s.pwr.seated1 = true →
    s.pwr.seated2 = true → nbit s.lio.seat k = false → s.mode = 2 ∨ s.mode = 3 ∨ (s.mode = 4 ∧ s.rd R.SYS_MODE_HOLDCAUSE ≠ 4 ∧ s.rd R.SYS_MODE_HOLDCAUSE ≠ 9) →
    nbit (s.rd R.LIO_DQTHERM_HOT) k = false → nbit (s.rd R.LIO_DQTHERM_LATCH) k = false →
    nbit s.dqDrive k = (if nbit (s.rd R.TE_DQASSIGN) k then nbit (s.rd R.TE_DQOUT) k
      else if s.mode = 3 ∧ s.dqSrc k = 0 then false
      else if s.mode = 3 ∧ nbit s.lio.badImg (s.dqSrc k) = false then nbit (smGet 0 s.lio.img (s.dqSrc k)) k
      else if s.dqHold k = 0 then false else if s.dqHold k = 2 then true else nbit s.lio.last k)) ∧
  (∀ (k : Fin 16) (s : State), ∃ t, exec (.readbackMismatch k) s = .next t ∧
    if s.running 0x58 = false ∨ s.supMissing k = true ∨ nbit (s.rd R.LIO_DQTHERM_HOT) k = true then t = s
    else t.rd R.LIO_DQRBERR = nsetBit (s.rd R.LIO_DQRBERR) k true ∧ s.Rose t 0x58 11 ∧ s.OnlyRegs t (R.LIO_DQRBERR.key 0 0 0 :: evKeys 0x58)) ∧
  (∀ (k : Fin 16) (off : Bool) (s : State), ∃ t, exec (.openLoad k off) s = .next t ∧
    if s.running 0x58 = false ∨ nbit (s.rd (if off then R.LIO_DQOLEN_OFF else R.LIO_DQOLEN_ON)) k = false ∨ s.supMissing k = true ∨ nbit s.dqDrive k = off then
      t = s
    else t.rd R.LIO_DQOL = nsetBit (s.rd R.LIO_DQOL) k true ∧ s.Rose t 0x58 5 ∧ s.OnlyRegs t (R.LIO_DQOL.key 0 0 0 :: evKeys 0x58)) ∧
  (∀ (k : Fin 16) (s : State), ∃ t, exec (.currentLimit k) s = .next t ∧
    if s.running 0x58 = false then t = s
    else t.rd R.LIO_DQILIM = nsetBit (s.rd R.LIO_DQILIM) k true ∧ s.Rose t 0x58 6 ∧ s.OnlyRegs t (R.LIO_DQILIM.key 0 0 0 :: evKeys 0x58)) ∧
  (∀ (k : Fin 16) (s : State), ∃ t, exec (.thermalShutdown k) s = .next t ∧
    if s.running 0x58 = false ∨ nbit (s.rd R.LIO_DQTHERM_HOT) k = true then t = s
    else t.rd R.LIO_DQTHERM_HOT = nsetBit (s.rd R.LIO_DQTHERM_HOT) k true ∧ s.Counted t R.LIO_THCOUNT ∧ s.Rose t 0x58 4 ∧ nbit t.dqDrive k = false ∧
      t.rd R.LIO_DQTHERM_LATCH = (if nbit s.lio.mode k then nsetBit (s.rd R.LIO_DQTHERM_LATCH) k true else s.rd R.LIO_DQTHERM_LATCH) ∧
      s.OnlyRegs t ([R.LIO_DQTHERM_HOT.key 0 0 0, R.LIO_THCOUNT.key 0 0 0, R.LIO_DQTHERM_LATCH.key 0 0 0] ++ evKeys 0x58)) ∧
  (∀ (k : Fin 16) (s : State), ∃ t, exec (.thermalCool k) s = .next t ∧
    if nbit (s.rd R.LIO_DQTHERM_HOT) k = false then t = s
    else t.rd R.LIO_DQTHERM_HOT = nsetBit (s.rd R.LIO_DQTHERM_HOT) k false ∧ nbit (t.rd R.LIO_DQCLRPEND) k = false ∧
      nbit (t.rd R.LIO_DQTHERM_LATCH) k = (if nbit (s.rd R.LIO_DQCLRPEND) k then false
        else nbit (s.rd R.LIO_DQTHERM_LATCH) k || (nbit (s.rd R.LIO_DQTMODE) k && !nbit s.lio.mode k)) ∧
      nbit t.lio.mode k = nbit (s.rd R.LIO_DQTMODE) k ∧
      (∀ j : Fin 16, j ≠ k → nbit (t.rd R.LIO_DQTHERM_LATCH) j = nbit (s.rd R.LIO_DQTHERM_LATCH) j ∧ nbit (t.rd R.LIO_DQCLRPEND) j = nbit (s.rd R.LIO_DQCLRPEND) j) ∧
      s.RegsBut t ([R.LIO_DQTHERM_HOT.key 0 0 0, R.LIO_DQCLRPEND.key 0 0 0, R.LIO_DQTHERM_LATCH.key 0 0 0] ++ evKeys 0x58) ∧
      t = { s with regs := t.regs, lio := { s.lio with mode := t.lio.mode } }) ∧
  (∀ (m : BitVec 6) (v : BitVec 16) (s : State), s.Open 0x58 → ∃ t, exec (.dqclr m v) s = .next t ∧
    (∀ k : Fin 16, nbit (t.rd R.LIO_DQTHERM_LATCH) k = (nbit (s.rd R.LIO_DQTHERM_LATCH) k && !(v.getLsbD k && !nbit (s.rd R.LIO_DQTHERM_HOT) k)) ∧
      nbit (t.rd R.LIO_DQCLRPEND) k = (nbit (s.rd R.LIO_DQCLRPEND) k ||
        (v.getLsbD k && nbit (s.rd R.LIO_DQTHERM_LATCH) k && nbit (s.rd R.LIO_DQTHERM_HOT) k))) ∧
    s.OnlyRegs t [R.LIO_DQTHERM_LATCH.key 0 0 0, R.LIO_DQCLRPEND.key 0 0 0]) ∧
  (∀ (g : Fin 2) (missing low : Bool) (mv : BitVec 16) (s : State), s.running 0x58 = false → exec (.fieldSupplyChange g missing low mv) s = .next s) ∧
  (∀ (g : Fin 2) (missing low : Bool) (mv : BitVec 16) (s : State), s.running 0x58 = true →
    let rm := if g = 0 then R.LIO_SUP_L1MISS else R.LIO_SUP_L2MISS
    let rl := if g = 0 then R.LIO_SUP_L1LOW else R.LIO_SUP_L2LOW
    let miss : Bool := if missing then decide (mv.toNat < if s.flag rm then 11000 else 10000) else s.flag rm
    let lo : Bool := miss || (if low then decide (mv.toNat < if s.flag rl then 19000 else 18000) else s.flag rl)
    ∃ t, exec (.fieldSupplyChange g missing low mv) s = .next t ∧ t.flag rm = miss ∧ t.flag rl = lo ∧
      t.rd (if g = 0 then R.LIO_SUPMV_L1 else R.LIO_SUPMV_L2) = mv.toNat ∧ (miss = true → s.Rose t 0x58 (7 + 2 * g)) ∧ (lo = true → s.Rose t 0x58 (8 + 2 * g)) ∧
      (s.flag rm = true → miss = false → ∀ k : Fin 16, k.val / 8 = g → t.supMissing k = true) ∧
      s.RegsBut t ([rm.key 0 0 0, rl.key 0 0 0, (if g = 0 then R.LIO_SUPMV_L1 else R.LIO_SUPMV_L2).key 0 0 0] ++ evKeys 0x58) ∧
      t = { s with regs := t.regs, lio := { s.lio with supAt := t.lio.supAt } })

/-- A checked controller in STARTING that has seen 11 recessive bits enters ON, or DRAINING with EN cleared; in any other state nothing
happens. On its open page a WRITE with DIR 0 disables the object, frees its queue and cancels its request (at once where its frame is not on
the bus); one with DIR 1 or 2 stores the staging registers only in an object with DIR 0 (and, to receive, QDEPTH 1 to 16), else 0xB2; 0xB3
where the pool would pass 512 entries. READ shows the object in the master's staging registers. LOAD copies TXBUF and DLC, or records 0xB4
with a request pending. RXSEL shows entry POS of the object, VALID where there is one. RXACK frees the N oldest entries, all with 0xB6 where
there are fewer. Each leaves every other object alone. (Reserved DIR and object numbers follow log entry 34.) (17_rack_bus.md, R367;
17_rack_bus.md, R368; 17_rack_bus.md, R370; 17_rack_bus.md, R371; 17_rack_bus.md, R372; 17_rack_bus.md, R373; 17_rack_bus.md, Table 17.3;
02_register_pages.md, Table 2.5) -/
def Obligations.RackBusObjects : Prop :=
  (∀ (u : Fin 2) (s : State), s.present (rbPage u) = false ∨ s.unit (rbPage u) ≠ 1 → exec (.rbBusIdle u) s = .next s) ∧
  (∀ (u : Fin 2) (s : State), s.present (rbPage u) = true → s.unit (rbPage u) = 1 → s.ClocksFree → ∃ t, exec (.rbBusIdle u) s = .next t ∧
    t.NotBefore ((s.rb_ u).since + 11 * s.rbBit u) ∧ t.unit (rbPage u) = (if s.flag R.H_CTRL_EN 0 (rbPage u) then 2 else 3) ∧
    t.rb_ u = { s.rb_ u with since := t.mt } ∧ s.RegsBut t (R.H_STATE.key 0 (rbPage u) 0 :: evKeys 0x40) ∧
    t = { s with regs := t.regs, mt := t.mt, tim := t.tim, racks := t.racks }) ∧
  (∀ (m : BitVec 6) (u : Fin 2) (s : State), s.Open (rbPage u) → ∃ t, exec (.rbObjWrite m u) s = .next t ∧
    let i := s.rd R.RB_OBJSEL_IDX 0 u m.toNat
    let d := s.rd R.RB_OBJCFG_DIR 0 u m.toNat
    let q := s.rd R.RB_OBJCFG_QDEPTH 0 u m.toNat
    if 96 ≤ i then s.Refused t (rbPage u) 0xB2 0x140
    else if d = 0 then (t.obj u i).dir = 0 ∧ (t.obj u i).queue = [] ∧ (∀ j : Fin 96, j.val ≠ i → t.obj u j = s.obj u j) ∧
      (s.objBit R.RB_TXPEND u i = true → (s.rb_ u).tx ≠ some i → t.objBit R.RB_TXPEND u i = false ∧ (t.obj u i).txstate = 5) ∧
      (s.objBit R.RB_TXPEND u i = true → (s.rb_ u).tx = some i → t.objBit R.RB_TXPEND u i = true ∧ (t.rb_ u).cancelled = true) ∧
      s.RegsBut t [R.RB_TXPEND.key (i / 32) u 0, R.RB_POOL_USED.key 0 u 0] ∧ t = { s with regs := t.regs, racks := t.racks }
    else if (s.obj u i).dir ≠ 0 ∨ d = 3 ∨ (d = 2 ∧ (q = 0 ∨ 16 < q)) then s.Refused t (rbPage u) 0xB2 0x140
    else if d = 2 ∧ 512 < (s.rb_ u).used + q then s.Refused t (rbPage u) 0xB3 0x140
    else t.obj u i = s.rbStaged m.toNat u (s.obj u i) ∧ (t.obj u i).dir = d ∧ (t.obj u i).qdepth = q ∧
      (∀ j : Fin 96, j.val ≠ i → t.obj u j = s.obj u j) ∧ s.RegsBut t [R.RB_POOL_USED.key 0 u 0] ∧ t = { s with regs := t.regs, racks := t.racks }) ∧
  (∀ (m : BitVec 6) (u : Fin 2) (s : State), s.Open (rbPage u) → ∃ t, exec (.rbObjRead m u) s = .next t ∧
    let o := s.obj u (s.rd R.RB_OBJSEL_IDX 0 u m.toNat)
    t.rd R.RB_OBJCFG_DIR 0 u m.toNat = o.dir % 4 ∧ t.flag R.RB_OBJCFG_IDE 0 u m.toNat = o.ide ∧ t.flag R.RB_OBJCFG_FDF 0 u m.toNat = o.fdf ∧
      t.flag R.RB_OBJCFG_BRS 0 u m.toNat = o.brs ∧ t.flag R.RB_OBJCFG_RTR 0 u m.toNat = o.rtr ∧ t.flag R.RB_OBJCFG_LEAD 0 u m.toNat = o.lead ∧
      t.rd R.RB_OBJCFG_FTYPE 0 u m.toNat = o.ftype % 4 ∧ t.rd R.RB_OBJCFG_DLC 0 u m.toNat = o.dlc % 16 ∧
      t.rd R.RB_OBJCFG_RETRY 0 u m.toNat = o.retry % 16 ∧ t.rd R.RB_OBJCFG_QDEPTH 0 u m.toNat = o.qdepth % 32 ∧
      t.rd R.RB_OBJID 0 u m.toNat = o.id % 2 ^ 29 ∧ t.rd R.RB_OBJMASK 0 u m.toNat = o.mask % 2 ^ 29 ∧
      t.rd R.RB_OBJSTAT_QCOUNT 0 u m.toNat = o.queue.length % 32 ∧ t.rd R.RB_OBJSTAT_TXSTATE 0 u m.toNat = o.txstate % 8 ∧
      t.rd R.RB_OBJSTAT_ATTEMPTS 0 u m.toNat = min 15 o.attempts ∧ t.rd R.RB_OBJSTAT_QOVF 0 u m.toNat = min 0xFFFF o.qovf ∧
      s.OnlyRegs t ([R.RB_OBJCFG_DIR, R.RB_OBJCFG_IDE, R.RB_OBJCFG_FDF, R.RB_OBJCFG_BRS, R.RB_OBJCFG_RTR, R.RB_OBJCFG_LEAD, R.RB_OBJCFG_FTYPE,
        R.RB_OBJCFG_DLC, R.RB_OBJCFG_RETRY, R.RB_OBJCFG_QDEPTH, R.RB_OBJID, R.RB_OBJMASK, R.RB_OBJSTAT_QCOUNT, R.RB_OBJSTAT_TXSTATE,
        R.RB_OBJSTAT_ATTEMPTS, R.RB_OBJSTAT_QOVF].map (·.key 0 u m.toNat))) ∧
  (∀ (m : BitVec 6) (u : Fin 2) (s : State), s.Open (rbPage u) → ∃ t, exec (.rbObjLoad m u) s = .next t ∧
    let i := s.rd R.RB_OBJSEL_IDX 0 u m.toNat
    if 96 ≤ i then s.Refused t (rbPage u) 0xB2 0x140
    else if s.objBit R.RB_TXPEND u i = true then s.Refused t (rbPage u) 0xB4 0x140
    else (t.obj u i).dlc = s.rd R.RB_OBJCFG_DLC 0 u m.toNat ∧ (t.obj u i).data.length = 64 ∧
      (∀ j : Fin 16, leNat (((t.obj u i).data.drop (4 * j)).take 4) = s.rd R.RB_TXBUF j u m.toNat) ∧
      t.obj u i = { s.obj u i with dlc := (t.obj u i).dlc, data := (t.obj u i).data } ∧ (∀ j : Fin 96, j.val ≠ i → t.obj u j = s.obj u j) ∧
      t = { s with racks := t.racks }) ∧
  (∀ (m : BitVec 6) (u : Fin 2) (obj : BitVec 7) (pos : BitVec 4) (s : State), s.Open (rbPage u) →
    ∃ t, exec (.rbRxSelect m u obj pos) s = .next t ∧ t.rd R.RB_RXSEL_OBJ 0 u m.toNat = obj.toNat ∧ t.rd R.RB_RXSEL_POS 0 u m.toNat = pos.toNat ∧
      t.flag R.RB_RXFLG_VALID 0 u m.toNat = decide (pos.toNat < (s.obj u obj.toNat).queue.length) ∧
      (∀ e ∈ ((s.obj u obj.toNat).queue[pos.toNat]?).toList, t.rd R.RB_RXHDR_ID 0 u m.toNat = e.frame.id.toNat ∧
        t.flag R.RB_RXHDR_IDE 0 u m.toNat = e.frame.ide ∧ t.flag R.RB_RXHDR_RTR 0 u m.toNat = e.frame.rtr ∧ t.flag R.RB_RXHDR_FDF 0 u m.toNat = e.frame.fdf ∧
        t.rd R.RB_RXFLG_DLC 0 u m.toNat = e.frame.dlc.toNat ∧ t.flag R.RB_RXFLG_BRS 0 u m.toNat = e.frame.brs ∧ t.flag R.RB_RXFLG_ESI 0 u m.toNat = e.frame.esi ∧
        t.rd R.RB_RXFLG_LEN 0 u m.toNat = e.frame.data.length % 128 ∧ (e.mt < 2 ^ 64 → t.rd2 R.RB_RXMTLO R.RB_RXMTHI 0 u m.toNat = e.mt) ∧
        ∀ j : Fin 16, t.rd R.RB_RXDATA j u m.toNat = leNat ((e.frame.data.drop (4 * j)).take 4)) ∧
      s.PagesBut t [rbPage u] ∧ s.RegsAlone t) ∧
  (∀ (m : BitVec 6) (u : Fin 2) (obj : BitVec 7) (n : BitVec 5) (s : State), s.Open (rbPage u) → ∃ t, exec (.rbRxAck m u obj n) s = .next t ∧
    (t.obj u obj.toNat) = { s.obj u obj.toNat with queue := (s.obj u obj.toNat).queue.drop n.toNat } ∧
    (∀ j : Fin 96, j.val ≠ obj.toNat → t.obj u j = s.obj u j) ∧ t = { s with regs := t.regs, racks := t.racks } ∧
    if (s.obj u obj.toNat).queue.length < n.toNat then s.Recorded t (rbPage u) 0xB6 0x1E8 ∧ s.RegsBut t (errKeys (rbPage u)) else t.regs = s.regs)

/-- A TXREQ write makes each named send object pending that was not, with no attempt counted, and records 0xB2 for others; TXCAN ends a
pending request at once, or, with its frame on the bus, after the attempt. A start takes the pending object that wins arbitration, lowest
number at equal identifiers, none of LEAD outside LEAD, and none while another sends. A success ends as DONE, an error retries, fails past
RETRY, or ends as CANCELLED; lost arbitration is no attempt. A received frame goes to the queue of the lowest-numbered object that matches,
is dropped and counted where that queue is full, and counted in NOMATCH where none matches; an FD frame with FDEN 0 is a form error (log
entry 58). In loopback a sent frame is received. Receive errors raise REC and are answered with an error frame; a node whose TEC passed 255
goes bus-off once; recovery takes 128 times 11 recessive bits and ends with both counters 0. With MON, LBK or an open SEATED contact nothing
is driven. (How far REC falls from above 127 is a free value of ISO 11898-1's range.) (17_rack_bus.md, R364; 17_rack_bus.md, R369;
17_rack_bus.md, R370; 17_rack_bus.md, R372; 17_rack_bus.md, R373; 17_rack_bus.md, R374; 17_rack_bus.md, R375; 17_rack_bus.md, Table 17.2) -/
def Obligations.RackBusFrames : Prop :=
  (∀ (m : BitVec 6) (u : Fin 2) (k : Fin 3) (bits : BitVec 32) (s : State), s.Open (rbPage u) → ∃ t, exec (.rbTxRequest m u k bits) s = .next t ∧
    (∀ b : Fin 32, let i := 32 * k.val + b.val
      t.objBit R.RB_TXPEND u i = (s.objBit R.RB_TXPEND u i || (bits.getLsbD b && (s.obj u i).dir == 1)) ∧
      t.obj u i = (if bits.getLsbD b = true ∧ (s.obj u i).dir = 1 ∧ s.objBit R.RB_TXPEND u i = false then { s.obj u i with txstate := 1, attempts := 0 }
        else s.obj u i)) ∧
    ((∃ b ∈ upTo 32, bits.getLsbD b = true ∧ (s.obj u (32 * k.val + b)).dir ≠ 1) → s.Recorded t (rbPage u) 0xB2 (0x190 + 4 * k.val)) ∧
    s.RegsBut t (R.RB_TXPEND.key k u 0 :: errKeys (rbPage u)) ∧ t = { s with regs := t.regs, racks := t.racks }) ∧
  (∀ (m : BitVec 6) (u : Fin 2) (k : Fin 3) (bits : BitVec 32) (s : State), s.Open (rbPage u) → ∃ t, exec (.rbTxCancel m u k bits) s = .next t ∧
    (∀ b : Fin 32, let i := 32 * k.val + b.val
      if bits.getLsbD b = true ∧ s.objBit R.RB_TXPEND u i = true ∧ (s.rb_ u).tx ≠ some i then
        t.objBit R.RB_TXPEND u i = false ∧ t.obj u i = { s.obj u i with txstate := 5 }
      else t.objBit R.RB_TXPEND u i = s.objBit R.RB_TXPEND u i ∧ t.obj u i = s.obj u i) ∧
    (∀ b ∈ upTo 32, bits.getLsbD b = true → s.objBit R.RB_TXPEND u (32 * k.val + b) = true → (s.rb_ u).tx = some (32 * k.val + b) → (t.rb_ u).cancelled = true) ∧
    s.RegsBut t [R.RB_TXPEND.key k u 0] ∧ t = { s with regs := t.regs, racks := t.racks }) ∧
  (∀ (u : Fin 2) (s : State), s.rbLive u = false ∨ s.unit (rbPage u) ≠ 2 ∨ s.flag R.RB_CFG_MON 0 u = true ∨ (s.rb_ u).tx ≠ none →
    exec (.rbTxStart u) s = .next s) ∧
  (∀ (u : Fin 2) (s : State), s.rbLive u = true → s.unit (rbPage u) = 2 → s.flag R.RB_CFG_MON 0 u = false →
    ∃ t, exec (.rbTxStart u) { s with racks := smSet {} s.racks u { s.rb_ u with tx := none } } = .next t ∧
      (∀ i ∈ (t.rb_ u).tx.toList, s.objBit R.RB_TXPEND u i = true ∧ ((s.obj u i).lead = true → s.mode = 3) ∧ (t.obj u i).txstate = 2 ∧
        (∀ j : Fin 96, s.objBit R.RB_TXPEND u j = true → ((s.obj u j).lead = true → s.mode = 3) → ((s.obj u j).fdf = true → s.flag R.RB_CFG_FDEN 0 u = true) →
          (s.obj u i).arb < (s.obj u j).arb ∨ ((s.obj u i).arb = (s.obj u j).arb ∧ i ≤ j)) ∧
        t.outs = (if s.flag R.RB_CFG_LBK 0 u = false ∧ s.pwr.seated1 = true ∧ s.pwr.seated2 = true then
            .can u i ((s.obj u i).frame (s.rd R.RB_ERR_STATE 0 u == 1)) :: s.outs else s.outs) ∧
        (t.rb_ u).sent = some ((s.obj u i).frame (s.rd R.RB_ERR_STATE 0 u == 1)) ∧ (t.rb_ u).txAt = s.mt) ∧
      ((t.rb_ u).tx = none → t.outs = s.outs ∧ ∀ j : Fin 96, s.objBit R.RB_TXPEND u j = true → (s.obj u j).lead = true ∨ (s.obj u j).fdf = true) ∧
      t = { s with racks := t.racks, outs := t.outs }) ∧
  (∀ (u : Fin 2) (kind : Fin 7) (inData counts lost : Bool) (s : State), (s.rb_ u).tx = none →
    exec (.rbTxSuccess u) s = .next s ∧ exec (.rbTxError u kind inData counts lost) s = .next s) ∧
  (∀ (u : Fin 2) (i : Fin 96) (c : Bool) (s : State), s.flag R.RB_CFG_LBK 0 u = false →
    ∃ t, exec (.rbTxSuccess u) { s with racks := smSet {} s.racks u { s.rb_ u with tx := some i.val, cancelled := c } } = .next t ∧
      t.objBit R.RB_TXPEND u i = false ∧ t.objBit R.RB_TXDONE u i = true ∧ t.obj u i = { s.obj u i with txstate := 3 } ∧ (t.rb_ u).tx = none ∧
      (t.rb_ u).tec = (s.rb_ u).tec - 1 ∧ (∀ j : Fin 96, j ≠ i → t.obj u j = s.obj u j) ∧ s.PagesBut t [rbPage u] ∧
      t = { s with regs := t.regs, racks := t.racks, free := t.free }) ∧
  (∀ (u : Fin 2) (i j : Fin 96) (f : CanFrame) (s : State), s.flag R.RB_CFG_LBK 0 u = true → i ≠ j → (s.obj u j).takes f = true →
    (∀ k : Fin 96, k < j → (s.obj u k).takes f = false) → (s.obj u j).queue.length < (s.obj u j).qdepth →
    ∃ t, exec (.rbTxSuccess u) { s with racks := smSet {} s.racks u { s.rb_ u with tx := some i.val, sent := some f } } = .next t ∧
      t.objBit R.RB_TXDONE u i = true ∧ t.objBit R.RB_RXNEW u j = true ∧
      t.obj u j = { s.obj u j with queue := (s.obj u j).queue ++ [⟨f, (s.rb_ u).txAt + s.rbSample u⟩] } ∧
      s.PagesBut t [rbPage u] ∧ t = { s with regs := t.regs, racks := t.racks, free := t.free }) ∧
  (∀ (u : Fin 2) (i : Fin 96) (kind : Fin 7) (inData counts lost c : Bool) (s : State),
    ∃ t, exec (.rbTxError u kind inData counts lost) { s with racks := smSet {} s.racks u { s.rb_ u with tx := some i.val, cancelled := c } } = .next t ∧
      (t.rb_ u).tx = none ∧ (t.obj u i).attempts = (s.obj u i).attempts + (if lost then 0 else 1) ∧
      (t.obj u i).txstate = (if c then 5 else if lost = false ∧ (s.obj u i).retry ≠ 15 ∧ (s.obj u i).retry ≤ (s.obj u i).attempts then 4 else 1) ∧
      (c = true ∨ (t.obj u i).txstate = 4 → t.objBit R.RB_TXPEND u i = false) ∧ ((t.obj u i).txstate = 4 → t.objBit R.RB_TXFAIL u i = true) ∧
      ((t.obj u i).txstate = 1 → t.objBit R.RB_TXPEND u i = s.objBit R.RB_TXPEND u i) ∧
      (lost = false → t.rd (if inData then R.RB_LEC_DATA else R.RB_LEC_NOM) 0 u = kind) ∧
      (t.rb_ u).tec = (s.rb_ u).tec + (if counts = true ∧ lost = false then 8 else 0) ∧
      t.outs = (if lost = true ∨ s.rbMute u = true then s.outs else .canError u (s.rd R.RB_ERR_STATE 0 u == 1) :: s.outs) ∧ s.PagesBut t [rbPage u] ∧
      t = { s with regs := t.regs, racks := t.racks, outs := t.outs, free := t.free }) ∧
  (∀ (u : Fin 2) (f : CanFrame) (ago : BitVec 32) (s : State), s.rbLive u = false → exec (.rbFrameReceived u f ago) s = .next s) ∧
  (∀ (u : Fin 2) (f : CanFrame) (ago : BitVec 32) (s : State), s.rbLive u = true → f.fdf = true → s.flag R.RB_CFG_FDEN 0 u = false →
    exec (.rbFrameReceived u f ago) s = exec (.rbReceiveError u 2 false false) s) ∧
  (∀ (u : Fin 2) (f : CanFrame) (ago : BitVec 32) (s : State), s.rbLive u = true → f.fdf = false ∨ s.flag R.RB_CFG_FDEN 0 u = true →
    ∃ t, exec (.rbFrameReceived u f ago) s = .next t ∧ s.PagesBut t [rbPage u] ∧ t.outs = (if s.rbMute u = true then s.outs else .canAck u :: s.outs) ∧
      t = { s with regs := t.regs, racks := t.racks, free := t.free, outs := t.outs } ∧
      ((∀ i : Fin 96, (s.obj u i).takes f = false) → s.Counted t R.RB_CNT_NOMATCH 0 u ∧ ∀ i : Fin 96, t.obj u i = s.obj u i) ∧
      (∀ i : Fin 96, (s.obj u i).takes f = true → (∀ j : Fin 96, j < i → (s.obj u j).takes f = false) →
        (∀ j : Fin 96, j ≠ i → t.obj u j = s.obj u j) ∧
        if (s.obj u i).qdepth ≤ (s.obj u i).queue.length then
          t.obj u i = { s.obj u i with qovf := (s.obj u i).qovf + 1 } ∧ s.Counted t R.RB_RXOVF_COUNT 0 u ∧ t.objBit R.RB_RXOVFL u i = true
        else t.obj u i = { s.obj u i with queue := (s.obj u i).queue ++ [⟨f, s.mt - ago.toNat⟩] } ∧ t.objBit R.RB_RXNEW u i = true) ∧
      ((s.rb_ u).rec_ ≤ 127 → (t.rb_ u).rec_ = (s.rb_ u).rec_ - 1) ∧ (127 < (s.rb_ u).rec_ → 119 ≤ (t.rb_ u).rec_ ∧ (t.rb_ u).rec_ ≤ 127)) ∧
  (∀ (u : Fin 2) (kind : Fin 7) (inData heavy : Bool) (s : State), ∃ t, exec (.rbReceiveError u kind inData heavy) s = .next t ∧
    if s.rbLive u = false then t = s
    else t.rd (if inData then R.RB_LEC_DATA else R.RB_LEC_NOM) 0 u = kind ∧ (t.rb_ u).rec_ = min 255 ((s.rb_ u).rec_ + if heavy then 8 else 1) ∧
      (t.rb_ u).tec = (s.rb_ u).tec ∧ t.flag R.RB_ERR_WARN 0 u = (decide (96 ≤ (t.rb_ u).tec) || decide (96 ≤ (t.rb_ u).rec_)) ∧
      t.rd R.RB_ERR_STATE 0 u = (if 128 ≤ (t.rb_ u).tec ∨ 128 ≤ (t.rb_ u).rec_ then 1 else 0) ∧
      (t.rd R.RB_ERR_STATE 0 u ≠ s.rd R.RB_ERR_STATE 0 u ∨ t.rd R.RB_ERR_WARN 0 u ≠ s.rd R.RB_ERR_WARN 0 u → s.Rose t (rbPage u) 2) ∧
      t.outs = (if s.rbMute u = true then s.outs else .canError u (s.rd R.RB_ERR_STATE 0 u == 1) :: s.outs) ∧
      s.PagesBut t [rbPage u] ∧ t = { s with regs := t.regs, racks := t.racks, outs := t.outs }) ∧
  (∀ (u : Fin 2) (s : State), s.rbMute u = (s.flag R.RB_CFG_MON 0 u || s.flag R.RB_CFG_LBK 0 u || !(s.pwr.seated1 && s.pwr.seated2))) ∧
  (∀ (u : Fin 2) (s : State), ∃ t, exec (.rbBusOff u) s = .next t ∧
    if (s.rb_ u).tec ≤ 255 ∨ s.rd R.RB_ERR_STATE 0 u = 2 then t = s
    else t.rd R.RB_ERR_STATE 0 u = 2 ∧ s.Counted t R.RB_CNT_BUSOFF 0 u ∧ s.Rose t (rbPage u) 2 ∧ (∀ i : Fin 96, t.obj u i = s.obj u i) ∧ (t.rb_ u).since = s.mt ∧
      s.PagesBut t [rbPage u] ∧ t = { s with regs := t.regs, racks := t.racks }) ∧
  (∀ (u : Fin 2) (s : State), s.rd R.RB_ERR_STATE 0 u ≠ 2 ∨ s.running (rbPage u) = false → exec (.rbBusoffRecovery u) s = .next s) ∧
  (∀ (u : Fin 2) (s : State), s.rd R.RB_ERR_STATE 0 u = 2 → s.running (rbPage u) = true → s.ClocksFree →
    ∃ t, exec (.rbBusoffRecovery u) s = .next t ∧ t.NotBefore ((s.rb_ u).since + 1408 * s.rbBit u) ∧
      t.rd R.RB_ERR_STATE 0 u = 0 ∧ (t.rb_ u).tec = 0 ∧ (t.rb_ u).rec_ = 0 ∧ t.rd R.RB_ERR_TEC 0 u = 0 ∧ t.rd R.RB_ERR_REC 0 u = 0 ∧
      s.Rose t (rbPage u) 2 ∧ (∀ i : Fin 96, t.obj u i = s.obj u i) ∧ s.PagesBut t [rbPage u, 0x40] ∧
      t = { s with regs := t.regs, mt := t.mt, tim := t.tim, racks := t.racks })

/-- The entry that decides on a byte is the lowest-numbered valid one that contains it; it allows the byte when the master's mask bit is set
and it grants the access type (an AMO, LR or SC needs R, W and MEMTYPE 2 to 4; for the debug master a locked entry also needs DBG and
UNLOCKED, and CTRL.EN 1). Without an entry the default map decides for privileged accesses of any master but DBG. An access with a byte that
fails is refused whole: a read answers zeros and the address of the lowest failing byte, nothing is written, and that byte is recorded: an
undecoded one in the decode record, any other in its gate's record with cause, master, privilege, type, STRADDLE and entry, or MORE where a
record is held; a debug access in ERRADDR and ERRCOUNT instead. Masters other than the control cores count as privileged.
(18_access_gates.md, R382; 18_access_gates.md, R385; 18_access_gates.md, R386; 18_access_gates.md, R387; 18_access_gates.md, R388;
18_access_gates.md, R391; 18_access_gates.md, R393; 18_access_gates.md, Table 18.4; 18_access_gates.md, Table 18.5; 18_access_gates.md,
Table 18.9) -/
def Obligations.AccessesAreChecked : Prop :=
  (∀ (g : Fin 13) (a : BitVec 36) (i : Fin 16) (s : State), s.gateEntryAt g a.toNat = some i.val ↔
    ((s.gate g i).covers a.toNat = true ∧ ∀ j : Fin 16, j < i → (s.gate g j).covers a.toNat = false)) ∧
  (∀ (m : BitVec 6) (priv : Bool) (k : AccessKind) (a : BitVec 36) (s : State), ∀ i ∈ (s.gateEntryAt ((gateOf a.toNat).getD 0) a.toNat).toList,
    let e := s.gate ((gateOf a.toNat).getD 0) i
    (s.byteCheck m.toNat priv k a.toNat).cause = 0 ↔ nbit e.mask m.toNat = true ∧ grants (if priv then e.p else e.u) k = true ∧
      (isAtomic k = true → 2 ≤ e.memtype) ∧
      (m = 0x3F → s.flag R.H_CTRL_EN 0 0x70 = true ∧ (e.lock = true → e.dbg = true ∧ s.flag R.DBG_STAT_UNLOCKED = true))) ∧
  (∀ (m : BitVec 6) (priv : Bool) (k : AccessKind) (a : BitVec 36) (s : State), s.gateEntryAt ((gateOf a.toNat).getD 0) a.toNat = none →
    ((s.byteCheck m.toNat priv k a.toNat).cause = 0 ↔ m ≠ 0x3F ∧ priv = true ∧ grants (defaultMap a.toNat).1 k = true ∧
      (isAtomic k = true → 2 ≤ (defaultMap a.toNat).2.1))) ∧
  (∀ (m : BitVec 6) (priv : Bool) (k : AccessKind) (a : BitVec 36) (n : BitVec 13) (beat : Beat) (s : State),
    let p := priv || decide (2 ≤ m.toNat)
    s.xe.waits = [] ∧ s.rd R.XE_SM_STAT_STATE ≠ 4 → isPageByte a.toNat = true ∨ s.NoWork → ∀ b ∈ (s.failsAt m.toNat p k a.toNat n.toNat).toList, ∃ t, exec (.fabricAccess m priv k a n beat) s = .next t ∧
      t.bus = ⟨if loads k then List.replicate n.toNat 0 else [], true, 0, false, b⟩ ∧ t = { s with regs := t.regs, bus := t.bus } ∧
      if s.decodes b = false then
        s.Counted t R.GATE_DEC_COUNT ∧ t.flag R.GATE_DEC_INFO_VALID = true ∧ s.RegsBut t (decKeys ++ evKeys 0x06) ∧ s.Rose t 0x06 5 ∧
          if s.flag R.GATE_DEC_INFO_VALID then t.flag R.GATE_DEC_INFO_MORE = true ∧ t.rd2 R.GATE_DEC_ADDRLO R.GATE_DEC_ADDRHI = s.rd2 R.GATE_DEC_ADDRLO R.GATE_DEC_ADDRHI
          else t.rd2 R.GATE_DEC_ADDRLO R.GATE_DEC_ADDRHI = b ∧ t.rd R.GATE_DEC_INFO_MASTER = m.toNat ∧ t.rd R.GATE_DEC_INFO_TYPE = kindCode k
      else if m = 0x3F then
        s.Counted t R.DBG_ERRCOUNT ∧ t.flag R.DBG_ERR_STICKY = true ∧ s.RegsBut t (dbgKeys ++ evKeys 0x06 ++ evKeys 0x70) ∧ s.Rose t 0x06 6 ∧ s.Rose t 0x70 2 ∧
          t.rd2 R.DBG_ERRADDRLO R.DBG_ERRADDRHI = (if s.flag R.DBG_ERR_STICKY then s.rd2 R.DBG_ERRADDRLO R.DBG_ERRADDRHI else b)
      else
        let g := (gateOf b).getD 0
        s.Counted t R.GATE_FLT_COUNT g ∧ t.flag R.GATE_FLT_INFO_VALID g = true ∧ s.RegsBut t (fltKeys g ++ evKeys 0x06) ∧
          s.Rose t 0x06 (if g ≤ 4 then 0 else if g ≤ 6 then 1 else if g ≤ 8 then 2 else if g ≤ 11 then 3 else 4) ∧
          if s.flag R.GATE_FLT_INFO_VALID g then
            t.flag R.GATE_FLT_INFO_MORE g = true ∧ t.rd2 R.GATE_FLT_ADDRLO R.GATE_FLT_ADDRHI g = s.rd2 R.GATE_FLT_ADDRLO R.GATE_FLT_ADDRHI g ∧
              t.rd R.GATE_FLT_INFO_CAUSE g = s.rd R.GATE_FLT_INFO_CAUSE g ∧ t.rd R.GATE_FLT_INFO_MASTER g = s.rd R.GATE_FLT_INFO_MASTER g
          else t.rd2 R.GATE_FLT_ADDRLO R.GATE_FLT_ADDRHI g = b ∧ t.rd R.GATE_FLT_INFO_MASTER g = m.toNat ∧ t.flag R.GATE_FLT_INFO_PRIV g = p ∧
            t.rd R.GATE_FLT_INFO_TYPE g = kindCode k ∧ t.rd R.GATE_FLT_INFO_CAUSE g = s.byteCause m.toNat p k a.toNat n.toNat b ∧
            t.flag R.GATE_FLT_INFO_STRADDLE g = (b != a.toNat) ∧ t.rd R.GATE_FLT_INFO_ENTRY g = (s.gateEntryAt g b).getD 0 ∧
            t.flag R.GATE_FLT_INFO_NOENT g = (s.gateEntryAt g b).isNone)

/-- While no ply runs and no switch is under way, an access that no byte fails is allowed and answers with the MEMTYPE and SHARE that its
first byte has. A load from plain memory, instance, move, constant and station memory answers the bytes it covers and changes nothing. A
store to core SRAM or LPDDR5 stores exactly its bytes; an atomic answers the old bytes and stores the new; the boot ROM ignores stores. A
store to a staged half leaves VERIFIED and clears REVOK. A store to instance memory with no force entry stores exactly its bytes; in LEAD a
line inside the HOST ranges is marked for the next mirror, and a line outside is a mirror escape that takes the module to HOLD with
HOLDCAUSE 4, or to a reset of cause 3 where RSTALL asks for one. A station buffer takes stores outside the in-mailboxes and mailbox
controls. The cartridge window is ignored with error 0x80 while no cartridge is ACTIVE. An access to instance memory, move memory or the
constant pool during a switch waits for its end. A word of a register page has the effect of the register write or read.
(18_access_gates.md, R389; 07_sealed_move.md, R152; 02_register_pages.md, R25; 07_sealed_move.md, R148; 10_ramette_stations.md, R228;
11_pair.md, R238; 11_pair.md, R240; 14_cartridge.md, R310; 02_register_pages.md, Table 2.1) -/
def Obligations.AllowedAccessesReachTheirTarget : Prop :=
  (∀ (m : BitVec 6) (priv : Bool) (k : AccessKind) (a : BitVec 36) (n : BitVec 13) (beat : Beat) (s : State),
    let p := priv || decide (2 ≤ m.toNat)
    s.xe.waits = [] ∧ s.rd R.XE_SM_STAT_STATE ≠ 4 → isPageByte a.toNat = true ∨ s.NoWork → s.failsAt m.toNat p k a.toNat n.toNat = none → n ≠ 0 → ∃ t, exec (.fabricAccess m priv k a n beat) s = .next t ∧
      t.bus = ⟨t.bus.data, false, (s.byteCheck m.toNat p k a.toNat).memtype, (s.byteCheck m.toNat p k a.toNat).share, 0⟩) ∧
  (∀ (m : BitVec 6) (priv : Bool) (a : BitVec 36) (n : BitVec 13) (beat : Beat) (s : State), ∀ k ∈ [AccessKind.read, .fetch, .lr],
    s.xe.waits = [] ∧ s.rd R.XE_SM_STAT_STATE ≠ 4 → s.NoWork → s.failsAt m.toNat (priv || decide (2 ≤ m.toNat)) k a.toNat n.toNat = none → n ≠ 0 → isPageByte a.toNat = false → isCartByte a.toNat = false →
    ∃ t, exec (.fabricAccess m priv k a n beat) s = .next t ∧ t.bus.data = s.rbs a.toNat n.toNat ∧ t.bus.refused = false ∧ t = { s with bus := t.bus }) ∧
  (∀ (m : BitVec 6) (priv : Bool) (a : BitVec 36) (n : BitVec 13) (beat : Beat) (s : State), ∀ k ∈ [AccessKind.write, .amo, .sc],
    s.xe.waits = [] ∧ s.rd R.XE_SM_STAT_STATE ≠ 4 → s.NoWork → s.failsAt m.toNat (priv || decide (2 ≤ m.toNat)) k a.toNat n.toNat = none → n ≠ 0 → isPlainByte a.toNat = true →
    ∃ t, exec (.fabricAccess m priv k a n beat) s = .next t ∧ t.bus.data = (if k = .amo then s.rbs a.toNat n.toNat else []) ∧ t.bus.refused = false ∧
      (∀ i ∈ upTo n.toNat, t.rb (a.toNat + i) = beat.data.getD i 0) ∧ s.MemBut t a.toNat n.toNat ∧ t = { s with mem := t.mem, bus := t.bus }) ∧
  (∀ (m : BitVec 6) (priv : Bool) (a : BitVec 36) (n : BitVec 13) (beat : Beat) (s : State),
    s.xe.waits = [] ∧ s.rd R.XE_SM_STAT_STATE ≠ 4 → s.NoWork → s.failsAt m.toNat (priv || decide (2 ≤ m.toNat)) .write a.toNat n.toNat = none → n ≠ 0 → isRomByte a.toNat = true →
    ∃ t, exec (.fabricAccess m priv .write a n beat) s = .next t ∧ t = { s with bus := t.bus }) ∧
  (∀ (m : BitVec 6) (priv : Bool) (a : BitVec 36) (n : BitVec 13) (beat : Beat) (s : State),
    s.xe.waits = [] ∧ s.rd R.XE_SM_STAT_STATE ≠ 4 → s.NoWork → s.failsAt m.toNat (priv || decide (2 ≤ m.toNat)) .write a.toNat n.toNat = none → n ≠ 0 → halfOf a.toNat = some (1 - s.half) →
    ∃ t, exec (.fabricAccess m priv .write a n beat) s = .next t ∧ (∀ i ∈ upTo n.toNat, t.rb (a.toNat + i) = beat.data.getD i 0) ∧
      s.MemBut t a.toNat n.toNat ∧ (s.rd R.XE_SM_STAT_STATE = 2 ∨ s.flag R.XE_SM_STAT_REVOK = true →
        t.rd R.XE_SM_STAT_STATE = 0 ∧ t.flag R.XE_SM_STAT_REVOK = false) ∧
      s.RegsBut t [R.XE_SM_STAT_STATE.key 0 0 0, R.XE_SM_STAT_REVOK.key 0 0 0] ∧ t = { s with mem := t.mem, regs := t.regs, bus := t.bus }) ∧
  (∀ (m : BitVec 6) (priv : Bool) (a : BitVec 36) (n : BitVec 13) (beat : Beat) (s : State),
    s.xe.waits = [] ∧ s.rd R.XE_SM_STAT_STATE ≠ 4 → s.NoWork → s.failsAt m.toNat (priv || decide (2 ≤ m.toNat)) .write a.toNat n.toNat = none → n ≠ 0 → isInstByte a.toNat = true → s.xe.forces = [] → s.sys.resetHeld = false →
    ∃ t, exec (.fabricAccess m priv .write a n beat) s = .next t ∧ (∀ i ∈ upTo n.toNat, t.rb (a.toNat + i) = beat.data.getD i 0) ∧
      s.MemBut t a.toNat n.toNat ∧
      let o := a.toNat - instBase
      let out := s.uncovered o n.toNat writerHost
      if s.mode = 3 ∧ out = [] then (∀ l ∈ linesOf o n.toNat, l ∈ t.pr.host) ∧ t.mode = 3
      else if s.mode = 3 ∨ (s.mode = 2 ∧ s.flag R.SYS_MODE_SYNC = true ∧ m ≠ 8) then
        if s.flag R.SAF_CFG_RSTALL = true ∧ s.rd R.SAF_COUNT_SRST < s.rd R.SAF_CFG_MAXRST then t.mode = 1 ∧ t.rd R.SYS_RSTCAUSE_LAST = 3
        else s.Counted t R.PAIR_ESC_COUNT ∧ t.mode = 4 ∧ t.rd R.SYS_MODE_HOLDCAUSE = 4 ∧ (s.rd R.PAIR_ESC_COUNT = 0 → t.rd R.PAIR_ESC_MASTER = m.toNat ∧ t.rd R.PAIR_ESC_WRITER = 0)
      else t.mode = s.mode ∧ t = { s with mem := t.mem, regs := t.regs, pr := t.pr, bus := t.bus }) ∧
  (∀ (m : BitVec 6) (priv : Bool) (a : BitVec 36) (n : BitVec 13) (beat : Beat) (s : State),
    s.xe.waits = [] ∧ s.rd R.XE_SM_STAT_STATE ≠ 4 → s.NoWork → s.failsAt m.toNat (priv || decide (2 ≤ m.toNat)) .write a.toNat n.toNat = none → n ≠ 0 → isStationByte a.toNat = true →
    ∃ t, exec (.fabricAccess m priv .write a n beat) s = .next t ∧
      (∀ i ∈ upTo n.toNat, t.rb (a.toNat + i) = if mailByte (a.toNat + i) then s.rb (a.toNat + i) else beat.data.getD i 0) ∧
      s.MemBut t a.toNat n.toNat ∧ t = { s with mem := t.mem, bus := t.bus }) ∧
  (∀ (m : BitVec 6) (priv : Bool) (a : BitVec 36) (n : BitVec 13) (beat : Beat) (s : State), ∀ k ∈ [AccessKind.read, .write],
    s.xe.waits = [] ∧ s.rd R.XE_SM_STAT_STATE ≠ 4 → s.NoWork → s.failsAt m.toNat (priv || decide (2 ≤ m.toNat)) k a.toNat n.toNat = none → n ≠ 0 → isCartByte a.toNat = true → s.crtActive = false →
    ∃ t, exec (.fabricAccess m priv k a n beat) s = .next t ∧ s.Recorded t 0x50 0x80 0 ∧ s.RegsBut t (errKeys 0x50) ∧
      t.bus.data = (if k = .read then List.replicate n.toNat 0 else []) ∧ t = { s with regs := t.regs, bus := t.bus }) ∧
  (∀ (m : BitVec 6) (w : BitVec 10) (pg : BitVec 8) (v : BitVec 32) (s : State),
    let a : BitVec 36 := BitVec.ofNat 36 (pageBase + 4096 * pg.toNat + 4 * w.toNat)
    s.xe.waits = [] ∧ s.rd R.XE_SM_STAT_STATE ≠ 4 → s.failsAt m.toNat true .write a.toNat 4 = none → ∃ t, exec (.fabricAccess m true .write a 4 ⟨leBytes 4 v.toNat, 0⟩) s = .next t ∧
      ∃ r, exec (.registerWrite m pg w v) s = .next r ∧ t = { r with bus := t.bus }) ∧
  (∀ (m : BitVec 6) (w : BitVec 10) (pg : BitVec 8) (s : State),
    let a : BitVec 36 := BitVec.ofNat 36 (pageBase + 4096 * pg.toNat + 4 * w.toNat)
    s.xe.waits = [] ∧ s.rd R.XE_SM_STAT_STATE ≠ 4 → s.failsAt m.toNat true .read a.toNat 4 = none → ∃ t, exec (.fabricAccess m true .read a 4 ⟨[], 0⟩) s = .next t ∧
      ∃ r, exec (.rcCounterRead m pg w) s = .next r ∧ t = { r with bus := t.bus } ∧ t.bus.data = r.bus.data) ∧
  (∀ (m : BitVec 6) (priv : Bool) (k : AccessKind) (a : BitVec 36) (n : BitVec 13) (beat : Beat) (s : State), s.rd R.XE_SM_STAT_STATE = 4 → s.NoWork →
    n ≠ 0 → isInstByte a.toNat = true ∨ (halfOf a.toNat).isSome = true → ∃ t, exec (.fabricAccess m priv k a n beat) s = .next t ∧
      t = { s with xe := { s.xe with waits := s.xe.waits ++ [⟨m.toNat, priv || decide (2 ≤ m.toNat), k, a.toNat, n.toNat, (upTo n.toNat).map fun i => beat.data.getD i 0⟩] } })

/-- A GATE.CMD.WRITE stores the master's staged entry into the entry selected, unless that one is locked (0xC1 and its event) or the staged
one is valid and not well formed, or the gate does not exist (0xC0); a locked entry shows in LOCKED; nothing else changes. READ loads the
selected entry into that master's staging registers. NEWCHAL makes a fresh challenge. UNLOCK is refused by mode, lease or EN (0xD0) or with
FAILS at 3 (0xD2), grants on the right response to a fresh challenge, else counts a failure (0xD1), and spends the challenge. RELOCK ends
unlock. While locked, RESET, HALT and RESUME do nothing and record 0xD3; while unlocked HALT halts the pairs named and raises its event,
RESUME releases them, RESET asserts a reset of cause 5. (A gate that does not exist follows the model's log.) (18_access_gates.md, R390;
18_access_gates.md, R392; 18_access_gates.md, R393; 18_access_gates.md, R394; 18_access_gates.md, R396; 18_access_gates.md, R397;
18_access_gates.md, Table 18.3) -/
def Obligations.GateEntriesAndDebug : Prop :=
  (∀ (m : BitVec 6) (s : State), s.Open 0x06 → ∃ t, exec (.gateCmdWrite m) s = .next t ∧
    let g := s.rd R.GATE_SEL_GATE 0 0 m.toNat
    let i := s.rd R.GATE_SEL_ENTRY 0 0 m.toNat
    let e := s.stagedEntry m.toNat
    if 13 ≤ g then s.Refused t 0x06 0xC0 0x120
    else if (s.gate g i).lock = true then s.Recorded t 0x06 0xC1 0x120 ∧ s.Rose t 0x06 7 ∧ s.OnlyRegs t (errKeys 0x06 ++ evKeys 0x06)
    else if e.valid = true ∧ ¬(e.base ≤ e.limit ∧ inRow g (64 * e.base) (64 * e.limit + 63) = true ∧ e.memtype ≤ 4 ∧
        (isPageByte (64 * e.base) = true → (64 * e.base) % 4096 = 0 ∧ (64 * e.limit + 64) % 4096 = 0 ∧ e.memtype ≤ 1 ∧ nbit e.p 2 = false ∧ nbit e.u 2 = false))
      then s.Refused t 0x06 0xC0 0x120
    else t.gate g i = e ∧ (∀ (h : Fin 13) (j : Fin 16), h.val ≠ g ∨ j.val ≠ i % 16 → t.gate h j = s.gate h j) ∧
      nbit (t.rd R.GATE_LOCKED) g = (nbit (s.rd R.GATE_LOCKED) g || e.lock) ∧ s.RegsBut t [R.GATE_LOCKED.key 0 0 0] ∧ t = { s with regs := t.regs, gates := t.gates }) ∧
  (∀ (m : BitVec 6) (s : State), s.Open 0x06 → s.rd R.GATE_SEL_GATE 0 0 m.toNat < 13 → ∃ t, exec (.gateCmdRead m) s = .next t ∧
    let e := s.gate (s.rd R.GATE_SEL_GATE 0 0 m.toNat) (s.rd R.GATE_SEL_ENTRY 0 0 m.toNat)
    (e.base < 2 ^ 30 → e.limit < 2 ^ 30 → e.mask < 2 ^ 64 → e.p < 8 → e.u < 8 → e.memtype < 8 → t.stagedEntry m.toNat = e) ∧
      s.OnlyRegs t (stageRows.map (·.key 0 0 m.toNat))) ∧
  (∀ (m : BitVec 6) (s : State), s.Open 0x70 → ∃ t, exec (.dbgNewchal m) s = .next t ∧ t.chalFresh = true ∧
    s.RegsBut t ((upTo 8).map fun j => R.DBG_CHAL.key j 0 0) ∧ t = { s with regs := t.regs, free := t.free, chalFresh := true }) ∧
  (∀ (m : BitVec 6) (s : State), s.Open 0x70 → ∃ t, exec (.dbgUnlock m) s = .next t ∧ t.chalFresh = false ∧ t = { s with regs := t.regs, chalFresh := false } ∧
    if s.mode ≠ 5 ∨ s.flag R.PAIR_STAT_LEASE = true ∨ s.flag R.H_CTRL_EN 0 0x70 = false then
      s.Recorded t 0x70 0xD0 0x104 ∧ s.Rose t 0x70 1 ∧ s.RegsBut t (errKeys 0x70 ++ evKeys 0x70)
    else if s.rd R.DBG_STAT_FAILS = 3 then s.Recorded t 0x70 0xD2 0x104 ∧ s.Rose t 0x70 1 ∧ s.RegsBut t (errKeys 0x70 ++ evKeys 0x70)
    else if s.chalFresh = true ∧ beNat (s.rowWordBytes R.DBG_RESP 8) = s.dbgResponse then
      t.flag R.DBG_STAT_UNLOCKED = true ∧ s.Rose t 0x70 0 ∧ s.RegsBut t (R.DBG_STAT_UNLOCKED.key 0 0 0 :: evKeys 0x70)
    else t.rd R.DBG_STAT_FAILS = min 3 (s.rd R.DBG_STAT_FAILS + 1) ∧ s.Recorded t 0x70 0xD1 0x104 ∧ s.Rose t 0x70 1 ∧
      s.RegsBut t (R.DBG_STAT_FAILS.key 0 0 0 :: errKeys 0x70 ++ evKeys 0x70)) ∧
  (∀ (m : BitVec 6) (s : State), s.Open 0x70 → ∃ t, exec (.dbgRelock m) s = .next t ∧ t.flag R.DBG_STAT_UNLOCKED = false ∧
    s.OnlyRegs t [R.DBG_STAT_UNLOCKED.key 0 0 0]) ∧
  (∀ (m : BitVec 6) (cores : BitVec 2) (s : State), s.Open 0x70 → s.flag R.DBG_STAT_UNLOCKED = false →
    ∀ c ∈ [Instr.dbgReset m, .dbgHalt m cores, .dbgResume m cores], ∃ t, exec c s = .next t ∧ s.Refused t 0x70 0xD3 0x104) ∧
  (∀ (m : BitVec 6) (cores : BitVec 2) (s : State), s.Open 0x70 → s.flag R.DBG_STAT_UNLOCKED = true → ∃ t, exec (.dbgHalt m cores) s = .next t ∧
    (∀ n : Fin 2, nbit (t.rd R.DBG_STAT_HALTED) n = (nbit (s.rd R.DBG_STAT_HALTED) n || nbit cores.toNat n)) ∧
    (cores ≠ 0 → s.Rose t 0x70 3) ∧ (∀ n ∈ upTo 2, nbit cores.toNat n = true → Out.haltRequest n ∈ t.outs) ∧ s.PagesBut t [0x70, 0x05] ∧
    t = { s with regs := t.regs, outs := t.outs, saf := t.saf }) ∧
  (∀ (m : BitVec 6) (cores : BitVec 2) (s : State), s.Open 0x70 → s.flag R.DBG_STAT_UNLOCKED = true → ∃ t, exec (.dbgResume m cores) s = .next t ∧
    (∀ n : Fin 2, nbit (t.rd R.DBG_STAT_HALTED) n = (nbit (s.rd R.DBG_STAT_HALTED) n && !nbit cores.toNat n)) ∧ s.PagesBut t [0x70, 0x05] ∧
    t = { s with regs := t.regs, saf := t.saf }) ∧
  (∀ (m : BitVec 6) (s : State), s.Open 0x70 → s.flag R.DBG_STAT_UNLOCKED = true → ∃ t, exec (.dbgReset m) s = .next t ∧
    ∃ r, exec (.resetAssert (2 ^ 5)) s = .next r ∧ t = r)

/-- Where firmware serves the port, a packet of any command in an open session meets the checks of Table 19.2 in order: one without the
magic number or with RESP or PUB is discarded; a wrong version, length, reserved field, session or tag is answered without authentication,
at most 100 times a second on a port; a SEQ of the last eight responses gets that response again; another one that is not new is discarded;
a role too low gives E_ROLE. No refusal changes anything but NCP's own count and cache. HELLO opens a handshake for a certificate of R403
under a session number that is not 0 and not in use, with the keys derived, and is refused with E_BUSY beyond 32 sessions, else with E_AUTH;
FINISH with SEQ 1 and the host's signature opens the session with H 1; 5 s after the HELLO the handshake, 60 s after the last valid request
the session is gone, BYE answers and closes it, and its transfers go with it. (FINISH in an open session gives E_STATE: log entry 39.)
(19_command_protocol.md, R400; 19_command_protocol.md, R401; 19_command_protocol.md, R402; 19_command_protocol.md, R403;
19_command_protocol.md, R404; 19_command_protocol.md, R405; 19_command_protocol.md, Table 19.2) -/
def Obligations.NcpChecksAndSessions : Prop :=
  (∀ (q : NcpReq) (room : Bool) (s : State), s.ncpServes q.mac = true → ∀ c ∈ ncpRows q room, ∃ t, exec c.1 s = .next t ∧
    if q.magic ≠ 0x4E43 ∨ nbit q.flags.toNat 0 = true ∨ nbit q.flags.toNat 1 = true then t = s
    else if q.ver ≠ 3 then s.Rejected t q c.2.1 0x0401
    else if 1024 < q.length.toNat then s.Rejected t q c.2.1 0x0101
    else if q.payload.length < q.length.toNat then s.Rejected t q c.2.1 0x0102
    else if q.length.toNat < q.payload.length then s.Rejected t q c.2.1 0x0101
    else if q.status ≠ 0 ∨ q.flags ≠ 0 ∨ q.rsv ≠ 0 then s.Rejected t q c.2.1 0x0401
    else if s.session q.session.toNat = none then s.Rejected t q c.2.1 0x0601
    else ∀ x ∈ (s.session q.session.toNat).toList,
      if x.opened = false then s.Rejected t q c.2.1 0x0601
      else if q.tag.toNat ≠ ncpTag x.h2m (reqBytes q c.2.1) then s.Rejected t q c.2.1 0x0201
      else if (x.cache.find? fun e => e.1 == q.seq.toNat).isSome = true then
        ∀ e ∈ (x.cache.find? fun e => e.1 == q.seq.toNat).toList, t = s.out (e.2.to q.mac q.host.toNat)
      else if q.seq.toNat + 63 < x.h ∨ (q.seq.toNat ≤ x.h ∧ q.seq.toNat ∈ x.seen) then t = s
      else x.role < c.2.2 → s.Declined t q x c.2.1 0x0202) ∧
  (∀ (q : NcpReq) (room : Bool) (s : State), s.ncpServes q.mac = false → ∀ c ∈ ncpRows q room, exec c.1 s = .next s) ∧
  (∀ (q : NcpReq) (cert : Cert) (chosen : BitVec 32) (s : State), s.ncpServes q.mac = true → NcpWhole q →
    ∃ t, exec (.ncpHello q cert chosen) s = .next t ∧
    let now := s.bk.cal.seconds
    if q.session ≠ 0 then s.Rejected t q 1 0x0601
    else if q.tag ≠ 0 then s.Rejected t q 1 0x0201
    else if q.length.toNat < 101 then t = s.out (plainAnswer q 1 0x0101)
    else if q.seq ≠ 0 ∨ payNum q 97 3 ≠ 0 then t = s.out (plainAnswer q 1 0x0401)
    else if 32 ≤ s.ncp.sess.length then t = s.out (plainAnswer q 1 0x0302)
    else if cert.x509 = true ∧ cert.sigOk = true ∧ cert.role.isSome = true ∧
        (s.flag R.BKD_STAT_RTC_VALID = true → cert.notBefore.toNat ≤ now ∧ now ≤ cert.notAfter.toNat) ∧
        (∀ a ∈ s.ncp.archive.toList, cert.signer.toNat ∈ a.trust ∧ s.sys.recovery = false) ∧
        (s.ncp.archive = none → Config.sha256 (beBytes 64 cert.signer.toNat) = Config.serviceHash ∧ cert.role = some 3) then
      ∃ x ∈ t.ncp.sess.getLast?.toList, t.ncp = { s.ncp with sess := s.ncp.sess ++ [x] } ∧ x.id ≠ 0 ∧ (∀ y ∈ s.ncp.sess, y.id ≠ x.id) ∧
        x.opened = false ∧ some x.role = cert.role.map (·.val) ∧ x.mac = q.mac ∧ x.host = q.host.toNat ∧ x.since = s.mt ∧ x.hostKey = cert.key.toNat ∧
        (chosen ≠ 0 → (∀ y ∈ s.ncp.sess, y.id ≠ chosen.toNat) → x.id = chosen.toNat) ∧
        (s.flag R.BKD_STAT_RTC_VALID = true →
          let nm := beBytes 32 s.draw.1
          let eph := beBytes 65 (Config.publicKey s.draw.2.draw.1).toNat
          let text := q.payload ++ nm ++ eph ++ beBytes 4 x.id
          let salt := (q.payload.drop 32).take 65 ++ q.payload.take 32 ++ nm
          let sig := beBytes 64 (Config.sign 0 s.draw.2.draw.2.draw.1 text).toNat
          x.transcript = text ++ sig ∧ x.h2m = Config.kdf s.draw.2.draw.1 salt 0 ∧ x.m2h = Config.kdf s.draw.2.draw.1 salt 1 ∧
            x.wrap = Config.kdf s.draw.2.draw.1 salt 2 ∧
            t.outs = .ncp q.mac q.host.toNat 1 1 0 x.id q.seq.toNat q.object.toNat 0 0 (nm ++ eph ++ [0, 0, 0] ++ sig ++ Config.moduleCert) 0 :: s.outs ∧
            t = { s with outs := t.outs, ncp := t.ncp, free := t.free })
    else t = s.out (plainAnswer q 1 0x0201)) ∧
  (∀ (q : NcpReq) (s : State), s.ncpServes q.mac = true → NcpWhole q → ∀ x ∈ (s.session q.session.toNat).toList, x.opened = false →
    ∃ t, exec (.ncpFinish q) s = .next t ∧
    if q.tag.toNat ≠ ncpTag x.h2m (reqBytes q 2) then s.Rejected t q 2 0x0201
    else if q.seq ≠ 1 then t = s
    else if q.length ≠ 64 then s.Declined t q x 2 0x0101
    else if Config.verify x.hostKey x.transcript q.payload = false then s.Declined t q x 2 0x0201
    else
      let o := answerTo q x 2 0 0 0 0 []
      t = { s with outs := o :: s.outs, ncp := s.ncp.putSess { x with opened := true, h := 1, seen := [1], cache := [(1, o)], since := s.mt } }) ∧
  (∀ (q : NcpReq) (s : State), ∀ x ∈ (s.session q.session.toNat).toList, s.Admits q 2 x → ∃ t, exec (.ncpFinish q) s = .next t ∧ s.Declined t q x 2 0x0301) ∧
  (∀ (id : BitVec 32) (s : State), s.ClocksFree → ∀ x ∈ (s.session id.toNat).toList, ∃ t, exec (.helloTimeout id) s = .next t ∧
    if x.opened = true then t = s
    else (∀ y ∈ t.ncp.sess, y.id ≠ id.toNat) ∧ (∀ f ∈ t.ncp.xfers, f.session ≠ id.toNat) ∧ t.NotBefore (x.since + 5000000000) ∧ s.SameMem t) ∧
  (∀ (id : BitVec 32) (s : State), s.ClocksFree → ∀ x ∈ (s.session id.toNat).toList, ∃ t, exec (.sessionTimeout id) s = .next t ∧
    if x.opened = false then t = s
    else (∀ y ∈ t.ncp.sess, y.id ≠ id.toNat) ∧ (∀ f ∈ t.ncp.xfers, f.session ≠ id.toNat) ∧ t.NotBefore (x.since + 60000000000) ∧ s.SameMem t ∧
      t.ncp.sess = s.ncp.sess.filter (fun y => y.id ≠ id.toNat) ∧ t.outs = s.outs) ∧
  (∀ (id : BitVec 32) (s : State), s.session id.toNat = none → exec (.helloTimeout id) s = .next s ∧ exec (.sessionTimeout id) s = .next s) ∧
  (∀ (q : NcpReq) (s : State), ∀ x ∈ (s.session q.session.toNat).toList, s.Admits q 4 x → s.mode ≤ 5 → ∃ t, exec (.ncpBye q) s = .next t ∧
    if q.length ≠ 0 then s.Declined t q x 4 0x0101
    else t.outs = answerTo q x 4 0 0 0 0 [] :: s.outs ∧ t.ncp.sess = s.ncp.sess.filter (fun y => y.id ≠ x.id) ∧
      (∀ f ∈ t.ncp.xfers, f.session ≠ x.id) ∧ s.SameMem t ∧
      ((∀ f ∈ s.ncp.xfers, f.session ≠ x.id) → t = { s with outs := t.outs, ncp := { s.ncp with sess := t.ncp.sess } }))

/-- A new, authentic request of KEEPALIVE, IDENT, CARTID, READVAR, FORCELIST, IMGSTAT, ERREAD or PUBKEY is answered in its session and
changes nothing but NCP's state (and a free value for a signature, TORN for sectors passed). A LENGTH that the command does not allow gives
E_LENGTH, a mode outside its row E_STATE, an unknown symbol or object E_OBJECT. READVAR and FORCELIST answer from OFFSET on, 1,024 bytes at
most, with TOTAL and LAST, and E_OFFSET beyond the end; ERREAD answers whole records from the one sought, with the SEQ of the first and of
the one that follows. A publication, once due and while its mode publishes it, goes out on its ports in packets of 50 entries, each with its
index and tagged value, CLAIM and NT, under the key in use. Every 24 h the lead replaces the key not in use and sends it to the partner; it
is used 60 s later at the earliest. (19_command_protocol.md, R406; 19_command_protocol.md, R407; 19_command_protocol.md, R408;
19_command_protocol.md, R410; 19_command_protocol.md, R413; 19_command_protocol.md, R414; 19_command_protocol.md, Table 19.3;
19_command_protocol.md, Table 19.7; 01_architecture.md, R14; 20_image_book.md, R425) -/
def Obligations.NcpReadsAndPublication : Prop :=
  (∀ (q : NcpReq) (s : State), ∀ x ∈ (s.session q.session.toNat).toList, s.Admits q 0x03 x → s.mode ≤ 5 → ∃ t, exec (.ncpKeepalive q) s = .next t ∧
    if q.length ≠ 0 then s.Declined t q x 0x03 0x0101
    else s.Served t q x (answerTo q x 0x03 0 0 0 0 []) ∧ t = { s with outs := t.outs, ncp := t.ncp }) ∧
  (∀ (q : NcpReq) (s : State), ∀ x ∈ (s.session q.session.toNat).toList, s.Admits q 0x10 x → s.mode ≤ 5 → ∃ t, exec (.ncpIdent q) s = .next t ∧
    if q.length ≠ 0 then s.Declined t q x 0x10 0x0101
    else
      let pay := beBytes 16 (Config.partNumber (s.rd R.SYS_IDENT_VARIANT)).toNat ++ beBytes 4 (s.pageWord 0x00 0x100) ++ beBytes 4 s.units0 ++
        beBytes 4 s.units1 ++ beBytes 4 (s.pageWord 0x00 0x10C) ++ beBytes 4 (s.pageWord 0x00 0x12C) ++ beBytes 4 (s.rd R.PAIR_EPOCH) ++
        beBytes 8 s.ownClaim ++ beBytes 4 (s.rd R.PAIR_LOCAL_FWVER) ++ beBytes 16 s.layoutId
      s.Served t q x (answerTo q x 0x10 0 0 0 0 pay) ∧ t = { s with outs := t.outs, ncp := t.ncp }) ∧
  (∀ (q : NcpReq) (s : State), ∀ x ∈ (s.session q.session.toNat).toList, s.Admits q 0x11 x → s.mode ≤ 5 → ∃ t, exec (.ncpCartid q) s = .next t ∧
    if s.rd R.CRT_STAT_STATE ≠ 3 then s.Declined t q x 0x11 0x0301
    else if q.length ≠ 32 then s.Declined t q x 0x11 0x0101
    else
      let block := s.crt.ident.take 128
      s.Served t q x (answerTo q x 0x11 0 0 0 0 (block ++ beBytes 64 (Config.sign 1 s.draw.1 (q.payload ++ block)).toNat)) ∧
        t = { s with outs := t.outs, ncp := t.ncp, free := s.draw.2.free }) ∧
  (∀ (q : NcpReq) (s : State), ∀ x ∈ (s.session q.session.toNat).toList, s.Admits q 0x20 x → ∃ t, exec (.ncpReadvar q) s = .next t ∧
    if s.mode ∉ [2, 3, 4, 5] then s.Declined t q x 0x20 0x0301
    else if q.length ≠ 0 then s.Declined t q x 0x20 0x0101
    else if symNamed s.ncp.symbols q.object.toNat = none then s.Declined t q x 0x20 0x0603
    else ∀ y ∈ (symNamed s.ncp.symbols q.object.toNat).toList,
      let o := q.offset.toNat
      let n := (s.wireBytes y).length
      if y.size ≠ 0 ∧ y.size ≤ o then s.Declined t q x 0x20 0x0103
      else s.Served t q x (answerTo q x 0x20 0 (if n ≤ o + 1024 then 8 else 0) o n (((s.wireBytes y).drop o).take 1024)) ∧
        t = { s with outs := t.outs, ncp := t.ncp }) ∧
  (∀ (q : NcpReq) (s : State), ∀ x ∈ (s.session q.session.toNat).toList, s.Admits q 0x49 x → ∃ t, exec (.ncpForcelist q) s = .next t ∧
    let l := (s.forcesNow.filter fun e => e.2.valid).flatMap fun e => beBytes 4 e.1 ++ beBytes 4 e.2.symid ++
      beBytes 4 (e.2.offset + 2 ^ 30 * b2n e.2.tvf + 2 ^ 31 * b2n e.2.valid) ++ beBytes 4 e.2.type ++
      (((upTo 4).flatMap fun k => beBytes 4 (nfield e.2.value (32 * k) 32)) ++ (upTo 4).flatMap fun k => beBytes 4 (nfield e.2.mask (32 * k) 32))
    let o := q.offset.toNat
    if s.mode ∉ [2, 3, 4, 5] then s.Declined t q x 0x49 0x0301
    else if q.length ≠ 0 then s.Declined t q x 0x49 0x0101
    else if l.length ≠ 0 ∧ l.length ≤ o then s.Declined t q x 0x49 0x0103
    else s.Served t q x (answerTo q x 0x49 0 (if l.length ≤ o + 1024 then 8 else 0) o l.length ((l.drop o).take 1024)) ∧
      t = { s with outs := t.outs, ncp := t.ncp }) ∧
  (∀ (q : NcpReq) (s : State), ∀ x ∈ (s.session q.session.toNat).toList, s.Admits q 0x51 x → s.mode ≤ 5 → ∃ t, exec (.ncpImgstat q) s = .next t ∧
    if q.length ≠ 0 then s.Declined t q x 0x51 0x0101
    else s.Served t q x (answerTo q x 0x51 0 0 0 0 ((upTo 5).flatMap fun i =>
        let d := s.typeDir (i + 1)
        [BitVec.ofNat 8 (i + 1), BitVec.ofNat 8 (if d.act = 3 then 0xFF else d.act), BitVec.ofNat 8 d.att, 0, BitVec.ofNat 8 d.a.state,
          BitVec.ofNat 8 d.b.state, 0, 0] ++ beBytes 4 d.a.ver ++ beBytes 4 d.b.ver)) ∧ t = { s with outs := t.outs, ncp := t.ncp }) ∧
  (∀ (q : NcpReq) (s : State), ∀ x ∈ (s.session q.session.toNat).toList, s.Admits q 0x58 x → ∃ t, exec (.ncpErread q) s = .next t ∧
    let all := s.logRecords.map (·.1)
    let from_ := if q.object = 1 then all else if q.object = 2 then all.getLast?.toList else all.dropWhile fun r => decide (s.seqAge q.offset.toNat < s.seqAge (recSeq r))
    let l := fitting from_ 1024
    if s.mode ∉ [2, 3, 4, 5] then s.Declined t q x 0x58 0x0301
    else if q.length ≠ 0 then s.Declined t q x 0x58 0x0101
    else if 2 < q.object.toNat then s.Declined t q x 0x58 0x0603
    else
      (if l = [] then s.Served t q x (answerTo q x 0x58 0 8 0 0 [])
       else s.Served t q x (answerTo q x 0x58 0 (if l.length = from_.length then 8 else 0) (recSeq (l.headD [])) ((recSeq (l.getLastD []) + 1) % 2 ^ 32)
          (l.flatMap fun r => r.flatMap (beBytes 4)))) ∧
        s.RegsBut t [R.ER_TORN.key 0 0 0] ∧ t = { s with regs := t.regs, outs := t.outs, ncp := t.ncp }) ∧
  (∀ (q : NcpReq) (s : State), ∀ x ∈ (s.session q.session.toNat).toList, s.Admits q 0x70 x → ∃ t, exec (.ncpPubkey q) s = .next t ∧
    if s.mode ≠ 2 ∧ s.mode ≠ 3 then s.Declined t q x 0x70 0x0301
    else if q.length ≠ 0 then s.Declined t q x 0x70 0x0101
    else if s.ncp.hasKeys = false then s.Declined t q x 0x70 0x0301
    else s.Served t q x (answerTo q x 0x70 0 0 0 0
        ([0] ++ beBytes 40 (Config.wrap x.wrap s.ncp.key0).toNat ++ [1] ++ beBytes 40 (Config.wrap x.wrap s.ncp.key1).toNat)) ∧
      t = { s with outs := t.outs, ncp := t.ncp }) ∧
  (∀ (id : BitVec 32) (s : State), s.ClocksFree → s.ncp.archive.isSome = true →
    ∀ p ∈ ((s.ncp.archive.bind fun a => a.pubs.find? fun p => p.id == id.toNat)).toList, ∃ t, exec (.publish id) s = .next t ∧
    if s.ncp.hasKeys = true ∧ s.powered 0x41 = true ∧ (s.mode = 3 ∨ (s.mode = 2 ∧ s.flag R.SYS_MODE_SYNC = true ∧ p.trackpub = true)) then
      t.NotBefore (smGet 0 s.ncp.pubDue p.id) ∧ smGet 0 t.ncp.pubDue p.id = t.mt + p.period * 1000000 ∧ s.SameMem t ∧ s.RegsBut t tickKeys ∧
      t.ncp.keyUse = (match s.ncp.flipAt with | some f => if f ≤ t.mt then 1 - s.ncp.keyUse else s.ncp.keyUse | none => s.ncp.keyUse) ∧
      t = { s with outs := t.outs, ncp := t.ncp, regs := t.regs, mt := t.mt, tim := t.tim, free := t.free } ∧
      (s.AllWritten p.symbols →
        let n := p.symbols.length
        let k := (n + 49) / 50
        let seq := smGet 0 s.ncp.pubSeq p.id
        let now := if s.mode = 2 then t.toPartnerMt t.mt else t.mt
        let claim := if s.mode = 3 then s.ownClaim else if s.rd R.PAIR_EPOCH = 0 then 0 else (s.rd R.PAIR_EPOCH - 1) * 2 + s.side
        let entry (i : Nat) : List (BitVec 8) :=
          beBytes 4 i ++ (((symNamed s.ncp.symbols (p.symbols.getD i 0)).map (s.published p.stale now)).getD [])
        let pay (j : Nat) : List (BitVec 8) := [BitVec.ofNat 8 t.ncp.keyUse, 0, 0, 0] ++ beBytes 8 claim ++
          beBytes 8 (if s.flag R.TIM_NTCTL_LOCKED then t.tim.nt else 0) ++ [0, 0, 0, 0] ++ (((upTo n).drop (50 * j)).take 50).flatMap entry
        let key := if t.ncp.keyUse = 0 then s.ncp.key0 else s.ncp.key1
        smGet 0 t.ncp.pubSeq p.id % 2 ^ 32 = (seq + k) % 2 ^ 32 ∧
        t.outs = ((upTo k).flatMap fun j => ((upTo 2).filter (nbit p.ports)).map fun port =>
          Out.ncp port p.group 0x80 2 0 0 (if j = 0 then seq else (seq + j) % 2 ^ 32) p.id (50 * j) n (pay j)
            (ncpTag key (ncpBytes 0x80 2 0 0 (if j = 0 then seq else (seq + j) % 2 ^ 32) p.id (50 * j) n (pay j)))).reverse ++ s.outs)
    else t = { s with ncp := { s.ncp with keyUse := t.ncp.keyUse, flipAt := t.ncp.flipAt } }) ∧
  (∀ s : State, s.ClocksFree → s.mode = 3 → s.ncp.hasKeys = true → ∃ t, exec .publicationKeyRotate s = .next t ∧
    t.NotBefore (s.ncp.keyAt + 86400000000000) ∧ t.ncp.keyAt = t.mt ∧ t.ncp.flipAt = some (t.mt + 60000000000) ∧
    t.ncp.keyUse = (match s.ncp.flipAt with | some f => if f ≤ t.mt then 1 - s.ncp.keyUse else s.ncp.keyUse | none => s.ncp.keyUse) ∧
    (if t.ncp.keyUse = 0 then t.ncp.key0 = s.ncp.key0 ∧ t.ncp.key1 = s.draw.1 % 2 ^ 256 else t.ncp.key1 = s.ncp.key1 ∧ t.ncp.key0 = s.draw.1 % 2 ^ 256) ∧
    (∀ l ∈ s.upLinks.head?.toList, ∃ o ∈ t.outs.head?.toList, ∃ n ∈ [s.seqOf l 0x08],
      o = .fwd l n (.publicationKey (decide (t.ncp.keyUse = 0)) (BitVec.ofNat 256 (s.draw.1 % 2 ^ 256))) ∧ t.outs.tail = s.outs) ∧
    s.SameMem t ∧ s.RegsBut t tickKeys) ∧
  (∀ s : State, s.mode ≠ 3 ∨ s.ncp.hasKeys = false → ∃ t, exec .publicationKeyRotate s = .next t ∧
    t = { s with ncp := { s.ncp with keyUse := t.ncp.keyUse, flipAt := t.ncp.flipAt } })

/-- A new, authentic request of sufficient role. While a castling, restart or join is in progress (for CASTLE, SEAL and UNSEAL also while a
seal is armed or switching; for VERIFY also while one runs) it gives E_BUSY; in a mode that Table 3.2 or 19.3 does not allow, E_STATE; with
another length, E_LENGTH. STOP leads to HOLD with HOLDCAUSE 1; RESTART 2 to a cold, 1 to a warm restart with the claim for the lease, where
a warm one is not possible to HOLDCAUSE 6 and E_STATE; JOIN to TRACK; ENTER_SERVICE to SERVICE; LEAVE_SERVICE and RESET answer and assert a
reset of cause 4. CASTLE starts castling and is answered when it ends; where R259 refuses it, it records 0x52 and gives E_STATE. VERIFY
starts the verification. SEAL and UNSEAL are refused without a VERIFIED (or, to go back, revocable) half, above the mirror volume, and with
forces that the new program drops unless DROP_FORCES; else a lead with a synchronised partner proposes, and a module alone arms. FORCE sets
or clears an entry: refused for an unknown symbol, an entry that R158 refuses or a full table; a lead with a synchronised partner asks it
first. (19_command_protocol.md, R406; 19_command_protocol.md, Table 19.3; 03_modes.md, R49; 03_modes.md, Table 3.2; 03_modes.md, R53;
03_modes.md, R60; 07_sealed_move.md, R149; 07_sealed_move.md, R155; 07_sealed_move.md, R159; 07_sealed_move.md, R160; 11_pair.md, R241;
11_pair.md, R259) -/
def Obligations.NcpModeAndProgramCommands : Prop :=
  (∀ (q : NcpReq) (s : State), ∀ x ∈ (s.session q.session.toNat).toList, s.Admits q 0x30 x → 1 ≤ x.role → ∃ t, exec (.ncpStop q) s = .next t ∧
    if s.modeBusy = true then s.Declined t q x 0x30 0x0302
    else if s.mode ≠ 2 ∧ s.mode ≠ 3 then s.Declined t q x 0x30 0x0301
    else if q.length ≠ 0 then s.Declined t q x 0x30 0x0101
    else s.Took t q x (answerTo q x 0x30 0 0 0 0 []) ∧ t.mode = 4 ∧ t.rd R.SYS_MODE_HOLDCAUSE = 1 ∧ s.Rose t 0x00 0 ∧ s.SameMem t) ∧
  (∀ (q : NcpReq) (s : State), ∀ x ∈ (s.session q.session.toNat).toList, s.Admits q 0x31 x → 2 ≤ x.role → ∃ t, exec (.ncpRestart q) s = .next t ∧
    if s.modeBusy = true then s.Declined t q x 0x31 0x0302
    else if ¬(s.mode = 4 ∧ s.rd R.SYS_MODE_HOLDCAUSE ≠ 4 ∧ s.rd R.SYS_MODE_HOLDCAUSE ≠ 9) ∨ s.flag R.SAF_STAT_DEGRADED = true then s.Declined t q x 0x31 0x0301
    else if q.length ≠ 1 then s.Declined t q x 0x31 0x0101
    else if payByte q 0 = 2 ∨ (payByte q 0 = 1 ∧ s.warmInit.isSome = true) then
      s.Took t q x (answerTo q x 0x31 0 0 0 0 []) ∧ (∀ n : Fin 3, t.rd R.XE_CLS_FF_TOTAL n = 0) ∧ t.rd R.XE_CLS_PLY 0 = 0 ∧ t.rd R.XE_CLS_PLY 2 = 0 ∧
        t.rd R.SYS_MODE_RESTART = (if payByte q 0 = 2 then 2 else 1) ∧ (payByte q 0 = 2 → t.rd R.XE_CLS_PLY 1 = 0 ∧ t.xe.forces = []) ∧
        (if s.noLeadSeen = true ∧ s.rd R.PAIR_EPOCH < 0xFFFFFFFE then
          t.mode = 4 ∧ t.rd R.PAIR_STAT_ROLE = 3 ∧ (s.rd R.PAIR_ARB_N = 0 → t.flag R.PAIR_STAT_LEASE = true)
         else t.mode = 4 ∧ t.rd R.SYS_MODE_HOLDCAUSE = 3)
    else if payByte q 0 = 1 then s.Took t q x (answerTo q x 0x31 0x0301 0 0 0 []) ∧ t.mode = 4 ∧ t.rd R.SYS_MODE_HOLDCAUSE = 6 ∧ s.SameMem t
    else s.Declined t q x 0x31 0x0301) ∧
  (∀ (q : NcpReq) (s : State), ∀ x ∈ (s.session q.session.toNat).toList, s.Admits q 0x32 x → 2 ≤ x.role → ∃ t, exec (.ncpJoin q) s = .next t ∧
    if s.modeBusy = true then s.Declined t q x 0x32 0x0302
    else if ¬(s.mode = 4 ∧ s.rd R.SYS_MODE_HOLDCAUSE ≠ 4 ∧ s.rd R.SYS_MODE_HOLDCAUSE ≠ 9 ∧ s.rd R.PAIR_STAT_PMODE = 3 ∧ s.flag R.PAIR_STAT_PARTNER = true) ∨
        s.flag R.SAF_STAT_DEGRADED = true then s.Declined t q x 0x32 0x0301
    else if q.length ≠ 0 then s.Declined t q x 0x32 0x0101
    else s.Took t q x (answerTo q x 0x32 0 0 0 0 []) ∧ t.mode = 2 ∧ s.Rose t 0x00 0 ∧ s.SameMem t ∧
      (s.rd R.PAIR_STAT_MISMATCH = 0 → s.flag R.PAIR_STAT_SYNC = false → s.rd R.PAIR_SYNC_STAT_PHASE = 0 →
        t.rd R.PAIR_SYNC_STAT_PHASE = (if s.pr.playout = s.layoutId then 2 else 1) ∧ t.rd R.SYS_MODE_RESTART = 3)) ∧
  (∀ (q : NcpReq) (s : State), ∀ x ∈ (s.session q.session.toNat).toList, s.Admits q 0x33 x → 2 ≤ x.role → ∃ t, exec (.ncpCastle q) s = .next t ∧
    if s.rd R.XE_SM_STAT_STATE = 3 ∨ s.rd R.XE_SM_STAT_STATE = 4 ∨ s.modeBusy = true then s.Declined t q x 0x33 0x0302
    else if s.mode = 3 ∧ q.length ≠ 0 then s.Declined t q x 0x33 0x0101
    else if s.mode = 3 ∧ s.flag R.PAIR_STAT_PSYNC = true ∧ s.upLinks ≠ [] ∧ s.pr.castKind = 0 ∧ s.pr.handed = false then
      s.Kept t q x ∧ t.rd R.PAIR_STAT_CASTLE = 1 ∧ t.ncp.castle = some (waitOf q 0x33 s.mt) ∧ t.pr.castKind = 1 ∧
        (∀ l ∈ s.upLinks, .pl l (plFrame 0x06 0 (s.seqOf l 0x06) [1]) ∈ t.outs) ∧ s.RegsBut t [R.PAIR_STAT_CASTLE.key 0 0 0] ∧
        t = { s with regs := t.regs, outs := t.outs, ncp := t.ncp, pr := t.pr }
    else s.Recorded t 0x3A 0x52 0x1A4 ∧ s.Served t q x (answerTo q x 0x33 0x0301 0 0 0 []) ∧ s.RegsBut t (errKeys 0x3A) ∧
      t = { s with regs := t.regs, outs := t.outs, ncp := t.ncp }) ∧
  (∀ (q : NcpReq) (s : State), ∀ x ∈ (s.session q.session.toNat).toList, s.Admits q 0x34 x → 3 ≤ x.role → ∃ t, exec (.ncpEnterService q) s = .next t ∧
    if s.modeBusy = true then s.Declined t q x 0x34 0x0302
    else if ¬(s.mode = 2 ∨ (s.mode = 4 ∧ s.rd R.SYS_MODE_HOLDCAUSE ≠ 9)) ∨ s.flag R.SYS_KEYSW_POS = false then s.Declined t q x 0x34 0x0301
    else if q.length ≠ 0 then s.Declined t q x 0x34 0x0101
    else s.Took t q x (answerTo q x 0x34 0 0 0 0 []) ∧ t.mode = 5 ∧ s.Rose t 0x00 0 ∧ s.SameMem t) ∧
  (∀ (q : NcpReq) (s : State), ∀ x ∈ (s.session q.session.toNat).toList, s.Admits q 0x35 x → 3 ≤ x.role → ∃ t, exec (.ncpLeaveService q) s = .next t ∧
    if s.modeBusy = true then s.Declined t q x 0x35 0x0302
    else if s.mode ≠ 5 then s.Declined t q x 0x35 0x0301
    else if q.length ≠ 0 then s.Declined t q x 0x35 0x0101
    else answerTo q x 0x35 0 0 0 0 [] ∈ t.outs ∧ t.mode = 1 ∧ t.sys.resetHeld = true ∧ t.rd R.SYS_RSTCAUSE_LAST = 4 ∧ t.ncp.sess = [] ∧ s.SameMem t) ∧
  (∀ (q : NcpReq) (s : State), ∀ x ∈ (s.session q.session.toNat).toList, s.Admits q 0x36 x → 3 ≤ x.role → ∃ t, exec (.ncpReset q) s = .next t ∧
    if s.mode ∉ [1, 2, 4, 5] then s.Declined t q x 0x36 0x0301
    else if q.length ≠ 0 then s.Declined t q x 0x36 0x0101
    else answerTo q x 0x36 0 0 0 0 [] ∈ t.outs ∧ t.mode = 1 ∧ t.sys.resetHeld = true ∧ t.rd R.SYS_RSTCAUSE_LAST = 4 ∧ t.ncp.sess = [] ∧ s.SameMem t) ∧
  (∀ (q : NcpReq) (s : State), ∀ x ∈ (s.session q.session.toNat).toList, s.Admits q 0x41 x → 2 ≤ x.role → ∃ t, exec (.ncpVerify q) s = .next t ∧
    if s.mode ∉ [2, 3, 4] then s.Declined t q x 0x41 0x0301
    else if s.rd R.XE_SM_STAT_STATE ∈ [1, 3, 4] then s.Declined t q x 0x41 0x0302
    else if q.length ≠ 0 then s.Declined t q x 0x41 0x0101
    else s.Kept t q x ∧ t.ncp.verify = some (waitOf q 0x41 s.mt) ∧ s.PagesBut t [0x01, 0x10] ∧ t = { s with regs := t.regs, ncp := t.ncp } ∧
      (s.rd R.XE_SM_STAT_STATE = 0 ∨ s.rd R.XE_SM_STAT_STATE = 2 → t.rd R.XE_SM_STAT_STATE = 1)) ∧
  (∀ (q : NcpReq) (rev : Bool) (s : State), ∀ x ∈ (s.session q.session.toNat).toList, s.Admits q (if rev then 0x43 else 0x42) x → 2 ≤ x.role →
    rev = true ∨ payByte q 0 = 0 → ∃ t, exec (if rev then .ncpUnseal q else .ncpSeal q) s = .next t ∧
    let cmd := if rev then 0x43 else 0x42
    let st := s.rd R.XE_SM_STAT_STATE
    let held := st = 2 ∨ (st = 0 ∧ s.flag R.XE_SM_STAT_REVOK = true ∧ s.rd R.XE_SM_STAT_LAST = (if rev then 1 else 2))
    let gone := ((s.forcesNow.filter fun e => e.2.valid).filter fun e => (s.reresolve e.2).isNone).map (·.2.symid)
    let cls := s.rd R.XE_SM_CLS
    let p := if payNum q 4 4 = 0 then (s.rd R.XE_CLS_PLY (cls - 1) + 2) % 2 ^ 32 else payNum q 4 4
    if s.modeBusy = true ∨ st ∈ [1, 3, 4] ∨ s.ncp.seal_.isSome = true then s.Declined t q x cmd 0x0302
    else if (s.mode ≠ 3 ∧ s.mode ≠ 4) ∨ (rev = true ∧ s.flag R.XE_SM_STAT_REVOK = false) then s.Declined t q x cmd 0x0301
    else if q.length ≠ 8 then s.Declined t q x cmd 0x0101
    else if ¬held then s.Declined t q x cmd 0x0301
    else if st = 2 ∧ s.volumeOver = true then s.Declined t q x cmd 0x0402
    else if gone ≠ [] ∧ (rev = true ∨ nbit (payByte q 1) 0 = false) then s.Declined t q x cmd 0x0501
    else if s.mode = 3 ∧ s.flag R.PAIR_STAT_PSYNC = true then
      s.Kept t q x ∧ t.ncp.sealGo = some (rev, p) ∧ t.ncp.seal_ = some { waitOf q cmd s.mt with list := gone } ∧
        (∀ l ∈ s.upLinks.head?.toList, t.outs = .fwd l (s.seqOf l 0x08) (.sealProposal (BitVec.ofNat 256 s.xe.sl.hash) rev (BitVec.ofNat 32 p) (gone.map (BitVec.ofNat 32))) :: s.outs) ∧
        t = { s with outs := t.outs, ncp := t.ncp, pr := t.pr }
    else if s.mode = 3 ∧ cls ≠ 0 ∧ sgn 32 (p + 2 ^ 32 - s.rd R.XE_CLS_PLY (cls - 1)) ≤ 0 then
      s.Took t q x (answerTo q x cmd 0x0301 0 0 0 []) ∧ t.rd R.XE_SM_STAT_STATE = st ∧ s.Counted t R.XE_SM_COUNT_LAPSES ∧ s.Rose t 0x10 7
    else s.Kept t q x ∧ t.rd R.XE_SM_STAT_STATE = 3 ∧ t.rd R.XE_SM_PLY = p ∧ t.flag R.XE_SM_CTRL_DIR = rev ∧ t.xe.sl.rev = rev ∧ t.mode = s.mode ∧
      t.ncp.seal_ = some { waitOf q cmd s.mt with list := gone } ∧ t.outs = s.outs ∧ s.SameMem t) ∧
  (∀ (q : NcpReq) (s : State), ∀ x ∈ (s.session q.session.toNat).toList, s.Admits q 0x48 x → 2 ≤ x.role → ∃ t, exec (.ncpForce q) s = .next t ∧
    if (s.mode ≠ 3 ∧ s.mode ≠ 4) ∨ s.rd R.CRT_STAT_STATE ≠ 3 then s.Declined t q x 0x48 0x0301
    else if s.rd R.XE_SM_STAT_STATE = 3 ∨ s.rd R.XE_SM_STAT_STATE = 4 ∨ s.ncp.forceGo.isSome = true then s.Declined t q x 0x48 0x0302
    else if q.length ≠ 44 then s.Declined t q x 0x48 0x0101
    else if symNamed s.ncp.symbols (payNum q 4 4) = none then s.Declined t q x 0x48 0x0603
    else ∀ y ∈ (symNamed s.ncp.symbols (payNum q 4 4)).toList,
      let a := y.offset + payNum q 8 4
      let old := s.forcesNow.find? fun e => e.2.valid && e.2.symid == y.id && e.2.offset == a
      let spot := if old.isSome then old.map (·.1) else (upTo 1024).find? fun i => !(smGet Force.none s.forcesNow i).valid
      let f : Force := if payByte q 0 = 1 then ⟨y.id, a, nbit (payByte q 1) 0, true, y.type, payQuad q 12, payQuad q 28⟩
        else { (old.map (·.2)).getD Force.none with valid := false }
      if payByte q 0 ≠ 1 ∧ payByte q 0 ≠ 2 then s.Declined t q x 0x48 0x0501
      else if payByte q 0 = 2 ∧ old = none then s.Served t q x (answerTo q x 0x48 0 0 0 0 []) ∧ t = { s with outs := t.outs, ncp := t.ncp }
      else if payByte q 0 = 1 ∧ (spot = none ∨ s.ftOk false (spot.getD 0) f = false) then s.Declined t q x 0x48 0x0501
      else if s.mode = 3 ∧ s.flag R.PAIR_STAT_PSYNC = true then
        s.Kept t q x ∧ t.ncp.forceGo = some (spot.getD 0, f) ∧ t.ncp.force = some (waitOf q 0x48 s.mt) ∧
          (∀ l ∈ s.upLinks.head?.toList, t.outs = .fwd l (s.seqOf l 0x08) (.forceChange (BitVec.ofNat 10 (spot.getD 0)) (BitVec.ofNat 32 f.symid)
            (BitVec.ofNat 32 (f.offset + 2 ^ 30 * b2n f.tvf + 2 ^ 31 * b2n f.valid)) (BitVec.ofNat 32 f.type) (BitVec.ofNat 128 f.value) (BitVec.ofNat 128 f.mask)) :: s.outs) ∧
          t = { s with outs := t.outs, ncp := t.ncp, pr := t.pr }
      else if s.ftOk false (spot.getD 0) f = true then
        s.Took t q x (answerTo q x 0x48 0 0 0 0 []) ∧ t.xe.ftPend = s.xe.ftPend ++ [(spot.getD 0, f)] ∧ s.PagesBut t [0x12] ∧
          s.MemWhere t (fun b => b < cartBase ∨ cartBase + 0x4000000 ≤ b) ∧ t.outs = answerTo q x 0x48 0 0 0 0 [] :: s.outs
      else s.Took t q x (answerTo q x 0x48 0x0501 0 0 0 []))

/-- A new, authentic request of sufficient role, while no ply runs. WRITEVAR needs the role of its field (no other field may be written),
LEAD and whole elements; each element is stored most significant byte last, a line inside the HOST ranges is marked for the mirror, one
outside is a mirror escape. PKGLOAD and IMGLOAD take a block within its object (else E_OFFSET) that no other session transfers (else
E_BUSY); the block that completes the object answers DONE; a PKGLOAD block of a half, map, mirror list or symbol table is placed at its
offset; an IMGLOAD block goes to UPD, whose result is the status, the completing one answered after its verification. A transfer is gone 60
s after its last block. ERCLEAR writes CLRWHO and clears; ADOPT and CARTFORMAT act as the cartridge commands, or record 0x82 and give
E_STATE. ACYC queues a downlink message for an OPERATE station and waits; an unknown, absent or silent station gives E_STATION, a pending
one E_BUSY. (Two details, the place of an IMGLOAD block in DRAM and the order of E_BUSY, follow the model's log.) (19_command_protocol.md,
R407; 19_command_protocol.md, R408; 19_command_protocol.md, R409; 19_command_protocol.md, R411; 19_command_protocol.md, Table 19.3;
07_sealed_move.md, Table 7.1; 20_image_book.md, R419; 15_event_recorder.md, R340; 14_cartridge.md, R323; 14_cartridge.md, R324; 11_pair.md,
R238; 11_pair.md, R240) -/
def Obligations.NcpTransfersAndUnitCommands : Prop :=
  (∀ (q : NcpReq) (s : State), ∀ x ∈ (s.session q.session.toNat).toList, s.Admits q 0x21 x → s.NoWork → s.xe.forces = [] →
    s.rd R.XE_SM_STAT_STATE ≠ 4 → s.sys.resetHeld = false → ∃ t, exec (.ncpWritevar q) s = .next t ∧
    let o := q.offset.toNat
    let n := q.length.toNat
    if symNamed s.ncp.symbols q.object.toNat = none then s.Declined t q x 0x21 (if s.mode = 3 then 0x0603 else 0x0301)
    else ∀ y ∈ (symNamed s.ncp.symbols q.object.toNat).toList, y.offset + y.size ≤ 0x2000000 →
      let e := if y.tv then 16 else max 1 y.elem
      if x.role < (if y.access = 1 then 2 else if y.access = 2 then 1 else 4) then s.Declined t q x 0x21 0x0202
      else if s.mode ≠ 3 then s.Declined t q x 0x21 0x0301
      else if n = 0 ∨ o % e ≠ 0 ∨ n % e ≠ 0 ∨ y.size < o + n then s.Declined t q x 0x21 0x0103
      else if s.uncovered (y.offset + o) n writerHost = [] then
        s.Took t q x (answerTo q x 0x21 0 0 0 0 []) ∧ t.mode = 3 ∧ (∀ l ∈ linesOf (y.offset + o) n, l ∈ t.pr.host) ∧
          (∀ i ∈ upTo (n / e), t.rbs (instBase + y.offset + o + e * i) e =
            let b := (q.payload.drop (e * i)).take e
            if y.tv then wireLine b else b.reverse) ∧
          s.MemBut t (instBase + y.offset + o) n ∧ t = { s with mem := t.mem, outs := t.outs, ncp := t.ncp, pr := t.pr }
      else if s.flag R.SAF_CFG_RSTALL = true ∧ s.rd R.SAF_COUNT_SRST < s.rd R.SAF_CFG_MAXRST then t.mode = 1
      else t.mode = 4 ∧ t.rd R.SYS_MODE_HOLDCAUSE = 4 ∧ t.rd R.PAIR_ESC_COUNT ≠ 0) ∧
  (∀ (q : NcpReq) (s : State), ∀ x ∈ (s.session q.session.toNat).toList, s.Admits q 0x40 x → 2 ≤ x.role → ∃ t, exec (.ncpPkgload q) s = .next t ∧
    let p := q.object.toNat
    let off := q.offset.toNat
    let got := ((s.xferOf false p).map (·.got)).getD []
    let now := if off ∈ got then got else off :: got
    let done : Bool := decide ((q.total.toNat + 1023) / 1024 ≤ now.length)
    let o := answerTo q x 0x40 0 (if done then 4 else 0) 0 0 []
    if s.mode ≠ 3 ∧ s.mode ≠ 4 then s.Declined t q x 0x40 0x0301
    else if (p = 2 ∨ p = 3) ∧ s.rd R.XE_SM_STAT_STATE ∈ [1, 3, 4] then s.Declined t q x 0x40 0x0302
    else if p = 0 ∨ 8 < p then s.Declined t q x 0x40 0x0603
    else if ¬s.BlockOk q false p ([4096, 16777216, 2097152, 24, 1048576, 1048576, 131088, 4194304].getD (p - 1) 0) then s.Declined t q x 0x40 0x0103
    else if ∃ f ∈ (s.xferOf false p).toList, f.session ≠ x.id then s.Declined t q x 0x40 0x0302
    else s.Took t q x o ∧ (done = true → t.xferOf false p = none) ∧
      (done = false → ((t.xferOf false p).map (·.got)) = some now ∧ ((t.xferOf false p).map (·.since)) = some s.mt) ∧
      (p = 2 → t.rbs (moveBase (1 - s.half) + off) q.payload.length = q.payload ∧ s.MemBut t (moveBase (1 - s.half) + off) q.payload.length) ∧
      (p = 3 → t.rbs (constBase (1 - s.half) + off) q.payload.length = q.payload ∧ s.MemBut t (constBase (1 - s.half) + off) q.payload.length) ∧
      (p = 2 ∨ p = 3 → s.rd R.XE_SM_STAT_STATE = 2 → t.rd R.XE_SM_STAT_STATE = 0) ∧
      (p = 5 ∨ p = 6 → t.rbs (s.mapBase (decide (p = 6)) + off) q.payload.length = q.payload ∧ s.MemBut t (s.mapBase (decide (p = 6)) + off) q.payload.length) ∧
      (p = 7 → ∀ i ∈ upTo (q.payload.length / 4), smGet 0 t.pr.staged (off / 4 + i) = leNat ((q.payload.drop (4 * i)).take 4)) ∧
      (p = 8 → t.ncp.symLen = q.total.toNat ∧ t.ncp.prevSyms = none ∧ ∀ i ∈ upTo q.payload.length, smGet 0 t.ncp.symBytes (off + i) = q.payload.getD i 0) ∧
      (s.mode = 3 → s.flag R.PAIR_STAT_PSYNC = true → ∀ l ∈ s.upLinks.head?.toList,
        t.outs = o :: .fwd l (s.seqOf l 0x08) (.package (BitVec.ofNat 8 p) q.total q.offset q.payload) :: s.outs) ∧
      (s.mode = 4 ∨ s.flag R.PAIR_STAT_PSYNC = false → t.outs = o :: s.outs) ∧ (p ∉ [1, 4, 2, 3] → t.regs = s.regs)) ∧
  (∀ (q : NcpReq) (room : Bool) (s : State), ∀ x ∈ (s.session q.session.toNat).toList, s.Admits q 0x50 x → 3 ≤ x.role →
    ∃ t, exec (.ncpImgload q room) s = .next t ∧
    let type := q.object.toNat % 256
    if s.mode ∉ [2, 3, 4, 5] ∧ s.sys.recovery = false then s.Declined t q x 0x50 0x0301
    else if s.flag R.UPD_STAT_BUSY = true then s.Declined t q x 0x50 0x0302
    else if 1 ≤ type ∧ type ≤ 5 ∧ ¬s.BlockOk q true type (slotCap type) then s.Declined t q x 0x50 0x0103
    else if ∃ f ∈ (s.xferOf true type).toList, f.session ≠ x.id then s.Declined t q x 0x50 0x0302
    else s.UpdTook t type q.offset.toNat q.length.toNat q.total.toNat q.payload room ∧
      (if t.upd.verifying = true then s.Kept t q x ∧ t.ncp.img = some (waitOf q 0x50 s.mt) ∧ t.xferOf true type = none
       else s.Took t q x (answerTo q x 0x50 ([0, 0, 0x0401, 0x0103, 0x0402, 0x0403, 0x0301].getD (t.rd R.UPD_RES_CODE) 0) 0 0 0 []) ∧
         (t.rd R.UPD_RES_CODE = 0 → (t.xferOf true type).map (·.since) = some s.mt))) ∧
  (∀ (image : Bool) (object : BitVec 32) (s : State), s.ClocksFree → (s.ncp.xfers.map fun x => (x.image, x.object)).Nodup →
    ∃ t, exec (.transferTimeout image object) s = .next t ∧
    if s.xferOf image object.toNat = none then t = s
    else ∀ f ∈ (s.xferOf image object.toNat).toList, t.xferOf image object.toNat = none ∧ t.NotBefore (f.since + 60000000000) ∧ s.SameMem t ∧ t.outs = s.outs ∧
      (image = false → s.RegsBut t tickKeys ∧ t.upd = s.upd) ∧
      (image = true → s.rd R.UPD_STAT_TYPE = object.toNat → s.upd.verifying = false → t.rd R.UPD_STAT_TYPE = 0 ∧ t.upd.got = [])) ∧
  (∀ (q : NcpReq) (s : State), ∀ x ∈ (s.session q.session.toNat).toList, s.Admits q 0x59 x → 3 ≤ x.role → ∃ t, exec (.ncpErclear q) s = .next t ∧
    if s.mode ∉ [2, 3, 4, 5] ∨ s.rd R.CRT_STAT_STATE ≠ 3 then s.Declined t q x 0x59 0x0301
    else if s.er.clearing.isSome = true then s.Declined t q x 0x59 0x0302
    else if q.length ≠ 0 then s.Declined t q x 0x59 0x0101
    else s.Took t q x (answerTo q x 0x59 (if t.er.clearing.isSome then 0 else 0x0301) 0 0 0 []) ∧ t.rd R.ER_CLRWHO_SESSION = x.id % 2 ^ 16 ∧
      t.rd R.ER_CLRWHO_ROLE = x.role % 4 ∧
      (s.er.queue = [] → s.er.unit = none → (∃ u ∈ upTo (s.rd R.ER_UNITS), u < 8 ∧ s.unitState u = 0) → t.er.clearing = some (s.rd R.ER_SEQNEXT))) ∧
  (∀ (q : NcpReq) (m : BitVec 6) (s : State), ∀ x ∈ (s.session q.session.toNat).toList, s.Admits q 0x60 x → 3 ≤ x.role → s.Open 0x50 →
    nbit s.crt.cmd 1 = false → ∃ t, exec (.ncpAdopt q) s = .next t ∧
    if s.mode ∉ [2, 3, 4, 5] then s.Declined t q x 0x60 0x0301
    else if s.formatting = true then s.Declined t q x 0x60 0x0302
    else if q.length ≠ 0 then s.Declined t q x 0x60 0x0101
    else s.Took t q x (answerTo q x 0x60 (if s.rd R.CRT_STAT_STATE = 4 ∧ s.rd R.CRT_STAT_WHY = 2 then 0 else 0x0301) 0 0 0 []) ∧
      ∃ r, exec (.cartridgeAdopt m 0x42C7) s = .next r ∧ t = { r with outs := t.outs, ncp := t.ncp }) ∧
  (∀ (q : NcpReq) (m : BitVec 6) (s : State), ∀ x ∈ (s.session q.session.toNat).toList, s.Admits q 0x61 x → 3 ≤ x.role → s.Open 0x50 →
    nbit s.crt.cmd 0 = false → ∃ t, exec (.ncpCartformat q) s = .next t ∧
    if s.sys.recovery = true ∨ ¬(s.mode = 5 ∨ s.crt.cls = 2 ∨ s.crt.cls = 3) then s.Declined t q x 0x61 0x0301
    else if s.formatting = true then s.Declined t q x 0x61 0x0302
    else if q.length ≠ 0 then s.Declined t q x 0x61 0x0101
    else s.Took t q x (answerTo q x 0x61 (if s.rd R.CRT_STAT_STATE = 3 then 0 else 0x0301) 0 0 0 []) ∧
      ∃ r, exec (.cartridgeFormat m 0x42C7) s = .next r ∧ t = { r with outs := t.outs, ncp := t.ncp }) ∧
  (∀ (q : NcpReq) (s : State), ∀ x ∈ (s.session q.session.toNat).toList, s.Admits q 0x68 x → 2 ≤ x.role → ∃ t, exec (.ncpAcyc q) s = .next t ∧
    let g := payByte q 0
    let k := payByte q 1
    if s.mode ≠ 3 then s.Declined t q x 0x68 0x0301
    else if q.length.toNat < 4 then s.Declined t q x 0x68 0x0101
    else if payNum q 2 2 ≠ 0 then s.Declined t q x 0x68 0x0401
    else if 16 ≤ g ∨ 32 ≤ k ∨ s.present (0x20 + g) = false ∨ s.rd R.RMT_ST_STATE k g ≠ 3 then s.Declined t q x 0x68 0x0604
    else if (smGet none s.ncp.acyc (32 * g + k)).isSome = true then s.Declined t q x 0x68 0x0302
    else s.Kept t q x ∧ smGet none t.ncp.acyc (32 * g + k) = some (waitOf q 0x68 s.mt) ∧ t.outs = s.outs ∧ s.SameMem t ∧
      s.RegsBut t [R.RMT_SVCPEND.key 0 g 0] ∧ nbit (t.rd R.RMT_SVCPEND 0 g) k = true ∧
      t.svcList g k = s.svcList g k ++ [{ mtype := 0x10, bytes := q.payload.drop 4, seq := ((s.stn g k).downSeq + 1) % 2 ^ 16 }]) ∧
  (∀ (g : Fin 16) (k : Fin 32) (s : State), s.ClocksFree → ∃ t, exec (.acycTimeout g k) s = .next t ∧
    if smGet none s.ncp.acyc (32 * g.val + k.val) = none then t = s
    else ∀ w ∈ (smGet none s.ncp.acyc (32 * g.val + k.val)).toList, smGet none t.ncp.acyc (32 * g.val + k.val) = none ∧ t.NotBefore (w.since + 2000000000) ∧
      s.SameMem t ∧ s.RegsBut t tickKeys ∧
      (∀ x ∈ (s.session w.session).toList, t.outs = .ncp w.mac w.host w.cmd 1 0x0604 w.session w.seq w.object 0 0 []
        (ncpTag x.m2h (ncpBytes w.cmd 1 0x0604 w.session w.seq w.object 0 0 [])) :: s.outs) ∧ (s.session w.session = none → t.outs = s.outs))

/-- A MAC takes a frame while it is ON (or draining, with the frame begun) with RXEN, of at most 1,522 bytes, to its own or the broadcast
address, a multicast one by ALLMC or hash, or any with PROMISC; another frame changes nothing. The frame's bytes go to the buffer of the
next descriptor that the MAC owns, which returns with the length, its flags and OWN clear, and the head moves on round the ring; bad frames
count RXERR, a UDP datagram to port 47121 counts NCP and raises EVRAW bit 5. Without an owned descriptor, or with one that its gates refuse,
the frame is dropped: RXDROP counts and EVRAW bit 4 rises. A PTP event message of an enabled carriage is stamped at the tick of its
start-frame delimiter. TXKICK sends the frame of the next owned descriptor; a sent frame returns its descriptor with OWN clear and the scan
goes on. A link change shows in LINK and raises EVRAW bit 3. (Header layouts: log entry 52.) (19_command_protocol.md, R416;
19_command_protocol.md, Table 19.9; 12_time.md, R278; 12_time.md, R279; 18_access_gates.md, R382) -/
def Obligations.EthernetFrames : Prop :=
  (∀ (mac : Fin 3) (f : EthFrame) (s : State), ¬s.MacAccepts mac f → exec (.emacFrameReceived mac f) s = .next s) ∧
  (∀ (mac : Fin 3) (f : EthFrame) (s : State), s.ClocksFree → s.MacAccepts mac f → 
    (∀ p ∈ (framePtp f.bytes).toList, s.stamps mac p = false) →
    let d := s.rxDesc mac
    let a := s.rdLe d 8 % 2 ^ 36
    let n := f.bytes.length
    s.DescPlain mac d ∧ s.DmaPlain (0x10 + mac) .write a n ∧ (a + n ≤ d ∨ d + 16 ≤ a) → s.pr.esc = false →
    s.rd R.EMAC_RXSIZE 0 mac < 4096 → ∃ t, exec (.emacFrameReceived mac f) s = .next t ∧ t.NotBefore f.sfd.toNat ∧
    s.RegsBut t (tickKeys ++ [R.EMAC_RXHEAD, R.EMAC_CNT_NCP, R.EMAC_CNT_RXERR, R.EMAC_CNT_RXDROP].map (·.key 0 mac 0) ++ evKeys (0x41 + mac)) ∧
    t = { s with regs := t.regs, mem := t.mem, mt := t.mt, tim := t.tim } ∧
    (if f.bad = true then s.Counted t R.EMAC_CNT_RXERR 0 mac else t.rd R.EMAC_CNT_RXERR 0 mac = s.rd R.EMAC_CNT_RXERR 0 mac) ∧
    if nbit (s.rdLe (d + 10) 2) 15 = true then
      t.rbs a n = f.bytes ∧ t.rdLe (d + 8) 2 = n ∧ t.rdLe (d + 10) 2 = b2n f.bad + 2 * b2n (f.ncp && !f.bad) ∧
        t.rd R.EMAC_RXHEAD 0 mac = (if s.rd R.EMAC_RXHEAD 0 mac + 1 < s.rd R.EMAC_RXSIZE 0 mac then s.rd R.EMAC_RXHEAD 0 mac + 1 else 0) ∧
        s.MemWhere t (fun b => (b < a ∨ a + n ≤ b) ∧ (b < d + 8 ∨ d + 12 ≤ b)) ∧
        (f.ncp = true → f.bad = false → t.rd R.EMAC_CNT_NCP 0 mac = (s.rd R.EMAC_CNT_NCP 0 mac + 1) % 2 ^ 32 ∧ s.Rose t (0x41 + mac) 5)
    else s.SameMem t ∧ t.rd R.EMAC_RXHEAD 0 mac = s.rd R.EMAC_RXHEAD 0 mac ∧ s.Counted t R.EMAC_CNT_RXDROP 0 mac ∧ s.Rose t (0x41 + mac) 4) ∧
  (∀ (mac : Fin 3) (f : EthFrame) (s : State), s.ClocksFree → s.MacAccepts mac f →
    let d := s.rxDesc mac
    (s.failsAt (0x10 + mac) true .read d 16).isSome = true ∨ (s.DmaPlain (0x10 + mac) .read d 16 ∧ nbit (s.rdLe (d + 10) 2) 15 = true ∧
      (s.failsAt (0x10 + mac) true .write (s.rdLe d 8 % 2 ^ 36) f.bytes.length).isSome = true) →
    ∃ t, exec (.emacFrameReceived mac f) s = .next t ∧ s.SameMem t ∧ t.rd R.EMAC_RXHEAD 0 mac = s.rd R.EMAC_RXHEAD 0 mac ∧
      s.Counted t R.EMAC_CNT_RXDROP 0 mac ∧ s.Rose t (0x41 + mac) 4) ∧
  (∀ (mac : Fin 3) (f : EthFrame) (s : State), s.ClocksFree → s.MacAccepts mac f → ∀ p ∈ (framePtp f.bytes).toList, s.stamps mac p = true →
    let e := s.emac mac
    let u := s.awaitMt f.sfd.toNat
    ∃ t, exec (.emacFrameReceived mac f) s = .next t ∧
      if 32 ≤ e.rx.length then t.emac mac = e ∧ s.Counted t R.EMAC_TSSTAT_RXOVF 0 mac ∧ s.Rose t (0x41 + mac) 2
      else t.emac mac = { e with rx := e.rx ++ [⟨p.msgtype, p.domain, p.seqid, u.tim.nt, u.rd R.TIM_NTSTAT_GEN⟩] } ∧ nbit (t.rd R.H_EVRAW 0 (0x41 + mac)) 1 = true) ∧
  (∀ (m : BitVec 6) (mac : Fin 3) (s : State), s.Open (0x41 + mac) → s.DescPlain mac (s.txDesc mac) ∧
      s.DmaPlain (0x10 + mac) .read (s.rdLe (s.txDesc mac) 8 % 2 ^ 36) (s.rdLe (s.txDesc mac + 8) 2) → ∃ t, exec (.emacTxkick m mac) s = .next t ∧
    let b := s.rbs (s.rdLe (s.txDesc mac) 8 % 2 ^ 36) (s.rdLe (s.txDesc mac + 8) 2)
    if (s.emac mac).sending = true then t = s
    else t.emac mac = (if s.sendsNext mac then { s.emac mac with scan := true, sending := true, frame := b } else { s.emac mac with scan := false }) ∧
      t.outs = (if s.sendsNext mac then .eth mac b :: s.outs else s.outs) ∧ t = { s with outs := t.outs, emacs := t.emacs }) ∧
  (∀ (mac : Fin 3) (sfd : BitVec 64) (s : State), (s.emac mac).sending = false → exec (.emacFrameSent mac sfd) s = .next s) ∧
  (∀ (mac : Fin 3) (sfd : BitVec 64) (s : State), s.ClocksFree → (s.emac mac).sending = true →
    (∀ p ∈ (framePtp (s.emac mac).frame).toList, s.stamps mac p = false) → s.DescPlain mac (s.txDesc mac) → s.rd R.EMAC_TXSIZE 0 mac < 4096 →
    ∃ t, exec (.emacFrameSent mac sfd) s = .next t ∧ t.NotBefore sfd.toNat ∧ t.rdLe (s.txDesc mac + 10) 2 = 0 ∧ s.MemBut t (s.txDesc mac + 10) 2 ∧
      t.rd R.EMAC_TXHEAD 0 mac = (if s.rd R.EMAC_TXHEAD 0 mac + 1 < s.rd R.EMAC_TXSIZE 0 mac then s.rd R.EMAC_TXHEAD 0 mac + 1 else 0) ∧
      (t.DescPlain mac (t.txDesc mac) → t.DmaPlain (0x10 + mac) .read (t.rdLe (t.txDesc mac) 8 % 2 ^ 36) (t.rdLe (t.txDesc mac + 8) 2) →
        let b := t.rbs (t.rdLe (t.txDesc mac) 8 % 2 ^ 36) (t.rdLe (t.txDesc mac + 8) 2)
        t.outs = (if t.sendsNext mac then .eth mac b :: s.outs else s.outs) ∧ (t.emac mac).sending = decide (t.sendsNext mac) ∧
        s.RegsBut t (tickKeys ++ [R.EMAC_TXHEAD.key 0 mac 0]) ∧ t = { s with regs := t.regs, mem := t.mem, outs := t.outs, mt := t.mt, tim := t.tim, emacs := t.emacs })) ∧
  (∀ (mac : Fin 3) (up : Bool) (speed : Fin 3) (fdx : Bool) (s : State), ∃ t, exec (.emacLinkChange mac up speed fdx) s = .next t ∧
    if s.present (0x41 + mac) = false then t = s
    else t.flag R.EMAC_LINK_UP 0 mac = up ∧ t.rd R.EMAC_LINK_SPEED 0 mac = (if up then speed.val else 0) ∧ t.flag R.EMAC_LINK_FDX 0 mac = (up && fdx) ∧
      s.Rose t (0x41 + mac) 3 ∧ s.OnlyRegs t ([R.EMAC_LINK_UP, R.EMAC_LINK_SPEED, R.EMAC_LINK_FDX].map (·.key 0 mac 0) ++ evKeys (0x41 + mac)))

/-- A block submitted while UPD is busy is refused with 0xF0; one that UPD's gate does not let it read gives RES 5 (log entry 47); else it
meets the checks of transfer, offset and header in their order and joins the transfer, and the one that completes it starts the
verification. Verification does nothing without a whole transfer; else the transfer is over, and an image whose body hash, trailer, key hash
and signature are right makes its slot PENDING with attempt count 0 and raises source 233 (in the recovery service ACTIVE, and with all five
types step 0x04 follows), any other makes it EMPTY, with the failed step in RES and source 234; the other slot is as before. CANCEL ends the
open transfer and leaves the slot EMPTY; UNPEND makes a PENDING slot VALID, or is refused with 0xF3 for no such type, none pending or a
transfer of that type. When step 0x03 ends with an image book fitted, each type's LOADING slots are EMPTY, and a PENDING slot has one
attempt more where it had fewer than 3, else it is FAILED with count 0. The end of START in another mode than HOLD with HOLDCAUSE 4 makes
every tried slot ACTIVE and the one active before VALID. (20_image_book.md, R419; 20_image_book.md, R420; 20_image_book.md, R421;
20_image_book.md, R422; 20_image_book.md, R423; 20_image_book.md, R424; 20_image_book.md, R426; 20_image_book.md, R427) -/
def Obligations.ImageBook : Prop :=
  (∀ (m : BitVec 6) (room : Bool) (s : State), s.Open 0x68 → ∃ t, exec (.updBlockSubmit m room) s = .next t ∧
    let a := s.rd R.UPD_BLKADDRLO * 64 + s.rd R.UPD_BLKADDRHI * 2 ^ 32
    let n := s.rd R.UPD_BLKLEN
    (s.flag R.UPD_STAT_BUSY = true → s.Refused t 0x68 0xF0 0x1A4) ∧
    (s.flag R.UPD_STAT_BUSY = false → (s.failsAt 0x1A true .read a n).isSome = true →
      t.UpdRes 5 0 ∧ s.Recorded t 0x68 0xF4 0x1A4 ∧ s.UpdKept t ∧ s.SameMem t ∧ s.PagesBut t [0x06, 0x68]) ∧
    (s.DmaPlain 0x1A .read a n → s.UpdTook t (s.rd R.UPD_BLK_TYPE) (s.rd R.UPD_BLKOFF) n (s.rd R.UPD_BLKTOTAL) (s.rbs a n) room ∧ s.SameMem t ∧
      s.PagesBut t [0x68] ∧ t = { s with regs := t.regs, upd := t.upd, crt := t.crt })) ∧
  (∀ s : State, ∃ t, exec .updVerifyComplete s = .next t ∧
    let k := s.rd R.UPD_STAT_TYPE
    let d := s.typeDir k
    let c := s.imgCheck s.updBook k d.target
    if s.upd.verifying = false ∨ s.powered 0x68 = false then t = s
    else
      t.upd.verifying = false ∧ t.flag R.UPD_STAT_BUSY = false ∧ t.rd R.UPD_STAT_TYPE = 0 ∧ t.rd R.UPD_XFER_RECV = 0 ∧ t.upd.got = [] ∧ t.ncp.img = none ∧
      s.SameMem t ∧ s.Rose t 0x68 (if c = 0 then 1 else 2) ∧ t.UpdRes (if c = 0 then 1 else 4) c ∧ (c ≠ 0 → s.Recorded t 0x68 0xF2 0x1A4) ∧
      (s.sys.recovery = false → 1 ≤ k → k ≤ 5 → (t.typeDir k).slot (1 - d.target) = d.slot (1 - d.target) ∧ (t.typeDir k).act = d.act ∧
        (if c = 0 then (t.typeDir k).slot d.target = { d.slot d.target with state := 3 } ∧ (t.typeDir k).att = 0 ∧ (d.target = 0 → t.rd R.UPD_SLOT_A (k - 1) = 3)
         else (t.typeDir k).slot d.target = ImgSlot.empty ∧ (d.target = 0 → t.rd R.UPD_SLOT_A (k - 1) = 0)) ∧
        ∀ j ∈ upTo 5, j + 1 ≠ k → t.crt.dir.getD j TypeDir.empty = s.crt.dir.getD j TypeDir.empty) ∧
      (s.sys.recovery = true → 1 ≤ k → k ≤ 5 → c = 0 →
        (t.upd.copyDir.getD (k - 1) TypeDir.empty).act = d.target ∧ nbit t.upd.ram (k - 1) = true ∧
        (if t.upd.ram = 31 then t.sys.recovery = false ∧ t.rd R.SYS_STARTSTEP_STEP = 4 else t.sys = s.sys)) ∧
      ∀ w ∈ s.ncp.img.toList, ∀ x ∈ (s.session w.session).toList, t.outs.length = s.outs.length + 1) ∧
  (∀ (m : BitVec 6) (s : State), s.Open 0x68 → ∃ t, exec (.updCancel m) s = .next t ∧
    let k := s.rd R.UPD_STAT_TYPE
    let d := s.typeDir k
    if k = 0 then t = s
    else t.rd R.UPD_STAT_TYPE = 0 ∧ t.rd R.UPD_XFER_RECV = 0 ∧ t.flag R.UPD_STAT_BUSY = false ∧ t.upd.head = false ∧ t.upd.got = [] ∧ t.upd.verifying = false ∧
      (k ≤ 5 → (t.typeDir k).slot d.target = (if s.upd.head then ImgSlot.empty else d.slot d.target) ∧
        (t.typeDir k).slot (1 - d.target) = d.slot (1 - d.target)) ∧ s.PagesBut t [0x68] ∧ t = { s with regs := t.regs, upd := t.upd, crt := t.crt }) ∧
  (∀ (m : BitVec 6) (type : BitVec 8) (s : State), s.Open 0x68 → ∃ t, exec (.updUnpend m type) s = .next t ∧
    let k := type.toNat
    let d := s.typeDir k
    t.rd R.UPD_CMD_TYPE = k ∧ s.SameMem t ∧ s.PagesBut t [0x68] ∧
    if k = 0 ∨ 5 < k ∨ s.rd R.UPD_STAT_TYPE = k ∨ (d.a.state ≠ 3 ∧ d.b.state ≠ 3) then
      s.Recorded t 0x68 0xF3 0x1B0 ∧ s.RegsBut t (R.UPD_CMD_TYPE.key 0 0 0 :: R.H_CFGGEN.key 0 0x68 0 :: errKeys 0x68) ∧ t = { s with regs := t.regs }
    else
      let p := if d.a.state = 3 then 0 else 1
      (t.typeDir k).slot p = { d.slot p with state := 2 } ∧ (t.typeDir k).slot (1 - p) = d.slot (1 - p) ∧ (t.typeDir k).act = d.act ∧ (t.typeDir k).att = 0 ∧
        t = { s with regs := t.regs, upd := t.upd, crt := t.crt }) ∧
  (∀ (ok : Bool) (scap : BitVec 16) (archive : Option Archive) (s : State), s.mode = 1 → s.sys.resetHeld = false → s.rd R.SYS_STARTSTEP_STEP = 3 →
    s.sys.recovery = false → ∃ t, exec (.startStepComplete ok scap archive) s = .next t ∧
    (s.bookThere = false → t.crt.dir = s.crt.dir) ∧
    (s.bookThere = true → ∀ i ∈ upTo 5,
      let d := s.crt.dir.getD i TypeDir.empty
      let e := t.crt.dir.getD i TypeDir.empty
      let p := if d.a.state = 3 then 0 else 1
      e.act = d.act ∧
      (if (d.slot p).state ≠ 3 then
        e.att = d.att ∧ ∀ j ∈ upTo 2, e.slot j = (if (d.slot j).state = 1 then ImgSlot.empty else d.slot j)
       else
        e.att = (if d.att < 3 then d.att + 1 else 0) ∧ e.slot p = (if d.att < 3 then d.slot p else { d.slot p with state := 5 }) ∧
          e.slot (1 - p) = (if (d.slot (1 - p)).state = 1 then ImgSlot.empty else d.slot (1 - p)))) ∧
    (s.bookThere = true → (∃ i ∈ upTo 5, let d := s.crt.dir.getD i TypeDir.empty; (d.a.state = 3 ∨ d.b.state = 3) ∧ 3 ≤ d.att) → s.Rose t 0x68 3) ∧
    t.crt.book = s.crt.book) ∧
  (∀ s : State, s.mode = 1 → s.sys.resetHeld = false → s.rd R.SYS_STARTSTEP_STEP = 9 → s.sys.failed = 0 → s.rd R.PAIR_STAT_MISMATCH = 0 →
    s.flag R.PAIR_STAT_PARTNER = false → s.rd R.SYS_NEXTSTART_KIND = 0 → s.rd R.SYS_STARTPOL_POLICY = 0 → s.sys.recovery = false →
    ∃ t, exec .endOfStart s = .next t ∧ t.upd.tried = 0 ∧ ∀ i ∈ upTo 5,
      let d := s.crt.dir.getD i TypeDir.empty
      let e := t.crt.dir.getD i TypeDir.empty
      let p := if d.a.state = 3 then 0 else 1
      if nbit s.upd.tried i = true then
        e.slot p = { d.slot p with state := 4 } ∧ e.act = p ∧ e.att = 0 ∧
          e.slot (1 - p) = (if (d.slot (1 - p)).state = 4 then { d.slot (1 - p) with state := 2 } else d.slot (1 - p))
      else e = d)

/-- Out of DORMANT, with no reset asserted, a core lockstep error, an uncorrectable ECC error, a clock outside its limits, a lost PLL lock,
a temperature fault, a wrong readback of a safe-state line and a mismatch of SAF's channels are recorded: FIRST holds the cause, unit, mode,
MT and detail of the first one since power-on (of one clock the lowest cause), CAUSES its bit, COUNT.SF one more. A reaction of kind H gives
the safe state on all three lines, outputs and reflex bits 0, HOLD with HOLDCAUSE 4, the lease of a lead gone, PSYNC as it was and no ply
running; one of kind R, or of kind H with RSTALL, gives a safety reset while SRST is below MAXRST. No byte of memory changes. In DORMANT
none is found. While a reset is asserted none is taken, but one of the clock of its assertion is recorded with the MT and mode before it. A
clock finding shows in CLKERR; a guardian's is no safety fault and blocks that guardian. A rail outside its window shows in RAILERR and is
cause 0x0E, before a supply reset if the drop is deep; after a forced HOLD the rails of domains that are off are ignored. INJECT is cause
0x15 in SERVICE, elsewhere refused with 0x11. (21_safety.md, R428; 21_safety.md, R429; 21_safety.md, R430; 21_safety.md, R431; 21_safety.md,
R432; 21_safety.md, R433; 21_safety.md, R436; 21_safety.md, R437; 21_safety.md, R440; 21_safety.md, R441; 21_safety.md, R444;
22_hardware.md, R458) -/
def Obligations.SafetyFaults : Prop :=
  (∀ (c : Instr) (cause : Nat) (kind : Reaction) (unit info : Nat) (events : List (Nat × Nat)) (s : State), Finding c cause kind unit info events → s.Faultable →
    ∃ t, exec c s = .next t ∧ s.Faulted t cause kind unit info ∧ (t.sys.resetHeld = false → ∀ e ∈ events, s.Rose t e.1 e.2)) ∧
  (∀ (c : Instr) (cause : Nat) (kind : Reaction) (unit info : Nat) (events : List (Nat × Nat)) (s : State),
    Finding c cause kind unit info events → s.mode = 0 ∨ (s.sys.resetHeld = true ∧ (s.mt ≠ 0 ∨ s.sys.cut = none)) → exec c s = .next s) ∧
  (∀ (c : Instr) (cause : Nat) (kind : Reaction) (unit info : Nat) (events : List (Nat × Nat)) (mt mode : Nat) (same : Bool) (s : State),
    Finding c cause kind unit info events → s.mode ≠ 0 → s.sys.resetHeld = true → s.mt = 0 → mode ≤ 5 →
    ∃ t, exec c { s with sys := { s.sys with cut := some (mt, mode, same) } } = .next t ∧
      s.CauseKept t cause unit info mt mode same ∧ t.mode = s.mode ∧ t.sys.resetHeld = true ∧ s.PagesBut t [0x05] ∧ s.SameMem t) ∧
  (∀ (clock : Fin 7) (s : State), s.Faultable → s.flag R.SAF_CFG_RSTALL = false →
    ∃ t, exec (.clockMonitorFault (.pllLock clock)) s = .next t ∧ nbit (t.rd R.SAF_CLKERR) clock = true) ∧
  (∀ (g : Fin 16) (b : Bool) (s : State), s.Faultable → ∃ t, exec (.clockMonitorFault (.guardian g b)) s = .next t ∧
    nbit (t.rd R.SAF_CLKERR) 7 = true ∧ s.Rose t 0x02 0 ∧ nbit (t.rd R.RMT_STAT_GBLK 0 g) (b2n b) = true ∧ t.rd (if b then R.RMT_GKIND_B else R.RMT_GKIND_A) 0 g = 1 ∧
    s.Counted t (if b then R.RMT_GCUT_B else R.RMT_GCUT_A) 0 g ∧ t.mode = s.mode ∧ s.PagesBut t [0x05, 0x02, segPage g] ∧
    t.rd R.SAF_CAUSES = s.rd R.SAF_CAUSES ∧ t.rd R.SAF_COUNT_SF = s.rd R.SAF_COUNT_SF ∧ t = { s with regs := t.regs, rmts := t.rmts }) ∧
  (∀ (rail : Fin 6) (deep : Bool) (s : State), s.Faultable → ∃ t, exec (.voltageMonitorFault rail deep) s = .next t ∧
    if s.flag R.PWR_STATUS_FORCEDHOLD = true ∧ s.pwr.off = true ∧ (rail = 1 ∨ rail = 5) then t = s
    else s.CauseKept t 0x0E 0x01 (2 ^ rail.val) s.mt s.mode (decide (s.saf.faultAt = s.mt + 1)) ∧ s.SameMem t ∧
      if deep then t.mode = 1 ∧ t.sys.resetHeld = true ∧ t.rd R.SYS_RSTCAUSE_LAST = 1
      else s.Reacted t .hold ∧ (t.sys.resetHeld = false → nbit (t.rd R.PWR_RAILERR) rail = true ∧ s.Rose t 0x01 1)) ∧
  (∀ (rail : Fin 6) (deep : Bool) (s : State), s.mode = 0 → exec (.voltageMonitorFault rail deep) s = .next s) ∧
  (∀ (m : BitVec 6) (s : State), s.Open 0x05 → s.Faultable → ∃ t, exec (.safInject m) s = .next t ∧
    if s.mode = 5 then s.Faulted t 0x15 .hold 0x05 0 else s.Refused t 0x05 0x11 0x164)

/-- While SAF works and only the clocks advance: a pass starts 10 ms after the start of the one before, with two TE bursts where item 4 is
enabled and TE runs; where the one before has not ended it goes on, OVERRUNS and CONSEC count with source 13, and OVRLIM overruns in a row
are cause 0x10. The end of a pass counts PASSES, shows its duration, raises source 15 and clears CONSEC unless it overran; with item 3
enabled a scanned half that does not fit its CRCs counts SCAN.MISMATCH, and is cause 0x0B if active, else not VALID; a checker that does not
report is cause 0x13. At the end of a second ECC.CORR holds its count of corrected errors, with source 14 above ECCTHR. An enabled watchdog
takes 0xC35A and then 0x3CA5 within 10 µs, not before WIN per cent and not after TMO from the last service; anything else is cause 0x0F with
a watchdog reset, as are TMO without a service and 10 µs without the second key; at 75 % of TMO source 1 is raised; one that is off or
paused does none of this, and an off one ignores keys. A write of DS.EN that clears a bit outside SERVICE records 0x10 and changes nothing,
any other sets it and DEGRADED; a WDn.CFG write leaves TMO and WIN out of range, and a 1 in EN, as they were. (21_safety.md, R434;
21_safety.md, R435; 21_safety.md, R438; 21_safety.md, R440; 21_safety.md, Table 21.1; 21_safety.md, Table 21.4; 05_execution_engine.md,
R105; 08_trip_engine.md, R179) -/
def Obligations.DiagnosticScheduleAndWatchdogs : Prop :=
  (∀ s : State, s.Faultable → s.ClocksFree → ∃ t, exec .diagPassStart s = .next t ∧ s.SameMem t ∧
    if s.saf.passing = true then
      if s.rd R.SAF_CFG_OVRLIM ≤ min 15 (s.rd R.SAF_DS_STAT_CONSEC + 1) then
        nbit (t.rd R.SAF_CAUSES) 0x0F = true ∧ (t.mode = 4 ∧ t.rd R.SYS_MODE_HOLDCAUSE = 4 ∧ t.safe = true ∨ t.mode = 1 ∧ t.rd R.SYS_RSTCAUSE_LAST = 3)
      else s.Counted t R.SAF_DS_STAT_OVERRUNS ∧ s.Counted t R.SAF_DS_STAT_CONSEC ∧ s.Rose t 0x05 5 ∧ t.saf = { s.saf with late := true, passAt := some t.mt } ∧
        (∀ p ∈ s.saf.passAt.toList, t.NotBefore (p + 10000000)) ∧ s.PagesBut t [0x05, 0x40]
    else t.saf = { s.saf with passing := true, late := false, start := t.mt, passAt := some t.mt } ∧ (∀ p ∈ s.saf.passAt.toList, t.NotBefore (p + 10000000)) ∧
      (if nbit (s.rd R.SAF_DS_EN) 4 = true ∧ s.running 0x18 = true ∧ s.flag R.TE_CFGSTAT_LOCKED = true then t.te.bursts = 2 ∧ t.flag R.TE_CFGSTAT_BURST = true
       else t.te = s.te) ∧ s.RegsBut t (R.TE_CFGSTAT_BURST.key 0 0 0 :: tickKeys)) ∧
  (∀ s : State, s.mode = 0 ∨ s.sys.resetHeld = true → exec .diagPassStart s = .next s) ∧
  (∀ (durUs : BitVec 16) (ok : Bool) (s : State), s.saf.passing = false → exec (.diagPassComplete durUs ok) s = .next s) ∧
  (∀ (durUs : BitVec 16) (ok : Bool) (s : State), s.Faultable → s.ClocksFree → s.saf.passing = true → ∃ t, exec (.diagPassComplete durUs ok) s = .next t ∧ s.SameMem t ∧
    let fits (h : Nat) : Bool := s.moveCrc h == s.hdr h 0x00C 4 && s.constCrc h == s.hdr h 0x028 4
    let a := s.half
    let scan := nbit (s.rd R.SAF_DS_EN) 3
    let lost := scan && s.rd R.XE_ENG_STAT_LANES != 0 && !fits a
    let te := nbit (s.rd R.SAF_DS_EN) 4 && s.running 0x18 && s.flag R.TE_CFGSTAT_LOCKED && crc32 s.teBytes != s.rd R.TE_CFGCRC
    let mute := !ok && (nbit (s.rd R.SAF_DS_EN) 7 || nbit (s.rd R.SAF_DS_EN) 8)
    (if lost || te || mute then
      (t.mode = 4 ∧ t.rd R.SYS_MODE_HOLDCAUSE = 4 ∧ t.safe = true ∨ t.mode = 1 ∧ t.rd R.SYS_RSTCAUSE_LAST = 3) ∧
        (s.flag R.SAF_CFG_RSTALL = false → ((lost = true → nbit (t.rd R.SAF_CAUSES) 0x0A = true) ∧ (te = true → nbit (t.rd R.SAF_CAUSES) 5 = true) ∧
          (mute = true → nbit (t.rd R.SAF_CAUSES) 0x12 = true)))
     else t.mode = s.mode ∧ t.rd R.SAF_CAUSES = s.rd R.SAF_CAUSES ∧ s.PagesBut t [0x05, 0x10, 0x40]) ∧
    (t.sys.resetHeld = false →
      t.saf.passing = false ∧ t.rd R.SAF_DS_STAT_PASSES = (s.rd R.SAF_DS_STAT_PASSES + 1) % 2 ^ 16 ∧ s.Rose t 0x05 7 ∧ t.NotBefore (s.saf.start + durUs.toNat * 1000) ∧
      t.rd R.SAF_DS_LASTDUR = min 0xFFFF ((t.mt - s.saf.start) / 1000) ∧ (s.saf.late = false → t.rd R.SAF_DS_STAT_CONSEC = 0) ∧
      (scan = true → t.rd R.XE_MM_SCAN_PASSES = (s.rd R.XE_MM_SCAN_PASSES + 1) % 2 ^ 16 ∧
        (s.halfValid (1 - a) = true → fits (1 - a) = false → t.halfValid (1 - a) = false) ∧
        (fits a = true ∨ s.rd R.XE_ENG_STAT_LANES = 0 → fits (1 - a) = true ∨ s.halfValid (1 - a) = false →
          t.rd R.XE_MM_SCAN_MISMATCH = s.rd R.XE_MM_SCAN_MISMATCH)) ∧
      (scan = false → t.rd R.XE_MM_SCAN_PASSES = s.rd R.XE_MM_SCAN_PASSES))) ∧
  (∀ (count : BitVec 16) (s : State), s.mode ≠ 0 → s.sys.resetHeld = false → s.ClocksFree → ∃ t, exec (.eccCountSecond count) s = .next t ∧
    t.rd R.SAF_ECC_CORR = count.toNat ∧ t.NotBefore s.saf.eccDue ∧ t.saf = { s.saf with eccDue := s.saf.eccDue + 1000000000 } ∧
    (s.rd R.SAF_CFG_ECCTHR < count.toNat → s.Rose t 0x05 6) ∧ t.rd R.XE_ECC_CORR_LANE ≤ s.rd R.XE_ECC_CORR_LANE + count.toNat ∧
    s.rd R.XE_ECC_CORR_LANE ≤ t.rd R.XE_ECC_CORR_LANE ∧ s.PagesBut t [0x05, 0x12, 0x40] ∧ s.SameMem t ∧ t.mode = s.mode) ∧
  (∀ (count : BitVec 16) (s : State), s.mode = 0 ∨ s.sys.resetHeld = true → exec (.eccCountSecond count) s = .next s) ∧
  (∀ (n : Fin 2) (value : BitVec 32) (s : State), s.present 0x05 = true → s.flag R.H_LOCK_ARMED 0 0x05 = false → s.Faultable → ∃ t, exec (.watchdogService n value) s = .next t ∧
    let w := if n = 0 then s.saf.wd0 else s.saf.wd1
    let tmo := s.rd R.SAF_WD_CFG_TMO n * 10000
    let now := if s.flag R.SAF_WD_STAT_PAUSED n then w.pausedAt else s.mt
    if s.flag R.SAF_WD_CFG_EN n = false then t = s
    else if w.keyed = false ∧ value = 0xC35A then t = s.setWd n { w with keyed := true, keyAt := now }
    else if w.keyed = true ∧ value = 0x3CA5 ∧ now ≤ w.keyAt + 10000 ∧ s.rd R.SAF_WD_CFG_WIN n * tmo ≤ (now - w.since) * 100 ∧ now ≤ w.since + tmo then
      t = s.setWd n { w with keyed := false, since := now, warned := false }
    else s.Faulted t 0x0F .watchdogReset 0x05 n) ∧
  (∀ (n : Fin 2) (s : State), s.ClocksFree → s.Faultable →
    let w := if n = 0 then s.saf.wd0 else s.saf.wd1
    let tmo := s.rd R.SAF_WD_CFG_TMO n * 10000
    let live := s.flag R.SAF_WD_CFG_EN n && !s.flag R.SAF_WD_STAT_PAUSED n
    (∃ t, exec (.watchdogPreExpiry n) s = .next t ∧ if live = true ∧ w.warned = false then
      s.Rose t 0x05 1 ∧ t.NotBefore (w.since + tmo * 3 / 4) ∧ t.saf = (s.setWd n { w with warned := true }).saf ∧ s.PagesBut t [0x05, 0x40] ∧ s.SameMem t else t = s) ∧
    (∃ t, exec (.watchdogExpiry n) s = .next t ∧ if live = true then (s.awaitMt (w.since + tmo)).Faulted t 0x0F .watchdogReset 0x05 n ∧
      (s.awaitMt (w.since + tmo)).NotBefore (w.since + tmo) else t = s) ∧
    (∃ t, exec (.watchdogKeyTimeout n) s = .next t ∧ if live = true ∧ w.keyed = true then (s.awaitMt (w.keyAt + 10000)).Faulted t 0x0F .watchdogReset 0x05 n ∧
      (s.awaitMt (w.keyAt + 10000)).NotBefore (w.keyAt + 10000) else t = s)) ∧
  (∀ (m : BitVec 6) (v : BitVec 32) (s : State), s.Open 0x05 → s.flag R.H_LOCK_LOCKED 0 0x05 = false →
    ∃ t, exec (.registerWrite m 0x05 0x54 v) s = .next t ∧
    if s.mode ≠ 5 ∧ s.rd R.SAF_DS_EN &&& (v.toNat % 2 ^ 10) ≠ s.rd R.SAF_DS_EN then s.Recorded t 0x05 0x10 0x150 ∧ t.rd R.SAF_DS_EN = s.rd R.SAF_DS_EN
    else t.rd R.SAF_DS_EN = v.toNat % 2 ^ 10 ∧ t.flag R.SAF_STAT_DEGRADED = (v.toNat % 2 ^ 10 != 0x3FF) ∧ (t.safe = false → t.ledSaf = if v.toNat % 2 ^ 10 = 0x3FF then ⟨.off, false⟩ else ⟨.red, true⟩)) ∧
  (∀ (m : BitVec 6) (n : Fin 2) (v : BitVec 32) (s : State), s.Open 0x05 → s.flag R.H_LOCK_LOCKED 0 0x05 = false →
    ∃ t, exec (.registerWrite m 0x05 (if n = 0 then 0x4C else 0x50) v) s = .next t ∧
    let tmo := v.toNat % 2 ^ 10
    let win := v.toNat / 2 ^ 16 % 2 ^ 7
    t.rd R.SAF_WD_CFG_TMO n = (if 10 ≤ tmo ∧ tmo ≤ 1000 then tmo else s.rd R.SAF_WD_CFG_TMO n) ∧
    t.rd R.SAF_WD_CFG_WIN n = (if win ≤ 75 then win else s.rd R.SAF_WD_CFG_WIN n) ∧
    t.flag R.SAF_WD_CFG_EN n = (s.flag R.SAF_WD_CFG_EN n || v.getLsbD 31) ∧
    (s.flag R.SAF_WD_CFG_EN n = false → v.getLsbD 31 = true → (if n = 0 then t.saf.wd0 else t.saf.wd1).since = s.mt))

/-- The state after a power-on reset, of either variant, has its memory and register maps in canonical form, an empty queue, START at step
0x01 with the reset held, MT and NT 0, every local output off, nothing sent, no event source asserted, and every register field at the reset
value of its row; the values that the tables give for fields that do not reset to 0 are as listed here; a SYS.UNITS word reads as its
variant says. (Memory that nothing has written reads 0, log entry 3; fields for which the spec gives no value are log entries 4 and 5.)
(03_modes.md, R57; 03_modes.md, Table 3.9; 00_scope.md, Table 0.1; 02_register_pages.md, Table 2.3; 21_safety.md, Table 21.7; 12_time.md,
Time bases) -/
def Obligations.ResetState : Prop :=
  State.reset.Inv ∧ State.resetS08.Inv ∧ State.reset.pending = [] ∧ State.resetS08.pending = [] ∧ State.reset.outs = [] ∧ State.reset.mode = 1 ∧
  State.reset.sys.resetHeld = true ∧ State.reset.mt = 0 ∧ State.reset.tim.nt = 0 ∧ State.reset.dqDrive = 0 ∧ State.resetS08.dqDrive = 0 ∧
  (∀ n ∈ upTo 256, State.reset.asserts n = false) ∧
  (∀ a, State.reset.rb a = 0) ∧
  (∀ (r : Row) (k u m : Nat), State.reset.rd r k u m = r.reset k u % 2 ^ r.width) ∧
  (∀ e ∈ [(R.SYS_IDENT_FAMILY, 0x4D34), (R.SYS_IDENT_VARIANT, 1), (R.SYS_UNITS0, 0xFFFFFFFF), (R.SYS_UNITS1, 0xFFF), (R.SYS_MODE_MODE, 1), (R.SYS_STARTSTEP_STEP, 1),
      (R.SYS_RSTCAUSE_HIST, 1), (R.PWR_PFCTL_FOEN, 1), (R.XE_CLS_CFG_FFLIMIT, 3), (R.XE_MW_CFG_TIMEOUT, 50), (R.XE_SM_BUDGET, 200), (R.TE_EVSEL, 0xFFFFFFFF),
      (R.TE_RXSTALE0, 0xFFFFFFFF), (R.RMT_CFG_CHEN, 3), (R.RMT_CFG_LOSTN, 3), (R.RMT_CFG_ERRTHR, 16), (R.PAIR_LEASE_LEASECYC, 4), (R.TIM_NTINC, 0x40000000),
      (R.TIM_NTSTEPMAX, 1000000), (R.TIM_TPCFG_PWIDTH, 100), (R.TIM_CMP_PERIOD, 1000000), (R.BKD_RTC_DATE_MONTH, 1), (R.BKD_RTC_DATE_DAY, 1),
      (R.CRT_JNL_CFG_BUDGET, 128), (R.CRT_JNL_CFG_CKPTINT, 1000), (R.ER_CFG_FLUSHSEV, 6), (R.LIO_SPER, 0x14141414), (R.LIO_FILT, 0x2222), (R.LIO_DQOLEN_ON, 0xFFFF),
      (R.UPD_WIN_MAJMAX, 255), (R.SAF_CFG_MAXRST, 3), (R.SAF_CFG_OVRLIM, 3), (R.SAF_CFG_ECCTHR, 16), (R.SAF_WD_CFG_TMO, 100), (R.SAF_DS_EN, 0x3FF), (R.SAF_FIRST_CAUSE, 0)],
    State.reset.rd e.1 = e.2) ∧
  (∀ m : BitVec 6, (∃ t, exec (.rcCounterRead m 0x00 0x41) State.reset = .next t ∧ t.bus.data = leBytes 4 0xFFFFFFFF) ∧
    (∃ t, exec (.rcCounterRead m 0x00 0x41) State.resetS08 = .next t ∧ t.bus.data = leBytes 4 0xD7FF00FF) ∧
    (∃ t, exec (.rcCounterRead m 0x00 0x42) State.resetS08 = .next t ∧ t.bus.data = leBytes 4 0x3FF))
end

