-- ==== Sys2Proof/Laws/Map.lean ====
section
/-! SUPPORT. Sparse maps: a read after a write, and the canonical form that every operation keeps. -/

namespace Sys2Proof.Machine

/-- The keys of a map rise strictly. -/
abbrev smRising (m : SMap α) : Prop := m.Pairwise fun a b => a.1 < b.1

theorem smGet_of_lt (d : α) {m : SMap α} {k : Nat} (h : ∀ e ∈ m, k < e.1) : smGet d m k = d := by
  induction m with
  | nil => rfl
  | cons e m ih =>
    obtain ⟨j, v⟩ := e
    have h1 : k < j := h (j, v) (List.mem_cons_self ..)
    have h2 : j ≠ k := by omega
    simp only [smGet, if_neg h2]
    exact ih fun e he => h e (List.mem_cons_of_mem _ he)

theorem smGet_of_notMem (d : α) {m : SMap α} {k : Nat} (h : ∀ e ∈ m, e.1 ≠ k) : smGet d m k = d := by
  induction m with
  | nil => rfl
  | cons e m ih =>
    obtain ⟨j, v⟩ := e
    have h1 : j ≠ k := h (j, v) (List.mem_cons_self ..)
    simp only [smGet, if_neg h1]
    exact ih fun e he => h e (List.mem_cons_of_mem _ he)

theorem smGet_smPut_self (d : α) (m : SMap α) (k : Nat) (v : α) : smGet d (smPut m k v) k = v := by
  induction m with
  | nil => simp [smPut, smGet]
  | cons e m ih =>
    obtain ⟨j, w⟩ := e
    simp only [smPut]
    split
    · simp [smGet]
    · split
      · simp [smGet]
      · rename_i h1 h2
        have h3 : j ≠ k := fun h => h2 h.symm
        simpa only [smGet, if_neg h3] using ih

theorem smGet_smPut_ne (d : α) (m : SMap α) {k j : Nat} (v : α) (h : j ≠ k) : smGet d (smPut m k v) j = smGet d m j := by
  induction m with
  | nil => simp [smPut, smGet, h.symm]
  | cons e m ih =>
    obtain ⟨i, w⟩ := e
    simp only [smPut]
    split
    · simp [smGet, h.symm]
    · split
      · rename_i h1 h2
        subst h2
        simp [smGet, h.symm]
      · simp only [smGet, ih]

theorem smGet_filter_ne (d : α) (m : SMap α) {k j : Nat} (h : j ≠ k) :
    smGet d (m.filter fun e => e.1 ≠ k) j = smGet d m j := by
  induction m with
  | nil => rfl
  | cons e m ih =>
    obtain ⟨i, w⟩ := e
    simp only [List.filter_cons]
    split
    · simp only [smGet, ih]
    · rename_i h1
      have h2 : i = k := by simpa using h1
      have h3 : i ≠ j := by omega
      simpa only [smGet, if_neg h3] using ih

/-- A read after a write to the same key. -/
@[simp] theorem smGet_smSet_self [DecidableEq α] (d : α) (m : SMap α) (k : Nat) (v : α) : smGet d (smSet d m k v) k = v := by
  unfold smSet
  split
  · rename_i h
    subst h
    exact smGet_of_notMem v fun e he => by simpa using (List.mem_filter.mp he).2
  · exact smGet_smPut_self d m k v

/-- A write leaves every other key alone, whatever default either is read with. -/
theorem smGet_smSet_ne [DecidableEq α] (d d' : α) (m : SMap α) {k j : Nat} (v : α) (h : j ≠ k) :
    smGet d (smSet d' m k v) j = smGet d m j := by
  unfold smSet
  split
  · exact smGet_filter_ne d m h
  · exact smGet_smPut_ne d m v h

/-! The canonical form. -/

theorem smRising_filter {m : SMap α} (p : Nat × α → Bool) (h : smRising m) : smRising (m.filter p) := List.Pairwise.filter p h

theorem smPut_mem {m : SMap α} {k : Nat} {v : α} {e : Nat × α} (h : e ∈ smPut m k v) : e = (k, v) ∨ e ∈ m := by
  induction m with
  | nil => simpa [smPut] using h
  | cons x m ih =>
    obtain ⟨j, w⟩ := x
    simp only [smPut] at h
    split at h
    · simpa using h
    · split at h
      · rcases List.mem_cons.mp h with h | h
        · exact .inl h
        · exact .inr (List.mem_cons_of_mem _ h)
      · rcases List.mem_cons.mp h with h | h
        · exact .inr (h ▸ List.mem_cons_self ..)
        · rcases ih h with h | h
          · exact .inl h
          · exact .inr (List.mem_cons_of_mem _ h)

theorem smRising_smPut {m : SMap α} (k : Nat) (v : α) (h : smRising m) : smRising (smPut m k v) := by
  induction m with
  | nil => simp [smPut, smRising]
  | cons x m ih =>
    obtain ⟨j, w⟩ := x
    have hj : ∀ e ∈ m, j < e.1 := fun e he => List.rel_of_pairwise_cons h he
    have hm : smRising m := (List.pairwise_cons.mp h).2
    simp only [smPut]
    split
    · rename_i hk
      exact List.pairwise_cons.mpr ⟨fun e he => by
        rcases List.mem_cons.mp he with h | h
        · subst h; exact hk
        · exact Nat.lt_trans hk (hj e h), h⟩
    · split
      · rename_i hk
        subst hk
        exact List.pairwise_cons.mpr ⟨hj, hm⟩
      · rename_i h1 h2
        refine List.pairwise_cons.mpr ⟨fun e he => ?_, ih hm⟩
        rcases smPut_mem he with h | h
        · subst h; show j < k; omega
        · exact hj e h

theorem smRising_smSet [DecidableEq α] (d : α) {m : SMap α} (k : Nat) (v : α) (h : smRising m) : smRising (smSet d m k v) := by
  unfold smSet
  split
  · exact smRising_filter _ h
  · exact smRising_smPut k v h

/-- The canonical form, said of the whole list: keys rise and no entry equals the default. -/
theorem smWf_iff [DecidableEq α] (d : α) (m : SMap α) : smWf d m = true ↔ smRising m ∧ ∀ e ∈ m, e.2 ≠ d := by
  induction m with
  | nil => simp [smWf]
  | cons x m ih =>
    obtain ⟨j, v⟩ := x
    cases m with
    | nil => simp [smWf]
    | cons y m =>
      obtain ⟨k, w⟩ := y
      simp only [smWf, Bool.and_eq_true, decide_eq_true_eq, ih]
      constructor
      · rintro ⟨⟨h1, h2⟩, h3, h4⟩
        refine ⟨List.pairwise_cons.mpr ⟨fun e he => ?_, h3⟩, fun e he => ?_⟩
        · rcases List.mem_cons.mp he with h | h
          · subst h; exact h2
          · exact Nat.lt_trans h2 (List.rel_of_pairwise_cons h3 h)
        · rcases List.mem_cons.mp he with h | h
          · subst h; exact h1
          · exact h4 e h
      · rintro ⟨h1, h2⟩
        have h3 := List.pairwise_cons.mp h1
        exact ⟨⟨h2 (j, v) (List.mem_cons_self ..), h3.1 (k, w) (List.mem_cons_self ..)⟩, h3.2,
          fun e he => h2 e (List.mem_cons_of_mem _ he)⟩

theorem smWf_filter [DecidableEq α] (d : α) {m : SMap α} (p : Nat × α → Bool) (h : smWf d m = true) :
    smWf d (m.filter p) = true := by
  rw [smWf_iff] at *
  exact ⟨smRising_filter p h.1, fun e he => h.2 e (List.mem_filter.mp he).1⟩

/-- A write keeps the canonical form. -/
theorem smWf_smSet [DecidableEq α] (d : α) {m : SMap α} (k : Nat) (v : α) (h : smWf d m = true) :
    smWf d (smSet d m k v) = true := by
  unfold smSet
  split
  · exact smWf_filter d _ h
  · rename_i hv
    rw [smWf_iff] at *
    exact ⟨smRising_smPut k v h.1, fun e he => by
      rcases smPut_mem he with h | h'
      · subst h; exact hv
      · exact h.2 e h'⟩

end Sys2Proof.Machine
end

