-- ==== Sys2Proof/Laws/State.lean ====
section
/-! SUPPORT. One lemma per field for each update of the shared operations of Machine/Ops.lean, true by unfolding, so that no later
proof unfolds a record update. -/

namespace Sys2Proof.Machine

variable (s : State) (r : Row) (v k u m a n : Nat) (b : BitVec 8) (o : Out) (w : Nat)

@[simp] theorem State.wr_mem : (s.wr r v k u m).mem = s.mem := rfl
@[simp] theorem State.wr_bus : (s.wr r v k u m).bus = s.bus := rfl
@[simp] theorem State.wr_outs : (s.wr r v k u m).outs = s.outs := rfl
@[simp] theorem State.wr_free : (s.wr r v k u m).free = s.free := rfl
@[simp] theorem State.wr_pending : (s.wr r v k u m).pending = s.pending := rfl
@[simp] theorem State.wr_evcOwner : (s.wr r v k u m).evcOwner = s.evcOwner := rfl
@[simp] theorem State.wr_sys : (s.wr r v k u m).sys = s.sys := rfl
@[simp] theorem State.wr_pwr : (s.wr r v k u m).pwr = s.pwr := rfl
@[simp] theorem State.wr_saf : (s.wr r v k u m).saf = s.saf := rfl
@[simp] theorem State.wr_gates : (s.wr r v k u m).gates = s.gates := rfl
@[simp] theorem State.wr_chalFresh : (s.wr r v k u m).chalFresh = s.chalFresh := rfl
@[simp] theorem State.wr_act : (s.wr r v k u m).act = s.act := rfl
@[simp] theorem State.wr_mt : (s.wr r v k u m).mt = s.mt := rfl
@[simp] theorem State.wr_xe : (s.wr r v k u m).xe = s.xe := rfl
@[simp] theorem State.wr_te : (s.wr r v k u m).te = s.te := rfl
@[simp] theorem State.wr_rmts : (s.wr r v k u m).rmts = s.rmts := rfl
@[simp] theorem State.wr_stns : (s.wr r v k u m).stns = s.stns := rfl
@[simp] theorem State.wr_svc : (s.wr r v k u m).svc = s.svc := rfl
@[simp] theorem State.wr_rmc : (s.wr r v k u m).rmc = s.rmc := rfl
@[simp] theorem State.wr_crtFlush : (s.wr r v k u m).crtFlush = s.crtFlush := rfl
@[simp] theorem State.wr_pr : (s.wr r v k u m).pr = s.pr := rfl
@[simp] theorem State.wr_tim : (s.wr r v k u m).tim = s.tim := rfl
@[simp] theorem State.wr_bk : (s.wr r v k u m).bk = s.bk := rfl
@[simp] theorem State.wr_crt : (s.wr r v k u m).crt = s.crt := rfl
@[simp] theorem State.wr_er : (s.wr r v k u m).er = s.er := rfl
@[simp] theorem State.wr_lio : (s.wr r v k u m).lio = s.lio := rfl
@[simp] theorem State.wr_racks : (s.wr r v k u m).racks = s.racks := rfl
@[simp] theorem State.wr_ncp : (s.wr r v k u m).ncp = s.ncp := rfl
@[simp] theorem State.wr_emacs : (s.wr r v k u m).emacs = s.emacs := rfl
@[simp] theorem State.wr_upd : (s.wr r v k u m).upd = s.upd := rfl
@[simp] theorem State.wb_regs : (s.wb a b).regs = s.regs := rfl
@[simp] theorem State.wb_bus : (s.wb a b).bus = s.bus := rfl
@[simp] theorem State.wb_outs : (s.wb a b).outs = s.outs := rfl
@[simp] theorem State.wb_free : (s.wb a b).free = s.free := rfl
@[simp] theorem State.wb_pending : (s.wb a b).pending = s.pending := rfl
@[simp] theorem State.wb_evcOwner : (s.wb a b).evcOwner = s.evcOwner := rfl
@[simp] theorem State.wb_sys : (s.wb a b).sys = s.sys := rfl
@[simp] theorem State.wb_pwr : (s.wb a b).pwr = s.pwr := rfl
@[simp] theorem State.wb_saf : (s.wb a b).saf = s.saf := rfl
@[simp] theorem State.wb_gates : (s.wb a b).gates = s.gates := rfl
@[simp] theorem State.wb_chalFresh : (s.wb a b).chalFresh = s.chalFresh := rfl
@[simp] theorem State.wb_act : (s.wb a b).act = s.act := rfl
@[simp] theorem State.wb_mt : (s.wb a b).mt = s.mt := rfl
@[simp] theorem State.wb_xe : (s.wb a b).xe = s.xe := rfl
@[simp] theorem State.wb_te : (s.wb a b).te = s.te := rfl
@[simp] theorem State.wb_rmts : (s.wb a b).rmts = s.rmts := rfl
@[simp] theorem State.wb_stns : (s.wb a b).stns = s.stns := rfl
@[simp] theorem State.wb_svc : (s.wb a b).svc = s.svc := rfl
@[simp] theorem State.wb_rmc : (s.wb a b).rmc = s.rmc := rfl
@[simp] theorem State.wb_crtFlush : (s.wb a b).crtFlush = s.crtFlush := rfl
@[simp] theorem State.wb_pr : (s.wb a b).pr = s.pr := rfl
@[simp] theorem State.wb_tim : (s.wb a b).tim = s.tim := rfl
@[simp] theorem State.wb_bk : (s.wb a b).bk = s.bk := rfl
@[simp] theorem State.wb_crt : (s.wb a b).crt = s.crt := rfl
@[simp] theorem State.wb_er : (s.wb a b).er = s.er := rfl
@[simp] theorem State.wb_lio : (s.wb a b).lio = s.lio := rfl
@[simp] theorem State.wb_racks : (s.wb a b).racks = s.racks := rfl
@[simp] theorem State.wb_ncp : (s.wb a b).ncp = s.ncp := rfl
@[simp] theorem State.wb_emacs : (s.wb a b).emacs = s.emacs := rfl
@[simp] theorem State.wb_upd : (s.wb a b).upd = s.upd := rfl
@[simp] theorem State.out_regs : (s.out o).regs = s.regs := rfl
@[simp] theorem State.out_mem : (s.out o).mem = s.mem := rfl
@[simp] theorem State.out_bus : (s.out o).bus = s.bus := rfl
@[simp] theorem State.out_free : (s.out o).free = s.free := rfl
@[simp] theorem State.out_pending : (s.out o).pending = s.pending := rfl
@[simp] theorem State.out_evcOwner : (s.out o).evcOwner = s.evcOwner := rfl
@[simp] theorem State.out_sys : (s.out o).sys = s.sys := rfl
@[simp] theorem State.out_pwr : (s.out o).pwr = s.pwr := rfl
@[simp] theorem State.out_saf : (s.out o).saf = s.saf := rfl
@[simp] theorem State.out_gates : (s.out o).gates = s.gates := rfl
@[simp] theorem State.out_chalFresh : (s.out o).chalFresh = s.chalFresh := rfl
@[simp] theorem State.out_act : (s.out o).act = s.act := rfl
@[simp] theorem State.out_mt : (s.out o).mt = s.mt := rfl
@[simp] theorem State.out_xe : (s.out o).xe = s.xe := rfl
@[simp] theorem State.out_te : (s.out o).te = s.te := rfl
@[simp] theorem State.out_rmts : (s.out o).rmts = s.rmts := rfl
@[simp] theorem State.out_stns : (s.out o).stns = s.stns := rfl
@[simp] theorem State.out_svc : (s.out o).svc = s.svc := rfl
@[simp] theorem State.out_rmc : (s.out o).rmc = s.rmc := rfl
@[simp] theorem State.out_crtFlush : (s.out o).crtFlush = s.crtFlush := rfl
@[simp] theorem State.out_pr : (s.out o).pr = s.pr := rfl
@[simp] theorem State.out_tim : (s.out o).tim = s.tim := rfl
@[simp] theorem State.out_bk : (s.out o).bk = s.bk := rfl
@[simp] theorem State.out_crt : (s.out o).crt = s.crt := rfl
@[simp] theorem State.out_er : (s.out o).er = s.er := rfl
@[simp] theorem State.out_lio : (s.out o).lio = s.lio := rfl
@[simp] theorem State.out_racks : (s.out o).racks = s.racks := rfl
@[simp] theorem State.out_ncp : (s.out o).ncp = s.ncp := rfl
@[simp] theorem State.out_emacs : (s.out o).emacs = s.emacs := rfl
@[simp] theorem State.out_upd : (s.out o).upd = s.upd := rfl
@[simp] theorem State.out_outs : (s.out o).outs = o :: s.outs := rfl
@[simp] theorem State.draw_regs : s.draw.2.regs = s.regs := rfl
@[simp] theorem State.draw_mem : s.draw.2.mem = s.mem := rfl
@[simp] theorem State.draw_bus : s.draw.2.bus = s.bus := rfl
@[simp] theorem State.draw_outs : s.draw.2.outs = s.outs := rfl
@[simp] theorem State.draw_pending : s.draw.2.pending = s.pending := rfl
@[simp] theorem State.draw_evcOwner : s.draw.2.evcOwner = s.evcOwner := rfl
@[simp] theorem State.draw_sys : s.draw.2.sys = s.sys := rfl
@[simp] theorem State.draw_pwr : s.draw.2.pwr = s.pwr := rfl
@[simp] theorem State.draw_saf : s.draw.2.saf = s.saf := rfl
@[simp] theorem State.draw_gates : s.draw.2.gates = s.gates := rfl
@[simp] theorem State.draw_chalFresh : s.draw.2.chalFresh = s.chalFresh := rfl
@[simp] theorem State.draw_act : s.draw.2.act = s.act := rfl
@[simp] theorem State.draw_mt : s.draw.2.mt = s.mt := rfl
@[simp] theorem State.draw_xe : s.draw.2.xe = s.xe := rfl
@[simp] theorem State.draw_te : s.draw.2.te = s.te := rfl
@[simp] theorem State.draw_rmts : s.draw.2.rmts = s.rmts := rfl
@[simp] theorem State.draw_stns : s.draw.2.stns = s.stns := rfl
@[simp] theorem State.draw_svc : s.draw.2.svc = s.svc := rfl
@[simp] theorem State.draw_rmc : s.draw.2.rmc = s.rmc := rfl
@[simp] theorem State.draw_crtFlush : s.draw.2.crtFlush = s.crtFlush := rfl
@[simp] theorem State.draw_pr : s.draw.2.pr = s.pr := rfl
@[simp] theorem State.draw_tim : s.draw.2.tim = s.tim := rfl
@[simp] theorem State.draw_bk : s.draw.2.bk = s.bk := rfl
@[simp] theorem State.draw_crt : s.draw.2.crt = s.crt := rfl
@[simp] theorem State.draw_er : s.draw.2.er = s.er := rfl
@[simp] theorem State.draw_lio : s.draw.2.lio = s.lio := rfl
@[simp] theorem State.draw_racks : s.draw.2.racks = s.racks := rfl
@[simp] theorem State.draw_ncp : s.draw.2.ncp = s.ncp := rfl
@[simp] theorem State.draw_emacs : s.draw.2.emacs = s.emacs := rfl
@[simp] theorem State.draw_upd : s.draw.2.upd = s.upd := rfl
@[simp] theorem State.draw_free : s.draw.2.free = s.free + 1 := rfl
@[simp] theorem State.answer_regs : (s.answer w).regs = s.regs := rfl
@[simp] theorem State.answer_mem : (s.answer w).mem = s.mem := rfl
@[simp] theorem State.answer_outs : (s.answer w).outs = s.outs := rfl
@[simp] theorem State.answer_free : (s.answer w).free = s.free := rfl
@[simp] theorem State.answer_pending : (s.answer w).pending = s.pending := rfl
@[simp] theorem State.answer_evcOwner : (s.answer w).evcOwner = s.evcOwner := rfl
@[simp] theorem State.answer_sys : (s.answer w).sys = s.sys := rfl
@[simp] theorem State.answer_pwr : (s.answer w).pwr = s.pwr := rfl
@[simp] theorem State.answer_saf : (s.answer w).saf = s.saf := rfl
@[simp] theorem State.answer_gates : (s.answer w).gates = s.gates := rfl
@[simp] theorem State.answer_chalFresh : (s.answer w).chalFresh = s.chalFresh := rfl
@[simp] theorem State.answer_act : (s.answer w).act = s.act := rfl
@[simp] theorem State.answer_mt : (s.answer w).mt = s.mt := rfl
@[simp] theorem State.answer_xe : (s.answer w).xe = s.xe := rfl
@[simp] theorem State.answer_te : (s.answer w).te = s.te := rfl
@[simp] theorem State.answer_rmts : (s.answer w).rmts = s.rmts := rfl
@[simp] theorem State.answer_stns : (s.answer w).stns = s.stns := rfl
@[simp] theorem State.answer_svc : (s.answer w).svc = s.svc := rfl
@[simp] theorem State.answer_rmc : (s.answer w).rmc = s.rmc := rfl
@[simp] theorem State.answer_crtFlush : (s.answer w).crtFlush = s.crtFlush := rfl
@[simp] theorem State.answer_pr : (s.answer w).pr = s.pr := rfl
@[simp] theorem State.answer_tim : (s.answer w).tim = s.tim := rfl
@[simp] theorem State.answer_bk : (s.answer w).bk = s.bk := rfl
@[simp] theorem State.answer_crt : (s.answer w).crt = s.crt := rfl
@[simp] theorem State.answer_er : (s.answer w).er = s.er := rfl
@[simp] theorem State.answer_lio : (s.answer w).lio = s.lio := rfl
@[simp] theorem State.answer_racks : (s.answer w).racks = s.racks := rfl
@[simp] theorem State.answer_ncp : (s.answer w).ncp = s.ncp := rfl
@[simp] theorem State.answer_emacs : (s.answer w).emacs = s.emacs := rfl
@[simp] theorem State.answer_upd : (s.answer w).upd = s.upd := rfl

end Sys2Proof.Machine
end

