-- ==== Sys2Proof/Laws/Reg.lean ====
section
/-! SUPPORT. Registers and memory: a read after a write, and what a write leaves alone. -/

namespace Sys2Proof.Machine

/-! Registers. -/

@[simp] theorem State.rd_wr_self (s : State) (r : Row) (v k u m : Nat) : (s.wr r v k u m).rd r k u m = v % 2 ^ r.width := by
  simp [State.rd, State.wr]

theorem State.rd_wr_ne (s : State) (r q : Row) (v k u m k' u' m' : Nat) (h : q.key k' u' m' ≠ r.key k u m) :
    (s.wr r v k u m).rd q k' u' m' = s.rd q k' u' m' := by
  simp only [State.rd, State.wr]
  rw [smGet_smSet_ne _ _ _ _ h]

/-- A field fits its width. -/
theorem State.rd_lt (s : State) (r : Row) (k u m : Nat) : s.rd r k u m < 2 ^ r.width := Nat.mod_lt _ (Nat.two_pow_pos _)

/-- Offset and low bit of a field: fields that differ in them have different keys whatever their page, unit and master. -/
def Row.place (r : Row) (k : Nat) : Nat := ((r.off + r.stride * k) % 4096 * 32 + r.lo) % 131072

theorem Row.key_place (r : Row) (k u m : Nat) : r.key k u m % 131072 = r.place k := by
  unfold Row.key Row.place
  omega

theorem State.rd_wr_place (s : State) (r q : Row) (v k u m k' u' m' : Nat) (h : q.place k' ≠ r.place k) :
    (s.wr r v k u m).rd q k' u' m' = s.rd q k' u' m' :=
  s.rd_wr_ne r q v k u m k' u' m' fun e => h (by rw [← Row.key_place q k' u' m', ← Row.key_place r k u m, e])

@[simp] theorem State.out_rd (s : State) (o : Out) (r : Row) (k u m : Nat) : (s.out o).rd r k u m = s.rd r k u m := rfl
@[simp] theorem State.draw_rd (s : State) (r : Row) (k u m : Nat) : s.draw.2.rd r k u m = s.rd r k u m := rfl
@[simp] theorem State.answer_rd (s : State) (w : Nat) (r : Row) (k u m : Nat) : (s.answer w).rd r k u m = s.rd r k u m := rfl
@[simp] theorem State.wb_rd (s : State) (a : Nat) (b : BitVec 8) (r : Row) (k u m : Nat) : (s.wb a b).rd r k u m = s.rd r k u m := rfl

theorem State.flag_eq (s : State) (r : Row) (k u m : Nat) : s.flag r k u m = (s.rd r k u m != 0) := rfl

/-! A field that is not banked is one for all masters. -/

theorem Row.key_unbanked {r : Row} (h : r.banked = false) (k u m : Nat) : r.key k u m = r.key k u 0 := by simp [Row.key, h]
theorem State.rd_unbanked (s : State) {r : Row} (h : r.banked = false) (k u m : Nat) : s.rd r k u m = s.rd r k u 0 := by
  simp [State.rd, Row.key_unbanked h k u m]
theorem State.wr_unbanked (s : State) {r : Row} (h : r.banked = false) (v k u m : Nat) : s.wr r v k u m = s.wr r v k u 0 := by
  simp [State.wr, Row.key_unbanked h k u m]

/-- Fields outside a list of keys read alike in two states. -/
theorem State.RegsBut.refl (s : State) (keys : List Nat) : s.RegsBut s keys := fun _ _ _ _ _ => rfl

theorem State.RegsBut.trans {s t v : State} {keys : List Nat} (h : s.RegsBut t keys) (h' : t.RegsBut v keys) : s.RegsBut v keys :=
  fun r k u m hk => (h' r k u m hk).trans (h r k u m hk)

theorem State.RegsBut.wr {s t : State} {keys : List Nat} (h : s.RegsBut t keys) (r : Row) (v k u m : Nat) (hk : r.key k u m ∈ keys) :
    s.RegsBut (t.wr r v k u m) keys := fun q k' u' m' hq => by
  rw [State.rd_wr_ne t r q v k u m k' u' m' fun e => hq (e.symm ▸ hk)]
  exact h q k' u' m' hq

theorem State.RegsBut.mono {s t : State} {keys more : List Nat} (h : s.RegsBut t keys) (hm : keys ⊆ more) : s.RegsBut t more :=
  fun r k u m hk => h r k u m fun hx => hk (hm hx)

/-- A state whose registers are those of another. -/
theorem State.RegsBut.of_regs {s t : State} (h : t.regs = s.regs) (keys : List Nat) : s.RegsBut t keys :=
  fun r k u m _ => by simp [State.rd, h]

/-! Memory. -/

@[simp] theorem State.rb_wb_self (s : State) (a : Nat) (b : BitVec 8) : (s.wb a b).rb a = b := by simp [State.rb, State.wb]

theorem State.rb_wb_ne (s : State) {a c : Nat} (b : BitVec 8) (h : c ≠ a) : (s.wb a b).rb c = s.rb c := by
  simp only [State.rb, State.wb]
  exact smGet_smSet_ne _ _ _ _ h

@[simp] theorem State.wr_rb (s : State) (r : Row) (v k u m a : Nat) : (s.wr r v k u m).rb a = s.rb a := rfl

/-- A store leaves every byte outside it alone. -/
theorem State.rb_wbs_outside (bs : List (BitVec 8)) : ∀ (s : State) (a c : Nat), (c < a ∨ a + bs.length ≤ c) → (s.wbs a bs).rb c = s.rb c := by
  induction bs with
  | nil => intro s a c _; rfl
  | cons b bs ih =>
    intro s a c h
    simp only [List.length_cons] at h
    rw [State.wbs, ih _ _ _ (by omega), State.rb_wb_ne _ _ (by omega)]

/-- A byte of a store reads as what was stored. -/
theorem State.rb_wbs_inside (bs : List (BitVec 8)) : ∀ (s : State) (a i : Nat) (h : i < bs.length), (s.wbs a bs).rb (a + i) = bs[i] := by
  induction bs with
  | nil => intro s a i h; exact absurd h (by simp)
  | cons b bs ih =>
    intro s a i h
    cases i with
    | zero =>
      rw [State.wbs, State.rb_wbs_outside _ _ _ _ (by omega)]
      simp
    | succ i =>
      rw [State.wbs, show a + (i + 1) = a + 1 + i by omega, ih _ _ _ (by simpa using h)]
      simp

/-- A store changes memory only. -/
theorem State.wbs_regs (bs : List (BitVec 8)) : ∀ (s : State) (a : Nat), (s.wbs a bs).regs = s.regs := by
  induction bs with
  | nil => intro s a; rfl
  | cons b bs ih => intro s a; exact ih _ _

@[simp] theorem State.wbs_rd (s : State) (a : Nat) (bs : List (BitVec 8)) (r : Row) (k u m : Nat) : (s.wbs a bs).rd r k u m = s.rd r k u m := by
  simp [State.rd, State.wbs_regs]

end Sys2Proof.Machine
end

