-- ==== Sys2Proof/Laws/Units.lean ====
section
/-! SUPPORT. What the operations every unit shares do to registers: presence, accesses to a page, ERRINFO, events. -/

namespace Sys2Proof.Machine

/-- Presence depends on the variant and SYS.UNITS alone. -/
theorem State.present_congr {s t : State} (h0 : t.rd R.SYS_UNITS0 = s.rd R.SYS_UNITS0) (h1 : t.rd R.SYS_UNITS1 = s.rd R.SYS_UNITS1)
    (hv : t.rd R.SYS_IDENT_VARIANT = s.rd R.SYS_IDENT_VARIANT) (p : Nat) : t.present p = s.present p := by
  unfold State.present State.units0 State.units1
  rw [h0, h1, hv]

theorem State.present_wr (s : State) (r : Row) (v k u m p : Nat) (h0 : R.SYS_UNITS0.place 0 ≠ r.place k) (h1 : R.SYS_UNITS1.place 0 ≠ r.place k)
    (hv : R.SYS_IDENT_VARIANT.place 0 ≠ r.place k) : (s.wr r v k u m).present p = s.present p :=
  State.present_congr (State.rd_wr_place _ _ _ _ _ _ _ _ _ _ h0) (State.rd_wr_place _ _ _ _ _ _ _ _ _ _ h1)
    (State.rd_wr_place _ _ _ _ _ _ _ _ _ _ hv) p

/-- An access to an open page is the effect itself. -/
theorem State.onPage_open {s : State} {page : Nat} (h : s.Open page) (f : State → State) : s.onPage page f = f s := by
  unfold State.onPage State.touch
  simp [h.1, h.2]

/-- A read of an open page answers its word. -/
theorem State.onRead_open {s : State} {page : Nat} (h : s.Open page) (f : State → Nat × State) : s.onRead page f = (f s).2.answer (f s).1 := by
  unfold State.onRead State.touch
  simp [h.1, h.2]

/-- A read of the page of an absent unit answers 0 (02 R26). -/
theorem State.onRead_absent {s : State} {page : Nat} (h : s.present page = false) (f : State → Nat × State) : s.onRead page f = s.answer 0 := by
  simp [State.onRead, h]

theorem firstPage_idem (p : Nat) : firstPage (firstPage p) = firstPage p := by
  unfold firstPage; split <;> (try split) <;> (try split) <;> (try split) <;> omega

theorem State.present_first (s : State) (p : Nat) : s.present (firstPage p) = s.present p := by
  unfold State.present unitBit
  rw [firstPage_idem]

theorem State.open_first {s : State} {p : Nat} : s.Open (firstPage p) ↔ s.Open p := by
  unfold State.Open
  rw [State.present_first, firstPage_idem]

theorem errKeys_first (p : Nat) : errKeys (firstPage p) = errKeys p := by simp [errKeys, firstPage_idem]

/-- A write of a word other than LOCK to an open page. -/
theorem State.pageWrite_open {s : State} {page : Nat} (h : s.Open page) (m : BitVec 6) (priv : Bool) (off v : Nat) (ho : off ≠ 0x028) :
    s.pageWrite m priv page off v = s.regWrite m priv page off v := by
  rw [State.pageWrite, if_neg (fun x => ho x.2), State.onPage_open h]

/-- An access to the page of an absent unit does nothing (02 R26). -/
theorem State.onPage_absent {s : State} {page : Nat} (h : s.present page = false) (f : State → State) : s.onPage page f = s := by
  simp [State.onPage, h]

/-! ERRINFO. -/

/-- The first error of a unit leaves its code and offset. -/
theorem State.err_first (s : State) (page code off : Nat) (h : s.rd R.H_ERR_CODE 0 (firstPage page) = 0) :
    s.err page code off = (s.wr R.H_ERR_CODE code 0 (firstPage page)).wr R.H_ERR_OFFSET off 0 (firstPage page) := by
  simp [State.err, h]

/-- A further error sets MORE alone. -/
theorem State.err_more (s : State) (page code off : Nat) (h : s.rd R.H_ERR_CODE 0 (firstPage page) ≠ 0) :
    s.err page code off = s.wr R.H_ERR_MORE 1 0 (firstPage page) := by
  simp [State.err, h]

/-- Recording an error changes ERRINFO alone. -/
theorem State.err_rd (s : State) (page code off : Nat) (q : Row) (k u m : Nat) (h : q.place k ≠ R.H_ERR_CODE.place 0)
    (h' : q.place k ≠ R.H_ERR_OFFSET.place 0) (h'' : q.place k ≠ R.H_ERR_MORE.place 0) : (s.err page code off).rd q k u m = s.rd q k u m := by
  unfold State.err
  dsimp only
  split
  · rw [State.rd_wr_place _ _ _ _ _ _ _ _ _ _ h', State.rd_wr_place _ _ _ _ _ _ _ _ _ _ h]
  · rw [State.rd_wr_place _ _ _ _ _ _ _ _ _ _ h'']

/-! Events. -/

theorem State.evLevel_rd (s : State) (p bit : Nat) (b : Bool) (q : Row) (k u m : Nat) (h : q.place k ≠ R.H_EVRAW.place 0)
    (h' : q.place k ≠ R.H_EVSTAT.place 0) : (s.evLevel p bit b).rd q k u m = s.rd q k u m := by
  unfold State.evLevel
  dsimp only
  split
  · rw [State.rd_wr_place _ _ _ _ _ _ _ _ _ _ h', State.rd_wr_place _ _ _ _ _ _ _ _ _ _ h]
  · rw [State.rd_wr_place _ _ _ _ _ _ _ _ _ _ h]

/-- An event changes the EVRAW and EVSTAT words of its page alone. -/
theorem State.ev_rd (s : State) (p bit : Nat) (q : Row) (k u m : Nat) (h : q.place k ≠ R.H_EVRAW.place 0)
    (h' : q.place k ≠ R.H_EVSTAT.place 0) : (s.ev p bit).rd q k u m = s.rd q k u m := by
  unfold State.ev
  rw [State.evLevel_rd _ _ _ _ _ _ _ _ h h', State.evLevel_rd _ _ _ _ _ _ _ _ h h']

/-! They change registers alone. -/

variable (s : State) (p bit page code off : Nat) (b : Bool)

@[simp] theorem State.evLevel_mem : (s.evLevel p bit b).mem = s.mem := by unfold State.evLevel; dsimp only; split <;> rfl
@[simp] theorem State.evLevel_bus : (s.evLevel p bit b).bus = s.bus := by unfold State.evLevel; dsimp only; split <;> rfl
@[simp] theorem State.evLevel_outs : (s.evLevel p bit b).outs = s.outs := by unfold State.evLevel; dsimp only; split <;> rfl
@[simp] theorem State.evLevel_free : (s.evLevel p bit b).free = s.free := by unfold State.evLevel; dsimp only; split <;> rfl
@[simp] theorem State.evLevel_pending : (s.evLevel p bit b).pending = s.pending := by unfold State.evLevel; dsimp only; split <;> rfl
@[simp] theorem State.evLevel_evcOwner : (s.evLevel p bit b).evcOwner = s.evcOwner := by unfold State.evLevel; dsimp only; split <;> rfl
@[simp] theorem State.evLevel_sys : (s.evLevel p bit b).sys = s.sys := by unfold State.evLevel; dsimp only; split <;> rfl
@[simp] theorem State.evLevel_pwr : (s.evLevel p bit b).pwr = s.pwr := by unfold State.evLevel; dsimp only; split <;> rfl
@[simp] theorem State.evLevel_saf : (s.evLevel p bit b).saf = s.saf := by unfold State.evLevel; dsimp only; split <;> rfl
@[simp] theorem State.evLevel_gates : (s.evLevel p bit b).gates = s.gates := by unfold State.evLevel; dsimp only; split <;> rfl
@[simp] theorem State.evLevel_chalFresh : (s.evLevel p bit b).chalFresh = s.chalFresh := by unfold State.evLevel; dsimp only; split <;> rfl
@[simp] theorem State.evLevel_act : (s.evLevel p bit b).act = s.act := by unfold State.evLevel; dsimp only; split <;> rfl
@[simp] theorem State.evLevel_mt : (s.evLevel p bit b).mt = s.mt := by unfold State.evLevel; dsimp only; split <;> rfl
@[simp] theorem State.evLevel_xe : (s.evLevel p bit b).xe = s.xe := by unfold State.evLevel; dsimp only; split <;> rfl
@[simp] theorem State.evLevel_te : (s.evLevel p bit b).te = s.te := by unfold State.evLevel; dsimp only; split <;> rfl
@[simp] theorem State.evLevel_rmts : (s.evLevel p bit b).rmts = s.rmts := by unfold State.evLevel; dsimp only; split <;> rfl
@[simp] theorem State.evLevel_stns : (s.evLevel p bit b).stns = s.stns := by unfold State.evLevel; dsimp only; split <;> rfl
@[simp] theorem State.evLevel_svc : (s.evLevel p bit b).svc = s.svc := by unfold State.evLevel; dsimp only; split <;> rfl
@[simp] theorem State.evLevel_rmc : (s.evLevel p bit b).rmc = s.rmc := by unfold State.evLevel; dsimp only; split <;> rfl
@[simp] theorem State.evLevel_crtFlush : (s.evLevel p bit b).crtFlush = s.crtFlush := by unfold State.evLevel; dsimp only; split <;> rfl
@[simp] theorem State.evLevel_pr : (s.evLevel p bit b).pr = s.pr := by unfold State.evLevel; dsimp only; split <;> rfl
@[simp] theorem State.evLevel_tim : (s.evLevel p bit b).tim = s.tim := by unfold State.evLevel; dsimp only; split <;> rfl
@[simp] theorem State.evLevel_bk : (s.evLevel p bit b).bk = s.bk := by unfold State.evLevel; dsimp only; split <;> rfl
@[simp] theorem State.evLevel_crt : (s.evLevel p bit b).crt = s.crt := by unfold State.evLevel; dsimp only; split <;> rfl
@[simp] theorem State.evLevel_er : (s.evLevel p bit b).er = s.er := by unfold State.evLevel; dsimp only; split <;> rfl
@[simp] theorem State.evLevel_lio : (s.evLevel p bit b).lio = s.lio := by unfold State.evLevel; dsimp only; split <;> rfl
@[simp] theorem State.evLevel_racks : (s.evLevel p bit b).racks = s.racks := by unfold State.evLevel; dsimp only; split <;> rfl
@[simp] theorem State.evLevel_ncp : (s.evLevel p bit b).ncp = s.ncp := by unfold State.evLevel; dsimp only; split <;> rfl
@[simp] theorem State.evLevel_emacs : (s.evLevel p bit b).emacs = s.emacs := by unfold State.evLevel; dsimp only; split <;> rfl
@[simp] theorem State.evLevel_upd : (s.evLevel p bit b).upd = s.upd := by unfold State.evLevel; dsimp only; split <;> rfl
@[simp] theorem State.ev_mem : (s.ev p bit).mem = s.mem := by simp [State.ev]
@[simp] theorem State.ev_bus : (s.ev p bit).bus = s.bus := by simp [State.ev]
@[simp] theorem State.ev_outs : (s.ev p bit).outs = s.outs := by simp [State.ev]
@[simp] theorem State.ev_free : (s.ev p bit).free = s.free := by simp [State.ev]
@[simp] theorem State.ev_pending : (s.ev p bit).pending = s.pending := by simp [State.ev]
@[simp] theorem State.ev_evcOwner : (s.ev p bit).evcOwner = s.evcOwner := by simp [State.ev]
@[simp] theorem State.ev_sys : (s.ev p bit).sys = s.sys := by simp [State.ev]
@[simp] theorem State.ev_pwr : (s.ev p bit).pwr = s.pwr := by simp [State.ev]
@[simp] theorem State.ev_saf : (s.ev p bit).saf = s.saf := by simp [State.ev]
@[simp] theorem State.ev_gates : (s.ev p bit).gates = s.gates := by simp [State.ev]
@[simp] theorem State.ev_chalFresh : (s.ev p bit).chalFresh = s.chalFresh := by simp [State.ev]
@[simp] theorem State.ev_act : (s.ev p bit).act = s.act := by simp [State.ev]
@[simp] theorem State.ev_mt : (s.ev p bit).mt = s.mt := by simp [State.ev]
@[simp] theorem State.ev_xe : (s.ev p bit).xe = s.xe := by simp [State.ev]
@[simp] theorem State.ev_te : (s.ev p bit).te = s.te := by simp [State.ev]
@[simp] theorem State.ev_rmts : (s.ev p bit).rmts = s.rmts := by simp [State.ev]
@[simp] theorem State.ev_stns : (s.ev p bit).stns = s.stns := by simp [State.ev]
@[simp] theorem State.ev_svc : (s.ev p bit).svc = s.svc := by simp [State.ev]
@[simp] theorem State.ev_rmc : (s.ev p bit).rmc = s.rmc := by simp [State.ev]
@[simp] theorem State.ev_crtFlush : (s.ev p bit).crtFlush = s.crtFlush := by simp [State.ev]
@[simp] theorem State.ev_pr : (s.ev p bit).pr = s.pr := by simp [State.ev]
@[simp] theorem State.ev_tim : (s.ev p bit).tim = s.tim := by simp [State.ev]
@[simp] theorem State.ev_bk : (s.ev p bit).bk = s.bk := by simp [State.ev]
@[simp] theorem State.ev_crt : (s.ev p bit).crt = s.crt := by simp [State.ev]
@[simp] theorem State.ev_er : (s.ev p bit).er = s.er := by simp [State.ev]
@[simp] theorem State.ev_lio : (s.ev p bit).lio = s.lio := by simp [State.ev]
@[simp] theorem State.ev_racks : (s.ev p bit).racks = s.racks := by simp [State.ev]
@[simp] theorem State.ev_ncp : (s.ev p bit).ncp = s.ncp := by simp [State.ev]
@[simp] theorem State.ev_emacs : (s.ev p bit).emacs = s.emacs := by simp [State.ev]
@[simp] theorem State.ev_upd : (s.ev p bit).upd = s.upd := by simp [State.ev]
@[simp] theorem State.err_mem : (s.err page code off).mem = s.mem := by unfold State.err; dsimp only; split <;> rfl
@[simp] theorem State.err_bus : (s.err page code off).bus = s.bus := by unfold State.err; dsimp only; split <;> rfl
@[simp] theorem State.err_outs : (s.err page code off).outs = s.outs := by unfold State.err; dsimp only; split <;> rfl
@[simp] theorem State.err_free : (s.err page code off).free = s.free := by unfold State.err; dsimp only; split <;> rfl
@[simp] theorem State.err_pending : (s.err page code off).pending = s.pending := by unfold State.err; dsimp only; split <;> rfl
@[simp] theorem State.err_evcOwner : (s.err page code off).evcOwner = s.evcOwner := by unfold State.err; dsimp only; split <;> rfl
@[simp] theorem State.err_sys : (s.err page code off).sys = s.sys := by unfold State.err; dsimp only; split <;> rfl
@[simp] theorem State.err_pwr : (s.err page code off).pwr = s.pwr := by unfold State.err; dsimp only; split <;> rfl
@[simp] theorem State.err_saf : (s.err page code off).saf = s.saf := by unfold State.err; dsimp only; split <;> rfl
@[simp] theorem State.err_gates : (s.err page code off).gates = s.gates := by unfold State.err; dsimp only; split <;> rfl
@[simp] theorem State.err_chalFresh : (s.err page code off).chalFresh = s.chalFresh := by unfold State.err; dsimp only; split <;> rfl
@[simp] theorem State.err_act : (s.err page code off).act = s.act := by unfold State.err; dsimp only; split <;> rfl
@[simp] theorem State.err_mt : (s.err page code off).mt = s.mt := by unfold State.err; dsimp only; split <;> rfl
@[simp] theorem State.err_xe : (s.err page code off).xe = s.xe := by unfold State.err; dsimp only; split <;> rfl
@[simp] theorem State.err_te : (s.err page code off).te = s.te := by unfold State.err; dsimp only; split <;> rfl
@[simp] theorem State.err_rmts : (s.err page code off).rmts = s.rmts := by unfold State.err; dsimp only; split <;> rfl
@[simp] theorem State.err_stns : (s.err page code off).stns = s.stns := by unfold State.err; dsimp only; split <;> rfl
@[simp] theorem State.err_svc : (s.err page code off).svc = s.svc := by unfold State.err; dsimp only; split <;> rfl
@[simp] theorem State.err_rmc : (s.err page code off).rmc = s.rmc := by unfold State.err; dsimp only; split <;> rfl
@[simp] theorem State.err_crtFlush : (s.err page code off).crtFlush = s.crtFlush := by unfold State.err; dsimp only; split <;> rfl
@[simp] theorem State.err_pr : (s.err page code off).pr = s.pr := by unfold State.err; dsimp only; split <;> rfl
@[simp] theorem State.err_tim : (s.err page code off).tim = s.tim := by unfold State.err; dsimp only; split <;> rfl
@[simp] theorem State.err_bk : (s.err page code off).bk = s.bk := by unfold State.err; dsimp only; split <;> rfl
@[simp] theorem State.err_crt : (s.err page code off).crt = s.crt := by unfold State.err; dsimp only; split <;> rfl
@[simp] theorem State.err_er : (s.err page code off).er = s.er := by unfold State.err; dsimp only; split <;> rfl
@[simp] theorem State.err_lio : (s.err page code off).lio = s.lio := by unfold State.err; dsimp only; split <;> rfl
@[simp] theorem State.err_racks : (s.err page code off).racks = s.racks := by unfold State.err; dsimp only; split <;> rfl
@[simp] theorem State.err_ncp : (s.err page code off).ncp = s.ncp := by unfold State.err; dsimp only; split <;> rfl
@[simp] theorem State.err_emacs : (s.err page code off).emacs = s.emacs := by unfold State.err; dsimp only; split <;> rfl
@[simp] theorem State.err_upd : (s.err page code off).upd = s.upd := by unfold State.err; dsimp only; split <;> rfl

end Sys2Proof.Machine
end

