-- ==== Sys2Proof/Laws/Frame.lean ====
section
/-! SUPPORT. Frames of register updates: what a chain of writes, recorded errors and events leaves alone, and that a recorded error
and a raised event show. -/

namespace Sys2Proof.Machine

/-! Bits. -/

theorem nbit_eq_testBit (v i : Nat) : nbit v i = v.testBit i := by
  unfold nbit
  rw [Nat.testBit_eq_decide_div_mod_eq]
  cases h : decide (v / 2 ^ i % 2 = 1) <;> simp_all

@[simp] theorem nbit_set (v i : Nat) : nbit (nsetBit v i true) i = true := by
  unfold nsetBit
  split
  · assumption
  · rename_i h
    have hv : v / 2 ^ i % 2 = 0 := by
      have h1 : ¬ (v / 2 ^ i % 2 = 1) := by simpa [nbit] using h
      omega
    have h2 : 0 < 2 ^ i := Nat.two_pow_pos i
    simp only [nbit, if_true, Nat.add_div_right _ h2]
    simp
    omega

theorem nbit_mod (v i w : Nat) (h : i < w) : nbit (v % 2 ^ w) i = nbit v i := by
  simp [nbit_eq_testBit, Nat.testBit_mod_two_pow, h]

@[simp] theorem nbit_clear (v i : Nat) : nbit (nsetBit v i false) i = false := by
  unfold nsetBit
  split
  · assumption
  · rename_i h
    have h1 : v / 2 ^ i % 2 = 1 := by simpa [nbit] using h
    have h2 : 0 < 2 ^ i := Nat.two_pow_pos i
    have h3 : 2 ^ i ≤ v := by
      by_cases hlt : v < 2 ^ i
      · simp [Nat.div_eq_of_lt hlt] at h1
      · omega
    have h4 : (v - 2 ^ i) / 2 ^ i = v / 2 ^ i - 1 := by
      simpa using Nat.sub_mul_div v (2 ^ i) 1
    simp only [nbit, Bool.false_eq_true, if_false, h4]
    simp
    omega

/-! A state that differs in registers alone. -/

variable {s t : State} {K : List Nat}

theorem State.RegsAlone.refl (s : State) : s.RegsAlone s := rfl

theorem State.RegsAlone.trans {v : State} (h : s.RegsAlone t) (h' : t.RegsAlone v) : s.RegsAlone v := by
  unfold State.RegsAlone at *
  rw [h'.trans (congrArg (fun x : State => { x with regs := v.regs }) h)]

theorem State.RegsAlone.wr (h : s.RegsAlone t) (r : Row) (v k u m : Nat) : s.RegsAlone (t.wr r v k u m) := h.trans rfl

theorem State.RegsAlone.err (h : s.RegsAlone t) (page code off : Nat) : s.RegsAlone (t.err page code off) :=
  h.trans (by unfold State.err; dsimp only; split <;> rfl)

theorem State.RegsAlone.evLevel (h : s.RegsAlone t) (p bit : Nat) (b : Bool) : s.RegsAlone (t.evLevel p bit b) :=
  h.trans (by unfold State.evLevel; dsimp only; split <;> rfl)

theorem State.RegsAlone.ev (h : s.RegsAlone t) (p bit : Nat) : s.RegsAlone (t.ev p bit) := (h.evLevel p bit true).evLevel p bit false

theorem State.RegsAlone.ite {c : Prop} [Decidable c] {v : State} (h : s.RegsAlone t) (h' : s.RegsAlone v) :
    s.RegsAlone (if c then t else v) := by split <;> assumption

/-! Register frames. -/

theorem State.RegsBut.ite {c : Prop} [Decidable c] {v : State} (h : s.RegsBut t K) (h' : s.RegsBut v K) :
    s.RegsBut (if c then t else v) K := by split <;> assumption

theorem State.RegsBut.err (h : s.RegsBut t K) (page code off : Nat) (hk : errKeys page ⊆ K) : s.RegsBut (t.err page code off) K := by
  unfold State.err
  dsimp only
  have h0 := hk (List.mem_cons_self ..)
  have h1 := hk (List.mem_cons_of_mem _ (List.mem_cons_self ..))
  have h2 := hk (List.mem_cons_of_mem _ (List.mem_cons_of_mem _ (List.mem_cons_self ..)))
  split
  · exact (h.wr _ _ _ _ _ h0).wr _ _ _ _ _ h1
  · exact h.wr _ _ _ _ _ h2

theorem State.RegsBut.evLevel (h : s.RegsBut t K) (p bit : Nat) (b : Bool) (hk : evKeys p ⊆ K) : s.RegsBut (t.evLevel p bit b) K := by
  have h0 := hk (List.mem_cons_self ..)
  have h1 := hk (List.mem_cons_of_mem _ (List.mem_cons_self ..))
  unfold State.evLevel
  dsimp only
  split
  · exact (h.wr _ _ _ _ _ h0).wr _ _ _ _ _ h1
  · exact h.wr _ _ _ _ _ h0

theorem State.RegsBut.ev (h : s.RegsBut t K) (p bit : Nat) (hk : evKeys p ⊆ K) : s.RegsBut (t.ev p bit) K :=
  (h.evLevel p bit true hk).evLevel p bit false hk

/-! Errors and events show. -/

theorem State.err_recorded (s : State) (page code off : Nat) (hc : code < 256) (ho : off < 4096) : s.Recorded (s.err page code off) page code off := by
  unfold State.Recorded
  split
  · rename_i h
    rw [State.err_first _ _ _ _ h, State.rd_wr_place _ R.H_ERR_OFFSET R.H_ERR_CODE _ _ _ _ _ _ _ (by decide), State.rd_wr_self, State.rd_wr_self]
    exact ⟨Nat.mod_eq_of_lt hc, Nat.mod_eq_of_lt ho⟩
  · rename_i h
    rw [State.err_more _ _ _ _ h, State.rd_wr_place _ R.H_ERR_MORE R.H_ERR_CODE _ _ _ _ _ _ _ (by decide),
      State.rd_wr_place _ R.H_ERR_MORE R.H_ERR_OFFSET _ _ _ _ _ _ _ (by decide), State.rd_wr_self]
    exact ⟨rfl, rfl, rfl⟩

theorem State.err_refused (s : State) (page code off : Nat) (hc : code < 256) (ho : off < 4096) : s.Refused (s.err page code off) page code off :=
  ⟨s.err_recorded page code off hc ho, (State.RegsBut.refl s _).err _ _ _ (List.Subset.refl _), (State.RegsAlone.refl s).err _ _ _⟩

theorem State.evLevel_rose (s : State) (p bit : Nat) (h : bit < 32) : s.Rose (s.evLevel p bit true) p bit := by
  intro h0
  simp only [State.evLevel, h0, Bool.not_false, Bool.and_self, if_true, State.rd_wr_self]
  show nbit (_ % 2 ^ 32) bit = true
  rw [nbit_mod _ _ _ h, nbit_set]

theorem State.evLevel_down (s : State) (p bit : Nat) : (s.evLevel p bit false).rd R.H_EVSTAT 0 p = s.rd R.H_EVSTAT 0 p := by
  simp only [State.evLevel, Bool.false_and]
  exact State.rd_wr_place _ _ _ _ _ _ _ _ _ _ (by decide)

theorem State.ev_rose (s : State) (p bit : Nat) (h : bit < 32) : s.Rose (s.ev p bit) p bit := by
  intro h0
  rw [State.ev, State.evLevel_down]
  exact s.evLevel_rose p bit h h0

end Sys2Proof.Machine
end

