-- ==== Sys2Proof/WellFormed.lean ====
section
/-! DEFINITION. Which commands are well formed. -/

namespace Sys2Proof

/-- The command is one that can be given: its lists have the lengths its frame or register has, and its numbers lie in their ranges. -/
def Instr.wf : Instr → Bool
  | .registerWrite _ _ _ _ => true
  | .errinfoRead _ _ => true
  | .rcCounterRead _ _ _ => true
  | .ctrlEnWrite _ _ _ => true
  | .softReset _ _ => true
  | .lockKeyWrite _ _ _ => true
  | .evforceWrite _ _ _ => true
  | .startUpComplete _ => true
  | .drainingComplete _ => true
  | .drainingTimeout _ => true
  | .unitFault _ => true
  | .evcClaim _ _ => true
  | .evcComplete _ _ => true
  | .fabricAccess _ _ k a n d => decide (1 ≤ n.toNat ∧ n.toNat ≤ 4096 ∧ a.toNat + n.toNat ≤ 2 ^ 36) && (match k with | .write | .amo | .sc => d.data.length == n.toNat | .read | .fetch | .lr => d.data.length == 0)
  | .feedGood => true
  | .aonSupplyLost => true
  | .resetAssert _ => true
  | .resetRelease => true
  | .startStepComplete _ _ _ => true
  | .endOfStart => true
  | .recoveryService => true
  | .startTimeout => true
  | .modecmdToLead _ _ _ => true
  | .modecmdToTrack _ _ _ => true
  | .modecmdToHold _ _ _ => true
  | .modecmdToService _ _ _ => true
  | .modecmdToStartOrDormant _ _ _ _ => true
  | .rstcmd _ _ _ => true
  | .keySwitchChange _ => true
  | .powerFailWarning => true
  | .powerFailClear => true
  | .powerFailHold => true
  | .flushOnlyEnd => true
  | .feedsReturn => true
  | .feedLow _ _ => true
  | .feedMeanUpdate _ _ => true
  | .holdupStoreCharged => true
  | .plyTrigger _ _ => true
  | .classCfgWrite _ _ _ _ => true
  | .freezeComplete => true
  | .executeComplete => true
  | .commitComplete => true
  | .flagFall _ => true
  | .mirrorWaitTimeout _ _ => true
  | .eventTaskTrigger _ => true
  | .etTrigWrite _ _ => true
  | .eventTaskStart _ => true
  | .scheduleFault _ _ _ => true
  | .xeLockstepError _ _ _ => true
  | .activate _ _ => true
  | .lsInject _ _ => true
  | .smVerify _ _ => true
  | .smVerifyComplete => true
  | .smArm _ _ => true
  | .smCancel _ => true
  | .switchBegin => true
  | .switchEnd => true
  | .sealLapse => true
  | .switchMarkerReceived => true
  | .forceTableWrite _ => true
  | .forceTableRead _ => true
  | .forceApply => true
  | .tePass _ => true
  | .teTimerExpiry _ => true
  | .teCompareMismatch => true
  | .teBurstComplete _ => true
  | .teLock _ _ _ => true
  | .teLockComplete => true
  | .teUnlock _ _ => true
  | .teCfgdataAccess _ _ _ => true
  | .reflexFrameReceived _ _ _ _ _ _ _ _ => true
  | .reflexInputTimeout _ => true
  | .reflexSend => true
  | .cycleStart => true
  | .clockCorrection => true
  | .dataFrameReceived f => decide (f.bytes.length ≤ 267)
  | .nullFrameReceived f => decide (f.bytes.length ≤ 267)
  | .syncFrameReceived f => decide (f.bytes.length ≤ 267)
  | .csfReceived f => decide (f.bytes.length ≤ 267)
  | .beaconReceived f => decide (f.bytes.length ≤ 267)
  | .serviceFrameReceived f => decide (f.bytes.length ≤ 267)
  | .strayFrame _ _ _ => true
  | .outSlotSend _ _ _ => true
  | .moduleSlotSend => true
  | .serviceDownlinkSend _ _ => true
  | .listenTimeout => true
  | .coldstartCycleEnd => true
  | .backoffEnd => true
  | .guardianBlock _ _ => true
  | .guardianCut _ _ => true
  | .guardianReopen _ _ => true
  | .stationEvaluation _ _ => true
  | .serviceQueue _ _ _ _ => true
  | .downlinkResend _ _ => true
  | .heartbeatSend => true
  | .heartbeatReceived _ _ => true
  | .heartbeatMissing _ => true
  | .heartbeatsLost100us => true
  | .partnerLost => true
  | .partnerDetectionTimeout => true
  | .plFrameBad _ => true
  | .plLinkDown _ => true
  | .plLinkUp _ => true
  | .mirrorRangeFinal _ => true
  | .mirrorReceived _ _ _ _ o _ _ d => decide (1 ≤ d.length ∧ d.length ≤ 4096 ∧ o.toNat + d.length ≤ 2 ^ 25)
  | .ackReceived _ _ _ _ _ => true
  | .bulkReceived _ o d => decide (1 ≤ d.length ∧ d.length ≤ 4096 ∧ o.toNat + d.length ≤ 2 ^ 25)
  | .fwdReceived _ _ => true
  | .mirrorEscape _ _ _ => true
  | .mlCheck _ => true
  | .mldataAccess _ _ _ => true
  | .syncCmdJoin _ => true
  | .joinPhaseComplete => true
  | .joinFail c => decide (1 ≤ c.toNat ∧ c.toNat ≤ 4)
  | .pairCycleEnd => true
  | .castleCmdReq _ _ => true
  | .castleReceived _ _ => true
  | .castlingHandover => true
  | .castlingNoGap => true
  | .handoverReceived _ _ p n i _ => p.length == 3 && n.length == 3 && i.length == 3
  | .timeSnapshot _ => true
  | .mtRead _ => true
  | .ntRead _ => true
  | .ntincWrite _ _ => true
  | .ntSet _ => true
  | .ntStep _ _ => true
  | .ntStepApply => true
  | .ntWrap => true
  | .ntLockedWrite _ _ => true
  | .compareMatch _ _ => true
  | .capture _ _ => true
  | .ppsPulseEnd _ => true
  | .ppsInputMissing => true
  | .timePortFault _ => true
  | .tsPop _ _ _ => true
  | .bkChangeover _ => true
  | .backupStateLost => true
  | .bkWriteTaken => true
  | .rtcSecond => true
  | .rtcSnapshot _ => true
  | .rtcSecWrite _ _ => true
  | .rtcCommit => true
  | .rtcTrim => true
  | .eviEdge _ _ => true
  | .opsecTick => true
  | .bkValidate _ => true
  | .coulombTake _ => true
  | .cellLoadTest _ => true
  | .loadTestComplete _ _ => true
  | .cartridgeInsert c => c.ident.length == 128 && c.dir.length == 5
  | .cartridgeIdentify _ => true
  | .journalEntryWritten => true
  | .ckptCommand _ => true
  | .checkpointComplete => true
  | .crtFlushComplete => true
  | .cartridgeRelease _ => true
  | .cartridgeRemoved => true
  | .cartridgeContactBreak => true
  | .cartridgeFormat _ _ => true
  | .cartridgeAdopt _ _ => true
  | .nandRead _ => true
  | .nandProgram _ => true
  | .nandErase _ => true
  | .nandOpComplete _ _ _ _ => true
  | .erWriteRequest _ _ => true
  | .seqnextWrite _ _ => true
  | .erSectorProgram _ => true
  | .erFlush => true
  | .erFlushComplete => true
  | .erCursorOldest _ => true
  | .erCursorNewest _ => true
  | .erCursorSeek _ => true
  | .erNext _ => true
  | .erCursorMoveComplete _ => true
  | .clrtokenRead _ => true
  | .clearTokenExpiry => true
  | .erClr _ _ _ => true
  | .erClearComplete => true
  | .lioGroupSample _ _ => true
  | .readbackMismatch _ => true
  | .openLoad _ _ => true
  | .currentLimit _ => true
  | .thermalShutdown _ => true
  | .thermalCool _ => true
  | .dqclr _ _ => true
  | .fieldSupplyChange _ _ _ _ => true
  | .seatedOpen _ => true
  | .seatedMade _ => true
  | .rbBusIdle _ => true
  | .rbObjWrite _ _ => true
  | .rbObjRead _ _ => true
  | .rbObjLoad _ _ => true
  | .rbTxRequest _ _ _ _ => true
  | .rbTxCancel _ _ _ _ => true
  | .rbTxStart _ => true
  | .rbTxSuccess _ => true
  | .rbTxError _ _ _ _ _ => true
  | .rbFrameReceived _ f _ => decide (f.data.length ≤ 64)
  | .rbRxSelect _ _ _ _ => true
  | .rbRxAck _ _ _ _ => true
  | .rbBusOff _ => true
  | .rbBusoffRecovery _ => true
  | .gateCmdWrite _ => true
  | .gateCmdRead _ => true
  | .dbgNewchal _ => true
  | .dbgUnlock _ => true
  | .dbgRelock _ => true
  | .dbgReset _ => true
  | .dbgHalt _ _ => true
  | .dbgResume _ _ => true
  | .ncpHello _ _ _ => true
  | .ncpFinish _ => true
  | .ncpKeepalive _ => true
  | .ncpBye _ => true
  | .ncpIdent _ => true
  | .ncpCartid _ => true
  | .ncpReadvar _ => true
  | .ncpWritevar _ => true
  | .ncpStop _ => true
  | .ncpRestart _ => true
  | .ncpJoin _ => true
  | .ncpCastle _ => true
  | .ncpEnterService _ => true
  | .ncpLeaveService _ => true
  | .ncpReset _ => true
  | .ncpPkgload _ => true
  | .ncpVerify _ => true
  | .ncpSeal _ => true
  | .ncpUnseal _ => true
  | .ncpForce _ => true
  | .ncpForcelist _ => true
  | .ncpImgload _ _ => true
  | .ncpImgstat _ => true
  | .ncpErread _ => true
  | .ncpErclear _ => true
  | .ncpAdopt _ => true
  | .ncpCartformat _ => true
  | .ncpAcyc _ => true
  | .ncpPubkey _ => true
  | .acycTimeout _ _ => true
  | .publish _ => true
  | .publicationKeyRotate => true
  | .helloTimeout _ => true
  | .sessionTimeout _ => true
  | .transferTimeout _ _ => true
  | .emacFrameReceived _ f => decide (f.bytes.length ≤ 1522)
  | .emacTxkick _ _ => true
  | .emacFrameSent _ _ => true
  | .emacLinkChange _ _ _ _ => true
  | .updBlockSubmit _ _ => true
  | .updVerifyComplete => true
  | .updCancel _ => true
  | .updUnpend _ _ => true
  | .coreLockstepError _ _ => true
  | .uncorrectableEcc _ _ => true
  | .clockMonitorFault _ => true
  | .voltageMonitorFault _ _ => true
  | .temperatureFault => true
  | .safeStateReadbackFault => true
  | .safChannelMismatch => true
  | .diagPassStart => true
  | .diagPassComplete _ _ => true
  | .eccCountSecond _ => true
  | .watchdogService _ _ => true
  | .watchdogPreExpiry _ => true
  | .watchdogExpiry _ => true
  | .watchdogKeyTimeout _ => true
  | .safInject _ => true
  | .activationComplete => true
  | .rbReceiveError _ _ _ _ => true
  | .ppsInputEdge => true

end Sys2Proof
end

