-- ==== Sys2Proof/Tests/Slice0.lean ====
section
/-! SUPPORT. Tests: ill-formed commands, commands on small states, and states that meet the hypotheses of the statements. -/

namespace Sys2Proof.Tests

open Machine

set_option Elab.async false

/-! Small states. -/

/-- A module in a mode, its reset released. -/
def run (mode : Nat) : State := { State.reset.wr R.SYS_MODE_MODE mode with sys := { State.reset.sys with resetHeld := false } }
/-- A lead whose execution engine is ON. -/
def lead : State := (run 3).setUnit 0x10 2
/-- START, after the release, at a step. -/
def start (step : Nat) : State := (run 1).wr R.SYS_STARTSTEP_STEP step
/-- A lead with ply or event task `w` in a phase. -/
def inPhase (w phase : Nat) : State := lead.modPly w fun p => { p with phase := phase }
/-- A module with both pair links up and a partner. -/
def paired (mode : Nat) : State := (((((run mode).setUnit 0x38 2).setUnit 0x39 2).wr R.PL_STAT_UP 1 0 0).wr R.PL_STAT_UP 1 0 1).wr R.PAIR_STAT_PARTNER 1
/-- A synchronised pair's lead, and its TRACK module. -/
def pairLead : State := (paired 3).wr R.PAIR_STAT_PSYNC 1
def pairTrack : State := ((paired 2).wr R.PAIR_STAT_SYNC 1).wr R.SYS_MODE_SYNC 1
/-- An enabled class whose next trigger is at an MT, on its own compare channel. -/
def classed (n at_ : Nat) : State := (lead.wr R.XE_CLS_CFG_EN 1 n).modPly n fun p => { p with next := some at_ }
/-- A class in COMMIT, whose commit list names one mailbox. -/
def committing : State :=
  ((((inPhase 0 5).wrLe (moveBase 0 + 0x50) 4 listNone).wrLe (moveBase 0 + 0x4C) 4 0x40).wrLe (constBase 0 + 0x40) 4 1).wbs (constBase 0 + 0x48) [2, 3, 2, 0]
/-- An armed seal of class C1 whose ply has ended. -/
def armed (mode : Nat) : State := (({ run mode with mt := 0 }.setUnit 0x10 2).wr R.XE_SM_STAT_STATE 3).wr R.XE_SM_CLS 1
/-- The base image's windows of a work's partition are off: the mirror lists need to cover nothing. -/
def noWin (s : State) (w : Nat) : State :=
  (upTo 4).foldl (fun s c => s.wrLe (moveBase 0 + 0x40 + 32 * mainPart w + 0x10 + 4 * c) 4 listNone) s
/-- Class C1 in EXECUTE, its next row two lane clocks on. -/
def executing : State := (lead.modPly 0 fun p => { p with phase := 3, base := 2 }).setSeq 0 { lead.seq 0 with ended := false }
/-- Power-fail warning noted: source 5 asserts. -/
def pfw : State := State.reset.wr R.H_EVSTAT 1 0 0x01
/-- A running trip engine with its store locked. -/
def tripping : State := ((run 3).setUnit 0x18 2).wr R.TE_CFGSTAT_LOCKED 1
/-- One slot of each kind on segment 0: station 3's in-slot and out-slot, the two modules' and the service slot. -/
def sched : List Slot := [⟨1600, 0, 0, 3, true, false, 32, 3⟩, ⟨3000, 0, 1, 3, false, false, 32, 3⟩, ⟨5000, 0, 2, 0, false, false, 16, 3⟩, ⟨6000, 0, 3, 0, false, false, 16, 3⟩, ⟨7000, 0, 4, 0, false, false, 64, 3⟩]
/-- Segment 0 takes part in cycle `cyc`, which started at MT 1,000,000 ns, in cluster state `c`; a TRACK module at side A. -/
def bus (c cyc : Nat) : State :=
  let s := ((run 2).setUnit 0x20 2).wr R.RMT_CFG_CHEN 3 0 0
  let s := s.setRmt 0 { s.rmt 0 with joined := true, rounds := 8, slots := sched, mini := (upTo 48).map (· % 8) }
  (({ s with mt := 1000000, rmc := { s.rmc with start := 1000000 } }.wr R.RMC_STAT_CSTATE c).wr R.RMC_STAT_CYCLE cyc).wr R.RMC_STAT_ROUNDS 8
/-- A frame of segment 0, channel A, that starts `late` ns after it is due in slot `n`. -/
def framed (n cyc type late : Nat) (pay : List (BitVec 8)) : Frame :=
  ⟨0, false, BitVec.ofNat 64 (1000000 + (sched.getD n ⟨0, 0, 0, 0, false, false, 0, 0⟩).at_ + 1900 + late), true, true, longFrame 0 n cyc type 0 pay⟩
def zeros (n : Nat) : List (BitVec 8) := List.replicate n 0
/-- The partner's HEARTBEAT was heard before. -/
def heard (s : State) : State := { s with pr := { s.pr with heard := true } }
/-- One mirror list of a single 64-byte line at offset 0, writer C1. -/
def mirrorList : SMap Nat := smSet 0 (smSet 0 (smSet 0 (smSet 0 [] 0 1) 5 64) 6 1) 4 0
/-- An ACTIVE cartridge of type BC-1, and a running event recorder with a record of eight words queued. -/
def carted : State := (lead.wr R.CRT_STAT_STATE 3).wr R.CRT_STAT_TYPE 1
def record : List Nat := [8 * 2 ^ 24 + 3 * 2 ^ 20 + 2 ^ 16, 0, 1, 0, 0, 0, 0, 0]
def recording (units : Nat) : State :=
  let s := (carted.setUnit 0x51 2).wr R.ER_UNITS units
  { s with er := { s.er with queue := [record] } }
/-- Unit `u` of the unit table is in state `st`, with highest severity `hi`. -/
def unitAs (s : State) (u hi st : Nat) : State := s.unitSet u 0 hi st
/-- Local inputs and outputs ON. -/
def local_ : State := lead.setUnit 0x58 2
/-- Rack-bus controller 0 ON. -/
def racked : State := lead.setUnit 0x60 2
def canFrame (fdf : Bool) : CanFrame := ⟨0x123, false, false, fdf, false, false, 0, []⟩
/-- One region of a gate lets every master do everything in it. -/
def gateAll (s : State) (g base bytes : Nat) : State :=
  { s with gates := smSet GateEntry.none s.gates (16 * g) ⟨base / 64, (base + bytes) / 64 - 1, 2 ^ 64 - 1, 7, 7, 0, false, false, false, true⟩ }
/-- Firmware serves NCP in LEAD, with one open session of a role; a request in it with the right tag. -/
def sess (role : Nat) : Sess :=
  { id := 1, mac := 2, host := 7, role := role, opened := true, h := 100, seen := [100, 99], cache := [], h2m := 5, m2h := 6, wrap := 9, transcript := [], hostKey := 3, since := 0 }
def served (role : Nat) : State := { lead.setUnit 0x43 2 with ncp := { lead.ncp with sess := [sess role] } }
def req (cmd : Nat) (pay : List (BitVec 8)) : NcpReq :=
  let q : NcpReq := ⟨2, 7, 0x4E43, 3, 0, 0, 1, 101, 0, 0, BitVec.ofNat 16 pay.length, 0, 0, pay, 0⟩
  { q with tag := BitVec.ofNat 128 (ncpTag 5 (reqBytes q cmd)) }
theorem tag_lt (key : Nat) (bs : List (BitVec 8)) : ncpTag key bs < 2 ^ 128 := by
  unfold ncpTag
  omega
theorem served_session (role : Nat) : (served role).session 1 = some (sess role) := by simp [served, State.session, sess]
theorem served_admits (role cmd : Nat) : (served role).Admits (req cmd []) cmd (sess role) := by
  refine ⟨rfl, ?_⟩
  refine ⟨⟨rfl, rfl, rfl, rfl, rfl, by simp [req], by simp [req]⟩, served_session role, rfl, ?_, by simp [sess], by simp [sess, req]⟩
  simp only [req, BitVec.toNat_ofNat]
  exact Nat.mod_eq_of_lt (tag_lt _ _)
/-- A MAC in use, with one descriptor of 1,536 bytes in each ring. -/
def netted : State :=
  let s := (((((lead.setUnit 0x41 2).wr R.EMAC_MACCFG_RXEN 1).wr R.EMAC_MACCFG_PROMISC 1).wr R.EMAC_MACCFG_TXEN 1).wr R.EMAC_RXBASELO 0x2000000).wr R.EMAC_TXBASELO 0x2000100
  let s := ((s.wr R.EMAC_RXSIZE 1).wr R.EMAC_TXSIZE 1).wbs 0x80000000 (leBytes 8 0x80100000 ++ leBytes 2 1536 ++ leBytes 2 0x8000)
  s.wbs 0x80004000 (leBytes 8 0x80200000 ++ leBytes 2 60 ++ leBytes 2 0x8000)
/-- A frame to all stations, and a PTP message over Ethernet. -/
def plainFrame : EthFrame := ⟨0, List.replicate 12 0xFF ++ [8, 6] ++ List.replicate 46 0, false⟩
def ptpFrame : EthFrame := ⟨0, List.replicate 12 0xFF ++ [0x88, 0xF7, 0, 2, 0, 44] ++ List.replicate 60 0, false⟩

/-! Every check of `Instr.wf` refuses a command that breaks it and takes one at its limit. -/

theorem test_wf_access :
    Instr.wf (.fabricAccess 0 true .read 0 0 ⟨[], 0⟩) = false ∧ Instr.wf (.fabricAccess 0 true .read 0 4097 ⟨[], 0⟩) = false ∧
    Instr.wf (.fabricAccess 0 true .read 0xFFFFFFFFF 2 ⟨[], 0⟩) = false ∧ Instr.wf (.fabricAccess 0 true .read 0 4 ⟨[1], 0⟩) = false ∧
    Instr.wf (.fabricAccess 0 true .write 0 4 ⟨[1], 0⟩) = false ∧ Instr.wf (.fabricAccess 0 true .write 0xFFFFFFFFF 1 ⟨[1], 0⟩) = true := by decide +kernel
theorem test_wf_frames :
    (frameRows ⟨0, false, 0, true, true, zeros 268⟩).all (fun c => !c.wf) = true ∧ (frameRows ⟨0, false, 0, true, true, zeros 267⟩).all Instr.wf = true ∧
    Instr.wf (.emacFrameReceived 0 ⟨0, zeros 1523, false⟩) = false ∧ Instr.wf (.emacFrameReceived 0 ⟨0, zeros 1522, false⟩) = true ∧
    Instr.wf (.rbFrameReceived 0 ⟨0, false, false, true, false, false, 15, zeros 65⟩ 0) = false ∧
    Instr.wf (.rbFrameReceived 0 ⟨0, false, false, true, false, false, 15, zeros 64⟩ 0) = true := by decide +kernel
theorem test_wf_pair :
    Instr.wf (.mirrorReceived 0 1 0 0 0 0 false []) = false ∧ Instr.wf (.mirrorReceived 0 1 0 0 0x1FFFFFF 0 false [1, 2]) = false ∧
    Instr.wf (.mirrorReceived 0 1 0 0 0x1FFFFFE 0 false [1, 2]) = true ∧
    Instr.wf (.bulkReceived 0 0 []) = false ∧ Instr.wf (.bulkReceived 0 0x2000000 [1]) = false ∧ Instr.wf (.bulkReceived 0 0x1FFFFFF [1]) = true ∧
    Instr.wf (.joinFail 0) = false ∧ Instr.wf (.joinFail 5) = false ∧ Instr.wf (.joinFail 4) = true ∧
    Instr.wf (.handoverReceived 0 false [1, 2] [1, 2, 3] [false, false, false] 0) = false ∧
    Instr.wf (.handoverReceived 0 false [1, 2, 3] [1, 2, 3] [false, false, false] 0) = true := by decide +kernel
theorem test_wf_cartridge :
    Instr.wf (.cartridgeInsert ⟨zeros 127, [], [], List.replicate 5 TypeDir.empty, []⟩) = false ∧
    Instr.wf (.cartridgeInsert ⟨zeros 128, [], [], [], []⟩) = false ∧
    Instr.wf (.cartridgeInsert ⟨zeros 128, [], [], List.replicate 5 TypeDir.empty, []⟩) = true := by decide +kernel

/-! One command on a small state; what to expect comes from the worked examples of the spec. -/

/-- The state that a command leaves; no meaning stops. -/
def after (c : Instr) (s : State) : State := match exec c s with | .next t => t | .fault _ => State.reset | .refused _ => State.reset

/-- 02 Table 2.6, t1 and t2. -/
def drainingRmt04 : State := (lead.setUnit 0x24 3).wr R.H_CTRL_EN 0 0 0x24
theorem test_enable_while_draining_waits :
    (after (.ctrlEnWrite 0 0x24 true) drainingRmt04).rd R.H_EN_PENDING 0 0x24 = 1 ∧ (after (.ctrlEnWrite 0 0x24 true) drainingRmt04).unit 0x24 = 3 := by decide +kernel
theorem test_disable_cancels_the_pending_enable :
    (after (.ctrlEnWrite 0 0x24 false) (after (.ctrlEnWrite 0 0x24 true) drainingRmt04)).rd R.H_EN_PENDING 0 0x24 = 0 := by decide +kernel

/-- 03 Table 3.7: D from the last sealed entry (10:15:20 and 0.875 s) to the restore (10:15:23 and 0.625 s). -/
theorem test_warm_restart_gap :
    ({ State.reset.wr R.BKD_STAT_RTC_VALID 1 with bk := { State.reset.bk with cal := ⟨26, 1, 1, 10, 15, 23⟩, base := 20480 } } : State).warmD
      (Cal.seconds ⟨26, 1, 1, 10, 15, 20⟩) 28672 = some 2750000 := by decide +kernel

/-- 04 Table 4.4: the flag fall of t1, and the skipped trigger of t3. -/
def longPly : State := noWin ((classed 2 0).modPly 2 fun p => { p with phase := 3, num := 40 }) 2
theorem test_flag_fall :
    (after (.flagFall 2) longPly).rd R.XE_CLS_FF_CONSEC 2 = 1 ∧ (after (.flagFall 2) longPly).flag R.XE_CLS_STAT_SKIPNEXT 2 = true := by decide +kernel
theorem test_skipped_trigger :
    (after (.plyTrigger 2 0) ((classed 2 1000000000).wr R.XE_CLS_STAT_SKIPNEXT 1 2)).rd R.XE_CLS_SKIP_SKIPS 2 = 1 ∧
    ((after (.plyTrigger 2 0) ((classed 2 1000000000).wr R.XE_CLS_STAT_SKIPNEXT 1 2)).ply 2).phase = 0 := by decide +kernel

/-- 05 Table 5.9, rows 1 and 13: the fields of the encoded moves. -/
theorem test_move_fields :
    mvOp 0x1500C000000040001000000000006000 = 0x15 ∧ mvDst 0x1500C000000040001000000000006000 = 0xC0000000 ∧
    mvA 0x1500C000000040001000000000006000 = 0x40001000 ∧ mvType 0x1500C000000040001000000000006000 = 6 ∧ opLat 0x15 6 = 12 ∧
    mvDst 0x1200C0000001C0000000800001106000 = 0xC0000001 ∧ mvA 0x1200C0000001C0000000800001106000 = 0xC0000000 ∧
    mvB 0x1200C0000001C0000000800001106000 = 0x80000110 ∧ opLat 0x12 6 = 4 ∧ opLat 0x1A 6 = 2 := by decide +kernel
/-- 06 Table 6.6: the sum of A (GOOD, 380 µs) and B (UNCERTAIN 0x01, 4,210 µs), with the ages that t2 gives them. -/
theorem test_ages_at_freeze : ageAt 0 7000310000 6996100000 = 4210 ∧ ageAt 20 7000310000 6999950000 = 380 := by decide +kernel
theorem test_sum_takes_the_worst_tag :
    tvResult 0x10 6 0 0 0 (mkTv (f64.ofInt 2) (mkQ 2 0 0 0) 380) (mkTv (f64.ofInt 3) (mkQ 1 1 0 0) 4210) true = mkTv (f64.ofInt 5) (mkQ 1 1 0 0) 4210 := by
  decide +kernel

/-- 07, before Table 7.5: T_SW of 2,500 descriptors with 9,100 destination lines is 175.6 µs; here 25 with 91. -/
theorem test_switch_time :
    tswOf (List.replicate 9 ⟨0, 0, 64 * 3, 0, 0, 0⟩ ++ List.replicate 16 ⟨0, 0, 64 * 4, 0, 0, 0⟩) = 10000 + 8 * 25 + 16 * 91 := by decide +kernel

/-- 08 R176: a word of the store written while LOCKED is 1 is ignored with code 0x31. -/
theorem test_locked_store :
    (after (.registerWrite 0 0x18 0x43 7) tripping).te.store = [] ∧ (after (.registerWrite 0 0x18 0x43 7) tripping).rd R.H_ERR_CODE 0 0x18 = 0x31 := by decide +kernel

/-- 09 Table 9.11: slots 0 and 2–9 of round 0, and the SERVICE slot of round 1. -/
theorem test_slot_times :
    frameNs 96 = 8800 ∧ (Slot.mk 1600 0 2 0 false false 16 3).end_ + (Slot.mk 0 0 3 0 false false 16 3).ns = 26800 ∧
    26800 + 8 * (Slot.mk 0 0 0 0 false false 96 3).ns = 121200 ∧ (Slot.mk 1600 1 4 0 false false 128 3).end_ = 125000 + 16000 + 14360 := by decide +kernel
theorem test_frame_is_taken :
    ((after (.dataFrameReceived (framed 0 1 1 0 (zeros 32))) (bus 5 1)).stn 0 3).valid = 1 ∧
    ((after (.dataFrameReceived (framed 0 1 1 501 (zeros 32))) (bus 5 1)).stn 0 3).valid = 0 := by decide +kernel

/-- 10 Table 10.6, t3: the third miss of a station in OPERATE. -/
def twoMisses : State := ((((bus 5 1).wr R.RMT_ST_STATE 3 3 0).wr R.RMT_ST_MISS 2 3 0).wr R.RMT_CFG_LOSTN 3 0 0).wr R.RMT_ST_OUTEN 1 3 0
theorem test_third_miss_loses_the_station :
    (after (.stationEvaluation 0 3) twoMisses).rd R.RMT_ST_STATE 3 0 = 4 ∧ (after (.stationEvaluation 0 3) twoMisses).rd R.RMT_ST_OUTEN 3 0 = 0 := by decide +kernel

/-- 21 Table 21.5, t8: module B claims 0x0000_0011 from epoch 7. -/
theorem test_claim_number : ((({ run 2 with pr := State.reset.pr }.wr R.PAIR_EPOCH 7).wr R.SYS_SLOT_SIDE 1).makeClaim 1 0).rd R.PAIR_CLAIMLO = 0x11 := by decide +kernel

/-- 12 Table 12.1, t0: a step above NTSTEPMAX. -/
def locked : State := ((lead.wr R.TIM_NTCTL_LOCKED 1).wr R.TIM_NTSTEP_VAL 3200000).wr R.TIM_NTSTEPMAX 1000000
theorem test_step_above_the_limit :
    (after (.ntStep 0 false) locked).flag R.TIM_NTSTAT_JUMP = true ∧ (after (.ntStep 0 false) locked).tim.steps = [] ∧
    nbit ((after (.ntStep 0 false) locked).rd R.H_EVSTAT 0 0x40) 10 = true := by decide +kernel

/-- 13 Table 13.2: 2031-06-14 is a Saturday. -/
theorem test_weekday : Cal.wday ⟨31, 6, 14, 8, 30, 0⟩ = 6 := by decide +kernel

/-- 14 Table 14.7, t1: the release writes superblock STATE 2. -/
theorem test_release :
    (after (.cartridgeRelease 0) carted).rd R.CRT_STAT_STATE = 5 ∧ (after (.cartridgeRelease 0) carted).mr (sbOff 0 + 6) 2 = 2 := by decide +kernel

/-- 15 Table 15.5, steps 1 and 3: units U1 (HISEV 2), U2 (6), U3 (3) and U4 (1), oldest first. -/
def reclaiming (sev : Nat) : State :=
  let s := (carted.setUnit 0x51 2).wr R.ER_UNITS 4
  let s := { s with er := { s.er with queue := [[8 * 2 ^ 24 + sev * 2 ^ 20 + 2 ^ 16, 0, 50, 0, 0, 0, 0, 0]] } }.wr R.ER_SEQNEXT 51
  (((s.unitSet 0 1 2 2).unitSet 1 10 6 2).unitSet 2 20 3 2).unitSet 3 30 1 2
theorem test_reclaim_takes_the_oldest_below :
    (after (.erSectorProgram true) (reclaiming 4)).er.unit = some 0 ∧ (after (.erSectorProgram true) (reclaiming 2)).er.unit = some 3 := by decide +kernel
theorem test_no_unit_below :
    (after (.erSectorProgram true) (reclaiming 1)).er.unit = none ∧ (after (.erSectorProgram true) (reclaiming 1)).rd R.ER_STOP_LEVEL = 1 := by decide +kernel

/-- 16 Table 16.2, t4: DQCLR while the output is hot. -/
theorem test_clear_while_hot :
    (after (.dqclr 0 8) ((local_.wr R.LIO_DQTHERM_HOT 8).wr R.LIO_DQTHERM_LATCH 8)).rd R.LIO_DQCLRPEND = 8 ∧
    (after (.dqclr 0 8) ((local_.wr R.LIO_DQTHERM_HOT 8).wr R.LIO_DQTHERM_LATCH 8)).rd R.LIO_DQTHERM_LATCH = 8 := by decide +kernel

/-- 17 Table 17.1: the two timing words and TDC are taken, and the controller may be enabled with them. -/
def bitRates : State :=
  after (.registerWrite 0 0x60 0x43 0x114) (after (.registerWrite 0 0x60 0x42 0x04041200) (after (.registerWrite 0 0x60 0x41 0x13134E00) (lead.wr R.RB_CFG_FDEN 1)))
theorem test_bit_timing : bitRates.rbTimingOk 0 = true ∧ bitRates.rbBit 0 = 2000 ∧ bitRates.rbSample 0 = 1600 := by decide +kernel

/-- 18 Tables 18.7 and 18.8: EMAC0's write of 128 bytes at 0x1_0FFF_FFC0 against the two G4 entries. -/
def plantGates : State :=
  let gs := smSet GateEntry.none lead.gates 64 ⟨0x100000000 / 64, 0x10FFFFFC0 / 64, 0x30003, 3, 0, 2, true, false, true, true⟩
  { lead with gates := smSet GateEntry.none gs 65 ⟨0x80000000 / 64, 0x27FFFFFC0 / 64, 0x7040303, 7, 0, 4, true, false, true, true⟩ }
def straddling : State := after (.fabricAccess 0x10 true .write 0x10FFFFFC0 128 ⟨zeros 128, 0⟩) plantGates
theorem test_straddling_write_is_refused :
    straddling.rd R.GATE_FLT_ADDRLO 4 = 0x10000000 ∧ straddling.rd R.GATE_FLT_ADDRHI 4 = 1 ∧ straddling.rd R.GATE_FLT_INFO_MASTER 4 = 0x10 ∧
    straddling.rd R.GATE_FLT_INFO_CAUSE 4 = 2 ∧ straddling.flag R.GATE_FLT_INFO_STRADDLE 4 = true ∧ straddling.rd R.GATE_FLT_INFO_ENTRY 4 = 1 ∧
    straddling.mem = plantGates.mem := by decide +kernel

/-- 19 Table 19.6, packet 4: LENGTH 1,100 is refused at check 3, before the tag is examined. -/
def longBlock : State :=
  after (.ncpPkgload ⟨2, 7, 0x4E43, 3, 0, 0, 1, 13, 0, 1024, 1100, 0, 40000, zeros 1100, 0⟩) (served 2)
def statusOf : List Out → Option Nat
  | .ncp _ _ _ _ status _ _ _ _ _ _ _ :: _ => some status
  | _ => none
theorem test_long_block : statusOf longBlock.outs = some eLength := by decide +kernel

/-- 20 R426: a PENDING slot is UNPENDed to VALID. -/
def pendingB : State := { lead with crt := { lead.crt with dir := List.replicate 5 ⟨⟨4, 1, 9, 0⟩, ⟨3, 2, 9, 0⟩, 0, 1⟩ } }
theorem test_unpend : ((after (.updUnpend 0 1) pendingB).typeDir 1).b.state = 2 ∧ ((after (.updUnpend 0 1) pendingB).typeDir 1).att = 0 := by decide +kernel

/-- 21 Table 21.5, t0 to t2: an uncorrectable instance-memory error in the lead. -/
theorem test_uncorrectable_error_in_the_lead :
    let t := after (.uncorrectableEcc .instance_ 0x10000040) lead
    t.rd R.SAF_FIRST_CAUSE = 7 ∧ t.mode = 4 ∧ t.rd R.SYS_MODE_HOLDCAUSE = 4 ∧ t.safe = true ∧
    nbit (t.rd R.H_EVSTAT 0 0x05) 3 = true ∧ nbit (t.rd R.H_EVSTAT 0 0x05) 0 = true := by decide +kernel

/-- 22 Table 22.4, t2: the power-fail warning raises source 5. -/
theorem test_power_fail_warning :
    nbit ((after .powerFailWarning lead).rd R.H_EVSTAT 0 0x01) 0 = true ∧ (after .powerFailWarning lead).flag R.PWR_STATUS_PFW = true := by decide +kernel

/-! States that meet the hypotheses of the statements. -/

theorem witness_StepRunsTheFrontCommand :
    ∃ s : State, ∃ c : Instr, ∃ cs : List Instr, s.pending = c :: cs := ⟨{ State.reset with pending := [.resetRelease, .feedGood] }, .resetRelease, [.feedGood], by decide +kernel⟩

theorem witness_EmptyQueueIsOneTick :
    ∃ s : State, s.pending = [] ∧ s.tim.set = none ∧ s.tim.steps = [] ∧ (∀ k ∈ upTo 8, s.clockTick.matchesNow k = false) := ⟨State.reset, by decide +kernel⟩

theorem witness_EveryStepKeepsTheForms :
    ∃ s : State, s.Inv := ⟨lead, by decide +kernel⟩

theorem witness_AbsentPagesReadZeroAndIgnoreWrites :
    (∃ c : Instr, ∃ p : Nat, ∃ s : State, writesPage c = some p ∧ s.present p = false) ∧
    (∃ page : BitVec 8, ∃ s : State, s.present (firstPage page.toNat) = false) ∧
    (∃ c : Instr, ∃ p : Nat, ∃ s : State, readsPage c = some p ∧ s.present p = false) ∧
    (∃ n : Nat, ∃ s : State, (∀ e ∈ srcBits n, s.present e.1 = false)) := by
  refine ⟨?_, ?_, ?_, ?_⟩
  · exact ⟨.ctrlEnWrite 0 0x2F true, 0x2F, State.resetS08, by decide +kernel⟩
  · exact ⟨0x2F, State.resetS08, by decide +kernel⟩
  · exact ⟨.errinfoRead 0 0x58, 0x58, State.resetS08, by decide +kernel⟩
  · exact ⟨128, State.resetS08, by decide +kernel⟩

theorem witness_LockSequence :
    (∃ page : BitVec 8, ∃ s : State, s.present (firstPage page.toNat) = true) ∧
    (∃ c : Instr, ∃ p : Nat, ∃ s : State, (writesPage c = some p ∨ readsPage c = some p) ∧ s.present p = true ∧ s.flag R.H_LOCK_ARMED 0 (firstPage p) = true) := by
  refine ⟨?_, ?_⟩
  · exact ⟨0x01, State.reset, by decide +kernel⟩
  · exact ⟨.ctrlEnWrite 0 0x01 true, 0x01, State.reset.wr R.H_LOCK_ARMED 1 0 0x01, by decide +kernel⟩

theorem witness_HeaderAccesses :
    (∃ page : BitVec 8, ∃ s : State, s.Open (firstPage page.toNat)) ∧
    (∃ l : Fin 2, ∃ s : State, s.Open (plPage l)) ∧
    (∃ page : BitVec 8, ∃ s : State, s.Open page.toNat) ∧
    (∃ page : BitVec 8, ∃ s : State, s.Open page.toNat ∧ page.toNat = firstPage page.toNat) ∧
    (∃ page : BitVec 8, ∃ s : State, s.Open page.toNat ∧ page.toNat = firstPage page.toNat ∧ s.rd R.H_EVSTAT 0 page.toNat < 2 ^ 32) := by
  refine ⟨?_, ?_, ?_, ?_, ?_⟩
  · exact ⟨0x01, State.reset, by decide +kernel⟩
  · exact ⟨1, State.reset, by decide +kernel⟩
  · exact ⟨0x70, State.reset, by decide +kernel⟩
  · exact ⟨0x10, State.reset, by decide +kernel⟩
  · exact ⟨0x10, State.reset, by decide +kernel⟩

theorem witness_PlainRegisterWrites :
    (∃ s : State, s.Open 0x03) ∧
    (∃ s : State, s.Open 0x01 ∧ s.flag R.H_LOCK_LOCKED 0 0x01 = false) ∧
    (∃ v : BitVec 32, ∃ s : State, s.Open 0x01 ∧ s.flag R.H_LOCK_LOCKED 0 0x01 = true ∧ v.toNat < 2) ∧
    (∃ s : State, s.Open 0x30 ∧ s.rd R.RMC_OFFSET < 2 ^ 32) ∧
    (∃ s : State, s.Open 0x30) := by
  refine ⟨?_, ?_, ?_, ?_, ?_⟩
  · exact ⟨State.reset, by decide +kernel⟩
  · exact ⟨State.reset, by decide +kernel⟩
  · exact ⟨1, State.reset.wr R.H_LOCK_LOCKED 1 0 0x01, by decide +kernel⟩
  · exact ⟨State.reset, by decide +kernel⟩
  · exact ⟨State.reset, by decide +kernel⟩

theorem witness_UnitStates :
    (∃ n : Fin 16, ∃ s : State, s.Open (0x20 + n)) ∧
    (∃ page : BitVec 8, ∃ s : State, s.Open page.toNat ∧ enRo page.toNat = true ∧ s.unit page.toNat ≠ 1) ∧
    (∃ page : BitVec 8, ∃ s : State, s.present (firstPage page.toNat) = true ∧ s.unit page.toNat = 1 ∧ s.flag R.H_CTRL_EN 0 (firstPage page.toNat) = false) ∧
    (∃ x : Fin 3, ∃ s : State, s.present (0x41 + x) = true ∧ s.unit (0x41 + x) = 1 ∧ s.flag R.H_CTRL_EN 0 (0x41 + x) = true) ∧
    (∃ x : Fin 3, ∃ s : State, s.present (0x41 + x) = true ∧ s.unit (0x41 + x) = 3 ∧ s.flag R.H_EN_PENDING 0 (0x41 + x) = false) ∧
    (∃ s : State, s.present 0x70 = true ∧ s.unit 0x70 = 3 ∧ s.flag R.H_EN_PENDING 0 0x70 = true) ∧
    (∃ s : State, s.present 0x70 = true ∧ s.unit 0x70 = 3) ∧
    (∃ x : Fin 3, ∃ s : State, s.present (0x41 + x) = true ∧ s.unit (0x41 + x) ≠ 4) ∧
    (∃ page : BitVec 8, ∃ s : State, s.Open page.toNat ∧ (s.unit page.toNat = 1 ∨ s.unit page.toNat = 3)) ∧
    (∃ page : BitVec 8, ∃ s : State, s.Open page.toNat ∧ (s.unit page.toNat = 1 ∨ s.unit page.toNat = 3)) ∧
    (∃ s : State, s.Open 0x02 ∧ s.unit 0x02 ≠ 1 ∧ s.unit 0x02 ≠ 3 ∧ s.flag R.H_CTRL_EN 0 0x02 = true) := by
  refine ⟨?_, ?_, ?_, ?_, ?_, ?_, ?_, ?_, ?_, ?_, ?_⟩
  · exact ⟨15, State.reset, by decide +kernel⟩
  · exact ⟨0x05, lead, by decide +kernel⟩
  · exact ⟨0x41, State.reset.wr R.H_STATE 1 0 0x41, by decide +kernel⟩
  · exact ⟨2, (State.reset.wr R.H_STATE 1 0 0x43).wr R.H_CTRL_EN 1 0 0x43, by decide +kernel⟩
  · exact ⟨0, State.reset.wr R.H_STATE 3 0 0x41, by decide +kernel⟩
  · exact ⟨(State.reset.wr R.H_STATE 3 0 0x70).wr R.H_EN_PENDING 1 0 0x70, by decide +kernel⟩
  · exact ⟨State.reset.wr R.H_STATE 3 0 0x70, by decide +kernel⟩
  · exact ⟨0, State.reset, by decide +kernel⟩
  · exact ⟨0x41, State.reset.wr R.H_STATE 3 0 0x41, by decide +kernel⟩
  · exact ⟨0x41, State.reset.wr R.H_STATE 1 0 0x41, by decide +kernel⟩
  · exact ⟨lead, by decide +kernel⟩

theorem witness_ClaimAndComplete :
    (pfw.winner 0 = some 5) ∧
    (∃ s : State, ∃ n : Nat, ∃ j, s.winner n = none ∧ j < 256) ∧
    (∃ s : State, ∃ n : Nat, ∃ k : Nat, s.flag (servRow n) k = true) ∧
    (∃ s : State, ∃ n : Fin 2, s.Open 0x03 ∧ s.winner n = none) ∧
    (∃ s : State, ∃ n : Fin 2, ∃ k : Nat, s.Open 0x03 ∧ s.winner n = some k) ∧
    (∃ s : State, s.Open 0x03) ∧
    (∃ s : State, s.Open 0x03) := by
  refine ⟨?_, ?_, ?_, ?_, ?_, ?_, ?_⟩
  · decide +kernel
  · exact ⟨State.reset, 0, 255, by decide +kernel⟩
  · exact ⟨State.reset.wr (servRow 0) 1 0, 0, 0, by decide +kernel⟩
  · exact ⟨State.reset, 0, by decide +kernel⟩
  · exact ⟨pfw, 0, 5, by decide +kernel⟩
  · exact ⟨State.reset, by decide +kernel⟩
  · exact ⟨State.reset, by decide +kernel⟩

theorem witness_ModeCommands :
    (∃ m : BitVec 6, ∃ cause : BitVec 4, ∃ key : BitVec 16, ∃ s : State, ∃ c ∈ [Instr.modecmdToLead m cause key, .modecmdToTrack m cause key, .modecmdToHold m cause key, .modecmdToService m cause key,
      .modecmdToStartOrDormant m true cause key, .modecmdToStartOrDormant m false cause key], s.Open 0x00 ∧ key ≠ 0x4D44) ∧
    (∃ s : State, s.Open 0x00) ∧
    (∃ s : State, s.Open 0x00) ∧
    (∃ s : State, s.Open 0x00) ∧
    (∃ cause : BitVec 4, ∃ s : State, s.Open 0x00 ∧ cause ∈ [1, 3, 5, 6, 7, 8]) ∧
    (∃ s : State, s.Open 0x00) := by
  refine ⟨?_, ?_, ?_, ?_, ?_, ?_⟩
  · exact ⟨0, 0, 0, lead, .modecmdToLead 0 0 0, by decide +kernel, by decide +kernel⟩
  · exact ⟨lead, by decide +kernel⟩
  · exact ⟨lead, by decide +kernel⟩
  · exact ⟨lead, by decide +kernel⟩
  · exact ⟨8, lead, by decide +kernel⟩
  · exact ⟨lead, by decide +kernel⟩

theorem witness_ResetsTakeTheModuleToStart :
    (∃ causes : BitVec 6, ∃ s : State, (causes = 0 ∨ (s.mode = 0 ∧ causes.getLsbD 0 = false))) ∧
    (∃ causes : BitVec 6, ∃ s : State, (causes = 0 ∨ (s.mode = 0 ∧ causes.getLsbD 0 = false))) ∧
    (∃ causes : BitVec 6, ∃ s : State, causes ≠ 0 ∧ (s.mode ≠ 0 ∨ causes.getLsbD 0 = true)) ∧
    (∃ causes : BitVec 6, ∃ s : State, causes ≠ 0 ∧ (s.mode ≠ 0 ∨ causes.getLsbD 0 = true)) ∧
    (∃ s : State, s.Open 0x00) := by
  refine ⟨?_, ?_, ?_, ?_, ?_⟩
  · exact ⟨0, lead, by decide +kernel⟩
  · exact ⟨0x3E, run 0, by decide +kernel⟩
  · exact ⟨0x20, lead, by decide +kernel⟩
  · exact ⟨1, run 0, by decide +kernel⟩
  · exact ⟨lead, by decide +kernel⟩

theorem witness_ReleaseAndStartSteps :
    (∃ s : State, s.mode = 1 ∧ s.sys.resetHeld = true) ∧
    (∃ s : State, s.mode = 1 ∧ s.sys.resetHeld = false ∧ s.rd R.SYS_STARTSTEP_STEP ∈ [1, 2]) ∧
    (∃ s : State, s.mode = 1 ∧ s.sys.resetHeld = false ∧ s.rd R.SYS_STARTSTEP_STEP ∈ [1, 2]) ∧
    (∃ s : State, s.mode = 1 ∧ s.sys.resetHeld = false ∧ s.rd R.SYS_STARTSTEP_STEP = 3 ∧ s.sys.recovery = false) ∧
    (∃ s : State, s.mode = 1 ∧ s.sys.resetHeld = false ∧ s.rd R.SYS_STARTSTEP_STEP ∈ [4, 5]) ∧
    (∃ s : State, s.mode = 1 ∧ s.sys.resetHeld = false ∧ s.rd R.SYS_STARTSTEP_STEP ∈ [4, 5]) ∧
    (∃ s : State, s.mode = 1 ∧ s.sys.resetHeld = false ∧ s.rd R.SYS_STARTSTEP_STEP = 6 ∧ s.flag R.CRT_STAT_LATCH = false) ∧
    (∃ s : State, s.mode = 1 ∧ s.sys.resetHeld = false ∧ s.rd R.SYS_STARTSTEP_STEP = 7) ∧
    (∃ s : State, s.mode = 1 ∧ s.sys.resetHeld = false ∧ s.rd R.SYS_STARTSTEP_STEP = 8) ∧
    (∃ s : State, s.mode = 1 ∧ s.sys.resetHeld = false ∧ s.rd R.SYS_STARTSTEP_STEP = 3 ∧ s.sys.recovery = false ∧ s.step3.boots = false) ∧
    (∃ s : State, s.mode = 1 ∧ s.sys.resetHeld = false ∧ s.rd R.SYS_STARTSTEP_STEP = 9 ∧ nbit s.sys.failed 4 || nbit s.sys.failed 5) ∧
    (∃ s : State, s.mode = 1 ∧ s.sys.resetHeld = false ∧ s.rd R.SYS_STARTSTEP_STEP = 9 ∧ s.sys.failed = 0 ∧ s.rd R.PAIR_STAT_MISMATCH = 0 ∧ s.flag R.PAIR_STAT_PARTNER = false ∧ s.rd R.SYS_NEXTSTART_KIND = 0 ∧ s.rd R.SYS_STARTPOL_POLICY = 0) := by
  refine ⟨?_, ?_, ?_, ?_, ?_, ?_, ?_, ?_, ?_, ?_, ?_, ?_⟩
  · exact ⟨State.reset, by decide +kernel⟩
  · exact ⟨start 1, by decide +kernel⟩
  · exact ⟨start 2, by decide +kernel⟩
  · exact ⟨start 3, by decide +kernel⟩
  · exact ⟨start 4, by decide +kernel⟩
  · exact ⟨start 5, by decide +kernel⟩
  · exact ⟨start 6, by decide +kernel⟩
  · exact ⟨start 7, by decide +kernel⟩
  · exact ⟨start 8, by decide +kernel⟩
  · exact ⟨start 3, by decide +kernel⟩
  · exact ⟨{ start 9 with sys := { (start 9).sys with failed := 16 } }, by decide +kernel⟩
  · exact ⟨start 9, by decide +kernel⟩

theorem witness_PowerAndFeeds :
    (∃ s : State, s.mode ≠ 0 ∧ s.flag R.PWR_STATUS_PFW = false) ∧
    (∃ s : State, s.mode ≠ 0 ∧ s.flag R.PWR_STATUS_PFW = true ∧ s.flag R.PWR_STATUS_FORCEDHOLD = false) ∧
    (∃ s : State, s.flag R.PWR_STATUS_FLUSHONLY = true ∧ s.pwr.returned = false) ∧
    (∃ s : State, s.flag R.PWR_STATUS_FORCEDHOLD = true) := by
  refine ⟨?_, ?_, ?_, ?_⟩
  · exact ⟨lead, by decide +kernel⟩
  · exact ⟨lead.wr R.PWR_STATUS_PFW 1, by decide +kernel⟩
  · exact ⟨lead.wr R.PWR_STATUS_FLUSHONLY 1, by decide +kernel⟩
  · exact ⟨lead.wr R.PWR_STATUS_FORCEDHOLD 1, by decide +kernel⟩

theorem witness_ClassTriggersAndFlagFalls :
    (∃ n : Fin 3, ∃ s : State, (s.ownerOf (s.rd R.XE_CLS_CFG_TRIGCH n) ≠ n + 1 ∨ (s.ply n).next = none)) ∧
    (∃ n : Fin 3, ∃ at_ : Nat, ∃ s : State, s.ownerOf (s.rd R.XE_CLS_CFG_TRIGCH n) = n + 1 ∧ (s.ply n).next = some at_ ∧ s.xeTakes = false) ∧
    (∃ n : Fin 3, ∃ at_ : Nat, ∃ s : State, s.ownerOf (s.rd R.XE_CLS_CFG_TRIGCH n) = n + 1 ∧ (s.ply n).next = some at_ ∧ s.xeTakes = true ∧ s.ClocksFree ∧ (s.flag R.XE_CLS_STAT_SKIPNEXT n = true ∨ (s.ply n).phase ≠ 0)) ∧
    (∃ n : Fin 3, ∃ at_ : Nat, ∃ s : State, s.ownerOf (s.rd R.XE_CLS_CFG_TRIGCH n) = n + 1 ∧ (s.ply n).next = some at_ ∧ s.xeTakes = true ∧ s.ClocksFree ∧ (s.flag R.XE_CLS_STAT_SKIPNEXT n = true ∨ (s.ply n).phase ≠ 0)) ∧
    (∃ n : Fin 3, ∃ at_ : Nat, ∃ s : State, s.ownerOf (s.rd R.XE_CLS_CFG_TRIGCH n) = n + 1 ∧ (s.ply n).next = some at_ ∧ s.xeTakes = true ∧ s.flag R.XE_CLS_STAT_SKIPNEXT n = false ∧ (s.ply n).phase = 0 ∧ s.NoWork ∧ s.xe.ftPend = [] ∧ s.pr.joinLead = false ∧ s.winCovered n 0x100 32) := by
  refine ⟨?_, ?_, ?_, ?_, ?_⟩
  · exact ⟨0, lead, by decide +kernel⟩
  · exact ⟨2, 5, ((run 2).wr R.XE_CLS_CFG_EN 1 2).modPly 2 fun p => { p with next := some 5 }, by decide +kernel⟩
  · exact ⟨1, 5, (classed 1 5).wr R.XE_CLS_STAT_SKIPNEXT 1 1, by decide +kernel⟩
  · exact ⟨1, 5, (classed 1 5).modPly 1 fun p => { p with phase := 3 }, by decide +kernel⟩
  · exact ⟨0, 5, noWin (classed 0 5) 0, by decide +kernel⟩

theorem witness_ClassConfiguration :
    (∃ s : State, s.Open 0x11) ∧
    (∃ s : State, s.Open 0x11) := by
  refine ⟨?_, ?_⟩
  · exact ⟨State.reset, by decide +kernel⟩
  · exact ⟨State.reset, by decide +kernel⟩

theorem witness_PhasesOfAPly :
    (∃ s : State, s.current = none) ∧
    (∃ w : Nat, ∃ s : State, s.current = some w ∧ (s.ply w).phase = 2 ∧ s.Alone w ∧ s.xe.warm = none ∧ s.pr.joinLead = false ∧ s.freezeList s.half (mainPart w) = listNone ∧ (∀ c ∈ upTo (s.hdrLanes s.half), s.biBase s.half (mainPart w) c = listNone ∨ (s.biBase s.half (mainPart w) c + 0x100 ≤ s.instSize ∧ s.uncovered (s.biBase s.half (mainPart w) c) 0x100 (writerOf w) = []))) ∧
    (∃ w : Nat, ∃ s : State, s.current = some w ∧ (s.ply w).phase = 3 ∧ s.Alone w ∧ (s.seq (levelOf w)).ended = true ∧ (s.seq (levelOf w)).follows = false ∧ (s.seq (levelOf w)).flight = [] ∧ s.pr.finalW ≠ w + 1 ∧ s.pr.joinLead = false ∧ (∀ c ∈ upTo (s.hdrLanes s.half), s.biBase s.half (mainPart w) c = listNone ∨ (s.biBase s.half (mainPart w) c + 0x100 ≤ s.instSize ∧ s.uncovered (s.biBase s.half (mainPart w) c) 0x100 (writerOf w) = []))) ∧
    (∃ w : Nat, ∃ e : ListEntry, ∃ s : State, s.current = some w ∧ (s.ply w).phase = 5 ∧ s.Alone w ∧ w ≠ 1 ∧ w < 3 ∧ s.biBase s.half (mainPart w) 0 = listNone ∧ s.listAt s.half (s.commitList s.half (mainPart w)) = [e] ∧ (s.ply w).fell = false ∧ (s.ply w).pos = 0 ∧ (s.seq (levelOf w)).flight = [] ∧ s.rd R.XE_SM_STAT_STATE ≠ 3 ∧ s.pr.finalW ≠ w + 1) ∧
    (∃ w : Fin 19, ∃ at_ : Nat, ∃ s : State, (s.ply w).since = some at_ ∧ (s.ply w).phase = 4 ∧ (s.ply w).acked = false ∧ s.Alone w ∧ (s.seq (levelOf w)).flight = [] ∧ s.mode = 3 ∧ s.safe = false ∧ s.ncp.forceGo = none ∧ s.ncp.sealGo = none ∧ s.pr.finalW ≠ w + 1) ∧
    (∃ w : Fin 19, ∃ s : State, (s.ply w).since = none) := by
  refine ⟨?_, ?_, ?_, ?_, ?_, ?_⟩
  · exact ⟨lead, by decide +kernel⟩
  · exact ⟨0, (noWin (inPhase 0 2) 0).wrLe (moveBase 0 + 0x48) 4 listNone, by decide +kernel⟩
  · exact ⟨0, (noWin (inPhase 0 3) 0).setSeq 0 { (lead.seq 0) with ended := true }, by decide +kernel⟩
  · exact ⟨0, ⟨2, 3, 2, 0⟩, committing, by decide +kernel⟩
  · exact ⟨18, 7, lead.modPly 18 fun p => { p with phase := 4, since := some 7 }, by decide +kernel⟩
  · exact ⟨0, lead, by decide +kernel⟩

theorem witness_EventTasks :
    (∃ s : State, s.Open 0x11) ∧
    (∃ k : Fin 16, ∃ s : State, s.Open 0x11 ∧ s.asserts (s.rd R.XE_ET_CFG_SRC k) = true) ∧
    (∃ k : Fin 16, ∃ s : State, s.asserts (s.rd R.XE_ET_CFG_SRC k) = false) ∧
    (∃ s : State, s.nextTask = none) ∧
    (∃ k : Nat, ∃ s : State, s.nextTask = some k ∧ (∀ v ∈ workOrder, (s.ply v).phase = 0) ∧ (∀ v ∈ allLevels, (s.seq v).flight = []) ∧ s.pr.esc = false ∧ s.xe.ftPend = [] ∧ s.winCovered (k + 3) 0x100 32 ∧ s.pr.joinLead = false) := by
  refine ⟨?_, ?_, ?_, ?_, ?_⟩
  · exact ⟨State.reset, by decide +kernel⟩
  · exact ⟨15, ((lead.wr R.XE_ET_CFG_SRC 8 15).wr R.H_EVEN 1 0 0x00).wr R.H_EVSTAT 1 0 0x00, by decide +kernel⟩
  · exact ⟨0, lead, by decide +kernel⟩
  · exact ⟨lead, by decide +kernel⟩
  · exact ⟨15, noWin ((lead.wr R.XE_ET_CFG_EN 1 15).wr R.XE_ET_PEND 0x8000) 18, by decide +kernel⟩

theorem witness_EngineFaults :
    (∃ w : Nat, ∃ s : State, s.current = some w ∧ (s.ply w).phase = 3 ∧ (∀ v ∈ allLevels, (s.seq v).flight = []) ∧ (s.seq (levelOf w)).ended = false ∧ s.clk < s.rowClk w ∧ s.sys.resetHeld = false ∧ s.mode = 3 ∧ s.flag R.SAF_CFG_RSTALL = false ∧ s.pr.esc = false) ∧
    (∃ w : Nat, ∃ s : State, s.current = some w ∧ (s.ply w).phase = 3 ∧ (∀ v ∈ allLevels, (s.seq v).flight = []) ∧ (s.seq (levelOf w)).ended = false ∧ s.clk < s.rowClk w ∧ s.sys.resetHeld = false ∧ s.mode = 3 ∧ s.flag R.SAF_CFG_RSTALL = false ∧ s.pr.esc = false) ∧
    (∃ s : State, s.NoWork) ∧
    (∃ s : State, s.Open 0x12 ∧ s.mode ≠ 5) ∧
    (∃ s : State, s.Open 0x12 ∧ s.mode = 5) ∧
    (∃ s : State, s.Open 0x12 ∧ s.mode = 5 ∧ s.flag R.SAF_CFG_RSTALL = false ∧ s.sys.resetHeld = false) := by
  refine ⟨?_, ?_, ?_, ?_, ?_, ?_⟩
  · exact ⟨0, executing, by decide +kernel⟩
  · exact ⟨0, executing, by decide +kernel⟩
  · exact ⟨lead, by decide +kernel⟩
  · exact ⟨lead, by decide +kernel⟩
  · exact ⟨run 5, by decide +kernel⟩
  · exact ⟨run 5, by decide +kernel⟩

theorem witness_Activation :
    (∃ s : State, s.Open 0x10) ∧
    (∃ s : State, s.act = 0) ∧
    (∃ h : Fin 2, ∃ s : State, s.act = h + 1 ∧ s.rd R.PAIR_SYNC_STAT_PHASE ≠ 1) := by
  refine ⟨?_, ?_, ?_⟩
  · exact ⟨State.reset, by decide +kernel⟩
  · exact ⟨State.reset, by decide +kernel⟩
  · exact ⟨1, { State.reset with act := 2 }, by decide +kernel⟩

theorem witness_SealVerifyArmCancel :
    (∃ s : State, s.Open 0x10) ∧
    (∃ s : State, s.rd R.XE_SM_STAT_STATE ≠ 1) ∧
    (∃ s : State, s.rd R.XE_SM_STAT_STATE = 1 ∧ s.ncp.verify = none) ∧
    (∃ s : State, s.Open 0x10 ∧ s.ncp.seal_ = none ∧ s.ncp.sealGo = none ∧ s.flag R.PAIR_STAT_PSYNC = false) ∧
    (∃ s : State, s.Open 0x10 ∧ s.ncp.seal_ = none ∧ s.ncp.sealGo = none ∧ s.flag R.PAIR_STAT_PSYNC = false) ∧
    (∃ s : State, (s.mode ≠ 3 ∨ s.rd R.XE_SM_STAT_STATE ≠ 3 ∨ s.sealPassed = false)) ∧
    (∃ n : Fin 3, ∃ s : State, s.mode = 3 ∧ s.rd R.XE_SM_STAT_STATE = 3 ∧ s.rd R.XE_SM_CLS = n + 1 ∧ s.sealPassed = true) ∧
    (∃ n : Fin 3, ∃ at_ : Nat, ∃ s : State, s.mode = 3 ∧ s.rd R.XE_SM_STAT_STATE = 3 ∧ s.rd R.XE_SM_CLS = n + 1 ∧ s.rd R.XE_SM_PLY = s.rd R.XE_CLS_PLY n ∧ s.ownerOf (s.rd R.XE_CLS_CFG_TRIGCH n) = n + 1 ∧ (s.ply n).next = some at_ ∧ s.xeTakes = true ∧ s.flag R.XE_CLS_STAT_SKIPNEXT n = false ∧ (s.ply n).phase = 0 ∧ s.NoWork ∧ s.xe.ftPend = [] ∧ s.pr.joinLead = false ∧ s.flag R.PAIR_STAT_PSYNC = false ∧ s.ncp.seal_ = none ∧ s.ncp.sealGo = none ∧ s.winCovered n 0x100 32) := by
  refine ⟨?_, ?_, ?_, ?_, ?_, ?_, ?_, ?_⟩
  · exact ⟨State.reset, by decide +kernel⟩
  · exact ⟨State.reset, by decide +kernel⟩
  · exact ⟨State.reset.wr R.XE_SM_STAT_STATE 1, by decide +kernel⟩
  · exact ⟨State.reset, by decide +kernel⟩
  · exact ⟨State.reset, by decide +kernel⟩
  · exact ⟨State.reset, by decide +kernel⟩
  · exact ⟨0, armed 3, by decide +kernel⟩
  · exact ⟨0, 5, noWin (((armed 3).wr R.XE_CLS_CFG_EN 1 0).modPly 0 fun p => { p with next := some 5 }) 0, by decide +kernel⟩

theorem witness_TheSwitch :
    (∃ s : State, (s.rd R.XE_SM_STAT_STATE ≠ 3 ∨ ((s.mode ≠ 3 ∨ s.sealGap = false) ∧ s.mode ≠ 4))) ∧
    (∃ s : State, (s.rd R.XE_SM_STAT_STATE ≠ 3 ∨ s.mode ≠ 2 ∨ s.flag R.PAIR_STAT_SYNC = false)) ∧
    (∃ s : State, ∃ c ∈ [Instr.switchBegin, .switchMarkerReceived], s.rd R.XE_SM_STAT_STATE = 3 ∧ s.xe.ftPend = [] ∧ s.flag R.PAIR_STAT_PSYNC = false ∧ s.pr.joinLead = false ∧ ((c = .switchBegin ∧ ((s.mode = 3 ∧ s.sealGap = true) ∨ s.mode = 4)) ∨ (c = .switchMarkerReceived ∧ s.mode = 2 ∧ s.flag R.PAIR_STAT_SYNC = true))) ∧
    (∃ s : State, ∃ c ∈ [Instr.switchBegin, .switchMarkerReceived], s.rd R.XE_SM_STAT_STATE = 3 ∧ s.xe.ftPend = [] ∧ s.flag R.PAIR_STAT_PSYNC = false ∧ s.pr.joinLead = false ∧ ((c = .switchBegin ∧ ((s.mode = 3 ∧ s.sealGap = true) ∨ s.mode = 4)) ∨ (c = .switchMarkerReceived ∧ s.mode = 2 ∧ s.flag R.PAIR_STAT_SYNC = true))) ∧
    (∃ s : State, s.rd R.XE_SM_STAT_STATE ≠ 4) ∧
    (∃ s : State, s.rd R.XE_SM_STAT_STATE = 4 ∧ (∀ v ∈ workOrder, (s.ply v).phase = 0) ∧ s.rd R.XE_ET_PEND = 0 ∧ s.pr.esc = false ∧ s.crtActive = false ∧ s.xe.staged = [] ∧ s.xe.held = [] ∧ s.pr.queued = [] ∧ s.ncp.seal_ = none ∧ s.half ≤ 1) := by
  refine ⟨?_, ?_, ?_, ?_, ?_, ?_⟩
  · exact ⟨State.reset, by decide +kernel⟩
  · exact ⟨State.reset, by decide +kernel⟩
  · exact ⟨armed 4, .switchBegin, by decide +kernel, by decide +kernel⟩
  · exact ⟨(armed 2).wr R.PAIR_STAT_SYNC 1, .switchMarkerReceived, by decide +kernel, by decide +kernel⟩
  · exact ⟨State.reset, by decide +kernel⟩
  · exact ⟨State.reset.wr R.XE_SM_STAT_STATE 4, by decide +kernel⟩

theorem witness_ForceTable :
    (∃ s : State, s.Open 0x12) ∧
    (∃ s : State, s.ftOk false (s.rd R.XE_FT_INDEX_ENTRY) s.ftStaging = true) ∧
    (∃ s : State, s.Open 0x12 ∧ (smGet Force.none (if s.flag R.XE_FT_INDEX_TABLE then s.xe.staged else s.xe.forces) (s.rd R.XE_FT_INDEX_ENTRY)).Fits) ∧
    (∃ s : State, s.xe.ftPend = []) ∧
    (∃ s : State, ∃ p ∈ s.xe.ftPend, s.xe.ftPend ≠ [] ∧ s.xe.ftPend = [p] ∧ p.2.valid = true ∧ p.2.offset % 16 = 0 ∧ (∀ e ∈ s.xe.forces, e.1 ≠ p.1 → e.2.valid = true → e.2.offset ≠ p.2.offset)) := by
  refine ⟨?_, ?_, ?_, ?_, ?_⟩
  · exact ⟨State.reset, by decide +kernel⟩
  · exact ⟨State.reset, by decide +kernel⟩
  · exact ⟨State.reset, by decide +kernel⟩
  · exact ⟨State.reset, by decide +kernel⟩
  · exact ⟨{ lead with xe := { lead.xe with ftPend := [(1, ⟨7, 16, false, true, 3, 0xFF, 0xFFF⟩)] } }, (1, ⟨7, 16, false, true, 3, 0xFF, 0xFFF⟩), by decide +kernel, by decide +kernel⟩

theorem witness_MatrixTermsSumsAndOutputs :
    (∃ terms : Nat, terms < 2 ^ 512) ∧
    (∃ s : State, (s.running 0x18 = false ∨ s.flag R.TE_CFGSTAT_LOCKED = false ∨ s.sys.resetHeld = true)) ∧
    (∃ s : State, s.running 0x18 = true ∧ s.flag R.TE_CFGSTAT_LOCKED = true ∧ s.sys.resetHeld = false) := by
  refine ⟨?_, ?_, ?_⟩
  · exact ⟨2 ^ 512 - 1, by decide +kernel⟩
  · exact ⟨State.reset, by decide +kernel⟩
  · exact ⟨tripping, by decide +kernel⟩

theorem witness_LiteralsTimersAndLatches :
    (∃ rx : Nat, ∃ s : State, rx < 2 ^ 64 ∧ s.rd R.TE_SWIN < 2 ^ 16 ∧ s.rd R.TE_TQ < 2 ^ 16 ∧ s.rd R.TE_LQ < 2 ^ 32 ∧ s.te.f < 2 ^ 16) ∧
    (∃ s : State, s.running 0x18 = true ∧ s.flag R.TE_CFGSTAT_LOCKED = true ∧ s.sys.resetHeld = false) := by
  refine ⟨?_, ?_⟩
  · exact ⟨2 ^ 64 - 1, State.reset, by decide +kernel⟩
  · exact ⟨tripping, by decide +kernel⟩

theorem witness_TripConfiguration :
    (∃ s : State, s.Open 0x18) ∧
    (∃ s : State, s.Open 0x18) ∧
    (∃ s : State, s.Open 0x18) ∧
    (∃ s : State, s.te.locking = false) ∧
    (∃ s : State, s.te.locking = true) ∧
    (∃ s : State, s.Open 0x18) ∧
    (∃ s : State, (s.running 0x18 = false ∨ s.flag R.TE_CFGSTAT_LOCKED = false)) ∧
    (∃ s : State, s.running 0x18 = true ∧ s.flag R.TE_CFGSTAT_LOCKED = true ∧ s.mode ≠ 0 ∧ s.sys.resetHeld = false ∧ s.flag R.SAF_CFG_RSTALL = false) ∧
    (∃ s : State, (s.te.bursts = 0 ∨ s.running 0x18 = false ∨ s.flag R.TE_CFGSTAT_LOCKED = false)) ∧
    (∃ s : State, s.te.bursts ≠ 0 ∧ s.running 0x18 = true ∧ s.flag R.TE_CFGSTAT_LOCKED = true) := by
  refine ⟨?_, ?_, ?_, ?_, ?_, ?_, ?_, ?_, ?_, ?_⟩
  · exact ⟨State.reset, by decide +kernel⟩
  · exact ⟨State.reset, by decide +kernel⟩
  · exact ⟨State.reset, by decide +kernel⟩
  · exact ⟨State.reset, by decide +kernel⟩
  · exact ⟨{ State.reset with te := { State.reset.te with locking := true } }, by decide +kernel⟩
  · exact ⟨State.reset, by decide +kernel⟩
  · exact ⟨State.reset, by decide +kernel⟩
  · exact ⟨tripping, by decide +kernel⟩
  · exact ⟨tripping, by decide +kernel⟩
  · exact ⟨{ tripping with te := { tripping.te with bursts := 1 } }, by decide +kernel⟩

theorem witness_ReflexPath :
    (∃ g : Fin 16, ∃ b : Bool, ∃ s : State, s.NoWork ∧ (s.segOn g = false ∨ s.cstate = 0 ∨ nbit (s.rd R.RMT_CFG_CHEN 0 g) (b2n b) = false)) ∧
    (∃ g : Fin 16, ∃ b : Bool, ∃ start : BitVec 64, ∃ k : Fin 32, ∃ s : State, ∃ r ∈ upTo 16, ∃ m ∈ upTo 6, s.NoWork ∧ s.hears g = true ∧ (s.cstate = 5 ∨ s.cstate = 6) ∧ nbit (s.rd R.RMT_CFG_CHEN 0 g) (b2n b) = true ∧ s.placeOf g b start.toNat = .mini r m ∧ s.miniOwner g r m = some k.val) ∧
    (∃ s : State, s.ownMini = none) ∧
    (∃ s : State, ∃ r ∈ upTo 16, s.NoWork ∧ s.ownMini = some (miniAt r (6 + s.side))) := by
  refine ⟨?_, ?_, ?_, ?_⟩
  · exact ⟨15, true, bus 5 1, by decide +kernel⟩
  · exact ⟨0, false, BitVec.ofNat 64 (1000000 + 125000 + 10000 + 1150), 3, bus 5 1, 1, by decide +kernel, 5, by decide +kernel, by decide +kernel⟩
  · exact ⟨State.reset, by decide +kernel⟩
  · exact ⟨bus 5 1, 0, by decide +kernel, by decide +kernel⟩

theorem witness_FramesAreJudged :
    (∃ f : Frame, ∃ s : State, ∃ c ∈ frameRows f, s.NoWork ∧ (¬ s.PortOpen f.seg f.chanB ∨ s.cstate = 0)) ∧
    (∃ f : Frame, ∃ s : State, ∃ c ∈ frameRows f, s.NoWork ∧ s.PortOpen f.seg f.chanB ∧ (s.cstate = 5 ∨ s.cstate = 6) ∧ s.placeOf f.seg f.chanB f.start.toNat = .none) ∧
    (∃ f : Frame, ∃ s : State, ∃ n ∈ upTo (s.rmt f.seg).slots.length, ∃ e ∈ (s.slotAt f.seg n).toList, ∃ c ∈ frameRows f, s.NoWork ∧ s.PortOpen f.seg f.chanB ∧ (s.cstate = 5 ∨ s.cstate = 6) ∧ e.kind = 0 ∧ s.InSlot f n e ∧ (inWindow (s.devOf f e) = false ∨ (s.laterChecks f n e).1 ≠ 0)) ∧
    (∃ f : Frame, ∃ s : State, ∃ n ∈ upTo (s.rmt f.seg).slots.length, ∃ e ∈ (s.slotAt f.seg n).toList, s.NoWork ∧ s.PortOpen f.seg f.chanB ∧ (s.cstate = 5 ∨ s.cstate = 6) ∧ e.kind = 0 ∧ s.Passes f n e) ∧
    (∃ g : Fin 16, ∃ b : Bool, ∃ start : BitVec 64, ∃ s : State, ∃ n ∈ upTo (s.rmt g).slots.length, ∃ e ∈ (s.slotAt g n).toList, s.NoWork ∧ s.PortOpen g b ∧ (s.cstate = 5 ∨ s.cstate = 6) ∧ e.kind = 0 ∧ s.placeOf g b start.toNat = .slot n e) := by
  refine ⟨?_, ?_, ?_, ?_, ?_⟩
  · exact ⟨framed 0 1 1 0 (zeros 32), bus 0 1, .dataFrameReceived (framed 0 1 1 0 (zeros 32)), by decide +kernel, by decide +kernel⟩
  · exact ⟨framed 0 1 1 900000 (zeros 32), bus 5 1, .nullFrameReceived (framed 0 1 1 900000 (zeros 32)), by decide +kernel, by decide +kernel⟩
  · exact ⟨framed 0 1 1 501 (zeros 32), bus 5 1, 0, by decide +kernel, ⟨1600, 0, 0, 3, true, false, 32, 3⟩, by decide +kernel, .dataFrameReceived (framed 0 1 1 501 (zeros 32)), by decide +kernel, by decide +kernel⟩
  · exact ⟨framed 0 1 1 500 (zeros 32), bus 6 1, 0, by decide +kernel, ⟨1600, 0, 0, 3, true, false, 32, 3⟩, by decide +kernel, by decide +kernel⟩
  · exact ⟨0, false, BitVec.ofNat 64 1018900, bus 5 1, 0, by decide +kernel, ⟨1600, 0, 0, 3, true, false, 32, 3⟩, by decide +kernel, by decide +kernel⟩

theorem witness_SyncBeaconAndServiceFrames :
    (∃ f : Frame, ∃ s : State, ∃ n ∈ upTo (s.rmt f.seg).slots.length, ∃ e ∈ (s.slotAt f.seg n).toList, s.NoWork ∧ s.PortOpen f.seg f.chanB ∧ (s.cstate = 5 ∨ s.cstate = 6) ∧ s.side ≤ 1 ∧ s.otherSlot e = true ∧ s.Passes f n e) ∧
    (∃ f : Frame, ∃ s : State, ∃ e ∈ (s.looseChecks f).toList, s.NoWork ∧ s.PortOpen f.seg f.chanB ∧ (s.cstate = 1 ∨ s.cstate = 3) ∧ f.type = 5 ∧ (e.kind = 2 ∨ e.kind = 3)) ∧
    (∃ f : Frame, ∃ s : State, ∃ n ∈ upTo (s.rmt f.seg).slots.length, ∃ e ∈ (s.slotAt f.seg n).toList, s.NoWork ∧ s.PortOpen f.seg f.chanB ∧ (s.cstate = 5 ∨ s.cstate = 6) ∧ s.rmCycle % 2 = 1 ∧ e.kind = 4 ∧ s.Passes f n e ∧ f.type = 8 ∧ (f.payload.getD 1 0).toNat % 2 = 1 ∧ f.payload.getD 6 0 = 0x20 ∧ f.payload.getD 7 0 = 0 ∧ f.payload.getD 8 0 = 1 ∧ beNat ((f.payload.drop 10).take 2) = 0 ∧ (s.stn f.seg ((f.payload.getD 0 0).toNat % 32)).upSeq ≠ beNat ((f.payload.drop 2).take 2) + 1) := by
  refine ⟨?_, ?_, ?_⟩
  · exact ⟨framed 3 1 4 0 (zeros 16), bus 5 1, 3, by decide +kernel, ⟨6000, 0, 3, 0, false, false, 16, 3⟩, by decide +kernel, by decide +kernel⟩
  · exact ⟨framed 3 1 5 0 (zeros 16), bus 1 1, ⟨6000, 0, 3, 0, false, false, 16, 3⟩, by decide +kernel, by decide +kernel⟩
  · exact ⟨framed 4 7 8 0 ([3, 1, 0, 9, 0, 6, 0x20, 0, 1] ++ zeros 7), bus 5 7, 4, by decide +kernel, ⟨7000, 0, 4, 0, false, false, 64, 3⟩, by decide +kernel, by decide +kernel⟩

theorem witness_ClusterStartUpAndClock :
    (∃ s : State, s.hasCycle = false) ∧
    (∃ s : State, s.NoWork ∧ (s.cstate = 5 ∨ s.cstate = 6) ∧ (s.stns.map (·.1)).Nodup) ∧
    (∃ s : State, ((s.busLive = false ∧ (s.cstate ≠ 4 ∨ s.rmc.step = 0)) ∨ s.rmc.nit = true)) ∧
    (∃ s : State, s.NoWork ∧ s.busLive = true ∧ s.rmc.nit = false) ∧
    (∃ s : State, ∃ c ∈ [(Instr.listenTimeout, 1, (4 + s.side) * s.cycleNs / 2), (.backoffEnd, 3, (1 + 2 * s.side) * s.cycleNs)], s.NoWork) ∧
    (∃ s : State, s.NoWork) := by
  refine ⟨?_, ?_, ?_, ?_, ?_, ?_⟩
  · exact ⟨State.reset, by decide +kernel⟩
  · exact ⟨bus 5 1, by decide +kernel⟩
  · exact ⟨State.reset, by decide +kernel⟩
  · exact ⟨bus 5 1, by decide +kernel⟩
  · exact ⟨bus 1 1, (Instr.listenTimeout, 1, (4 + (bus 1 1).side) * (bus 1 1).cycleNs / 2), by decide +kernel, by decide +kernel⟩
  · exact ⟨bus 2 1, by decide +kernel⟩

theorem witness_StationStates :
    (∃ g : Fin 16, ∃ k : Fin 32, ∃ s : State, (s.inSlotOf g k = none ∨ s.segOn g = false ∨ s.busLive = false ∨ (s.stn g k).done = true)) ∧
    (∃ g : Fin 16, ∃ k : Fin 32, ∃ s : State, ∃ e ∈ (s.inSlotOf g k).toList, s.NoWork ∧ s.segOn g = true ∧ s.busLive = true ∧ (s.stn g k).done = false) := by
  refine ⟨?_, ?_⟩
  · exact ⟨0, 31, bus 5 1, by decide +kernel⟩
  · exact ⟨0, 3, bus 5 1, ⟨1600, 0, 0, 3, true, false, 32, 3⟩, by decide +kernel, by decide +kernel⟩

theorem witness_SendingInSlots :
    (∃ g : Fin 16, ∃ n : BitVec 12, ∃ s : State, ((∀ e ∈ (s.slotAt g n.toNat).toList, e.kind ≠ 1) ∨ s.cstate ≠ 5)) ∧
    (∃ g : Fin 16, ∃ n : BitVec 12, ∃ s : State, ∃ e ∈ (s.slotAt g n.toNat).toList, s.NoWork ∧ s.cstate = 5 ∧ e.kind = 1) ∧
    (∃ s : State, s.cstate ≠ 2 ∧ s.cstate ≠ 5) ∧
    (∃ s : State, s.NoWork ∧ (s.cstate = 2 ∨ s.cstate = 5)) ∧
    (∃ g : Fin 16, ∃ s : State, (s.cstate ≠ 5 ∨ (∀ e ∈ (s.rmt g).slots, e.kind ≠ 4))) ∧
    (∃ g : Fin 16, ∃ b : Bool, ∃ s : State, ∃ e ∈ ((s.rmt g).slots.find? (·.kind == 4)).toList, s.NoWork ∧ s.cstate = 5 ∧ nbit e.chan (b2n b) = true ∧ (s.mode ≠ 3 ∨ s.nextDown g = none)) ∧
    (∃ g : Fin 16, ∃ s : State, s.Open (segPage g)) := by
  refine ⟨?_, ?_, ?_, ?_, ?_, ?_, ?_⟩
  · exact ⟨0, 0, bus 5 1, by decide +kernel⟩
  · exact ⟨0, 1, bus 5 1, ⟨3000, 0, 1, 3, false, false, 32, 3⟩, by decide +kernel, by decide +kernel⟩
  · exact ⟨bus 6 1, by decide +kernel⟩
  · exact ⟨bus 2 1, by decide +kernel⟩
  · exact ⟨0, bus 6 1, by decide +kernel⟩
  · exact ⟨0, false, bus 5 2, ⟨7000, 0, 4, 0, false, false, 64, 3⟩, by decide +kernel, by decide +kernel⟩
  · exact ⟨0, bus 5 1, by decide +kernel⟩

theorem witness_HeartbeatsAndLinks :
    (∃ s : State, (s.mode = 0 ∨ (s.mode = 1 ∧ s.rd R.SYS_STARTSTEP_STEP < 8))) ∧
    (∃ s : State, s.mode ≠ 0 ∧ (s.mode ≠ 1 ∨ 8 ≤ s.rd R.SYS_STARTSTEP_STEP)) ∧
    (∃ l : Fin 2, ∃ s : State, (s.linkUp l = false ∨ s.mode = 0)) ∧
    (∃ l : Fin 2, ∃ s : State, s.linkUp l = true ∧ (s.mode = 1 ∨ s.mode = 4 ∨ s.mode = 5) ∧ s.NoWork ∧ s.rd R.PAIR_EPOCH < 2 ^ 32) ∧
    (∃ l : Fin 2, ∃ hb : Heartbeat, ∃ s : State, s.linkUp l = true ∧ s.mode = 3 ∧ s.flag R.PAIR_STAT_PSYNC = true ∧ s.safe = false ∧ s.pr.handed = false ∧ s.pr.castKind = 0 ∧ s.rd R.PAIR_STAT_MISMATCH ≠ 0 ∧ s.pr.heard = true ∧ s.pr.esc = false ∧ (hb.mode ≠ 2 ∨ nbit hb.flags.toNat 1 = false) ∧ (hb.mode ≠ 3 ∨ nbit hb.flags.toNat 5 = false)) ∧
    (∃ l : Fin 2, ∃ hb : Heartbeat, ∃ s : State, s.linkUp l = true ∧ s.mode = 2 ∧ s.flag R.PAIR_STAT_SYNC = true ∧ s.sys.partnerWait = false ∧ s.pr.heard = true ∧ s.NoWork ∧ hb.mode = 3 ∧ nbit hb.flags.toNat 2 = false) ∧
    (∃ s : State, s.pr.silent = true) ∧
    (∃ s : State, s.pr.silent = false ∧ s.safe = false ∧ s.NoWork ∧ s.ncp.forceGo = none ∧ s.ncp.sealGo = none ∧ s.ncp.castle = none) ∧
    (∃ s : State, s.sys.partnerWait = false ∧ s.NoWork) ∧
    (∃ x : LinkLoss, ∃ s : State, s.linkUp x.link = false) ∧
    (∃ x : LinkLoss, ∃ s : State, s.linkUp x.link = true ∧ s.pr.handed = false ∧ s.pr.castKind = 0 ∧ s.pr.claimKind ≠ 2 ∧ s.NoWork) := by
  refine ⟨?_, ?_, ?_, ?_, ?_, ?_, ?_, ?_, ?_, ?_, ?_⟩
  · exact ⟨State.reset, by decide +kernel⟩
  · exact ⟨lead, by decide +kernel⟩
  · exact ⟨1, lead, by decide +kernel⟩
  · exact ⟨0, paired 5, by decide +kernel⟩
  · exact ⟨0, ⟨4, 0, 1, 0, 0, 0, 0, 0, 0, 0, 0, 0⟩, heard (pairLead.wr R.PAIR_STAT_MISMATCH 1), by decide +kernel⟩
  · exact ⟨1, ⟨3, 0, 1, 0, 0, 0, 0, 0, 0, 0, 0, 0⟩, heard pairTrack, by decide +kernel⟩
  · exact ⟨{ pairLead with pr := { pairLead.pr with silent := true } }, by decide +kernel⟩
  · exact ⟨pairLead, by decide +kernel⟩
  · exact ⟨pairTrack, by decide +kernel⟩
  · exact ⟨⟨0, 0⟩, lead, by decide +kernel⟩
  · exact ⟨⟨1, 0⟩, pairLead, by decide +kernel⟩

theorem witness_MirrorAndBulk :
    (∃ l : Fin 2, ∃ s : State, (s.linkUp l = false ∨ s.takesMirror = false)) ∧
    (∃ l : Fin 2, ∃ seq : BitVec 32, ∃ s : State, s.linkUp l = true ∧ s.takesMirror = true ∧ smGet 0 s.pr.rxSeq (16 * l + 2) ≠ 0 ∧ (smGet 0 s.pr.rxSeq (16 * l + 2) - 1) % 2 ^ 32 ≠ seq.toNat) ∧
    (∃ l : Fin 2, ∃ w : BitVec 8, ∃ seq : BitVec 32, ∃ off : BitVec 32, ∃ d : List (BitVec 8), ∃ s : State, s.linkUp l = true ∧ s.takesMirror = true ∧ s.rd R.XE_SM_STAT_STATE ≠ 4 ∧ w ≠ 2 ∧ s.pr.crcOwed = false ∧ (s.dmaStore 0x08 (instBase + off.toNat) d).1 = true ∧ off.toNat + d.length ≤ s.instSize ∧ s.pr.esc = false ∧ (smGet 0 s.pr.rxSeq (16 * l + 2) = 0 ∨ (smGet 0 s.pr.rxSeq (16 * l + 2) - 1) % 2 ^ 32 = seq.toNat)) ∧
    (∃ off : BitVec 32, ∃ d : List (BitVec 8), ∃ s : State, (s.dmaStore 0x08 (instBase + off.toNat) d).1 = true ∧ s.rd R.XE_SM_STAT_STATE ≠ 4 ∧ off.toNat + d.length ≤ s.instSize ∧ s.pr.esc = false) ∧
    (∃ l : Fin 2, ∃ s : State, (s.linkUp l = false ∨ s.mode ≠ 3)) ∧
    (∃ l : Fin 2, ∃ w : Fin 3, ∃ s : State, s.linkUp l = true ∧ s.mode = 3 ∧ s.Alone w ∧ (s.ply w).phase = 4 ∧ (s.ply w).acked = false) ∧
    (∃ i : BitVec 14, ∃ s : State, (s.mode ≠ 3 ∨ s.pr.handed = true ∨ mlCount s.pr.active ≤ i.toNat)) ∧
    (∃ i : BitVec 14, ∃ w : Fin 3, ∃ s : State, s.mode = 3 ∧ s.pr.handed = false ∧ i.toNat < mlCount s.pr.active ∧ (mlEntry s.pr.active i.toNat).writer = w + 1 ∧ s.flag R.PAIR_STAT_PSYNC = true ∧ s.pr.finalW ≠ w + 1 ∧ s.Alone w ∧ (s.ply w).phase = 4 ∧ (s.ply w).acked = false ∧ (smGet (0, 0) s.pr.sent (w + 1)).2 < (s.ranges (w + 1)).length) ∧
    (∃ s : State, s.mode ≠ 3 ∧ (s.mode ≠ 2 ∨ s.flag R.SYS_MODE_SYNC = false)) ∧
    (∃ s : State, (s.mode = 3 ∨ (s.mode = 2 ∧ s.flag R.PAIR_STAT_SYNC = true ∧ s.flag R.SYS_MODE_SYNC = true)) ∧ s.flag R.SAF_CFG_RSTALL = false) ∧
    (∃ s : State, (s.mode = 3 ∨ (s.mode = 2 ∧ s.flag R.PAIR_STAT_SYNC = true ∧ s.flag R.SYS_MODE_SYNC = true)) ∧ s.flag R.SAF_CFG_RSTALL = false) := by
  refine ⟨?_, ?_, ?_, ?_, ?_, ?_, ?_, ?_, ?_, ?_, ?_⟩
  · exact ⟨0, lead, by decide +kernel⟩
  · exact ⟨1, 5, { pairTrack with pr := { pairTrack.pr with rxSeq := smSet 0 [] 18 9 } }, by decide +kernel⟩
  · exact ⟨1, 1, 0xFFFFFFFF, 0, [1, 2, 3], pairTrack, by decide +kernel⟩
  · exact ⟨64, [7], pairTrack, by decide +kernel⟩
  · exact ⟨0, lead, by decide +kernel⟩
  · exact ⟨0, 0, (paired 3).modPly 0 fun p => { p with phase := 4 }, by decide +kernel⟩
  · exact ⟨0, pairLead, by decide +kernel⟩
  · exact ⟨0, 0, { (pairLead.modPly 0 fun p => { p with phase := 4 }) with pr := { pairLead.pr with active := mirrorList } }, by decide +kernel⟩
  · exact ⟨run 4, by decide +kernel⟩
  · exact ⟨pairTrack, by decide +kernel⟩
  · exact ⟨lead, by decide +kernel⟩

theorem witness_MirrorListsAndMessages :
    (∃ s : State, s.Open 0x3A) ∧
    (∃ s : State, s.Open 0x3A ∧ s.rd R.PAIR_MLADDR_OFFSET < 32772) ∧
    (∃ s : State, s.Open 0x3A ∧ s.rd R.PAIR_SYNC_STAT_PHASE ≠ 1) ∧
    (∃ l : Fin 2, ∃ s : State, s.linkUp l = false) ∧
    (∃ l : Fin 2, ∃ s : State, s.linkUp l = true) ∧
    (∃ l : Fin 2, ∃ s : State, s.linkUp l = true) ∧
    (∃ l : Fin 2, ∃ s : State, s.linkUp l = true ∧ s.ncp.sealGo = none ∧ s.ncp.forceGo = none) ∧
    (∃ l : Fin 2, ∃ s : State, s.linkUp l = true ∧ (s.mode ≠ 2 ∨ s.rd R.XE_SM_STAT_STATE ≠ 3)) ∧
    (∃ l : Fin 2, ∃ s : State, s.linkUp l = true) := by
  refine ⟨?_, ?_, ?_, ?_, ?_, ?_, ?_, ?_, ?_⟩
  · exact ⟨State.reset, by decide +kernel⟩
  · exact ⟨State.reset, by decide +kernel⟩
  · exact ⟨State.reset, by decide +kernel⟩
  · exact ⟨0, State.reset, by decide +kernel⟩
  · exact ⟨0, pairLead, by decide +kernel⟩
  · exact ⟨1, pairLead, by decide +kernel⟩
  · exact ⟨0, pairLead, by decide +kernel⟩
  · exact ⟨0, pairLead, by decide +kernel⟩
  · exact ⟨1, pairLead, by decide +kernel⟩

theorem witness_JoinsClaimsAndLeases :
    (∃ s : State, s.Open 0x3A) ∧
    (∃ s : State, (s.rd R.PAIR_SYNC_STAT_PHASE = 0 ∨ 5 ≤ s.rd R.PAIR_SYNC_STAT_PHASE)) ∧
    (∃ s : State, s.pr.joinLead = false ∧ (s.rd R.PAIR_SYNC_STAT_PHASE = 1 ∨ s.rd R.PAIR_SYNC_STAT_PHASE = 2)) ∧
    (∃ s : State, s.pr.joinLead = false ∧ s.mode = 2 ∧ s.rd R.PAIR_SYNC_STAT_PHASE = 4) ∧
    (∃ s : State, (∀ v ∈ workOrder, (s.ply v).phase = 0) ∧ s.pr.esc = false ∧ s.rd R.XE_ET_PEND = 0) ∧
    (∃ s : State, s.mode = 0) ∧
    (∃ s : State, s.mode = 3 ∧ 1 ≤ s.rd R.PAIR_ARB_N ∧ s.pr.claimKind = 0 ∧ s.pr.handed = false ∧ s.pr.castKind = 0 ∧ s.flag R.PAIR_STAT_PSYNC = false ∧ s.pr.esc = false ∧ (∀ v ∈ workOrder, (s.ply v).phase = 0) ∧ s.rd R.XE_ET_PEND = 0) ∧
    (∃ s : State, s.mode = 2 ∧ s.flag R.PAIR_STAT_SYNC = true ∧ s.pr.claimKind = 0 ∧ s.pr.handed = false ∧ s.pr.castRecv = 0 ∧ s.pr.silent = true ∧ s.pr.beacon0 = false ∧ s.pr.beacon1 = false ∧ 1 ≤ s.rd R.PAIR_ARB_N ∧ s.rd R.PAIR_EPOCH < 0xFFFFFFFE ∧ s.rd R.XE_SM_STAT_STATE ≠ 3) ∧
    (∃ s : State, s.mode = 2 ∧ s.pr.claimKind = 1 ∧ 1 ≤ s.pr.claimCyc ∧ s.pr.handed = false ∧ 1 ≤ s.rd R.PAIR_ARB_N ∧ s.pr.esc = false) := by
  refine ⟨?_, ?_, ?_, ?_, ?_, ?_, ?_, ?_, ?_⟩
  · exact ⟨State.reset, by decide +kernel⟩
  · exact ⟨State.reset, by decide +kernel⟩
  · exact ⟨(paired 2).wr R.PAIR_SYNC_STAT_PHASE 2, by decide +kernel⟩
  · exact ⟨(paired 2).wr R.PAIR_SYNC_STAT_PHASE 4, by decide +kernel⟩
  · exact ⟨paired 3, by decide +kernel⟩
  · exact ⟨run 0, by decide +kernel⟩
  · exact ⟨lead.wr R.PAIR_ARB_N 1, by decide +kernel⟩
  · exact ⟨{ pairTrack.wr R.PAIR_ARB_N 1 with pr := { pairTrack.pr with silent := true } }, by decide +kernel⟩
  · exact ⟨{ (paired 2).wr R.PAIR_ARB_N 3 with pr := { State.reset.pr with claimKind := 1, claimCyc := 1 } }, by decide +kernel⟩

theorem witness_Castling :
    (∃ s : State, s.Open 0x3A) ∧
    (∃ l : Fin 2, ∃ s : State, (s.linkUp l = false ∨ s.mode ≠ 2)) ∧
    (∃ l : Fin 2, ∃ s : State, s.linkUp l = true ∧ s.mode = 2 ∧ s.pr.claimKind = 0 ∧ s.ncp.castle = none) ∧
    (∃ s : State, (s.mode ≠ 3 ∨ s.pr.castKind = 0 ∨ s.pr.castMaj = false ∨ s.pr.handed = true ∨ s.rd R.XE_SM_STAT_STATE = 4 ∨ (s.pr.castKind = 1 ∧ (s.allIdle = false ∨ s.gapFree 50000 = false)) ∨ (s.pr.castKind = 2 ∧ s.allIdle = false ∧ s.commitEnded = false))) ∧
    (∃ s : State, s.mode = 3 ∧ s.pr.castKind ≠ 0 ∧ s.pr.castMaj = true ∧ s.pr.handed = false ∧ s.rd R.XE_SM_STAT_STATE ≠ 4 ∧ (s.pr.castKind ≠ 1 ∨ s.gapFree 50000 = true) ∧ s.NoWork) ∧
    (∃ s : State, (s.mode ≠ 3 ∨ s.pr.castKind ≠ 1 ∨ s.pr.castMaj = false ∨ s.pr.handed = true)) ∧
    (∃ s : State, s.mode = 3 ∧ s.pr.castKind = 1 ∧ s.pr.castMaj = true ∧ s.pr.handed = false ∧ s.ncp.castle = none) ∧
    (∃ l : Fin 2, ∃ s : State, (s.linkUp l = false ∨ s.mode ≠ 2 ∨ s.pr.claimKind ≠ 2 ∨ s.pr.castMaj = false)) ∧
    (∃ l : Fin 2, ∃ s : State, s.linkUp l = true ∧ s.mode = 2 ∧ s.pr.claimKind = 2 ∧ s.pr.castMaj = true ∧ s.pr.esc = false ∧ s.safe = false ∧ s.unitOn 0x10 = true ∧ (∀ v ∈ workOrder, (s.ply v).phase = 0)) := by
  refine ⟨?_, ?_, ?_, ?_, ?_, ?_, ?_, ?_, ?_⟩
  · exact ⟨State.reset, by decide +kernel⟩
  · exact ⟨0, pairLead, by decide +kernel⟩
  · exact ⟨1, pairTrack, by decide +kernel⟩
  · exact ⟨pairLead, by decide +kernel⟩
  · exact ⟨{ pairLead with pr := { pairLead.pr with castKind := 1, castMaj := true } }, by decide +kernel⟩
  · exact ⟨pairLead, by decide +kernel⟩
  · exact ⟨{ pairLead with pr := { pairLead.pr with castKind := 1, castMaj := true } }, by decide +kernel⟩
  · exact ⟨0, pairTrack, by decide +kernel⟩
  · exact ⟨0, { pairTrack.setUnit 0x10 2 with pr := { pairTrack.pr with claimKind := 2, castMaj := true } }, by decide +kernel⟩

theorem witness_ClocksAreReadSetAndStepped :
    (∃ s : State, s.Open 0x40) ∧
    (∃ s : State, s.Open 0x40) ∧
    (∃ s : State, s.Open 0x40 ∧ s.mt < 2 ^ 64 ∧ s.tim.nt < 2 ^ 64 ∧ s.tim.frac < 2 ^ 28) ∧
    (∃ s : State, s.Open 0x40) ∧
    (∃ s : State, s.Open 0x40) ∧
    (∃ v : BitVec 64, ∃ s : State, s.pending = [] ∧ s.tim.steps = [] ∧ (∀ k ∈ upTo 8, ({ s with tim := { s.tim with set := some v.toNat } } : State).clockTick.matchesNow k = false)) ∧
    (∃ s : State, s.Open 0x40) ∧
    (∃ s : State, (s.tim.steps = [] ∨ (s.flag R.TIM_NTSTAT_STEPPEND = true ∧ s.rd R.XE_SM_STAT_STATE = 4))) ∧
    (∃ v : BitVec 32, ∃ vs : List (BitVec 32), ∃ s : State, s.tim.steps = (v :: vs).map BitVec.toNat ∧ s.tim.set = none ∧ ¬ (s.flag R.TIM_NTSTAT_STEPPEND = true ∧ s.rd R.XE_SM_STAT_STATE = 4) ∧ s.tim.nt < 2 ^ 64 ∧ s.tim.frac < 2 ^ 28 ∧ (∀ k ∈ upTo 8, s.clockTick.matchesNow k = false)) ∧
    (∃ s : State, s.ClocksFree ∧ s.tim.nt < 2 ^ 64 ∧ s.tim.frac < 2 ^ 28 ∧ 1 ≤ s.rd R.TIM_NTINC ∧ s.tim.nt / 2 ^ 32 + 1 < 2 ^ 32) ∧
    (∃ s : State, s.Open 0x40) := by
  refine ⟨?_, ?_, ?_, ?_, ?_, ?_, ?_, ?_, ?_, ?_, ?_⟩
  · exact ⟨State.reset, by decide +kernel⟩
  · exact ⟨State.reset, by decide +kernel⟩
  · exact ⟨State.reset, by decide +kernel⟩
  · exact ⟨State.reset, by decide +kernel⟩
  · exact ⟨State.reset, by decide +kernel⟩
  · exact ⟨5, State.reset, by decide +kernel⟩
  · exact ⟨State.reset, by decide +kernel⟩
  · exact ⟨State.reset, by decide +kernel⟩
  · exact ⟨0x80000000, [1], { State.reset with tim := { State.reset.tim with steps := [0x80000000, 1] } }, by decide +kernel⟩
  · exact ⟨State.reset, by decide +kernel⟩
  · exact ⟨State.reset, by decide +kernel⟩

theorem witness_ComparesCapturesAndTheTimePort :
    (∃ k : Fin 8, ∃ s : State, s.ownerOf k = 0 ∧ s.rd R.TIM_CMP_CFG_MODE k ≠ 1 ∧ s.rd R.TIM_CMP_CFG_MODE k ≠ 2) ∧
    (∃ k : Fin 8, ∃ s : State, s.ownerOf k = 0 ∧ (s.rd R.TIM_CMP_CFG_MODE k = 1 ∨ s.rd R.TIM_CMP_CFG_MODE k = 2) ∧ s.ClocksFree ∧ s.mt < 2 ^ 64 ∧ s.tim.nt < 2 ^ 64 ∧ s.tim.frac < 2 ^ 28 ∧ s.rd2 R.TIM_CMP_TGTLO R.TIM_CMP_TGTHI k + 2 ^ 32 < 2 ^ 64 ∧ smGet 0 s.tim.armed k + 2 ^ 32 < 2 ^ 64 ∧ 1 ≤ s.rd R.TIM_NTINC) ∧
    (∃ k : Fin 8, ∃ n : Fin 3, ∃ s : State, s.ownerOf k = n + 1 ∧ (s.ply n).next = none) ∧
    (∃ k : Fin 8, ∃ n : Fin 3, ∃ at_ : BitVec 64, ∃ s : State, s.ownerOf k = n + 1 ∧ (s.ply n).next = some at_.toNat ∧ s.ClocksFree ∧ (s.ply n).aligned = false) ∧
    (∃ k : Fin 8, ∃ n : Fin 3, ∃ s : State, s.ownerOf k = n + 1 ∧ (s.ply n).next ≠ none ∧ (s.xeTakes = false ∨ s.flag R.XE_CLS_STAT_SKIPNEXT n = true)) ∧
    (∃ k : Fin 8, ∃ n : Fin 3, ∃ at_ : BitVec 64, ∃ s : State, s.ownerOf k = n + 1 ∧ (s.ply n).next = some at_.toNat ∧ s.Open 0x40) ∧
    (∃ k : Fin 8, ∃ s : State, smGet 0 s.tim.pulses k = 0) ∧
    (∃ k : Fin 8, ∃ p : BitVec 64, ∃ s : State, s.ClocksFree ∧ smGet 0 s.tim.pulses k = p.toNat + 1) ∧
    (∃ k : Fin 8, ∃ rising : Bool, ∃ s : State, (s.flag R.TIM_CAP_CFG_EN k = false ∨ 0x20 < s.rd R.TIM_CAP_CFG_SRC k ∨ (s.rd R.SYS_IDENT_VARIANT = 2 ∧ s.rd R.TIM_CAP_CFG_SRC k < 0x20) ∨ nbit (s.rd R.TIM_CAP_CFG_EDGE k) (if rising then 0 else 1) = false)) ∧
    (∃ k : Fin 8, ∃ rising : Bool, ∃ s : State, s.flag R.TIM_CAP_CFG_EN k = true ∧ s.rd R.TIM_CAP_CFG_SRC k ≤ 0x20 ∧ ¬ (s.rd R.SYS_IDENT_VARIANT = 2 ∧ s.rd R.TIM_CAP_CFG_SRC k < 0x20) ∧ nbit (s.rd R.TIM_CAP_CFG_EDGE k) (if rising then 0 else 1) = true ∧ s.mt < 2 ^ 64 ∧ s.tim.nt < 2 ^ 64) ∧
    (∃ s : State, s.flag R.TIM_TPCFG_INEN = false) ∧
    (∃ s : State, s.flag R.TIM_TPCFG_INEN = true ∧ s.ClocksFree) ∧
    (∃ mac : Fin 3, ∃ s : State, s.Open (0x41 + mac) ∧ (s.emac mac).tx.length ≤ 16 ∧ (s.emac mac).rx.length ≤ 32) := by
  refine ⟨?_, ?_, ?_, ?_, ?_, ?_, ?_, ?_, ?_, ?_, ?_, ?_, ?_⟩
  · exact ⟨7, State.reset, by decide +kernel⟩
  · exact ⟨0, State.reset.wr R.TIM_CMP_CFG_MODE 2 0, by decide +kernel⟩
  · exact ⟨0, 0, (lead.wr R.XE_CLS_CFG_EN 1 0).wr R.XE_CLS_CFG_TRIGCH 0 0, by decide +kernel⟩
  · exact ⟨0, 0, 5, (classed 0 5).wr R.XE_CLS_CFG_TRIGCH 0 0, by decide +kernel⟩
  · exact ⟨0, 0, ((classed 0 5).wr R.XE_CLS_CFG_TRIGCH 0 0).wr R.XE_CLS_STAT_SKIPNEXT 1 0, by decide +kernel⟩
  · exact ⟨0, 0, 5, (classed 0 5).wr R.XE_CLS_CFG_TRIGCH 0 0, by decide +kernel⟩
  · exact ⟨7, State.reset, by decide +kernel⟩
  · exact ⟨0, 5, { State.reset with tim := { State.reset.tim with pulses := smSet 0 [] 0 6 } }, by decide +kernel⟩
  · exact ⟨0, true, State.reset, by decide +kernel⟩
  · exact ⟨7, true, ((State.reset.wr R.TIM_CAP_CFG_EN 1 7).wr R.TIM_CAP_CFG_SRC 0x20 7).wr R.TIM_CAP_CFG_EDGE 1 7, by decide +kernel⟩
  · exact ⟨State.reset, by decide +kernel⟩
  · exact ⟨State.reset.wr R.TIM_TPCFG_INEN 1, by decide +kernel⟩
  · exact ⟨2, State.reset, by decide +kernel⟩

theorem witness_CalendarAlarmsAndInputs :
    (∃ s : State, s.bk.cal.ok = true ∧ s.ClocksFree ∧ s.mt ≤ wrapAt s.bk.base s.bk.at_ ∧ wrapAt s.bk.base s.bk.at_ + 4 ≤ 2 ^ 64) ∧
    (∃ a : Fin 2, ∃ s : State, s.rd R.BKD_ALM_MASK_FIELDS a = 0x7F) ∧
    (∃ a : Fin 2, ∃ s : State, s.bk.cal.ok = true ∧ s.rd R.BKD_ALM_MASK_FIELDS a = 0) ∧
    (∃ s : State, s.Open 0x48 ∧ s.bk.wpend = none) ∧
    (∃ s : State, s.bk.commit = none) ∧
    (∃ s : State, s.ClocksFree ∧ s.mt ≤ s.bk.cdue ∧ s.bk.cdue + 4 ≤ 2 ^ 64) ∧
    (∃ s : State, s.Open 0x48 ∧ s.bk.cal.ok = true ∧ s.presc < 2 ^ 15) := by
  refine ⟨?_, ?_, ?_, ?_, ?_, ?_, ?_⟩
  · exact ⟨{ State.reset with bk := { State.reset.bk with cal := ⟨28, 2, 29, 23, 59, 59⟩ } }, by decide +kernel⟩
  · exact ⟨1, State.reset.wr R.BKD_ALM_MASK_FIELDS 0x7F 1, by decide +kernel⟩
  · exact ⟨0, ({ State.reset with bk := { State.reset.bk with cal := ⟨28, 2, 29, 23, 59, 59⟩ } } : State).wr R.BKD_ALM_MASK_FIELDS 0 0, by decide +kernel⟩
  · exact ⟨State.reset, by decide +kernel⟩
  · exact ⟨State.reset, by decide +kernel⟩
  · exact ⟨State.reset, by decide +kernel⟩
  · exact ⟨{ State.reset with bk := { State.reset.bk with cal := ⟨28, 2, 29, 23, 59, 59⟩ } }, by decide +kernel⟩

theorem witness_BackupDomainAndCell :
    (∃ s : State, s.bk.wpend = none) ∧
    (∃ s : State, s.ClocksFree) ∧
    (∃ s : State, s.ClocksFree) ∧
    (∃ s : State, s.ClocksFree) ∧
    (∃ m : BitVec 6, ∃ s : State, ∃ e ∈ [((1 : Nat), Instr.bkValidate m), (4, .coulombTake m), (2, .cellLoadTest m)], s.Open 0x48 ∧ s.bk.wpend = none) ∧
    (∃ s : State, s.Open 0x48 ∧ s.ClocksFree ∧ s.bk.commit = none) ∧
    (∃ s : State, s.flag R.BKD_STAT_LOADBUSY = false) ∧
    (∃ s : State, s.flag R.BKD_STAT_LOADBUSY = true ∧ s.ClocksFree) ∧
    (∃ s : State, s.mode = 0) ∧
    (∃ s : State, s.mode ≠ 0 ∧ s.ClocksFree) := by
  refine ⟨?_, ?_, ?_, ?_, ?_, ?_, ?_, ?_, ?_, ?_⟩
  · exact ⟨State.reset, by decide +kernel⟩
  · exact ⟨State.reset, by decide +kernel⟩
  · exact ⟨State.reset, by decide +kernel⟩
  · exact ⟨State.reset, by decide +kernel⟩
  · exact ⟨0, State.reset, ((1 : Nat), Instr.bkValidate 0), by decide +kernel, by decide +kernel⟩
  · exact ⟨State.reset, by decide +kernel⟩
  · exact ⟨State.reset, by decide +kernel⟩
  · exact ⟨State.reset.wr R.BKD_STAT_LOADBUSY 1, by decide +kernel⟩
  · exact ⟨run 0, by decide +kernel⟩
  · exact ⟨lead, by decide +kernel⟩

theorem witness_CartridgeInsertionAndRemoval :
    (∃ s : State, s.rd R.CRT_STAT_STATE ≠ 5) ∧
    (∃ s : State, s.rd R.CRT_STAT_STATE = 5) ∧
    (∃ s : State, (s.rd R.CRT_STAT_STATE ≠ 1 ∨ s.flag R.CRT_STAT_LATCH = false)) ∧
    (∃ s : State, s.rd R.CRT_STAT_STATE = 1 ∧ s.flag R.CRT_STAT_LATCH = true ∧ s.ClocksFree) ∧
    (∃ s : State, s.Open 0x50 ∧ (∀ c : Fin 2, s.sbGen c + 1 < 2 ^ 32)) ∧
    (∃ s : State, s.Open 0x50 ∧ (∀ c : Fin 2, s.sbGen c + 1 < 2 ^ 32) ∧ s.modId < 2 ^ 64) ∧
    (∃ s : State, s.Open 0x50 ∧ (∀ c : Fin 2, s.sbGen c + 1 < 2 ^ 32) ∧ s.modId < 2 ^ 64) := by
  refine ⟨?_, ?_, ?_, ?_, ?_, ?_, ?_⟩
  · exact ⟨State.reset, by decide +kernel⟩
  · exact ⟨State.reset.wr R.CRT_STAT_STATE 5, by decide +kernel⟩
  · exact ⟨State.reset, by decide +kernel⟩
  · exact ⟨(State.reset.wr R.CRT_STAT_STATE 1).wr R.CRT_STAT_LATCH 1, by decide +kernel⟩
  · exact ⟨State.reset, by decide +kernel⟩
  · exact ⟨State.reset, by decide +kernel⟩
  · exact ⟨carted, by decide +kernel⟩

theorem witness_JournalCheckpointsAndNand :
    (∃ s : State, s.Open 0x50) ∧
    (∃ s : State, (s.rd R.CRT_STAT_STATE ≠ 3 ∨ s.crt.hold = [])) ∧
    (∃ h : Held, ∃ s : State, s.rd R.CRT_STAT_STATE = 3 ∧ h.lines.length ≤ min 2048 s.crt.budget ∧ (∀ l ∈ h.lines, l.2.length = 64) ∧ s.crt.seq + 1 < 2 ^ 64 ∧ 0x920000 ≤ s.crt.pos ∧ s.mramSize ≤ 0x4000000) ∧
    (∃ s : State, s.crt.ck = none) ∧
    (∃ s : State, s.rd R.XE_RET_BASE + s.rd R.XE_RET_SIZE ≤ 0x2000000 ∧ s.rd R.XE_RET_SIZE ≤ 0x400000 ∧ s.crt.hold = [] ∧ (s.mode ≠ 3 ∨ (s.ply 1).phase = 0)) ∧
    (∃ s : State, s.crtFlush = false) ∧
    (∃ s : State, s.crtFlush = true ∧ s.flag R.PWR_STATUS_PFW = false ∧ s.pwr.returned = false) ∧
    (∃ m : BitVec 6, ∃ s : State, ∃ c ∈ [(Instr.nandRead m, 1), (.nandProgram m, 2), (.nandErase m, 3)], s.Open 0x50) ∧
    (∃ s : State, s.crt.op = 0) := by
  refine ⟨?_, ?_, ?_, ?_, ?_, ?_, ?_, ?_, ?_⟩
  · exact ⟨State.reset, by decide +kernel⟩
  · exact ⟨State.reset, by decide +kernel⟩
  · exact ⟨⟨1, 2, 3, [(0, List.replicate 64 7)]⟩, { carted with crt := { carted.crt with budget := 1, seq := 2 ^ 64 - 2 } }, by decide +kernel⟩
  · exact ⟨State.reset, by decide +kernel⟩
  · exact ⟨carted, by decide +kernel⟩
  · exact ⟨State.reset, by decide +kernel⟩
  · exact ⟨{ State.reset with crtFlush := true }, by decide +kernel⟩
  · exact ⟨0, State.reset, (Instr.nandRead 0, 1), by decide +kernel, by decide +kernel⟩
  · exact ⟨carted, by decide +kernel⟩

theorem witness_EventRecordsAreAcceptedAndWritten :
    (∃ s : State, s.Open 0x51) ∧
    (∃ s : State, s.Open 0x51) ∧
    (∃ s : State, (s.erWrites = false ∨ s.rd R.CRT_STAT_TYPE ≠ 1 ∨ s.er.queue = [])) ∧
    (∃ s : State, s.erWrites = true ∧ s.rd R.CRT_STAT_TYPE = 1 ∧ s.er.queue ≠ [] ∧ s.er.sector < 127 ∧ (∀ r ∈ s.er.queue, r.length ≤ 256 ∧ ∀ w ∈ r, w < 2 ^ 32)) ∧
    (∃ s : State, s.erWrites = true ∧ s.rd R.CRT_STAT_TYPE = 1 ∧ s.er.queue ≠ [] ∧ s.er.sector < 127) ∧
    (∃ i : Fin 8, ∃ s : State, s.erWrites = true ∧ s.rd R.CRT_STAT_TYPE = 1 ∧ s.er.queue ≠ [] ∧ s.er.unit = none ∧ i.val < s.rd R.ER_UNITS ∧ (∀ j ∈ s.erUnits, s.unitState j ≠ 1) ∧ (∀ j : Fin 8, j < i → s.unitState j ≠ 0) ∧ s.unitState i = 0) ∧
    (∃ u : Fin 8, ∃ s : State, s.erWrites = true ∧ s.rd R.CRT_STAT_TYPE = 1 ∧ s.er.queue ≠ [] ∧ s.er.unit = none ∧ u.val < s.rd R.ER_UNITS ∧ s.flag R.ER_STOP_ACTIVE = false ∧ (∀ j ∈ s.erUnits, s.unitState j ≠ 0 ∧ s.unitState j ≠ 1) ∧ s.unitState u = 2 ∧ s.unitHi u < recSev (recW0 (s.er.queue.headD [])) ∧ (∀ j ∈ s.erUnits, j = u.val ∨ s.unitState j ≠ 2 ∨ recSev (recW0 (s.er.queue.headD [])) ≤ s.unitHi j ∨ s.seqAge (s.unitFirst j) < s.seqAge (s.unitFirst u))) ∧
    (∃ s : State, s.erWrites = true ∧ s.rd R.CRT_STAT_TYPE = 1 ∧ s.er.queue ≠ [] ∧ s.er.unit = none ∧ (∀ j ∈ s.erUnits, s.unitState j ≠ 0 ∧ s.unitState j ≠ 1 ∧ (s.unitState j ≠ 2 ∨ recSev (recW0 (s.er.queue.headD [])) ≤ s.unitHi j))) ∧
    (∃ s : State, (s.erWrites = false ∨ s.rd R.CRT_STAT_TYPE ≠ 2 ∨ s.er.flushing = true)) ∧
    (∃ s : State, s.erWrites = true ∧ s.rd R.CRT_STAT_TYPE = 2 ∧ s.er.flushing = false ∧ s.ClocksFree) ∧
    (∃ s : State, s.er.flushing = false) ∧
    (∃ s : State, s.er.flushing = true ∧ (∀ r ∈ s.er.queue, r.length ≤ 256) ∧ s.er.flushN ≤ s.er.queue.length ∧ s.pwr.returned = false ∧ ((s.rd R.CRT_STAT_STATE ≠ 3 ∧ s.rd R.CRT_STAT_STATE ≠ 5) ∨ (s.er.unit ≠ none ∧ s.er.sector + s.er.flushN ≤ 127))) := by
  refine ⟨?_, ?_, ?_, ?_, ?_, ?_, ?_, ?_, ?_, ?_, ?_, ?_⟩
  · exact ⟨State.reset, by decide +kernel⟩
  · exact ⟨State.reset, by decide +kernel⟩
  · exact ⟨State.reset, by decide +kernel⟩
  · exact ⟨recording 8, by decide +kernel⟩
  · exact ⟨recording 1, by decide +kernel⟩
  · exact ⟨1, unitAs (recording 2) 0 1 2, by decide +kernel⟩
  · exact ⟨0, unitAs (recording 1) 0 1 2, by decide +kernel⟩
  · exact ⟨unitAs (recording 1) 0 3 2, by decide +kernel⟩
  · exact ⟨recording 1, by decide +kernel⟩
  · exact ⟨(recording 8).wr R.CRT_STAT_TYPE 2, by decide +kernel⟩
  · exact ⟨State.reset, by decide +kernel⟩
  · exact ⟨{ (recording 8).wr R.CRT_STAT_STATE 2 with er := { (recording 8).er with flushing := true, flushN := 1 } }, by decide +kernel⟩

theorem witness_EventLogIsReadAndCleared :
    (∃ m : BitVec 6, ∃ s : State, ∃ c ∈ [(Instr.erCursorOldest m, 1), (.erCursorNewest m, 2), (.erCursorSeek m, 3), (.erNext m, 4)], s.Open 0x51) ∧
    (∃ m : BitVec 6, ∃ s : State, smGet 0 s.er.moves m.toNat = 0) ∧
    (∃ s : State, (∀ e ∈ s.logRecords, recSeq e.1 < 2 ^ 32 ∧ e.1.length < 256 ∧ ∀ w ∈ e.1, w < 2 ^ 32)) ∧
    (∃ s : State, s.Open 0x51) ∧
    (∃ s : State, s.er.token = none) ∧
    (∃ s : State, s.ClocksFree) ∧
    (∃ priv : Bool, ∃ v : BitVec 32, ∃ s : State, s.Open 0x51 ∧ (priv = false ∨ s.er.token ≠ some v.toNat ∨ s.er.tokenAt + 10000000000 ≤ s.mt)) ∧
    (∃ s : State, s.Open 0x51 ∧ (s.mode = 1 ∨ s.er.clearing ≠ none ∨ s.rd R.CRT_STAT_STATE ≠ 3)) ∧
    (∃ u : Fin 8, ∃ s : State, s.Open 0x51 ∧ s.mode ≠ 1 ∧ s.er.clearing = none ∧ s.rd R.CRT_STAT_STATE = 3 ∧ s.er.queue = [] ∧ s.er.unit = none ∧ u.val < s.rd R.ER_UNITS ∧ (∀ j : Fin 8, j < u → s.unitState j ≠ 0) ∧ s.unitState u = 0) ∧
    (∃ s : State, s.er.clearing = none) := by
  refine ⟨?_, ?_, ?_, ?_, ?_, ?_, ?_, ?_, ?_, ?_⟩
  · exact ⟨0, State.reset, (Instr.erCursorOldest 0, 1), by decide +kernel, by decide +kernel⟩
  · exact ⟨0, State.reset, by decide +kernel⟩
  · exact ⟨recording 8, by decide +kernel⟩
  · exact ⟨State.reset, by decide +kernel⟩
  · exact ⟨State.reset, by decide +kernel⟩
  · exact ⟨State.reset, by decide +kernel⟩
  · exact ⟨true, 7, { State.reset with er := { State.reset.er with token := some 7 }, mt := 10000000000 }, by decide +kernel⟩
  · exact ⟨State.reset, by decide +kernel⟩
  · exact ⟨0, carted.wr R.ER_UNITS 1, by decide +kernel⟩
  · exact ⟨State.reset, by decide +kernel⟩

theorem witness_LocalInputsAndOutputs :
    (∃ s : State, s.running 0x58 = false) ∧
    (∃ g : Fin 4, ∃ s : State, s.running 0x58 = true ∧ s.ClocksFree ∧ s.mt % 4 = 0 ∧ s.nextSample g + 4 ≤ 2 ^ 64 ∧ 1 ≤ s.sper g) ∧
    (∃ k : Fin 16, ∃ s : State, (s.sys.resetHeld = true ∨ s.safe = true ∨ s.unit 0x58 ≠ 2 ∨ s.flag R.PWR_STATUS_FLUSHONLY = true ∨ s.pwr.seated1 = false ∨ s.pwr.seated2 = false ∨ s.mode ≤ 1 ∨ s.mode = 5 ∨ (s.mode = 4 ∧ (s.rd R.SYS_MODE_HOLDCAUSE = 4 ∨ s.rd R.SYS_MODE_HOLDCAUSE = 9)) ∨ nbit (s.rd R.LIO_DQTHERM_HOT) k = true ∨ nbit (s.rd R.LIO_DQTHERM_LATCH) k = true)) ∧
    (∃ k : Fin 16, ∃ s : State, s.sys.resetHeld = false ∧ s.safe = false ∧ s.unit 0x58 = 2 ∧ s.flag R.PWR_STATUS_FLUSHONLY = false ∧ s.pwr.seated1 = true ∧ s.pwr.seated2 = true ∧ nbit s.lio.seat k = false ∧ (s.mode = 2 ∨ s.mode = 3 ∨ (s.mode = 4 ∧ s.rd R.SYS_MODE_HOLDCAUSE ≠ 4 ∧ s.rd R.SYS_MODE_HOLDCAUSE ≠ 9)) ∧ nbit (s.rd R.LIO_DQTHERM_HOT) k = false ∧ nbit (s.rd R.LIO_DQTHERM_LATCH) k = false) ∧
    (∃ s : State, s.Open 0x58) ∧
    (∃ s : State, s.running 0x58 = false) ∧
    (∃ s : State, s.running 0x58 = true) := by
  refine ⟨?_, ?_, ?_, ?_, ?_, ?_, ?_⟩
  · exact ⟨lead, by decide +kernel⟩
  · exact ⟨3, local_, by decide +kernel⟩
  · exact ⟨0, State.reset, by decide +kernel⟩
  · exact ⟨15, local_, by decide +kernel⟩
  · exact ⟨State.reset, by decide +kernel⟩
  · exact ⟨lead, by decide +kernel⟩
  · exact ⟨local_, by decide +kernel⟩

theorem witness_RackBusObjects :
    (∃ u : Fin 2, ∃ s : State, (s.present (rbPage u) = false ∨ s.unit (rbPage u) ≠ 1)) ∧
    (∃ u : Fin 2, ∃ s : State, s.present (rbPage u) = true ∧ s.unit (rbPage u) = 1 ∧ s.ClocksFree) ∧
    (∃ u : Fin 2, ∃ s : State, s.Open (rbPage u)) ∧
    (∃ u : Fin 2, ∃ s : State, s.Open (rbPage u)) ∧
    (∃ u : Fin 2, ∃ s : State, s.Open (rbPage u)) ∧
    (∃ u : Fin 2, ∃ s : State, s.Open (rbPage u)) ∧
    (∃ u : Fin 2, ∃ s : State, s.Open (rbPage u)) := by
  refine ⟨?_, ?_, ?_, ?_, ?_, ?_, ?_⟩
  · exact ⟨1, State.reset, by decide +kernel⟩
  · exact ⟨0, (lead.setUnit 0x60 1), by decide +kernel⟩
  · exact ⟨1, State.reset, by decide +kernel⟩
  · exact ⟨0, State.reset, by decide +kernel⟩
  · exact ⟨0, State.reset, by decide +kernel⟩
  · exact ⟨0, State.reset, by decide +kernel⟩
  · exact ⟨0, State.reset, by decide +kernel⟩

theorem witness_RackBusFrames :
    (∃ u : Fin 2, ∃ s : State, s.Open (rbPage u)) ∧
    (∃ u : Fin 2, ∃ s : State, s.Open (rbPage u)) ∧
    (∃ u : Fin 2, ∃ s : State, (s.rbLive u = false ∨ s.unit (rbPage u) ≠ 2 ∨ s.flag R.RB_CFG_MON 0 u = true ∨ (s.rb_ u).tx ≠ none)) ∧
    (∃ u : Fin 2, ∃ s : State, s.rbLive u = true ∧ s.unit (rbPage u) = 2 ∧ s.flag R.RB_CFG_MON 0 u = false) ∧
    (∃ u : Fin 2, ∃ s : State, (s.rb_ u).tx = none) ∧
    (∃ u : Fin 2, ∃ s : State, s.flag R.RB_CFG_LBK 0 u = false) ∧
    (∃ u : Fin 2, ∃ i : Fin 96, ∃ j : Fin 96, ∃ f : CanFrame, ∃ s : State, s.flag R.RB_CFG_LBK 0 u = true ∧ i ≠ j ∧ (s.obj u j).takes f = true ∧ (∀ k : Fin 96, k < j → (s.obj u k).takes f = false) ∧ (s.obj u j).queue.length < (s.obj u j).qdepth) ∧
    (∃ u : Fin 2, ∃ s : State, s.rbLive u = false) ∧
    (∃ u : Fin 2, ∃ f : CanFrame, ∃ s : State, s.rbLive u = true ∧ f.fdf = true ∧ s.flag R.RB_CFG_FDEN 0 u = false) ∧
    (∃ u : Fin 2, ∃ f : CanFrame, ∃ s : State, s.rbLive u = true ∧ (f.fdf = false ∨ s.flag R.RB_CFG_FDEN 0 u = true)) ∧
    (∃ u : Fin 2, ∃ s : State, (s.rd R.RB_ERR_STATE 0 u ≠ 2 ∨ s.running (rbPage u) = false)) ∧
    (∃ u : Fin 2, ∃ s : State, s.rd R.RB_ERR_STATE 0 u = 2 ∧ s.running (rbPage u) = true ∧ s.ClocksFree) := by
  refine ⟨?_, ?_, ?_, ?_, ?_, ?_, ?_, ?_, ?_, ?_, ?_, ?_⟩
  · exact ⟨0, State.reset, by decide +kernel⟩
  · exact ⟨1, State.reset, by decide +kernel⟩
  · exact ⟨0, State.reset, by decide +kernel⟩
  · exact ⟨0, racked, by decide +kernel⟩
  · exact ⟨1, racked, by decide +kernel⟩
  · exact ⟨0, racked, by decide +kernel⟩
  · exact ⟨0, 0, 95, canFrame false, (racked.wr R.RB_CFG_LBK 1 0).setObj 0 95 { dir := 2, qdepth := 1 }, by decide +kernel⟩
  · exact ⟨0, State.reset, by decide +kernel⟩
  · exact ⟨0, canFrame true, racked.wr R.RB_CFG_FDEN 0 0, by decide +kernel⟩
  · exact ⟨0, canFrame false, racked, by decide +kernel⟩
  · exact ⟨0, State.reset, by decide +kernel⟩
  · exact ⟨0, racked.wr R.RB_ERR_STATE 2 0, by decide +kernel⟩

theorem witness_AccessesAreChecked :
    ∃ a : BitVec 36, ∃ s : State, s.gateEntryAt ((gateOf a.toNat).getD 0) a.toNat = none := ⟨0xFFFFFFFFF, State.reset, by decide +kernel⟩

theorem witness_AllowedAccessesReachTheirTarget :
    (∃ m : BitVec 6, ∃ priv : Bool, ∃ a : BitVec 36, ∃ n : BitVec 13, ∃ s : State, ∃ k ∈ [AccessKind.read, .fetch, .lr], s.xe.waits = [] ∧ s.rd R.XE_SM_STAT_STATE ≠ 4 ∧ s.NoWork ∧ s.failsAt m.toNat (priv || decide (2 ≤ m.toNat)) k a.toNat n.toNat = none ∧ n ≠ 0 ∧ isPageByte a.toNat = false ∧ isCartByte a.toNat = false) ∧
    (∃ m : BitVec 6, ∃ priv : Bool, ∃ a : BitVec 36, ∃ n : BitVec 13, ∃ s : State, ∃ k ∈ [AccessKind.write, .amo, .sc], s.xe.waits = [] ∧ s.rd R.XE_SM_STAT_STATE ≠ 4 ∧ s.NoWork ∧ s.failsAt m.toNat (priv || decide (2 ≤ m.toNat)) k a.toNat n.toNat = none ∧ n ≠ 0 ∧ isPlainByte a.toNat = true) ∧
    (∃ m : BitVec 6, ∃ priv : Bool, ∃ a : BitVec 36, ∃ n : BitVec 13, ∃ s : State, s.xe.waits = [] ∧ s.rd R.XE_SM_STAT_STATE ≠ 4 ∧ s.NoWork ∧ s.failsAt m.toNat (priv || decide (2 ≤ m.toNat)) .write a.toNat n.toNat = none ∧ n ≠ 0 ∧ isRomByte a.toNat = true) ∧
    (∃ m : BitVec 6, ∃ priv : Bool, ∃ a : BitVec 36, ∃ n : BitVec 13, ∃ s : State, s.xe.waits = [] ∧ s.rd R.XE_SM_STAT_STATE ≠ 4 ∧ s.NoWork ∧ s.failsAt m.toNat (priv || decide (2 ≤ m.toNat)) .write a.toNat n.toNat = none ∧ n ≠ 0 ∧ halfOf a.toNat = some (1 - s.half)) ∧
    (∃ m : BitVec 6, ∃ priv : Bool, ∃ a : BitVec 36, ∃ n : BitVec 13, ∃ s : State, s.xe.waits = [] ∧ s.rd R.XE_SM_STAT_STATE ≠ 4 ∧ s.NoWork ∧ s.failsAt m.toNat (priv || decide (2 ≤ m.toNat)) .write a.toNat n.toNat = none ∧ n ≠ 0 ∧ isInstByte a.toNat = true ∧ s.xe.forces = [] ∧ s.sys.resetHeld = false) ∧
    (∃ m : BitVec 6, ∃ priv : Bool, ∃ a : BitVec 36, ∃ n : BitVec 13, ∃ s : State, s.xe.waits = [] ∧ s.rd R.XE_SM_STAT_STATE ≠ 4 ∧ s.NoWork ∧ s.failsAt m.toNat (priv || decide (2 ≤ m.toNat)) .write a.toNat n.toNat = none ∧ n ≠ 0 ∧ isStationByte a.toNat = true) ∧
    (∃ m : BitVec 6, ∃ priv : Bool, ∃ a : BitVec 36, ∃ n : BitVec 13, ∃ s : State, ∃ k ∈ [AccessKind.read, .write], s.xe.waits = [] ∧ s.rd R.XE_SM_STAT_STATE ≠ 4 ∧ s.NoWork ∧ s.failsAt m.toNat (priv || decide (2 ≤ m.toNat)) k a.toNat n.toNat = none ∧ n ≠ 0 ∧ isCartByte a.toNat = true ∧ s.crtActive = false) ∧
    (∃ a : BitVec 36, ∃ n : BitVec 13, ∃ s : State, s.rd R.XE_SM_STAT_STATE = 4 ∧ s.NoWork ∧ n ≠ 0 ∧ (isInstByte a.toNat = true ∨ (halfOf a.toNat).isSome = true)) := by
  refine ⟨?_, ?_, ?_, ?_, ?_, ?_, ?_, ?_⟩
  · exact ⟨0, true, 0x20000000, 8, lead, .read, by decide +kernel, by decide +kernel⟩
  · exact ⟨0, true, 0x20000000, 4096, gateAll lead 1 0x20000000 4096, .write, by decide +kernel, by decide +kernel⟩
  · exact ⟨0, true, 0x3FFFC, 4, gateAll lead 0 0 0x40000, by decide +kernel⟩
  · exact ⟨0, true, 0x19000000, 8, gateAll lead 3 0x19000000 0x1000, by decide +kernel⟩
  · exact ⟨0, true, 0x10000000, 8, lead, by decide +kernel⟩
  · exact ⟨0, true, 0x50000600, 16, gateAll lead 7 0x50000000 0x1000, by decide +kernel⟩
  · exact ⟨0, true, 0x60000000, 4, gateAll lead 10 0x60000000 0x1000, .write, by decide +kernel, by decide +kernel⟩
  · exact ⟨0x10000000, 1, lead.wr R.XE_SM_STAT_STATE 4, by decide +kernel⟩

theorem witness_GateEntriesAndDebug :
    (∃ s : State, s.Open 0x06) ∧
    (∃ m : BitVec 6, ∃ s : State, s.Open 0x06 ∧ s.rd R.GATE_SEL_GATE 0 0 m.toNat < 13) ∧
    (∃ s : State, s.Open 0x70) ∧
    (∃ s : State, s.Open 0x70) ∧
    (∃ s : State, s.Open 0x70) ∧
    (∃ m : BitVec 6, ∃ cores : BitVec 2, ∃ s : State, ∃ c ∈ [Instr.dbgReset m, .dbgHalt m cores, .dbgResume m cores], s.Open 0x70 ∧ s.flag R.DBG_STAT_UNLOCKED = false) ∧
    (∃ s : State, s.Open 0x70 ∧ s.flag R.DBG_STAT_UNLOCKED = true) ∧
    (∃ s : State, s.Open 0x70 ∧ s.flag R.DBG_STAT_UNLOCKED = true) ∧
    (∃ s : State, s.Open 0x70 ∧ s.flag R.DBG_STAT_UNLOCKED = true) := by
  refine ⟨?_, ?_, ?_, ?_, ?_, ?_, ?_, ?_, ?_⟩
  · exact ⟨State.reset, by decide +kernel⟩
  · exact ⟨0, State.reset, by decide +kernel⟩
  · exact ⟨State.reset, by decide +kernel⟩
  · exact ⟨State.reset, by decide +kernel⟩
  · exact ⟨State.reset, by decide +kernel⟩
  · exact ⟨0, 0, State.reset, .dbgReset 0, by decide +kernel, by decide +kernel⟩
  · exact ⟨State.reset.wr R.DBG_STAT_UNLOCKED 1, by decide +kernel⟩
  · exact ⟨State.reset.wr R.DBG_STAT_UNLOCKED 1, by decide +kernel⟩
  · exact ⟨State.reset.wr R.DBG_STAT_UNLOCKED 1, by decide +kernel⟩

theorem witness_NcpChecksAndSessions :
    (∃ q : NcpReq, ∃ room : Bool, ∃ s : State, ∃ c ∈ ncpRows q room, s.ncpServes q.mac = true) ∧
    (∃ q : NcpReq, ∃ room : Bool, ∃ s : State, ∃ c ∈ ncpRows q room, s.ncpServes q.mac = false) ∧
    (∃ q : NcpReq, ∃ s : State, s.ncpServes q.mac = true ∧ NcpWhole q) ∧
    (∃ q : NcpReq, ∃ s : State, ∃ x ∈ (s.session q.session.toNat).toList, s.ncpServes q.mac = true ∧ NcpWhole q ∧ x.opened = false) ∧
    (∃ q : NcpReq, ∃ s : State, ∃ x ∈ (s.session q.session.toNat).toList, s.Admits q 2 x) ∧
    (∃ id : BitVec 32, ∃ s : State, ∃ x ∈ (s.session id.toNat).toList, s.ClocksFree) ∧
    (∃ id : BitVec 32, ∃ s : State, ∃ x ∈ (s.session id.toNat).toList, s.ClocksFree) ∧
    (∃ id : BitVec 32, ∃ s : State, s.session id.toNat = none) ∧
    (∃ q : NcpReq, ∃ s : State, ∃ x ∈ (s.session q.session.toNat).toList, s.Admits q 4 x ∧ s.mode ≤ 5) := by
  refine ⟨?_, ?_, ?_, ?_, ?_, ?_, ?_, ?_, ?_⟩
  · exact ⟨req 3 [], false, served 0, (.ncpKeepalive (req 3 []), 0x03, 0), by simp [ncpRows], by decide +kernel⟩
  · exact ⟨req 3 [], false, State.reset, (.ncpKeepalive (req 3 []), 0x03, 0), by simp [ncpRows], by decide +kernel⟩
  · exact ⟨req 1 [], served 0, by decide +kernel⟩
  · exact ⟨req 2 [], { served 0 with ncp := { lead.ncp with sess := [{ sess 0 with opened := false }] } }, { sess 0 with opened := false }, by decide +kernel, by decide +kernel⟩
  · exact ⟨req 2 [], served 0, sess 0, by decide +kernel, served_admits 0 2⟩
  · exact ⟨1, served 0, sess 0, by decide +kernel, by decide +kernel⟩
  · exact ⟨1, served 0, sess 0, by decide +kernel, by decide +kernel⟩
  · exact ⟨2, served 0, by decide +kernel⟩
  · exact ⟨req 4 [], served 0, sess 0, by decide +kernel, served_admits 0 4, by decide +kernel⟩

theorem witness_NcpReadsAndPublication :
    (∃ q : NcpReq, ∃ s : State, ∃ x ∈ (s.session q.session.toNat).toList, s.Admits q 0x03 x ∧ s.mode ≤ 5) ∧
    (∃ q : NcpReq, ∃ s : State, ∃ x ∈ (s.session q.session.toNat).toList, s.Admits q 0x10 x ∧ s.mode ≤ 5) ∧
    (∃ q : NcpReq, ∃ s : State, ∃ x ∈ (s.session q.session.toNat).toList, s.Admits q 0x11 x ∧ s.mode ≤ 5) ∧
    (∃ q : NcpReq, ∃ s : State, ∃ x ∈ (s.session q.session.toNat).toList, s.Admits q 0x20 x) ∧
    (∃ q : NcpReq, ∃ s : State, ∃ x ∈ (s.session q.session.toNat).toList, s.Admits q 0x49 x) ∧
    (∃ q : NcpReq, ∃ s : State, ∃ x ∈ (s.session q.session.toNat).toList, s.Admits q 0x51 x ∧ s.mode ≤ 5) ∧
    (∃ q : NcpReq, ∃ s : State, ∃ x ∈ (s.session q.session.toNat).toList, s.Admits q 0x58 x) ∧
    (∃ q : NcpReq, ∃ s : State, ∃ x ∈ (s.session q.session.toNat).toList, s.Admits q 0x70 x) ∧
    (∃ id : BitVec 32, ∃ s : State, ∃ p ∈ ((s.ncp.archive.bind fun a => a.pubs.find? fun p => p.id == id.toNat)).toList, s.ClocksFree ∧ s.ncp.archive.isSome = true) ∧
    (∃ s : State, s.ClocksFree ∧ s.mode = 3 ∧ s.ncp.hasKeys = true) ∧
    (∃ s : State, (s.mode ≠ 3 ∨ s.ncp.hasKeys = false)) := by
  refine ⟨?_, ?_, ?_, ?_, ?_, ?_, ?_, ?_, ?_, ?_, ?_⟩
  · exact ⟨req 0x03 [], served 0, sess 0, by decide +kernel, served_admits 0 0x03, by decide +kernel⟩
  · exact ⟨req 0x10 [], served 0, sess 0, by decide +kernel, served_admits 0 0x10, by decide +kernel⟩
  · exact ⟨req 0x11 [], served 0, sess 0, by decide +kernel, served_admits 0 0x11, by decide +kernel⟩
  · exact ⟨req 0x20 [], served 0, sess 0, by decide +kernel, served_admits 0 0x20⟩
  · exact ⟨req 0x49 [], served 0, sess 0, by decide +kernel, served_admits 0 0x49⟩
  · exact ⟨req 0x51 [], served 0, sess 0, by decide +kernel, served_admits 0 0x51, by decide +kernel⟩
  · exact ⟨req 0x58 [], served 0, sess 0, by decide +kernel, served_admits 0 0x58⟩
  · exact ⟨req 0x70 [], served 0, sess 0, by decide +kernel, served_admits 0 0x70⟩
  · exact ⟨1, { lead with ncp := { lead.ncp with archive := some { trust := [], symbols := [], pubs := [⟨1, 0xE0000001, 100, 3, 10, true, [5]⟩], retained := [], initial := [] } } }, ⟨1, 0xE0000001, 100, 3, 10, true, [5]⟩, by decide +kernel, by decide +kernel⟩
  · exact ⟨{ lead with ncp := { lead.ncp with hasKeys := true } }, by decide +kernel⟩
  · exact ⟨lead, by decide +kernel⟩

theorem witness_NcpModeAndProgramCommands :
    (∃ q : NcpReq, ∃ s : State, ∃ x ∈ (s.session q.session.toNat).toList, s.Admits q 0x30 x ∧ 1 ≤ x.role) ∧
    (∃ q : NcpReq, ∃ s : State, ∃ x ∈ (s.session q.session.toNat).toList, s.Admits q 0x31 x ∧ 2 ≤ x.role) ∧
    (∃ q : NcpReq, ∃ s : State, ∃ x ∈ (s.session q.session.toNat).toList, s.Admits q 0x32 x ∧ 2 ≤ x.role) ∧
    (∃ q : NcpReq, ∃ s : State, ∃ x ∈ (s.session q.session.toNat).toList, s.Admits q 0x33 x ∧ 2 ≤ x.role) ∧
    (∃ q : NcpReq, ∃ s : State, ∃ x ∈ (s.session q.session.toNat).toList, s.Admits q 0x34 x ∧ 3 ≤ x.role) ∧
    (∃ q : NcpReq, ∃ s : State, ∃ x ∈ (s.session q.session.toNat).toList, s.Admits q 0x35 x ∧ 3 ≤ x.role) ∧
    (∃ q : NcpReq, ∃ s : State, ∃ x ∈ (s.session q.session.toNat).toList, s.Admits q 0x36 x ∧ 3 ≤ x.role) ∧
    (∃ q : NcpReq, ∃ s : State, ∃ x ∈ (s.session q.session.toNat).toList, s.Admits q 0x41 x ∧ 2 ≤ x.role) ∧
    (∃ q : NcpReq, ∃ rev : Bool, ∃ s : State, ∃ x ∈ (s.session q.session.toNat).toList, s.Admits q (if rev then 0x43 else 0x42) x ∧ 2 ≤ x.role ∧ (rev = true ∨ payByte q 0 = 0)) ∧
    (∃ q : NcpReq, ∃ rev : Bool, ∃ s : State, ∃ x ∈ (s.session q.session.toNat).toList, s.Admits q (if rev then 0x43 else 0x42) x ∧ 2 ≤ x.role ∧ (rev = true ∨ payByte q 0 = 0)) ∧
    (∃ q : NcpReq, ∃ s : State, ∃ x ∈ (s.session q.session.toNat).toList, s.Admits q 0x48 x ∧ 2 ≤ x.role) := by
  refine ⟨?_, ?_, ?_, ?_, ?_, ?_, ?_, ?_, ?_, ?_, ?_⟩
  · exact ⟨req 0x30 [], served 1, sess 1, by decide +kernel, served_admits 1 0x30, by decide +kernel⟩
  · exact ⟨req 0x31 [], served 2, sess 2, by decide +kernel, served_admits 2 0x31, by decide +kernel⟩
  · exact ⟨req 0x32 [], served 2, sess 2, by decide +kernel, served_admits 2 0x32, by decide +kernel⟩
  · exact ⟨req 0x33 [], served 2, sess 2, by decide +kernel, served_admits 2 0x33, by decide +kernel⟩
  · exact ⟨req 0x34 [], served 3, sess 3, by decide +kernel, served_admits 3 0x34, by decide +kernel⟩
  · exact ⟨req 0x35 [], served 3, sess 3, by decide +kernel, served_admits 3 0x35, by decide +kernel⟩
  · exact ⟨req 0x36 [], served 3, sess 3, by decide +kernel, served_admits 3 0x36, by decide +kernel⟩
  · exact ⟨req 0x41 [], served 2, sess 2, by decide +kernel, served_admits 2 0x41, by decide +kernel⟩
  · exact ⟨req 0x43 [], true, served 2, sess 2, by decide +kernel, served_admits 2 0x43, by decide +kernel⟩
  · exact ⟨req 0x42 [], false, served 3, sess 3, by decide +kernel, served_admits 3 0x42, by decide +kernel⟩
  · exact ⟨req 0x48 [], served 2, sess 2, by decide +kernel, served_admits 2 0x48, by decide +kernel⟩

theorem witness_NcpTransfersAndUnitCommands :
    (∃ q : NcpReq, ∃ s : State, ∃ x ∈ (s.session q.session.toNat).toList, s.Admits q 0x21 x ∧ s.NoWork ∧ s.xe.forces = [] ∧ s.rd R.XE_SM_STAT_STATE ≠ 4 ∧ s.sys.resetHeld = false) ∧
    (∃ q : NcpReq, ∃ s : State, ∃ x ∈ (s.session q.session.toNat).toList, s.Admits q 0x40 x ∧ 2 ≤ x.role) ∧
    (∃ q : NcpReq, ∃ s : State, ∃ x ∈ (s.session q.session.toNat).toList, s.Admits q 0x50 x ∧ 3 ≤ x.role) ∧
    (∃ s : State, s.ClocksFree ∧ (s.ncp.xfers.map fun x => (x.image, x.object)).Nodup) ∧
    (∃ q : NcpReq, ∃ s : State, ∃ x ∈ (s.session q.session.toNat).toList, s.Admits q 0x59 x ∧ 3 ≤ x.role) ∧
    (∃ q : NcpReq, ∃ m : BitVec 6, ∃ s : State, ∃ x ∈ (s.session q.session.toNat).toList, s.Admits q 0x60 x ∧ 3 ≤ x.role ∧ s.Open 0x50 ∧ nbit s.crt.cmd 1 = false) ∧
    (∃ q : NcpReq, ∃ m : BitVec 6, ∃ s : State, ∃ x ∈ (s.session q.session.toNat).toList, s.Admits q 0x61 x ∧ 3 ≤ x.role ∧ s.Open 0x50 ∧ nbit s.crt.cmd 0 = false) ∧
    (∃ q : NcpReq, ∃ s : State, ∃ x ∈ (s.session q.session.toNat).toList, s.Admits q 0x68 x ∧ 2 ≤ x.role) ∧
    (∃ g : Fin 16, ∃ k : Fin 32, ∃ s : State, s.ClocksFree) := by
  refine ⟨?_, ?_, ?_, ?_, ?_, ?_, ?_, ?_, ?_⟩
  · exact ⟨req 0x21 [], served 0, sess 0, by decide +kernel, served_admits 0 0x21, by decide +kernel⟩
  · exact ⟨req 0x40 [], served 2, sess 2, by decide +kernel, served_admits 2 0x40, by decide +kernel⟩
  · exact ⟨req 0x50 [], served 3, sess 3, by decide +kernel, served_admits 3 0x50, by decide +kernel⟩
  · exact ⟨lead, by decide +kernel⟩
  · exact ⟨req 0x59 [], served 3, sess 3, by decide +kernel, served_admits 3 0x59, by decide +kernel⟩
  · exact ⟨req 0x60 [], 0, served 3, sess 3, by decide +kernel, served_admits 3 0x60, by decide +kernel⟩
  · exact ⟨req 0x61 [], 0, served 3, sess 3, by decide +kernel, served_admits 3 0x61, by decide +kernel⟩
  · exact ⟨req 0x68 [], served 2, sess 2, by decide +kernel, served_admits 2 0x68, by decide +kernel⟩
  · exact ⟨0, 31, lead, by decide +kernel⟩

theorem witness_EthernetFrames :
    (∃ mac : Fin 3, ∃ f : EthFrame, ∃ s : State, ¬s.MacAccepts mac f) ∧
    (∃ mac : Fin 3, ∃ f : EthFrame, ∃ s : State, s.ClocksFree ∧ s.MacAccepts mac f ∧ (∀ p ∈ (framePtp f.bytes).toList, s.stamps mac p = false)) ∧
    (∃ mac : Fin 3, ∃ f : EthFrame, ∃ s : State, s.ClocksFree ∧ s.MacAccepts mac f) ∧
    (∃ mac : Fin 3, ∃ f : EthFrame, ∃ s : State, ∃ p ∈ (framePtp f.bytes).toList, s.ClocksFree ∧ s.MacAccepts mac f ∧ s.stamps mac p = true) ∧
    (∃ m : BitVec 6, ∃ mac : Fin 3, ∃ s : State, s.Open (0x41 + mac) ∧ s.DescPlain mac (s.txDesc mac) ∧ s.DmaPlain (0x10 + mac) .read (s.rdLe (s.txDesc mac) 8 % 2 ^ 36) (s.rdLe (s.txDesc mac + 8) 2)) ∧
    (∃ mac : Fin 3, ∃ s : State, (s.emac mac).sending = false) ∧
    (∃ mac : Fin 3, ∃ s : State, s.ClocksFree ∧ (s.emac mac).sending = true ∧ (∀ p ∈ (framePtp (s.emac mac).frame).toList, s.stamps mac p = false) ∧ s.DescPlain mac (s.txDesc mac) ∧ s.rd R.EMAC_TXSIZE 0 mac < 4096) := by
  refine ⟨?_, ?_, ?_, ?_, ?_, ?_, ?_⟩
  · exact ⟨0, ptpFrame, State.reset, by decide +kernel⟩
  · exact ⟨0, plainFrame, netted, by decide +kernel⟩
  · exact ⟨0, ptpFrame, netted, by decide +kernel⟩
  · exact ⟨0, ptpFrame, netted.wr R.EMAC_TSCFG_L2 1, (framePtp ptpFrame.bytes).getD ⟨0, 0, 0, 0⟩, by decide +kernel, by decide +kernel⟩
  · exact ⟨0, 0, netted, by decide +kernel⟩
  · exact ⟨0, netted, by decide +kernel⟩
  · exact ⟨0, netted.setEmac 0 { netted.emac 0 with sending := true, frame := List.replicate 60 0 }, by decide +kernel⟩

theorem witness_ImageBook :
    (∃ s : State, s.Open 0x68) ∧
    (∃ s : State, s.Open 0x68) ∧
    (∃ s : State, s.Open 0x68) ∧
    (∃ s : State, s.mode = 1 ∧ s.sys.resetHeld = false ∧ s.rd R.SYS_STARTSTEP_STEP = 3 ∧ s.sys.recovery = false) ∧
    (∃ s : State, s.mode = 1 ∧ s.sys.resetHeld = false ∧ s.rd R.SYS_STARTSTEP_STEP = 9 ∧ s.sys.failed = 0 ∧ s.rd R.PAIR_STAT_MISMATCH = 0 ∧ s.flag R.PAIR_STAT_PARTNER = false ∧ s.rd R.SYS_NEXTSTART_KIND = 0 ∧ s.rd R.SYS_STARTPOL_POLICY = 0 ∧ s.sys.recovery = false) := by
  refine ⟨?_, ?_, ?_, ?_, ?_⟩
  · exact ⟨State.reset, by decide +kernel⟩
  · exact ⟨State.reset, by decide +kernel⟩
  · exact ⟨State.reset, by decide +kernel⟩
  · exact ⟨start 3, by decide +kernel⟩
  · exact ⟨start 9, by decide +kernel⟩

theorem witness_SafetyFaults :
    (∃ c : Instr, ∃ cause : Nat, ∃ kind : Reaction, ∃ unit : Nat, ∃ info : Nat, ∃ events : List (Nat × Nat), ∃ s : State, Finding c cause kind unit info events ∧ s.Faultable) ∧
    (∃ c : Instr, ∃ cause : Nat, ∃ kind : Reaction, ∃ unit : Nat, ∃ info : Nat, ∃ events : List (Nat × Nat), ∃ s : State, Finding c cause kind unit info events ∧ (s.mode = 0 ∨ (s.sys.resetHeld = true ∧ (s.mt ≠ 0 ∨ s.sys.cut = none)))) ∧
    (∃ c : Instr, ∃ cause : Nat, ∃ kind : Reaction, ∃ unit : Nat, ∃ info : Nat, ∃ events : List (Nat × Nat), ∃ mode : Nat, ∃ s : State, Finding c cause kind unit info events ∧ s.mode ≠ 0 ∧ s.sys.resetHeld = true ∧ s.mt = 0 ∧ mode ≤ 5) ∧
    (∃ s : State, s.Faultable ∧ s.flag R.SAF_CFG_RSTALL = false) ∧
    (∃ s : State, s.Faultable) ∧
    (∃ s : State, s.Faultable) ∧
    (∃ s : State, s.mode = 0) ∧
    (∃ s : State, s.Open 0x05 ∧ s.Faultable) := by
  refine ⟨?_, ?_, ?_, ?_, ?_, ?_, ?_, ?_⟩
  · exact ⟨.temperatureFault, 0x0E, .hold, 1, 0, [], lead, .temperature, by decide +kernel⟩
  · exact ⟨.uncorrectableEcc .rom 0xFFFFFFFFF, 0x0A, .safetyReset, 5, 0xFFFFFFFF, [(0x05, 3)], run 0, .rom 0xFFFFFFFFF, by decide +kernel⟩
  · exact ⟨.temperatureFault, 0x0E, .hold, 1, 0, [], 5, State.reset, .temperature, by decide +kernel⟩
  · exact ⟨lead, by decide +kernel⟩
  · exact ⟨lead, by decide +kernel⟩
  · exact ⟨lead, by decide +kernel⟩
  · exact ⟨run 0, by decide +kernel⟩
  · exact ⟨lead, by decide +kernel⟩

theorem witness_DiagnosticScheduleAndWatchdogs :
    (∃ s : State, s.Faultable ∧ s.ClocksFree) ∧
    (∃ s : State, (s.mode = 0 ∨ s.sys.resetHeld = true)) ∧
    (∃ s : State, s.saf.passing = false) ∧
    (∃ s : State, s.Faultable ∧ s.ClocksFree ∧ s.saf.passing = true) ∧
    (∃ s : State, s.mode ≠ 0 ∧ s.sys.resetHeld = false ∧ s.ClocksFree) ∧
    (∃ s : State, (s.mode = 0 ∨ s.sys.resetHeld = true)) ∧
    (∃ n : Fin 2, ∃ s : State, s.present 0x05 = true ∧ s.flag R.H_LOCK_ARMED 0 0x05 = false ∧ s.Faultable) ∧
    (∃ s : State, s.ClocksFree ∧ s.Faultable) ∧
    (∃ s : State, s.Open 0x05 ∧ s.flag R.H_LOCK_LOCKED 0 0x05 = false) ∧
    (∃ s : State, s.Open 0x05 ∧ s.flag R.H_LOCK_LOCKED 0 0x05 = false) := by
  refine ⟨?_, ?_, ?_, ?_, ?_, ?_, ?_, ?_, ?_, ?_⟩
  · exact ⟨lead, by decide +kernel⟩
  · exact ⟨run 0, by decide +kernel⟩
  · exact ⟨lead, by decide +kernel⟩
  · exact ⟨{ lead with saf := { lead.saf with passing := true } }, by decide +kernel⟩
  · exact ⟨lead, by decide +kernel⟩
  · exact ⟨State.reset, by decide +kernel⟩
  · exact ⟨1, lead, by decide +kernel⟩
  · exact ⟨lead, by decide +kernel⟩
  · exact ⟨lead, by decide +kernel⟩
  · exact ⟨lead, by decide +kernel⟩

end Sys2Proof.Tests
end

section
/-! SUPPORT. A command that accesses register words, as an access to its page: nothing on the page of an absent unit (02 R26), and a
LOCK sequence under way is broken first (02 R33). -/

namespace Sys2Proof.Machine

/-! Every command that writes or reads register words goes through its page. -/

/-- REGISTER_WRITE is a write of LOCK just where `writesPage` leaves it out. -/
theorem lockWord_iff (page : BitVec 8) (word : BitVec 10) :
    (page.toNat = firstPage page.toNat ∧ 4 * word.toNat = 0x028) ↔ page.toNat = firstPage page.toNat ∧ word = 10 := by
  have h : 4 * word.toNat = 0x028 ↔ word = 10 := by constructor <;> intro h <;> bv_omega
  rw [h]

theorem exec_of_writesPage {c : Instr} {p : Nat} (h : writesPage c = some p) : ∃ f, ∀ s, exec c s = .next (s.onPage p f) := by
  cases c
  case registerWrite m page word v =>
    rw [writesPage] at h
    split at h
    · cases h
    · rename_i hl
      cases h
      exact ⟨_, fun s => congrArg Host.Outcome.next (if_neg (mt (lockWord_iff page word).mp hl))⟩
  case teCfgdataAccess m write v => cases write <;> cases h; exact ⟨_, fun _ => congrArg Host.Outcome.next (if_pos rfl)⟩
  case mldataAccess m write v => cases write <;> cases h; exact ⟨_, fun _ => congrArg Host.Outcome.next (if_pos rfl)⟩
  all_goals cases h
  all_goals exact ⟨_, fun _ => rfl⟩

/-- A read answers one word, but for EVC_CLAIM, which answers a word for each pair. -/
theorem exec_of_readsPage {c : Instr} {p : Nat} (h : readsPage c = some p) :
    (∃ f, ∀ s, exec c s = .next (s.onRead p f)) ∨ (∃ cp0 cp1, c = .evcClaim cp0 cp1) ∧ p = 0x03 := by
  cases c
  case evcClaim cp0 cp1 => cases h; exact .inr ⟨⟨cp0, cp1, rfl⟩, rfl⟩
  case teCfgdataAccess m write v => cases write <;> cases h; exact .inl ⟨_, fun _ => congrArg Host.Outcome.next (if_neg Bool.false_ne_true)⟩
  case mldataAccess m write v => cases write <;> cases h; exact .inl ⟨_, fun _ => congrArg Host.Outcome.next (if_neg Bool.false_ne_true)⟩
  all_goals cases h
  all_goals exact .inl ⟨_, fun _ => rfl⟩

/-- On the page of a present unit an access has its effect in the state that the LOCK sequence leaves. -/
theorem exec_of_present {c : Instr} {p : Nat} (h : writesPage c = some p ∨ readsPage c = some p) :
    ∃ g : State → State, ∀ s, s.present p = true → exec c s = .next (g (s.touch p)) := by
  rcases h with hw | hr
  · obtain ⟨f, hf⟩ := exec_of_writesPage hw
    exact ⟨f, fun s hp => by rw [hf, State.onPage, if_pos hp]⟩
  · rcases exec_of_readsPage hr with ⟨f, hf⟩ | ⟨⟨cp0, cp1, rfl⟩, rfl⟩
    · exact ⟨fun u => (f u).2.answer (f u).1, fun s hp => by rw [hf, State.onRead, if_pos hp]⟩
    · exact ⟨fun u => u.claims cp0 cp1, fun s hp => congrArg Host.Outcome.next (if_pos hp)⟩

/-! The page of an absent unit. -/

theorem leBytes_zero {n : Nat} {b : BitVec 8} (h : b ∈ leBytes n 0) : b = 0 := by
  induction n with
  | zero => cases h
  | succ n ih =>
    rcases List.mem_cons.mp h with h | h
    · exact h
    · exact ih h

theorem lockWrite_absent {s : State} {page : Nat} (h : s.present (firstPage page) = false) (v : Nat) : s.lockWrite page v = s := by
  simp [State.lockWrite, h]

/-- A claim of EVC's page where the unit is absent answers a zero word for each pair. -/
theorem exec_evcClaim_absent {s : State} (h : s.present 0x03 = false) (cp0 cp1 : Bool) :
    ∃ t, exec (.evcClaim cp0 cp1) s = .next t ∧ (∀ b ∈ t.bus.data, b = 0) ∧ t.bus.refused = false ∧ t = { s with bus := t.bus } := by
  refine ⟨_, congrArg Host.Outcome.next (if_neg (by simp [h])), fun b hb => ?_, rfl, rfl⟩
  cases cp0 <;> cases cp1 <;> simp at hb <;> exact leBytes_zero hb

/-- A read on the page of an absent unit answers zero bytes and changes nothing else. -/
theorem exec_read_absent {c : Instr} {p : Nat} {s : State} (hc : readsPage c = some p) (h : s.present p = false) :
    ∃ t, exec c s = .next t ∧ (∀ b ∈ t.bus.data, b = 0) ∧ t.bus.refused = false ∧ t = { s with bus := t.bus } := by
  rcases exec_of_readsPage hc with ⟨f, hf⟩ | ⟨⟨cp0, cp1, rfl⟩, rfl⟩
  · exact ⟨s.answer 0, by rw [hf, State.onRead_absent h], fun _ => leBytes_zero, rfl, rfl⟩
  · exact exec_evcClaim_absent h cp0 cp1

theorem asserts_absent {s : State} {n : Nat} (h : ∀ e ∈ srcBits n, s.present e.1 = false) : s.asserts n = false := by
  rw [State.asserts, List.any_eq_false]
  intro e he
  simp [h e he]

/-- Settles O5: every write goes through `onPage` and every read through `onRead` of its page. -/
theorem absentPagesReadZeroAndIgnoreWrites : Obligations.AbsentPagesReadZeroAndIgnoreWrites := by
  refine ⟨fun c p s hc h => ?_, fun m page v s h => ?_, fun c p s => exec_read_absent, fun n s => asserts_absent⟩
  · obtain ⟨f, hf⟩ := exec_of_writesPage hc
    rw [hf, State.onPage_absent h]
  · exact congrArg Host.Outcome.next (lockWrite_absent h v.toNat)

end Sys2Proof.Machine
end

section
/-! SUPPORT. LOCK (02 R33): what each key does, and how any other access breaks a sequence under way. -/

namespace Sys2Proof.Machine

/-- An error recorded after changes that leave CODE and OFFSET of the unit alone is recorded of the state before them. -/
theorem State.err_recorded_after {s t : State} {page : Nat} (hc : t.rd R.H_ERR_CODE 0 (firstPage page) = s.rd R.H_ERR_CODE 0 (firstPage page))
    (ho : t.rd R.H_ERR_OFFSET 0 (firstPage page) = s.rd R.H_ERR_OFFSET 0 (firstPage page)) {code off : Nat} (hcode : code < 256)
    (hoff : off < 4096) : s.Recorded (t.err page code off) page code off := by
  have h := t.err_recorded page code off hcode hoff
  unfold State.Recorded at h ⊢
  rwa [hc, ho] at h

theorem State.err_first_page (s : State) (page code off : Nat) : s.err (firstPage page) code off = s.err page code off := by
  simp [State.err, firstPage_idem]

/-- What breaks a LOCK sequence leaves: ARMED cleared and code 0x05 recorded (R33). -/
def State.lockBroken (s : State) (page : Nat) : State := (s.wr R.H_LOCK_ARMED 0 0 (firstPage page)).err page 0x05 0x028

theorem State.lockBroken_armed (s : State) (page : Nat) : (s.lockBroken page).flag R.H_LOCK_ARMED 0 (firstPage page) = false := by
  rw [State.flag_eq, State.lockBroken, State.err_rd _ _ _ _ _ _ _ _ (by decide) (by decide) (by decide), State.rd_wr_self]
  rfl

theorem State.lockBroken_recorded (s : State) (page : Nat) : s.Recorded (s.lockBroken page) page 0x05 0x028 :=
  State.err_recorded_after (State.rd_wr_place _ _ _ _ _ _ _ _ _ _ (by decide)) (State.rd_wr_place _ _ _ _ _ _ _ _ _ _ (by decide))
    (by decide) (by decide)

theorem State.lockBroken_only (s : State) (page : Nat) :
    s.OnlyRegs (s.lockBroken page) (R.H_LOCK_ARMED.key 0 (firstPage page) 0 :: errKeys page) :=
  ⟨((State.RegsBut.refl s _).wr _ _ _ _ _ (List.mem_cons_self ..)).err _ _ _ (List.subset_cons_self ..),
    ((State.RegsAlone.refl s).wr _ _ _ _ _).err _ _ _⟩

theorem State.lockBroken_present (s : State) (page p : Nat) : (s.lockBroken page).present p = s.present p :=
  State.present_congr (by rw [State.lockBroken, State.err_rd, State.rd_wr_place] <;> decide)
    (by rw [State.lockBroken, State.err_rd, State.rd_wr_place] <;> decide)
    (by rw [State.lockBroken, State.err_rd, State.rd_wr_place] <;> decide) p

/-! Any other access of the unit. -/

theorem State.touch_of_armed {s : State} {page : Nat} (h : s.flag R.H_LOCK_ARMED 0 (firstPage page) = true) : s.touch page = s.lockBroken page := by
  simp only [State.touch, h, if_true, State.err_first_page]
  rfl

theorem State.touch_of_unarmed {s : State} {page : Nat} (h : s.flag R.H_LOCK_ARMED 0 (firstPage page) = false) : s.touch page = s := by
  simp [State.touch, h]

/-- An access while ARMED is set is that access in the state of the broken sequence. -/
theorem exec_of_armed {c : Instr} {p : Nat} {s : State} (hc : writesPage c = some p ∨ readsPage c = some p) (hp : s.present p = true)
    (ha : s.flag R.H_LOCK_ARMED 0 (firstPage p) = true) : exec c s = exec c (s.lockBroken p) := by
  obtain ⟨g, hg⟩ := exec_of_present hc
  rw [hg s hp, hg _ ((s.lockBroken_present p p).trans hp), State.touch_of_armed ha, State.touch_of_unarmed (s.lockBroken_armed p)]

/-! The writes of LOCK, one lemma for each. -/

section
variable {s : State} {page v : Nat}

theorem lockWrite_locked (h : s.flag R.H_LOCK_LOCKED 0 (firstPage page) = true) : s.lockWrite page v = s := by
  simp [State.lockWrite, h]

theorem lockWrite_first (hp : s.present (firstPage page) = true) (hl : s.flag R.H_LOCK_LOCKED 0 (firstPage page) = false) :
    s.lockWrite page 0x4C4F = s.wr R.H_LOCK_ARMED 1 0 (firstPage page) := by
  simp [State.lockWrite, hp, hl]

theorem lockWrite_second (hp : s.present (firstPage page) = true) (hl : s.flag R.H_LOCK_LOCKED 0 (firstPage page) = false)
    (ha : s.flag R.H_LOCK_ARMED 0 (firstPage page) = true) :
    s.lockWrite page 0x434B = (s.wr R.H_LOCK_ARMED 0 0 (firstPage page)).wr R.H_LOCK_LOCKED 1 0 (firstPage page) := by
  simp [State.lockWrite, hp, hl, ha]

theorem lockWrite_other (hp : s.present (firstPage page) = true) (hl : s.flag R.H_LOCK_LOCKED 0 (firstPage page) = false)
    (h1 : v ≠ 0x4C4F) (h2 : ¬ (v = 0x434B ∧ s.flag R.H_LOCK_ARMED 0 (firstPage page) = true)) : s.lockWrite page v = s.lockBroken page := by
  simp only [State.lockWrite, hp, hl, h1, h2, if_false, Bool.not_true, Bool.or_self, Bool.false_eq_true, State.err_first_page]
  rfl

/-- The first key arms the sequence, on a page that stays unlocked. -/
theorem lockWrite_first_spec (hl : s.flag R.H_LOCK_LOCKED 0 (firstPage page) = false) :
    let t := s.wr R.H_LOCK_ARMED 1 0 (firstPage page)
    t.flag R.H_LOCK_ARMED 0 (firstPage page) = true ∧ t.flag R.H_LOCK_LOCKED 0 (firstPage page) = false ∧
      s.OnlyRegs t [R.H_LOCK_ARMED.key 0 (firstPage page) 0] := by
  refine ⟨?_, ?_, (State.RegsBut.refl s _).wr _ _ _ _ _ (List.mem_cons_self ..), (State.RegsAlone.refl s).wr _ _ _ _ _⟩
  · rw [State.flag_eq, State.rd_wr_self]; rfl
  · rw [State.flag_eq, State.rd_wr_place _ _ _ _ _ _ _ _ _ _ (by decide)]; exact hl

/-- The second key ends the sequence and locks the page. -/
theorem lockWrite_second_spec (s : State) (p : Nat) :
    let t := (s.wr R.H_LOCK_ARMED 0 0 p).wr R.H_LOCK_LOCKED 1 0 p
    t.flag R.H_LOCK_ARMED 0 p = false ∧ t.flag R.H_LOCK_LOCKED 0 p = true ∧
      s.OnlyRegs t [R.H_LOCK_ARMED.key 0 p 0, R.H_LOCK_LOCKED.key 0 p 0] := by
  refine ⟨?_, ?_, ((State.RegsBut.refl s _).wr _ _ _ _ _ (List.mem_cons_self ..)).wr _ _ _ _ _ (List.mem_cons_of_mem _ (List.mem_cons_self ..)),
    ((State.RegsAlone.refl s).wr _ _ _ _ _).wr _ _ _ _ _⟩
  · rw [State.flag_eq, State.rd_wr_place _ _ _ _ _ _ _ _ _ _ (by decide), State.rd_wr_self]; rfl
  · rw [State.flag_eq, State.rd_wr_self]; rfl

end

/-- Settles O6: the keys by the cases of a write of LOCK, any other access by the state of the broken sequence. -/
theorem lockSequence : Obligations.LockSequence := by
  refine ⟨fun m page v s hp => ⟨_, rfl, ?_⟩, fun c p s hc hp ha =>
    ⟨s.lockBroken p, s.lockBroken_armed p, s.lockBroken_recorded p, s.lockBroken_only p, exec_of_armed hc hp ha⟩⟩
  cases hl : s.flag R.H_LOCK_LOCKED 0 (firstPage page.toNat)
  case true => exact lockWrite_locked hl
  case false =>
    rw [if_neg Bool.false_ne_true]
    split
    case isTrue h1 =>
      subst h1
      exact lockWrite_first hp hl ▸ lockWrite_first_spec hl
    case isFalse h1 =>
      split
      case isTrue h2 =>
        obtain ⟨rfl, ha⟩ := h2
        exact lockWrite_second hp hl ha ▸ lockWrite_second_spec s _
      case isFalse h2 =>
        have h1' : v.toNat ≠ 0x4C4F := fun h => h1 (BitVec.eq_of_toNat_eq h)
        have h2' : ¬ (v.toNat = 0x434B ∧ s.flag R.H_LOCK_ARMED 0 (firstPage page.toNat) = true) :=
          fun h => h2 ⟨BitVec.eq_of_toNat_eq h.1, h.2⟩
        rw [lockWrite_other hp hl h1' h2']
        exact ⟨s.lockBroken_armed _, s.lockBroken_recorded _, s.lockBroken_only _⟩

end Sys2Proof.Machine
end

section
/-! SUPPORT. A write of a word that holds one field and has no behaviour of its own, by the access code of the field (02 R25, R29, R34;
00 Table 0.4). -/

namespace Sys2Proof.Machine

/-- REGISTER_WRITE of a word other than LOCK on an open page is the write that the unit gives the word. -/
theorem exec_registerWrite_open {s : State} {page : BitVec 8} {word : BitVec 10} (h : s.Open page.toNat) (hw : 4 * word.toNat ≠ 0x028)
    (m : BitVec 6) (v : BitVec 32) :
    exec (.registerWrite m page word v) s = .next (s.regWrite m true page.toNat (4 * word.toNat) v.toNat) :=
  congrArg Host.Outcome.next (State.pageWrite_open h m true _ _ hw)

theorem Row.key_ne_of_place {q r : Row} {j k : Nat} (h : q.place j ≠ r.place k) (u m u' m' : Nat) : q.key j u m ≠ r.key k u' m' :=
  fun e => h (by rw [← Row.key_place q j u m, e, Row.key_place])

theorem nfield_low (v w : Nat) : nfield v 0 w = v % 2 ^ w := by simp [nfield]

/-- A field takes a write: RW, or RWL on a page that is not locked. -/
def Field.Takes (f : Field) (s : State) (page : Nat) : Prop := f.row.acc = .rw ∨ (f.row.acc = .rwl ∧ s.pageLocked page = false)

/-- The rows that CFGGEN and ERRINFO stand in lie beside the field, whatever the page. -/
def Field.BesideHeader (f : Field) : Prop :=
  ∀ q ∈ [R.H_CFGGEN, R.H_ERR_CODE, R.H_ERR_OFFSET, R.H_ERR_MORE], q.place 0 ≠ f.row.place f.k

section
variable {s t : State} {f : Field} {page off m v : Nat}

/-! The field of the word. -/

theorem reservedOk_low (hlo : f.row.lo = 0) : reservedOk [f] v = decide (v < 2 ^ f.row.width) := by
  have h : v - v % 2 ^ f.row.width = 0 ↔ v < 2 ^ f.row.width := by
    constructor <;> intro h
    · have := Nat.mod_lt v (Nat.two_pow_pos f.row.width)
      omega
    · rw [Nat.mod_eq_of_lt h, Nat.sub_self]
  rw [Bool.eq_iff_iff]
  simp [reservedOk, Field.bits, hlo, nfield_low, h]

theorem State.wordOf_single (s : State) (m : Nat) (f : Field) : s.wordOf m [f] = s.fieldRead m f * 2 ^ f.row.lo := by
  simp [State.wordOf]

theorem State.wordWrite_takes (h : f.Takes s page) (hb : f.row.banked = false) :
    s.wordWrite m v (s.pageLocked page) [f] = s.wr f.row (f.bits v) f.k f.u := by
  rw [← State.wr_unbanked s hb _ _ _ m]
  rcases h with h | ⟨h, hl⟩
  · simp [State.wordWrite, State.each, State.fieldWrite, h]
  · simp [State.wordWrite, State.each, State.fieldWrite, h, hl]

theorem Field.bits_mod (f : Field) (v : Nat) : f.bits v % 2 ^ f.row.width = f.bits v := Nat.mod_mod ..

/-- CFGGEN counts just where the write changes the field (R29). -/
theorem State.cfgBump_single (hf : fieldsAt page off = [f]) (hb : f.row.banked = false) (ha : f.row.acc = .rw ∨ f.row.acc = .rwl) :
    t.cfgBump s page off m =
      if s.rd f.row f.k f.u = t.rd f.row f.k f.u then t else t.wrap R.H_CFGGEN 0 (firstPage page) := by
  have hwo : f.row.acc ≠ .wo := by rcases ha with ha | ha <;> simp [ha]
  have hfs : (fieldsAt page off).filter (fun f => f.row.acc == .rw || f.row.acc == .rwl) = [f] := by
    rw [hf]; rcases ha with ha | ha <;> simp [ha]
  have hw : ∀ u : State, u.wordOf m [f] = u.rd f.row f.k f.u * 2 ^ f.row.lo := fun u => by
    rw [State.wordOf_single, State.fieldRead, if_neg hwo, State.rd_unbanked u hb]
  simp only [State.cfgBump, hfs, hw, Nat.mul_left_inj (Nat.two_pow_pos f.row.lo).ne']

theorem State.fields_takes (hf : fieldsAt page off = [f]) (hb : f.row.banked = false) (h : f.Takes s page) :
    s.fields m page off v =
      if s.rd f.row f.k f.u = f.bits v then s.wr f.row (f.bits v) f.k f.u
      else (s.wr f.row (f.bits v) f.k f.u).wrap R.H_CFGGEN 0 (firstPage page) := by
  rw [State.fields, State.cfgBump_single hf hb (h.imp_right And.left), hf, State.wordWrite_takes h hb, State.rd_wr_self, Field.bits_mod]

/-- The field holds its bits of the word, and CFGGEN has counted a change of value. -/
theorem State.fields_takes_spec (hf : fieldsAt page off = [f]) (hb : f.row.banked = false) (h : f.Takes s page) (hh : f.BesideHeader) :
    (s.fields m page off v).rd f.row f.k f.u = f.bits v ∧
      (s.fields m page off v).rd R.H_CFGGEN 0 (firstPage page) =
        (if s.rd f.row f.k f.u = f.bits v then s.rd R.H_CFGGEN 0 (firstPage page) else (s.rd R.H_CFGGEN 0 (firstPage page) + 1) % 2 ^ 32) ∧
      s.OnlyRegs (s.fields m page off v) [f.row.key f.k f.u 0, R.H_CFGGEN.key 0 (firstPage page) 0] := by
  have hc : R.H_CFGGEN.place 0 ≠ f.row.place f.k := hh _ (by simp)
  have hw := (State.RegsBut.refl s [f.row.key f.k f.u 0, R.H_CFGGEN.key 0 (firstPage page) 0]).wr f.row (f.bits v) f.k f.u 0 (by simp)
  rw [State.fields_takes hf hb h]
  split
  · refine ⟨?_, State.rd_wr_place _ _ _ _ _ _ _ _ _ _ hc, hw, (State.RegsAlone.refl s).wr _ _ _ _ _⟩
    rw [State.rd_wr_self, Field.bits_mod]
  · refine ⟨?_, ?_, hw.wr _ _ _ _ _ (by simp), ((State.RegsAlone.refl s).wr _ _ _ _ _).wr _ _ _ _ _⟩
    · rw [State.wrap, State.rd_wr_place _ _ _ _ _ _ _ _ _ _ hc.symm, State.rd_wr_self, Field.bits_mod]
    · rw [State.wrap, State.rd_wr_self, State.rd_wr_place _ _ _ _ _ _ _ _ _ _ hc]
      exact Nat.mod_mod ..

/-! What ERRINFO records. -/

/-- A word whose one field takes the write: code 0x04 for reserved bits that are not 0 is all there is to record. -/
theorem State.notes_takes (hf : fieldsAt page off = [f]) (h : f.Takes s page) (hs : t.sys = s.sys) :
    t.notes s m page off v = if reservedOk [f] v then t else t.err page 0x04 off := by
  have hro : s.roDiffers m page off v = false := by
    rcases h with h | ⟨h, -⟩ <;> simp [State.roDiffers, hf, h]
  have hl : (s.pageLocked page && [f].any fun f => f.row.acc == .rwl) = false := by
    rcases h with h | ⟨-, h⟩ <;> simp [h]
  simp only [State.notes, hs, hl, hro, hf]
  cases reservedOk [f] v <;> simp

/-- A field from bit 0 up that takes the write: its value, CFGGEN, and code 0x04 where the word is wider than the field. -/
theorem State.plainWrite_takes (hf : fieldsAt page off = [f]) (hb : f.row.banked = false) (hlo : f.row.lo = 0) (h : f.Takes s page)
    (hh : f.BesideHeader) (ho : off < 4096) :
    (s.plainWrite m page off v).rd f.row f.k f.u = v % 2 ^ f.row.width ∧
      (s.plainWrite m page off v).rd R.H_CFGGEN 0 (firstPage page) =
        (if s.rd f.row f.k f.u = v % 2 ^ f.row.width then s.rd R.H_CFGGEN 0 (firstPage page)
         else (s.rd R.H_CFGGEN 0 (firstPage page) + 1) % 2 ^ 32) ∧
      (if v < 2 ^ f.row.width then s.OnlyRegs (s.plainWrite m page off v) [f.row.key f.k f.u 0, R.H_CFGGEN.key 0 (firstPage page) 0]
       else s.Recorded (s.plainWrite m page off v) page 0x04 off ∧
         s.OnlyRegs (s.plainWrite m page off v) ([f.row.key f.k f.u 0, R.H_CFGGEN.key 0 (firstPage page) 0] ++ errKeys page)) := by
  obtain ⟨hv, hg, hr, ha⟩ := State.fields_takes_spec (m := m) (v := v) hf hb h hh
  have hs : (s.fields m page off v).sys = s.sys := by rw [ha]
  have hbits : f.bits v = v % 2 ^ f.row.width := by rw [Field.bits, hlo, nfield_low]
  have hbeside : ∀ q ∈ [R.H_ERR_CODE, R.H_ERR_OFFSET, R.H_ERR_MORE], q.place 0 ≠ f.row.place f.k := fun q hq => hh q (List.mem_cons_of_mem _ hq)
  simp only [List.forall_mem_cons] at hbeside
  obtain ⟨hcode, hoff, hmore, -⟩ := hbeside
  rw [hbits] at hv hg
  simp only [State.plainWrite, State.notes_takes hf h hs, reservedOk_low hlo, decide_eq_true_eq]
  split
  · exact ⟨hv, hg, hr, ha⟩
  · have hkeep : ∀ q : Row, q.place 0 ≠ f.row.place f.k → q.place 0 ≠ R.H_CFGGEN.place 0 →
        (s.fields m page off v).rd q 0 (firstPage page) = s.rd q 0 (firstPage page) := fun q h1 h2 =>
      hr q 0 (firstPage page) 0 (by
        simp only [List.mem_cons, List.not_mem_nil, or_false, not_or]
        exact ⟨Row.key_ne_of_place h1 _ _ _ _, Row.key_ne_of_place h2 _ _ _ _⟩)
    refine ⟨?_, ?_, State.err_recorded_after (hkeep _ hcode (by decide)) (hkeep _ hoff (by decide)) (by decide) ho,
      (hr.mono (List.subset_append_left ..)).err _ _ _ (List.subset_append_right ..), ha.err _ _ _⟩
    · rw [State.err_rd _ _ _ _ _ _ _ _ hcode.symm hoff.symm hmore.symm, hv]
    · rw [State.err_rd _ _ _ _ _ _ _ _ (by decide) (by decide) (by decide), hg]

/-- An RWL field of a locked page keeps its value, and code 0x01 is recorded (R34). -/
theorem State.plainWrite_locked (hf : fieldsAt page off = [f]) (ha : f.row.acc = .rwl) (hl : s.pageLocked page = true)
    (hr : reservedOk [f] v = true) : s.plainWrite m page off v = s.err page 0x01 off := by
  have hfields : s.fields m page off v = s := by
    simp [State.fields, hf, State.wordWrite, State.each, State.fieldWrite, ha, hl, State.cfgBump]
  have hro : s.roDiffers m page off v = false := by simp [State.roDiffers, hf, ha]
  rw [State.plainWrite, hfields]
  simp [State.notes, hf, hl, ha, hr, hro]

/-- An RO field ignores the write, and code 0x03 is recorded just where the written bits differ from what the word reads (R25). -/
theorem State.plainWrite_ro (hf : fieldsAt page off = [f]) (ha : f.row.acc = .ro) (hr : reservedOk [f] v = true) :
    s.plainWrite m page off v = if f.bits v = f.bits (s.regView m page off) then s else s.err page 0x03 off := by
  have hfields : s.fields m page off v = s := by
    simp [State.fields, hf, State.wordWrite, State.each, State.fieldWrite, ha, State.cfgBump]
  rw [State.plainWrite, hfields]
  simp [State.notes, State.roDiffers, hf, ha, hr]

/-- An offset that no field holds takes nothing, and code 0x04 is recorded just where the word is not 0 (R25). -/
theorem State.plainWrite_undefined (hf : fieldsAt page off = []) :
    s.plainWrite m page off v = if v = 0 then s else s.err page 0x04 off := by
  have hfields : s.fields m page off v = s := by simp [State.fields, hf, State.wordWrite, State.each, State.cfgBump]
  rw [State.plainWrite, hfields]
  simp [State.notes, State.roDiffers, hf, reservedOk]

end

/-! The four words of the statement. -/

theorem fieldsAt_thr0 : fieldsAt 0x03 0x140 = [⟨R.EVC_THR_THR, 0, 0⟩] := by decide
theorem fieldsAt_pfctl : fieldsAt 0x01 0x108 = [⟨R.PWR_PFCTL_FOEN, 0, 0⟩] := by decide
theorem fieldsAt_offset : fieldsAt 0x30 0x104 = [⟨R.RMC_OFFSET, 0, 0⟩] := by decide
theorem fieldsAt_undefined : fieldsAt 0x30 0x200 = [] := by decide

theorem rmcOffset_view (s : State) (m : Nat) : s.regView m 0x30 0x104 = s.rd R.RMC_OFFSET := by
  show s.wordOf m (fieldsAt 0x30 0x104) = _
  rw [fieldsAt_offset, State.wordOf_single]
  exact Nat.mul_one _

/-- Settles O8: each word is a plain write, whose one field has the access code that its clause names. -/
theorem plainRegisterWrites : Obligations.PlainRegisterWrites := by
  refine ⟨fun m v s h => ⟨_, exec_registerWrite_open h (by decide) m v, ?_⟩,
    fun m v s h hl => ⟨_, exec_registerWrite_open h (by decide) m v, ?_⟩,
    fun m v s h hl hv => ⟨_, exec_registerWrite_open h (by decide) m v, ?_⟩,
    fun m v s h _ => ⟨_, exec_registerWrite_open h (by decide) m v, ?_⟩,
    fun m v s h => ⟨_, exec_registerWrite_open h (by decide) m v, ?_⟩⟩
  case refine_1 => exact State.plainWrite_takes fieldsAt_thr0 rfl rfl (.inl rfl) (by unfold Field.BesideHeader; decide) (by decide)
  case refine_2 => exact State.plainWrite_takes fieldsAt_pfctl rfl rfl (.inr ⟨rfl, hl⟩) (by unfold Field.BesideHeader; decide) (by decide)
  case refine_3 =>
    show s.Refused (s.plainWrite m.toNat 0x01 0x108 v.toNat) _ _ _
    rw [State.plainWrite_locked fieldsAt_pfctl rfl hl (by rw [reservedOk_low rfl]; exact decide_eq_true hv)]
    exact s.err_refused _ _ _ (by decide) (by decide)
  case refine_4 =>
    show if _ then s.plainWrite m.toNat 0x30 0x104 v.toNat = s else s.Refused (s.plainWrite m.toNat 0x30 0x104 v.toNat) _ _ _
    have hbits : ∀ x, x < 2 ^ 32 → (⟨R.RMC_OFFSET, 0, 0⟩ : Field).bits x = x := fun x hx => (nfield_low x 32).trans (Nat.mod_eq_of_lt hx)
    rw [State.plainWrite_ro fieldsAt_offset rfl (by rw [reservedOk_low rfl]; exact decide_eq_true v.isLt), rmcOffset_view,
      hbits _ v.isLt, hbits _ (s.rd_lt ..)]
    split
    · rfl
    · exact s.err_refused _ _ _ (by decide) (by decide)
  case refine_5 =>
    show if _ then s.plainWrite m.toNat 0x30 0x200 v.toNat = s else s.Refused (s.plainWrite m.toNat 0x30 0x200 v.toNat) _ _ _
    rw [State.plainWrite_undefined fieldsAt_undefined]
    have hv : v.toNat = 0 ↔ v = 0 := ⟨fun h => BitVec.eq_of_toNat_eq h, fun h => by rw [h]; rfl⟩
    simp only [hv]
    split
    · rfl
    · exact s.err_refused _ _ _ (by decide) (by decide)

end Sys2Proof.Machine
end

section
/-! SUPPORT. The event controller (02 R38–R41): which source wins, and what a claim and a completion change. -/

namespace Sys2Proof.Machine

/-! The winner. -/

/-- One source considered after those of lower number: it wins over the best so far with a higher priority alone. -/
def State.better (s : State) (n : Nat) (best : Option Nat) (k : Nat) : Option Nat :=
  if s.deliverable n k then
    match best with
    | some b => if s.srcPrio b < s.srcPrio k then some k else some b
    | none => some k
  else best

/-- The winner among the sources below `c`. -/
def State.winnerBelow (s : State) (n c : Nat) : Option Nat := (List.range c).foldl (s.better n) none

theorem State.winner_eq (s : State) (n : Nat) : s.winner n = s.winnerBelow n 256 := rfl

theorem State.winnerBelow_succ (s : State) (n c : Nat) : s.winnerBelow n (c + 1) = s.better n (s.winnerBelow n c) c := by
  simp [State.winnerBelow, List.range_succ]

/-- Source `j` does not win over source `k`. -/
def State.Yields (s : State) (j k : Nat) : Prop := s.srcPrio j < s.srcPrio k ∨ (s.srcPrio j = s.srcPrio k ∧ k ≤ j)

/-- What the winner is among the sources below `c`: none where none is deliverable, else one to which all others yield. -/
def State.WinsBelow (s : State) (n c : Nat) : Option Nat → Prop
  | none => ∀ j < c, s.deliverable n j = false
  | some k => k < c ∧ s.deliverable n k = true ∧ ∀ j < c, s.deliverable n j = true → s.Yields j k

theorem State.Yields.refl (s : State) (k : Nat) : s.Yields k k := .inr ⟨rfl, Nat.le_refl k⟩

theorem State.Yields.of_lt {s : State} {i j k : Nat} (h : s.Yields i j) (hk : s.srcPrio j < s.srcPrio k) : s.Yields i k := by
  unfold State.Yields at h ⊢
  omega

theorem State.Yields.of_later {s : State} {j k : Nat} (h : ¬ s.srcPrio k < s.srcPrio j) (hk : k < j) : s.Yields j k := by
  unfold State.Yields
  omega

theorem State.winsBelow_better {s : State} {n c : Nat} {w : Option Nat} (h : s.WinsBelow n c w) : s.WinsBelow n (c + 1) (s.better n w c) := by
  unfold State.better
  split
  case isFalse hd =>
    cases w with
    | none => exact Nat.forall_lt_succ_right.mpr ⟨h, Bool.eq_false_of_not_eq_true hd⟩
    | some k =>
      obtain ⟨hk, hdk, hy⟩ := h
      exact ⟨Nat.lt_succ_of_lt hk, hdk, Nat.forall_lt_succ_right.mpr ⟨hy, fun h => absurd h hd⟩⟩
  case isTrue hd =>
    cases w with
    | none =>
      exact ⟨Nat.lt_succ_self c, hd, Nat.forall_lt_succ_right.mpr
        ⟨fun j hj hdj => absurd hdj (by simp [h j hj]), fun _ => State.Yields.refl s c⟩⟩
    | some k =>
      obtain ⟨hk, hdk, hy⟩ := h
      dsimp only
      split
      · rename_i hp
        exact ⟨Nat.lt_succ_self c, hd, Nat.forall_lt_succ_right.mpr ⟨fun j hj hdj => (hy j hj hdj).of_lt hp, fun _ => State.Yields.refl s c⟩⟩
      · rename_i hp
        exact ⟨Nat.lt_succ_of_lt hk, hdk, Nat.forall_lt_succ_right.mpr ⟨hy, fun _ => State.Yields.of_later hp hk⟩⟩

theorem State.winsBelow_winnerBelow (s : State) (n c : Nat) : s.WinsBelow n c (s.winnerBelow n c) := by
  induction c with
  | zero => exact fun j hj => absurd hj (Nat.not_lt_zero j)
  | succ c ih => rw [State.winnerBelow_succ]; exact State.winsBelow_better ih

theorem State.winner_wins {s : State} {n : Nat} {w : Option Nat} (h : s.winner n = w) : s.WinsBelow n 256 w := by
  rw [← h, State.winner_eq]
  exact s.winsBelow_winnerBelow n 256

theorem State.deliverable_in_service {s : State} {n k : Nat} (h : s.flag (servRow n) k = true) : s.deliverable n k = false := by
  simp [State.deliverable, h]

/-! The SERV fields of a source. -/

theorem Row.place_mod (r : Row) (k : Nat) : r.place k % 32 = r.lo % 32 := by
  unfold Row.place
  omega

theorem Row.place_ne_of_lo {q r : Row} (h : q.lo % 32 ≠ r.lo % 32) (j k : Nat) : q.place j ≠ r.place k :=
  fun e => h (by rw [← Row.place_mod q j, e, Row.place_mod])

theorem servRow_lo (n : Nat) : (servRow n).lo % 32 ≠ 0 := by
  unfold servRow
  split <;> decide

theorem servRow_width (n : Nat) : (servRow n).width = 1 := by
  unfold servRow
  split <;> rfl

theorem servRow_key_mem (n k : Nat) : (servRow n).key k 0 0 ∈ [R.EVC_SRCCFG_SERV0.key k 0 0, R.EVC_SRCCFG_SERV1.key k 0 0] := by
  unfold servRow
  split <;> simp

/-- The SERV fields of the two pairs are different fields. -/
theorem servRow_other (n : Fin 2) (j k : Nat) : (servRow n).place j ≠ (servRow (1 - n)).place k := by
  refine Row.place_ne_of_lo ?_ j k
  fin_cases n <;> decide

/-- What holds of the SERV row of a pair and of the other pair's holds of both. -/
theorem servRow_both {P : Row → Prop} {n : Fin 2} (h : P (servRow n)) (h' : P (servRow (1 - n))) : P (servRow 0) ∧ P (servRow 1) := by
  fin_cases n
  · exact ⟨h, h'⟩
  · exact ⟨h', h⟩

theorem State.flag_wr_serv (s : State) (n k v : Nat) : (s.wr (servRow n) v k).flag (servRow n) k = decide (v % 2 = 1) := by
  rw [State.flag_eq, State.rd_wr_self, servRow_width]
  rcases Nat.mod_two_eq_zero_or_one v with h | h <;> simp [h]

/-- What a source asserts and enables stands from bit 0 up of its words: a write of a field above bit 0 leaves it pending where it was. -/
theorem State.srcPending_wr (s : State) {r : Row} (h : r.lo % 32 ≠ 0) (v k u m j : Nat) : (s.wr r v k u m).srcPending j = s.srcPending j := by
  have hp : ∀ q : Row, q.lo % 32 = 0 → ∀ i w, (s.wr r v k u m).rd q i w = s.rd q i w := fun q hq i w =>
    State.rd_wr_place _ _ _ _ _ _ _ _ _ _ (Row.place_ne_of_lo (by rw [hq]; exact h.symm) i k)
  have hpres : ∀ p, (s.wr r v k u m).present p = s.present p :=
    State.present_congr (hp _ rfl 0 0) (hp _ rfl 0 0) (hp _ rfl 0 0)
  simp only [State.srcPending, State.asserts, hpres, hp R.H_EVSTAT rfl, hp R.H_EVEN rfl, hp R.EVC_ENA rfl]

/-! Which pair has claimed a source stands beside the registers. -/

theorem State.srcPending_evcOwner (s : State) (o : SMap Nat) (k : Nat) : ({ s with evcOwner := o } : State).srcPending k = s.srcPending k := rfl

theorem State.RegsBut.evcOwner {s t : State} {K : List Nat} (h : s.RegsBut t K) (o : SMap Nat) : s.RegsBut { t with evcOwner := o } K := h

/-! A claim. -/

theorem exec_evcClaim_open {s : State} (h : s.Open 0x03) (cp0 cp1 : Bool) : exec (.evcClaim cp0 cp1) s = .next (s.claims cp0 cp1) := by
  obtain ⟨hp, ha⟩ := h
  exact congrArg Host.Outcome.next ((if_pos hp).trans (by rw [State.touch_of_unarmed ha]))

theorem State.claim_none {s : State} {n : Nat} (h : s.winner n = none) : s.claim n = (0, s) := by simp [State.claim, h]
theorem State.claim_some {s : State} {n k : Nat} (h : s.winner n = some k) : s.claim n = (2 ^ 31 + k, s.claimSrc n k) := by simp [State.claim, h]

/-- One pair claims alone. -/
theorem State.claims_one (s : State) (n : Fin 2) :
    s.claims (n == 0) (n == 1) = { (s.claim n).2 with bus := ⟨leBytes 4 (s.claim n).1, false, s.bus.memtype, s.bus.share, 0⟩ } := by
  fin_cases n <;> rfl

/-- A source claimed by a pair is in service for it. -/
theorem State.claimSrc_flag (s : State) (n : Fin 2) (k : Nat) : (s.claimSrc n k).flag (servRow n) k = true := by
  have h := s.flag_wr_serv n k 1
  unfold State.claimSrc
  dsimp only
  split
  · exact h
  · split
    · rw [State.flag_eq, State.rd_wr_place _ _ _ _ _ _ _ _ _ _ (servRow_other n k k)]
      exact h
    · exact h

/-- A maskable source routed to both pairs is in service for both (R41). -/
theorem State.claimSrc_both (s : State) (n : Fin 2) {k : Nat} (hk : 8 ≤ k) (h0 : s.srcRouted 0 k = true) (h1 : s.srcRouted 1 k = true) :
    (s.claimSrc n k).flag R.EVC_SRCCFG_SERV0 k = true ∧ (s.claimSrc n k).flag R.EVC_SRCCFG_SERV1 k = true := by
  refine servRow_both (P := fun r => (s.claimSrc n k).flag r k = true) (s.claimSrc_flag n k) ?_
  have hk' : ¬ k < 8 := by omega
  simp only [State.claimSrc, hk', h0, h1, Bool.and_self, if_true, if_false]
  exact State.flag_wr_serv _ (1 - n) k 1

/-- A claim changes the SERV fields of the source, and which pair has claimed it. -/
theorem State.claimSrc_only (s : State) (n k : Nat) :
    s.RegsBut (s.claimSrc n k) [R.EVC_SRCCFG_SERV0.key k 0 0, R.EVC_SRCCFG_SERV1.key k 0 0] ∧
      s.claimSrc n k = { s with regs := (s.claimSrc n k).regs, evcOwner := (s.claimSrc n k).evcOwner } := by
  have h := (State.RegsBut.refl s _).wr (servRow n) 1 k 0 0 (servRow_key_mem n k)
  unfold State.claimSrc
  dsimp only
  split
  · exact ⟨h, rfl⟩
  · split
    · exact ⟨(h.evcOwner _).wr _ _ _ _ _ (servRow_key_mem (1 - n) k), rfl⟩
    · exact ⟨h, rfl⟩

/-! A completion. -/

/-- Service ends for this pair where source `k` is in service for it and, being maskable, was claimed by it (R40, R41). -/
abbrev State.Completes (s : State) (n : Fin 2) (k : Nat) : Prop :=
  s.flag (servRow n) k = true ∧ (k < 8 ∨ smGet 0 s.evcOwner k = n + 1)

section
variable {s : State} {n : Fin 2} {k : Nat}

theorem State.complete_nonmaskable (h : s.Completes n k) (hk : k < 8) : s.complete n k = s.wr (servRow n) 0 k := by
  simp [State.complete, hk, h.1]

theorem State.complete_maskable (h : s.Completes n k) (hk : ¬ k < 8) :
    s.complete n k = { (s.wr (servRow 0) 0 k).wr (servRow 1) 0 k with evcOwner := smSet 0 s.evcOwner k 0 } := by
  simp [State.complete, hk, h.1, h.2.resolve_left hk]

theorem State.complete_ignored (h : ¬ s.Completes n k) : s.complete n k = s.err 0x03 0x10 (0x160 + 4 * n) := by
  unfold State.complete
  split
  · rename_i hk
    exact if_neg fun hf => h ⟨hf, .inl hk⟩
  · refine if_neg fun hf => h ?_
    simp only [Bool.and_eq_true, beq_iff_eq] at hf
    exact ⟨hf.1, .inr hf.2⟩

/-- Both SERV fields cleared: the source is in service for no pair. -/
theorem State.flag_clear_serv (s : State) (k : Nat) : ∀ i : Fin 2, ((s.wr (servRow 0) 0 k).wr (servRow 1) 0 k).flag (servRow i) k = false
  | 0 => (congrArg (· != 0) (State.rd_wr_place _ _ _ _ _ _ _ _ _ _ (servRow_other 0 k k))).trans (s.flag_wr_serv 0 k 0)
  | 1 => State.flag_wr_serv _ 1 k 0

/-- A completion that ends service changes SERV fields of the source and which pair has claimed it, and leaves it pending where it was. -/
theorem State.complete_ends (h : s.Completes n k) :
    (s.complete n k).flag (servRow n) k = false ∧ (s.complete n k).srcPending k = s.srcPending k ∧
      (8 ≤ k → (s.complete n k).flag (servRow 0) k = false ∧ (s.complete n k).flag (servRow 1) k = false) ∧
      s.RegsBut (s.complete n k)
        (if k < 8 then [(servRow n).key k 0 0] else [R.EVC_SRCCFG_SERV0.key k 0 0, R.EVC_SRCCFG_SERV1.key k 0 0]) ∧
      s.complete n k = { s with regs := (s.complete n k).regs, evcOwner := (s.complete n k).evcOwner } := by
  by_cases hk : k < 8
  · rw [State.complete_nonmaskable h hk, if_pos hk]
    exact ⟨s.flag_wr_serv n k 0, s.srcPending_wr (servRow_lo n) .., fun h8 => absurd hk (by omega),
      (State.RegsBut.refl s _).wr _ _ _ _ _ (List.mem_cons_self ..), rfl⟩
  · rw [State.complete_maskable h hk, if_neg hk]
    refine ⟨s.flag_clear_serv k n, ?_, fun _ => ⟨s.flag_clear_serv k 0, s.flag_clear_serv k 1⟩,
      (((State.RegsBut.refl s _).wr _ _ _ _ _ (servRow_key_mem 0 k)).wr _ _ _ _ _ (servRow_key_mem 1 k)).evcOwner _, rfl⟩
    rw [State.srcPending_evcOwner, State.srcPending_wr _ (servRow_lo 1), State.srcPending_wr _ (servRow_lo 0)]

end

/-- Settles O10: the winner by induction on the sources considered, a claim and a completion by their cases. -/
theorem claimAndComplete : Obligations.ClaimAndComplete := by
  refine ⟨fun s n k h => (State.winner_wins h).2, fun s n h => State.winner_wins h, fun s n k => State.deliverable_in_service,
    fun s n ho h => ⟨_, exec_evcClaim_open ho _ _, ?_⟩, fun s n k ho h => ⟨_, exec_evcClaim_open ho _ _, ?_⟩,
    fun s ho => ⟨_, exec_evcClaim_open ho _ _, rfl, rfl⟩, fun s n k ho => ⟨_, congrArg Host.Outcome.next (State.onPage_open ho _), ?_⟩⟩
  case refine_1 =>
    rw [State.claims_one, State.claim_none h]
    exact ⟨rfl, rfl⟩
  case refine_2 =>
    rw [State.claims_one, State.claim_some h]
    obtain ⟨hregs, heq⟩ := s.claimSrc_only n k
    exact ⟨rfl, s.claimSrc_flag n k, fun hk h0 h1 => s.claimSrc_both n hk h0 h1, hregs,
      congrArg (fun t : State => { t with bus := ⟨leBytes 4 (2 ^ 31 + k), false, s.bus.memtype, s.bus.share, 0⟩ }) heq⟩
  case refine_3 =>
    split
    case isTrue hc => exact State.complete_ends hc
    case isFalse hc =>
      rw [State.complete_ignored hc]
      exact s.err_refused _ _ _ (by decide) (by omega)

end Sys2Proof.Machine
end

section
/-! SUPPORT. The state after a power-on reset (03 R57; 02 Table 2.3): what it reads, that no source asserts and no output is driven, and
the words of SYS.UNITS by variant. -/

namespace Sys2Proof.Machine

/-! A held reset, and events that never rose. -/

/-- While a reset is held no output is commanded (16 Table 16.1, row 1). -/
theorem State.dqCommand_of_held {s : State} (h : s.sys.resetHeld = true) (k : Nat) : s.dqCommand k = false := by
  simp [State.dqCommand, State.dqRow1, h]

theorem nsetBit_zero_false (i : Nat) : nsetBit 0 i false = 0 := by simp [nsetBit, nbit]

theorem State.dqDrive_of_held {s : State} (h : s.sys.resetHeld = true) : s.dqDrive = 0 := by
  simp only [State.dqDrive, State.dqCommand_of_held h, Bool.false_and]
  exact List.foldlRecOn (motive := (· = 0)) (upTo 16) _ rfl fun a ha k _ => ha ▸ nsetBit_zero_false k

/-- A source all of whose EVSTAT words read 0 does not assert (02 R30). -/
theorem State.asserts_of_evstat_zero {s : State} (h : ∀ p, s.rd R.H_EVSTAT 0 p = 0) (n : Nat) : s.asserts n = false := by
  rw [State.asserts, List.any_eq_false]
  intro e _
  simp [h e.1, nbit]

/-! The reset state. -/

theorem State.reset_rd (r : Row) (k u m : Nat) : State.reset.rd r k u m = r.reset k u % 2 ^ r.width := rfl

theorem State.reset_inv : State.reset.Inv := ⟨rfl, List.Pairwise.nil⟩
theorem State.resetS08_inv : State.resetS08.Inv := ⟨rfl, List.pairwise_singleton _ _⟩

/-! SYS.UNITS0 and SYS.UNITS1 as a control core reads them (03 Table 3.9). -/

theorem exec_units0Read {s : State} (h : s.Open 0x00) (m : BitVec 6) :
    ∃ t, exec (.rcCounterRead m 0x00 0x41) s = .next t ∧ t.bus.data = leBytes 4 s.units0 :=
  ⟨_, congrArg Host.Outcome.next (State.onRead_open h _), rfl⟩

theorem exec_units1Read {s : State} (h : s.Open 0x00) (m : BitVec 6) :
    ∃ t, exec (.rcCounterRead m 0x00 0x42) s = .next t ∧ t.bus.data = leBytes 4 s.units1 :=
  ⟨_, congrArg Host.Outcome.next (State.onRead_open h _), rfl⟩

theorem State.reset_open : State.reset.Open 0x00 := by decide
theorem State.resetS08_open : State.resetS08.Open 0x00 := by decide

/-- Settles O60: a field of the reset state reads the reset value of its row, which gives every clause. -/
theorem resetState : Obligations.ResetState :=
  ⟨State.reset_inv, State.resetS08_inv, rfl, rfl, rfl, rfl, rfl, rfl, rfl, State.dqDrive_of_held rfl, State.dqDrive_of_held rfl,
    fun n _ => State.asserts_of_evstat_zero (fun p => State.reset_rd ..) n, fun a => rfl, State.reset_rd, by decide,
    fun m => ⟨exec_units0Read State.reset_open m, exec_units0Read State.resetS08_open m, exec_units1Read State.resetS08_open m⟩⟩

end Sys2Proof.Machine
end

section
/-! SUPPORT. Changes of mode, resets and the power-fail warning (03): states in which the model does other than the statements say. -/

namespace Sys2Proof.Machine

/-- A lead, its reset released. -/
def releasedLead : State := { State.reset.wr R.SYS_MODE_MODE 3 with sys := { State.reset.sys with resetHeld := false } }

/-! HOLD from LEAD with a result in flight. -/

/-- The lead's C1 ply is in EXECUTE, and a row it has issued has a result in flight: the value 1 for the byte at `instBase`. -/
def leadInFlight : State :=
  (releasedLead.modPly 0 fun p => { p with phase := 3 }).setSeq 0
    { Seq.idle with ended := false, flight := [⟨0, 0, 1, 0, 0, 0, 1, 1, true⟩] }

theorem leadInFlight_open : leadInFlight.Open 0x00 := by decide
theorem leadInFlight_mode : leadInFlight.mode = 3 := by decide
theorem leadInFlight_byte : leadInFlight.rb instBase = 0 := by decide

theorem exec_modecmdToHold_open {s : State} (h : s.Open 0x00) (m : BitVec 6) (cause : BitVec 4) (key : BitVec 16) :
    exec (.modecmdToHold m cause key) s = .next (s.modecmd 4 cause.toNat key.toNat) :=
  congrArg Host.Outcome.next (State.onPage_open h _)

/-- The ply is abandoned, and its row in flight completes (04 R80). -/
theorem leadInFlight_hold_byte : (leadInFlight.modecmd 4 1 0x4D44).rb instBase = 1 := by decide +kernel

/-- Refutes O11: a HOLD accepted from LEAD does not leave the bytes of memory. The ply in EXECUTE is abandoned, its result in flight
completes, and the byte it writes changes. -/
theorem not_modeCommands : ¬ Obligations.ModeCommands := by
  rintro ⟨-, -, -, -, hold, -⟩
  obtain ⟨t, ht, h⟩ := hold 0 1 leadInFlight leadInFlight_open (by decide)
  obtain rfl := Host.Outcome.next.inj ((exec_modecmdToHold_open leadInFlight_open 0 1 0x4D44).symm.trans ht)
  rw [if_pos (.inr (.inr leadInFlight_mode))] at h
  obtain ⟨-, -, -, -, hmem⟩ := h
  have hbyte : (1 : BitVec 8) = 0 := leadInFlight_hold_byte.symm.trans ((hmem instBase).trans leadInFlight_byte)
  exact absurd hbyte (by decide)

/-! Registers after a reset, for every value of type `Row`. -/

/-- A row that no table holds: the start step (Table 3.9, reset value 1) cut to a field of no bits. -/
def bitlessStep : Row := { R.SYS_STARTSTEP_STEP with width := 0 }

/-- A field reads below 2 to its width, so this one never reads its reset value: `ResetRegs`, which speaks of every row, holds between no
two states unless the key of the start step is listed. -/
theorem State.not_resetRegs {s t : State} {powerOn : Bool} {keys : List Nat} (hk : bitlessStep.key 0 0 0 ∉ keys) :
    ¬ s.ResetRegs t powerOn keys := fun h => by
  have hreset : t.rd bitlessStep = 1 := (h bitlessStep 0 0 0 hk).trans (if_neg (by cases powerOn <;> decide))
  have hlt : t.rd bitlessStep < 1 := t.rd_lt ..
  omega

/-- Refutes O12, by its frame of registers alone: `ResetRegs` asks the reset value of every value of type `Row`, also of one whose reset
value is wider than its field, where a read is cut to the width. No table holds such a row. -/
theorem not_resetsTakeTheModuleToStart : ¬ Obligations.ResetsTakeTheModuleToStart := by
  rintro ⟨-, hreset, -⟩
  obtain ⟨t, -, -, -, -, -, -, -, hregs, -⟩ := hreset 1 releasedLead (by decide) (.inr (by decide))
  exact State.not_resetRegs (by decide) hregs

/-! The power-fail warning during a checkpoint. -/

/-- A lead with an ACTIVE cartridge of type BC-1, whose checkpoint has started (14 R315). -/
def leadCheckpointing : State := ((releasedLead.wr R.CRT_STAT_STATE 3).wr R.CRT_STAT_TYPE 1).ckStart 0 0 false

theorem leadCheckpointing_ckpt : leadCheckpointing.rd R.CRT_STAT_CKPT = 1 := State.rd_wr_self ..

/-- The warning ends the checkpoint (14 R320). -/
theorem leadCheckpointing_warning : ∃ t, exec .powerFailWarning leadCheckpointing = .next t ∧ t.rd R.CRT_STAT_CKPT = 0 :=
  ⟨_, rfl, by decide +kernel⟩

/-- Refutes O14: the warning changes a register of page 0x50, which the first clause leaves out of the pages that may change: a checkpoint in
progress ends, and CRT.STAT.CKPT falls. -/
theorem not_powerAndFeeds : ¬ Obligations.PowerAndFeeds := by
  rintro ⟨hwarning, -⟩
  obtain ⟨t, ht, -, -, -, -, -, -, -, hpages, -⟩ := hwarning leadCheckpointing (by decide) (by decide)
  obtain ⟨u, hu, hckpt⟩ := leadCheckpointing_warning
  obtain rfl := Host.Outcome.next.inj (hu.symm.trans ht)
  have hkept : 1 = 0 := leadCheckpointing_ckpt.symm.trans ((hpages R.CRT_STAT_CKPT 0 0 0 (by decide)).symm.trans hckpt)
  exact absurd hkept (by decide)

end Sys2Proof.Machine
end

section
/-! SUPPORT. Event tasks (04 R82, R83): what a frame of register pages asks for every value of type `Row`, and a state in which
EVENT_TASK_START changes a register. -/

namespace Sys2Proof.Machine

/-! A frame of pages, for every value of type `Row`. -/

/-- A row that no table holds: page 0, with a low bit so high that its one field has the key of the given field of row `r`. -/
def Row.alias (r : Row) (k u m : Nat) : Row :=
  { page := 0, off := 0, stride := 0, count := 1, lo := r.key k u m, width := r.width, acc := .ro, rst := r.reset k u }

theorem Row.alias_key (r : Row) (k u m : Nat) : (r.alias k u m).key 0 0 0 = r.key k u m := by
  simp [Row.key, Row.alias, RstCls.code, Acc.code]

theorem State.rd_alias (s : State) (r : Row) (k u m : Nat) : s.rd (r.alias k u m) 0 0 0 = s.rd r k u m := by
  unfold State.rd
  rw [Row.alias_key]
  rfl

/-- `PagesBut` speaks of every row, also of one whose low bit reaches into another page: where page 0 is not listed, it asks that no field
of any page changes. -/
theorem State.PagesBut.rd_eq {s t : State} {pages : List Nat} (h : s.PagesBut t pages) (h0 : 0 ∉ pages) (r : Row) (k u m : Nat) :
    t.rd r k u m = s.rd r k u m := by
  rw [← State.rd_alias t, ← State.rd_alias s]
  exact h (r.alias k u m) 0 0 0 h0

/-! The start of a pending event task. -/

/-- A lead whose event task 15 is enabled and pending; the task's partition has no window in column 0's bank. -/
def leadTaskPending : State :=
  (((releasedLead.setUnit 0x10 2).wr R.XE_ET_CFG_EN 1 15).wr R.XE_ET_PEND 0x8000).wrLe (moveBase 0 + 0x050 + 32 * mainPart 18) 4 listNone

theorem leadTaskPending_next : leadTaskPending.nextTask = some 15 := by decide +kernel

theorem leadTaskPending_pend : leadTaskPending.rd R.XE_ET_PEND = 0x8000 := by decide +kernel

/-- The task starts, and is pending no more (04 R82). -/
theorem leadTaskPending_start : ∃ t, exec (.eventTaskStart 0) leadTaskPending = .next t ∧ t.rd R.XE_ET_PEND = 0 := ⟨_, rfl, by decide +kernel⟩

/-- Refutes O18, by the frame of pages of its last clause alone: the start of task 15 clears its bit of ET.PEND, on page 0x11, which the
clause lists; but `PagesBut` asks of every value of type `Row`, also of one of page 0 with the key of ET.PEND, that it reads as before. No
table holds such a row. -/
theorem not_eventTasks : ¬ Obligations.EventTasks := by
  rintro ⟨-, -, -, -, hstart⟩
  obtain ⟨t, ht, -, -, -, -, -, -, -, -, hpages, -⟩ := hstart 0 15 leadTaskPending leadTaskPending_next
    (by decide +kernel) (by decide +kernel) (by decide +kernel) (by decide +kernel) (by decide +kernel) (by decide +kernel)
  obtain ⟨v, hv, hpend⟩ := leadTaskPending_start
  obtain rfl := Host.Outcome.next.inj (hv.symm.trans ht)
  have hkept : 0 = 0x8000 := hpend.symm.trans ((hpages.rd_eq (by decide) R.XE_ET_PEND 0 0 0).trans leadTaskPending_pend)
  exact absurd hkept (by decide)

end Sys2Proof.Machine
end

section
/-! SUPPORT. The execution engine (05 R103, R114): an injected mismatch with a result in flight, and the end of an activation whose first
check fails. -/

namespace Sys2Proof.Machine

/-! LS_INJECT with a result in flight. -/

/-- A module in SERVICE with the ply and the result in flight of `leadInFlight`. -/
def serviceInFlight : State := leadInFlight.wr R.SYS_MODE_MODE 5

theorem serviceInFlight_byte : serviceInFlight.rb instBase = 0 := (State.wr_rb ..).trans leadInFlight_byte

/-- The reaction of the injected mismatch abandons the ply, and its row in flight completes (05 R114, 04 R80). -/
theorem serviceInFlight_inject_byte : ∃ t, exec (.lsInject 0 0x10) serviceInFlight = .next t ∧ t.rb instBase = 1 :=
  ⟨_, rfl, by decide +kernel⟩

/-- Refutes O19, by the last clause alone: it asks that LS_INJECT in SERVICE change no byte of memory, but, unlike the clauses of
SCHEDULE_FAULT and XE_LOCKSTEP_ERROR, not that no result be in flight. In `serviceInFlight` the reaction abandons a ply in EXECUTE, its
result in flight completes, and the byte it writes changes. -/
theorem not_engineFaults : ¬ Obligations.EngineFaults := by
  rintro ⟨-, -, -, -, -, hinject⟩
  obtain ⟨t, ht, -, -, -, -, -, -, hmem⟩ := hinject 0 serviceInFlight (by decide) (by decide) (by decide) (by decide)
  obtain ⟨u, hu, hland⟩ := serviceInFlight_inject_byte
  obtain rfl := Host.Outcome.next.inj (hu.symm.trans ht)
  have hbyte : (1 : BitVec 8) = 0 := hland.symm.trans ((hmem instBase).trans serviceInFlight_byte)
  exact absurd hbyte (by decide)

/-! An activation of an empty half. -/

/-- The reset state with an activation of half 0 under way; the half has no byte listed, and so no header. -/
def activatingEmpty : State := { State.reset with act := 1 }

/-- The activation ends with check 1 as the first that failed (05 R103). -/
theorem activatingEmpty_complete : ∃ t, exec .activationComplete activatingEmpty = .next t ∧ t.rd R.XE_MM_HDR_CHECK 0 = 1 :=
  ⟨_, rfl, by decide +kernel⟩

/-- Refutes O20, by the frame of pages of its last clause alone: the end of the activation stores 1 in HDR0.CHECK, on page 0x10, which the
clause lists; but `PagesBut` asks of every value of type `Row`, also of one of page 0 with the key of HDR0.CHECK, that it reads as before.
No table holds such a row. -/
theorem not_activation : ¬ Obligations.Activation := by
  rintro ⟨-, -, hcomplete⟩
  obtain ⟨t, ht, -, -, -, -, hpages, -⟩ := hcomplete 0 activatingEmpty rfl (by decide)
  obtain ⟨u, hu, hcheck⟩ := activatingEmpty_complete
  obtain rfl := Host.Outcome.next.inj (hu.symm.trans ht)
  have hkept : u.rd R.XE_MM_HDR_CHECK 0 = 0 := hpages.rd_eq (by decide) R.XE_MM_HDR_CHECK 0 0 0
  exact absurd (hcheck.symm.trans hkept) (by decide)

end Sys2Proof.Machine
end

section
/-! SUPPORT. The sealed move (07): VERIFY stores DIR, and the end of a switch for which a castling request has waited. -/

namespace Sys2Proof.Machine

/-! VERIFY on the reset module. -/

theorem reset_dir : State.reset.flag R.XE_SM_CTRL_DIR = false := by decide +kernel

/-- VERIFY stores DIR (07 Table 7.8). -/
theorem reset_verify_dir : ∃ t, exec (.smVerify 0 true) State.reset = .next t ∧ t.flag R.XE_SM_CTRL_DIR = true := ⟨_, rfl, by decide +kernel⟩

/-- Refutes O21, by the frame of pages of its first clause alone: VERIFY stores DIR in SM.CTRL, on page 0x10, which the clause lists; but
`PagesBut` asks of every value of type `Row`, also of one of page 0 with the key of DIR, that it reads as before. No table holds such a
row. -/
theorem not_sealVerifyArmCancel : ¬ Obligations.SealVerifyArmCancel := by
  rintro ⟨hverify, -⟩
  obtain ⟨t, ht, -, hpages, -⟩ := hverify 0 true State.reset (by decide)
  obtain ⟨u, hu, hdir⟩ := reset_verify_dir
  obtain rfl := Host.Outcome.next.inj (hu.symm.trans ht)
  have hkept : u.flag R.XE_SM_CTRL_DIR = State.reset.flag R.XE_SM_CTRL_DIR :=
    congrArg (· != 0) (hpages.rd_eq (by decide) R.XE_SM_CTRL_DIR 0 0 0)
  exact absurd (hdir.symm.trans (hkept.trans reset_dir)) (by decide)

/-! The end of a switch with a castling request due. -/

/-- A lead whose switch has begun, without a synchronised partner; a class fault reaction has asked for castling meanwhile (07 R161). -/
def switchingCastleDue : State :=
  { releasedLead.wr R.XE_SM_STAT_STATE 4 with pr := { releasedLead.pr with castDue := true } }

theorem switchingCastleDue_code : switchingCastleDue.rd R.H_ERR_CODE 0 0x3A = 0 := by decide +kernel

/-- The request is made at the end of the switch; it cannot be accepted, and PAIR records 0x52 (11 R259). -/
theorem switchingCastleDue_end_code : ∃ t, exec .switchEnd switchingCastleDue = .next t ∧ t.rd R.H_ERR_CODE 0 0x3A = 0x52 :=
  ⟨_, rfl, by decide +kernel⟩

/-- Refutes O22, by its last clause: of what waits for the end of a switch it excludes event tasks, mirror chunks and the reply of a SEAL,
but not a castling request (07 R161). In `switchingCastleDue` that request is refused as the switch ends, and code 0x52 is recorded on page
0x3A, which the clause leaves out of the pages that may change. -/
theorem not_theSwitch : ¬ Obligations.TheSwitch := by
  rintro ⟨-, -, -, -, hend⟩
  obtain ⟨t, ht, -, -, -, -, -, -, -, -, -, -, -, -, -, -, hpages, -⟩ := hend switchingCastleDue
    (by decide +kernel) (by decide +kernel) (by decide +kernel) rfl (by decide +kernel) rfl rfl rfl rfl (by decide +kernel)
  obtain ⟨u, hu, hcode⟩ := switchingCastleDue_end_code
  obtain rfl := Host.Outcome.next.inj (hu.symm.trans ht)
  have hkept : 0x52 = 0 := hcode.symm.trans ((hpages R.H_ERR_CODE 0 0x3A 0 (by decide)).trans switchingCastleDue_code)
  exact absurd hkept (by decide)

end Sys2Proof.Machine
end

section
/-! SUPPORT. The trip engine and the reflex path (08): states in which the model does other than the statements say. -/

namespace Sys2Proof.Machine

/-- The module with its trip engine ON and the configuration locked. -/
def State.teLocked (s : State) : State := (s.setUnit 0x18 2).wr R.TE_CFGSTAT_LOCKED 1

/-! The frame of a pass. -/

/-- A lead whose trip engine evaluates. -/
def leadTrip : State := releasedLead.teLocked

theorem leadTrip_passcnt : leadTrip.rd R.TE_PASSCNT = 0 := by decide +kernel

/-- A pass counts (08 Table 8.8). -/
theorem leadTrip_pass_passcnt : ∃ t, exec (.tePass 0) leadTrip = .next t ∧ t.rd R.TE_PASSCNT = 1 := ⟨_, rfl, by decide +kernel⟩

/-- Refutes O24, by the frame of pages of its last clause alone: a pass counts in PASSCNT, on page 0x18, which the clause lists; but
`PagesBut` asks of every value of type `Row`, also of one of page 0 with the key of PASSCNT, that it reads as before. No table holds such a
row. -/
theorem not_matrixTermsSumsAndOutputs : ¬ Obligations.MatrixTermsSumsAndOutputs := by
  rintro ⟨-, -, -, hpass⟩
  obtain ⟨t, ht, -, -, -, -, -, -, -, -, hpages, -⟩ := hpass 0 leadTrip (by decide +kernel) (by decide +kernel) (by decide +kernel)
  obtain ⟨u, hu, hcount⟩ := leadTrip_pass_passcnt
  obtain rfl := Host.Outcome.next.inj (hu.symm.trans ht)
  have hkept : 1 = 0 := hcount.symm.trans ((hpages.rd_eq (by decide) R.TE_PASSCNT 0 0 0).trans leadTrip_passcnt)
  exact absurd hkept (by decide)

/-! A pulse timer whose count runs while its output is 0. -/

/-- Timer 0 is a pulse of 1 µs whose count runs since MT 0 while TQ 0 is 0; sum 96, its input, selects no term and is inverted, so F 0
rises in the next pass (08 R164, R166). -/
def leadPulse : State :=
  { leadTrip with te := { leadTrip.te with store := [(0x1F00 + 96, 1), (0x1F80, 1), (0x1F81, 2)], counting := 1, tFrom := [(0, 1)] } }

theorem leadPulse_mode : leadPulse.teMode 0 = 2 := by decide
theorem leadPulse_counting : nbit leadPulse.te.counting 0 = true := by decide
theorem leadPulse_tq : nbit (leadPulse.rd R.TE_TQ) 0 = false := by decide +kernel

/-- The rise of F 0 while TQ 0 is 0 begins a pulse (08 R166). -/
theorem leadPulse_pass_tq : ∃ t, exec (.tePass 0) leadPulse = .next t ∧ nbit (t.rd R.TE_TQ) 0 = true := ⟨_, rfl, by decide +kernel⟩

/-- Refutes O25, by what its second clause says of a pulse timer whose count runs: that without having reached PT it keeps TQ. It does not
ask that TQ be 1, as it is in a pulse. In `leadPulse` the count runs and TQ is 0; F rises, and a rise with TQ 0 sets TQ. -/
theorem not_literalsTimersAndLatches : ¬ Obligations.LiteralsTimersAndLatches := by
  rintro ⟨-, hpass, -⟩
  obtain ⟨t, ht, -, -, htimer⟩ := hpass 0 leadPulse (by decide +kernel) (by decide +kernel) (by decide +kernel)
  obtain ⟨-, -, -, -, -, hpulse, -⟩ := htimer 0
  obtain ⟨u, hu, hrise⟩ := leadPulse_pass_tq
  obtain rfl := Host.Outcome.next.inj (hu.symm.trans ht)
  have hkeeps := hpulse leadPulse_mode leadPulse_counting
  have hzero : nbit (leadPulse.rd R.TE_TQ) (0 : Fin 16) = false := leadPulse_tq
  rw [hzero, Bool.false_and] at hkeeps
  exact absurd (hrise.symm.trans hkeeps) (by decide)

/-! A mismatch of the matrices with a result in flight. -/

/-- The lead of `leadInFlight` with its trip engine evaluating. -/
def tripInFlight : State := leadInFlight.teLocked

theorem tripInFlight_byte : tripInFlight.rb instBase = 0 := by decide +kernel

/-- The reaction to the mismatch abandons the ply, and its row in flight completes (21 R430, 04 R80). -/
theorem tripInFlight_mismatch_byte : ∃ t, exec .teCompareMismatch tripInFlight = .next t ∧ t.rb instBase = 1 := ⟨_, rfl, by decide +kernel⟩

/-- Refutes O26, by its clause of a compare mismatch: it asks that no byte of memory change, and not that no result be in flight. In
`tripInFlight` the safety fault reaction abandons a ply in EXECUTE, its result in flight completes, and the byte it writes changes. -/
theorem not_tripConfiguration : ¬ Obligations.TripConfiguration := by
  rintro ⟨-, -, -, -, -, -, -, hmismatch, -⟩
  obtain ⟨t, ht, -, -, -, -, -, -, -, -, -, hmem⟩ := hmismatch tripInFlight
    (by decide +kernel) (by decide +kernel) (by decide +kernel) (by decide +kernel) (by decide +kernel)
  obtain ⟨u, hu, hland⟩ := tripInFlight_mismatch_byte
  obtain rfl := Host.Outcome.next.inj (hu.symm.trans ht)
  have hbyte : (1 : BitVec 8) = 0 := hland.symm.trans ((hmem instBase).trans tripInFlight_byte)
  exact absurd hbyte (by decide)

/-! A REFLEX frame of which the guardian cuts only the end delimiter. -/

/-- RMC is ACTIVE in cycles of one round, the cycle began at MT 0, and segment 0 takes part. The own minislot, of side A, began at 12,000
(09 R187) and is not sampled yet; the guardian closes it at 13,750 (10 Table 10.1), which is 898 ns from now. -/
def leadReflexLate : State :=
  let s := ((leadTrip.setUnit 0x20 2).wr R.RMC_STAT_CSTATE 5).wr R.RMC_STAT_ROUNDS 1
  { s.setRmt 0 { s.rmt 0 with joined := true } with mt := 12852 }

theorem leadReflexLate_ownMini : leadReflexLate.ownMini = some (miniAt 0 (6 + leadReflexLate.side)) := by decide +kernel

/-- All ten bytes of the short form go out on segment 0, channel A, and the guardian cuts the delimiter that follows them (10 R213). -/
theorem leadReflexLate_send : ∃ t, exec .reflexSend leadReflexLate = .next t ∧ .wire 0 false true (shortFrame 0) false ∈ t.outs :=
  ⟨_, rfl, by decide +kernel⟩

theorem shortFrame_length (bits : Nat) : (shortFrame bits).length = 10 := by
  simp [shortFrame, beBytes, leBytes]

/-- The short form of any bits is longer than nine bytes or less of another. -/
theorem shortFrame_ne_take {n : Nat} (h : n < 10) (a b : Nat) : shortFrame a ≠ (shortFrame b).take n := fun heq => by
  have hlen := congrArg List.length heq
  rw [List.length_take, shortFrame_length, shortFrame_length] at hlen
  omega

/-- Refutes O27, by what its last clause lets the guardian leave of a frame: it lists the first 0 to 9 bytes, but of a frame whose ten
bytes with their delimiters take 960 ns (09 R183) a closing edge 880 to 959 ns from the start leaves all ten bytes. In `leadReflexLate` that
is what goes out. -/
theorem not_reflexPath : ¬ Obligations.ReflexPath := by
  rintro ⟨-, -, -, -, -, hsend⟩
  obtain ⟨t, ht, -, -, h⟩ := hsend leadReflexLate (by decide +kernel) 0 (by decide) leadReflexLate_ownMini
  obtain ⟨u, hu, hout⟩ := leadReflexLate_send
  obtain rfl := Host.Outcome.next.inj (hu.symm.trans ht)
  rw [if_neg (by decide +kernel)] at h
  obtain ⟨-, honly, -⟩ := h (by decide +kernel)
  obtain hold | ⟨g, -, b, -, -, -, -, hwhole | ⟨n, hn, hcut⟩⟩ := honly _ hout
  · exact absurd hold (by decide +kernel)
  · cases hwhole
  · exact shortFrame_ne_take (List.mem_range.mp hn) _ _ (Out.wire.inj hcut).2.2.2.1

end Sys2Proof.Machine
end

section
/-! SUPPORT. The Ramette cluster and its stations (09, 10): states and frames in which the model does other than the statements say. -/

namespace Sys2Proof.Machine

-- The facts below evaluate the model in the kernel; one after the other they stay within the memory that their threads may take.
set_option Elab.async false

/-! A frame of pages that lists page 0, for every value of type `Row`. -/

/-- As `Row.alias`, a row that no table holds, but of page `p`: its low bit reaches up to the given field of row `r`. -/
def Row.aliasOn (p : Nat) (r : Row) (k u m : Nat) : Row := { r.alias k u m with page := p, lo := r.key k u m - p * 2 ^ 17 }

theorem Row.aliasOn_key {p : Nat} (hp : p < 256) (r : Row) {k u m : Nat} (hle : p * 2 ^ 17 ≤ r.key k u m) :
    (r.aliasOn p k u m).key 0 0 0 = r.key k u m := by
  have hkey : (r.aliasOn p k u m).key 0 0 0 = p % 256 * 2 ^ 17 + (r.key k u m - p * 2 ^ 17) := by
    simp [Row.key, Row.aliasOn, Row.alias, RstCls.code, Acc.code, Nat.mul_assoc]
  rw [hkey, Nat.mod_eq_of_lt hp, Nat.add_sub_cancel' hle]

theorem State.rd_aliasOn (s : State) {p : Nat} (hp : p < 256) (r : Row) {k u m : Nat} (hle : p * 2 ^ 17 ≤ r.key k u m) :
    s.rd (r.aliasOn p k u m) 0 0 0 = s.rd r k u m := by
  unfold State.rd
  rw [Row.aliasOn_key hp r hle]
  rfl

/-- Where some page is not listed, `PagesBut` asks that no field of a higher page changes. -/
theorem State.PagesBut.rd_eq_above {s t : State} {pages : List Nat} (h : s.PagesBut t pages) {p : Nat} (hp : p < 256) (hout : p ∉ pages)
    (r : Row) {k u m : Nat} (hle : p * 2 ^ 17 ≤ r.key k u m) : t.rd r k u m = s.rd r k u m := by
  rw [← State.rd_aliasOn t hp r hle, ← State.rd_aliasOn s hp r hle]
  exact h (r.aliasOn p k u m) 0 0 0 (by rwa [Nat.add_zero, show (r.aliasOn p k u m).page = p from rfl, Nat.mod_eq_of_lt hp])

/-! A module of side A that takes part in a running cluster. -/

/-- Station 0's dual in-slot of two tagged values, and the module slots of side A and side B. -/
def liveInSlot : Slot := { start := 1600, round := 0, kind := 0, station := 0, syncst := false, dual := true, p := 32, chan := 3 }
def liveOwnSlot : Slot := { start := 5000, round := 0, kind := 2, station := 0, syncst := false, dual := false, p := 16, chan := 3 }
def liveOtherSlot : Slot := { start := 6000, round := 0, kind := 3, station := 0, syncst := false, dual := false, p := 16, chan := 3 }

/-- A lead whose segment 0 is ON and joined. RMC is ACTIVE in cycle 1, of 8 rounds, which began at MT 1,000,000, and cycle 0 at MT 0; the
guardians stand in step with it. -/
def liveBus : State :=
  let s := (((releasedLead.setUnit 0x20 2).wr R.RMC_STAT_CSTATE 5).wr R.RMC_STAT_CYCLE 1).wr R.RMC_STAT_ROUNDS 8
  let guard : Guard := { (s.rmt 0).ga with at_ := 1000000, cyc := 1 }
  { s.setRmt 0 { s.rmt 0 with joined := true, rounds := 8, slots := [liveInSlot, liveOwnSlot, liveOtherSlot], ga := guard, gb := guard } with
    mt := 1000000, rmc := { s.rmc with start := 1000000, mtcs := [(0, 1), (1, 1000001)] } }

/-- The frame of slot `n`, entry `e`, in cycle 1 on channel A of segment 0, heard where it is due (10 R210). -/
def liveFrame (n : Nat) (e : Slot) (type : Nat) (payload : List (BitVec 8)) : Frame :=
  { seg := 0, chanB := false, start := BitVec.ofNat 64 (1000000 + e.action + 900), headOk := true, tailOk := true
    bytes := longFrame 0 n 1 type 0 payload }

theorem liveBus_noWork : liveBus.NoWork := by decide +kernel

/-! A dual frame that repeats, over an index byte that names no buffer. -/

/-- Station 0's dual frame has filled its buffer in this cycle, and the byte that numbers the newest buffer of half A holds 6. -/
def liveRepeat : State := (liveBus.setStn 0 0 { liveBus.stn 0 0 with filled := true }).wb (mboxBase 0 0 + 0x600) 6

/-- The station's DATA frame: two tagged values of zeros, taken at offset 0 of cycle 0, so at MT 0. -/
def zerosData : Frame := liveFrame 0 liveInSlot 1 (List.replicate 32 0)

theorem zerosData_passes : liveRepeat.Passes zerosData 0 liveInSlot := by decide +kernel
theorem zerosData_mts : liveRepeat.mtsOf 0 0 zerosData.start.toNat = some 0 := by decide +kernel

/-- Buffer 6 of the half would begin at the index byte, which is stored last: the first eight bytes there read 6. -/
theorem liveRepeat_data_mts : ∃ t, exec (.dataFrameReceived zerosData) liveRepeat = .next t ∧
    t.rdLe (liveRepeat.bufAt zerosData liveInSlot) 8 = 6 := ⟨_, rfl, by decide +kernel⟩

/-- Refutes O28, by the buffer of a repeated dual frame: the statement has MTS in its first eight bytes, but does not ask that the byte that
numbers the newest buffer be 0 to 2. In `liveRepeat` it holds 6, the buffer of that number begins at this very byte, and after the frame of
MTS 0 the byte is 6 again. -/
theorem not_framesAreJudged : ¬ Obligations.FramesAreJudged := by
  rintro ⟨-, -, -, hvalid, -⟩
  obtain ⟨hdata, -⟩ := hvalid zerosData liveRepeat (by decide +kernel) (by decide +kernel) (by decide +kernel) 0 (by decide +kernel)
    liveInSlot (by decide +kernel) (by decide +kernel) zerosData_passes
  obtain ⟨t, ht, -, hmem, -⟩ := hdata (by decide +kernel) (by decide +kernel) (by decide +kernel)
  rw [if_neg (by decide +kernel)] at hmem
  obtain ⟨-, hmts, -⟩ := hmem
  obtain ⟨u, hu, hsix⟩ := liveRepeat_data_mts
  obtain rfl := Host.Outcome.next.inj (hu.symm.trans ht)
  have hzero : 6 = 0 % 2 ^ 64 := hsix.symm.trans (hmts 0 (by decide +kernel))
  exact absurd hzero (by decide)

/-! A cut that is counted. -/

theorem liveBus_gcut : liveBus.rd R.RMT_GCUT_A 0 0 = 0 := by decide +kernel

theorem liveBus_cut_gcut : ∃ t, exec (.guardianCut 0 false) liveBus = .next t ∧ t.rd R.RMT_GCUT_A 0 0 = 1 := ⟨_, rfl, by decide +kernel⟩

/-- Refutes O30, by the frame of pages of its clause of GUARDIAN_CUT alone: the cut counts in GCUT, on the segment's page, which the clause
lists; but `PagesBut` asks of every value of type `Row`, also of one of page 0 with the key of GCUT, that it reads as before. No table holds
such a row. -/
theorem not_clusterStartUpAndClock : ¬ Obligations.ClusterStartUpAndClock := by
  rintro ⟨-, -, -, -, -, -, hguard⟩
  obtain ⟨-, -, hcut, -⟩ := hguard 0 false liveBus
  obtain ⟨t, ht, -, -, -, -, hpages, -⟩ := hcut (by decide +kernel)
  obtain ⟨u, hu, hcount⟩ := liveBus_cut_gcut
  obtain rfl := Host.Outcome.next.inj (hu.symm.trans ht)
  have hkept : 1 = 0 := hcount.symm.trans ((hpages.rd_eq (by decide) R.RMT_GCUT_A 0 0 0).trans liveBus_gcut)
  exact absurd hkept (by decide)

/-! A BEACON that shows the lease. -/

/-- The BEACON of side B with the lease, whose claim is 2: epoch 1 (11 R245, R246). -/
def leaseBeacon : Frame := liveFrame 2 liveOtherSlot 7 (beBytes 4 0 ++ beBytes 8 2 ++ [3, 1, 0, 0])

theorem leaseBeacon_passes : liveBus.Passes leaseBeacon 2 liveOtherSlot := by decide +kernel
theorem liveBus_epoch : liveBus.rd R.PAIR_EPOCH = 0 := by decide +kernel

theorem liveBus_beacon_epoch : ∃ t, exec (.beaconReceived leaseBeacon) liveBus = .next t ∧ t.rd R.PAIR_EPOCH = 1 := ⟨_, rfl, by decide +kernel⟩

/-- Refutes O29, by the frame of pages of its clause of BEACON alone: the claim raises EPOCH, on page 0x3A, which the clause lists; but
`PagesBut` asks of every value of type `Row`, also of one of page 1 with the key of EPOCH, that it reads as before. No table holds such a
row. -/
theorem not_syncBeaconAndServiceFrames : ¬ Obligations.SyncBeaconAndServiceFrames := by
  rintro ⟨hsync, -⟩
  obtain ⟨-, -, hbeacon⟩ := hsync leaseBeacon liveBus liveBus_noWork (by decide +kernel) (by decide +kernel) (by decide +kernel)
    2 (by decide +kernel) liveOtherSlot (by decide +kernel) (by decide +kernel) leaseBeacon_passes
  obtain ⟨t, ht, -, -, -, -, hpages, -⟩ := hbeacon (by decide +kernel)
  obtain ⟨u, hu, hepoch⟩ := liveBus_beacon_epoch
  obtain rfl := Host.Outcome.next.inj (hu.symm.trans ht)
  have hkept : 1 = 0 :=
    hepoch.symm.trans ((hpages.rd_eq_above (p := 1) (by decide) (by decide) R.PAIR_EPOCH (by decide)).trans liveBus_epoch)
  exact absurd hkept (by decide)

/-! A module slot that the guardian closes before the end delimiter. -/

/-- The own module slot's action point, at 1,051,000, has passed; its guardian's closing edge is at 1,055,150 (10 Table 10.1), 2,350 ns
from now. -/
def liveLate : State := { liveBus with mt := 1052800 }

theorem liveLate_own : (0, 1, liveOwnSlot) ∈ liveLate.ownSlots := by decide +kernel

/-- The 28 bytes of a module frame last 2,400 ns with their two delimiters (09 R183), and the guardian cuts it (10 R213). -/
theorem liveLate_send : ∃ t, exec .moduleSlotSend liveLate = .next t ∧
    t.mt + 2240 ≤ liveLate.slotClose 0 false liveOwnSlot ∧ .wire 0 false false (liveLate.ownFrame 0 1) true ∉ t.outs :=
  ⟨_, rfl, by decide +kernel⟩

/-- Refutes O32, by its clause of MODULE_SLOT_SEND: it has the frame go out whole where 2,240 ns are left before the guardian's closing
edge, which is the time of the frame's 28 bytes without its delimiters; with them it lasts 2,400 ns (09 R183). In `liveLate` 2,350 ns are
left, and the frame is cut. -/
theorem not_sendingInSlots : ¬ Obligations.SendingInSlots := by
  rintro ⟨-, -, -, hsend, -⟩
  obtain ⟨t, ht, -, -, hwhole, -⟩ := hsend liveLate (by decide +kernel) (by decide +kernel)
  obtain ⟨u, hu, hroom, hcut⟩ := liveLate_send
  obtain rfl := Host.Outcome.next.inj (hu.symm.trans ht)
  exact hcut (hwhole _ liveLate_own false (by decide) (by decide +kernel) hroom)

end Sys2Proof.Machine
end


section
/-! SUPPORT. The states of the stations (10 R218, Table 10.5): a state in which STATION_EVALUATION changes a register of its segment. -/

namespace Sys2Proof.Machine

/-! A station of which no frame came. Station 0 of `liveBus` has its in-slot in this cycle, and no frame of it was heard. -/

theorem liveBus_inSlot : liveBus.inSlotOf 0 0 = some liveInSlot := by decide +kernel
theorem liveBus_miss : liveBus.rd R.RMT_ST_MISS 0 0 = 0 := by decide +kernel

/-- The cycle without a valid frame counts (10 Table 10.5). -/
theorem liveBus_evaluation_miss : ∃ t, exec (.stationEvaluation 0 0) liveBus = .next t ∧ t.rd R.RMT_ST_MISS 0 0 = 1 :=
  ⟨_, rfl, by decide +kernel⟩

/-- Refutes O31, by the frame of pages of its last clause alone: a cycle without a valid frame counts in MISS, on the segment's page, which
the clause lists; but `PagesBut` asks of every value of type `Row`, also of one of page 0 with the key of MISS, that it reads as before. No
table holds such a row. -/
theorem not_stationStates : ¬ Obligations.StationStates := by
  rintro ⟨-, hevaluated⟩
  obtain ⟨t, ht, -, -, -, -, -, hpages, -⟩ := hevaluated 0 0 liveBus liveBus_noWork liveInSlot
    (Option.mem_toList.mpr liveBus_inSlot) (by decide +kernel) (by decide +kernel) (by decide +kernel)
  obtain ⟨u, hu, hcount⟩ := liveBus_evaluation_miss
  obtain rfl := Host.Outcome.next.inj (hu.symm.trans ht)
  have hkept : 1 = 0 := hcount.symm.trans ((hpages.rd_eq (by decide) R.RMT_ST_MISS 0 0 0).trans liveBus_miss)
  exact absurd hkept (by decide)

end Sys2Proof.Machine
end

section
/-! SUPPORT. The pair (11): states in which the model does other than the statements say. -/

namespace Sys2Proof.Machine

theorem State.PagesBut.flag_eq {s t : State} {pages : List Nat} (h : s.PagesBut t pages) (h0 : 0 ∉ pages) (r : Row) (k u m : Nat) :
    t.flag r k u m = s.flag r k u m :=
  congrArg (· != 0) (h.rd_eq h0 r k u m)

/-! A HEARTBEAT that is missing. -/

/-- A lead whose link 0 shows HBOK; the last HEARTBEAT on it came at MT 0. -/
def leadHeartbeat : State := releasedLead.wr R.PL_STAT_HBOK 1 0 0

theorem leadHeartbeat_hbok : leadHeartbeat.flag R.PL_STAT_HBOK 0 0 = true := by decide +kernel

/-- A HEARTBEAT missing for 25 µs clears HBOK (11 R232). -/
theorem leadHeartbeat_missing_hbok : ∃ t, exec (.heartbeatMissing 0) leadHeartbeat = .next t ∧ t.flag R.PL_STAT_HBOK 0 0 = false :=
  ⟨_, rfl, by decide +kernel⟩

/-- Refutes O33, by the frame of pages of its clause of HEARTBEAT_MISSING alone: HBOK falls, on page 0x38, which the clause lists; but
`PagesBut` asks of every value of type `Row`, also of one of page 0 with the key of HBOK, that it reads as before. No table holds such a
row. -/
theorem not_heartbeatsAndLinks : ¬ Obligations.HeartbeatsAndLinks := by
  rintro ⟨-, -, -, -, -, -, hmissing, -⟩
  obtain ⟨t, ht, h⟩ := hmissing 0 leadHeartbeat
  rw [if_neg (by decide +kernel)] at h
  obtain ⟨-, -, -, -, -, hpages, -⟩ := h
  obtain ⟨u, hu, hfalls⟩ := leadHeartbeat_missing_hbok
  obtain rfl := Host.Outcome.next.inj (hu.symm.trans ht)
  have hkept : false = true := hfalls.symm.trans ((hpages.flag_eq (by decide) R.PL_STAT_HBOK 0 0 0).trans leadHeartbeat_hbok)
  exact absurd hkept (by decide)

/-! A mirror escape with a result in flight. -/

/-- The reaction of the escape abandons the ply of `leadInFlight`, and its row in flight completes (11 R240, 04 R80). -/
theorem leadInFlight_escape_byte : ∃ t, exec (.mirrorEscape 0 0 0) leadInFlight = .next t ∧ t.rb instBase = 1 := ⟨_, rfl, by decide +kernel⟩

/-- Refutes O34, by its last clause: it asks that no byte of memory change at a mirror escape, but not that no result be in flight. In
`leadInFlight` the safety fault reaction abandons a ply in EXECUTE, its result in flight completes, and the byte it writes changes. -/
theorem not_mirrorAndBulk : ¬ Obligations.MirrorAndBulk := by
  rintro ⟨-, -, -, -, -, -, -, -, -, hescape⟩
  obtain ⟨t, ht, -, -, -, -, -, -, -, hmem⟩ := hescape 0 0 0 leadInFlight (.inl leadInFlight_mode) (by decide +kernel)
  obtain ⟨u, hu, hland⟩ := leadInFlight_escape_byte
  obtain rfl := Host.Outcome.next.inj (hu.symm.trans ht)
  have hbyte : (1 : BitVec 8) = 0 := hland.symm.trans ((hmem instBase).trans leadInFlight_byte)
  exact absurd hbyte (by decide)

/-! A claim made while a ply waits for the lanes. -/

/-- A synchronised TRACK of a pair with one arbiter, which hears neither HEARTBEAT nor BEACON. A ply of C1 is triggered and waits for the
lanes. -/
def trackTriggered : State :=
  let s := ((releasedLead.wr R.SYS_MODE_MODE 2).wr R.PAIR_STAT_SYNC 1).wr R.PAIR_ARB_N 1
  { s.modPly 0 fun p => { p with phase := 1 } with pr := { s.pr with silent := true } }

/-- The highest byte of the local input image's age in C1's window, which lies at offset 0 (05 Table 5.7). -/
def inputAgeByte : Nat := instBase + 0x10F

theorem trackTriggered_byte : trackTriggered.rb inputAgeByte = 0 := by decide +kernel

/-- With the end of the cycle FREEZE begins and writes the local input image, which is out of service (04 R69, 05 R107). -/
theorem trackTriggered_cycleEnd_byte : ∃ t, exec .pairCycleEnd trackTriggered = .next t ∧ t.rb inputAgeByte = 0xFF := ⟨_, rfl, by decide +kernel⟩

/-- Refutes O36, by its clause of the claim of a synchronised TRACK: it asks that no byte of memory change at the end of the cycle, but,
unlike the clauses of a failed join and of the lease, not that no ply be in progress or wait. In `trackTriggered` the waiting ply begins its
FREEZE, whose writes change memory. -/
theorem not_joinsClaimsAndLeases : ¬ Obligations.JoinsClaimsAndLeases := by
  rintro ⟨-, -, -, -, -, -, -, hclaim, -⟩
  obtain ⟨t, ht, -, -, -, -, hmem⟩ := hclaim trackTriggered (by decide +kernel) (by decide +kernel) (by decide +kernel) (by decide +kernel)
    (by decide +kernel) (by decide +kernel) (by decide +kernel) (by decide +kernel) (by decide +kernel) (by decide +kernel) (by decide +kernel)
  obtain ⟨u, hu, hfreeze⟩ := trackTriggered_cycleEnd_byte
  obtain rfl := Host.Outcome.next.inj (hu.symm.trans ht)
  have hbyte : (0xFF : BitVec 8) = 0 := hfreeze.symm.trans ((hmem inputAgeByte).trans trackTriggered_byte)
  exact absurd hbyte (by decide)

/-! A castling request that is refused. -/

theorem reset_forced : State.reset.flag R.PAIR_CASTLE_CMD_FORCED = false := by decide +kernel

/-- CASTLE.CMD stores FORCED (11 Table 11.12). -/
theorem reset_castle_forced : ∃ t, exec (.castleCmdReq 0 true) State.reset = .next t ∧ t.flag R.PAIR_CASTLE_CMD_FORCED = true :=
  ⟨_, rfl, by decide +kernel⟩

/-- Refutes O37, by the frame of pages of its first clause alone: FORCED is stored in CASTLE.CMD, on page 0x3A, which the clause lists; but
`PagesBut` asks of every value of type `Row`, also of one of page 0 with the key of FORCED, that it reads as before. No table holds such a
row. -/
theorem not_castling : ¬ Obligations.Castling := by
  rintro ⟨hrequest, -⟩
  obtain ⟨t, ht, -, hpages, -⟩ := hrequest 0 true State.reset (by decide)
  obtain ⟨u, hu, hforced⟩ := reset_castle_forced
  obtain rfl := Host.Outcome.next.inj (hu.symm.trans ht)
  have hkept : true = false := hforced.symm.trans ((hpages.flag_eq (by decide) R.PAIR_CASTLE_CMD_FORCED 0 0 0).trans reset_forced)
  exact absurd hkept (by decide)

/-! The check of an empty mirror list. -/

theorem reset_mlvol : State.reset.rd R.PAIR_MLVOL 0 = 0 := by decide +kernel

/-- The volume of a class without ranges is 16,384 (11 R241). -/
theorem reset_check_mlvol : ∃ t, exec (.mlCheck 0) State.reset = .next t ∧ t.rd R.PAIR_MLVOL 0 = 16384 := ⟨_, rfl, by decide +kernel⟩

/-- Refutes O35, by the frame of pages of its clause of ML_CHECK alone: the check stores the volumes in MLVOL, on page 0x3A, which the clause
lists; but `PagesBut` asks of every value of type `Row`, also of one of page 0 with the key of MLVOL, that it reads as before. No table holds
such a row. -/
theorem not_mirrorListsAndMessages : ¬ Obligations.MirrorListsAndMessages := by
  rintro ⟨-, -, hcheck, -⟩
  obtain ⟨t, ht, -, -, -, -, hpages, -⟩ := hcheck 0 State.reset (by decide) (by decide +kernel)
  obtain ⟨u, hu, hvolume⟩ := reset_check_mlvol
  obtain rfl := Host.Outcome.next.inj (hu.symm.trans ht)
  have hkept : 16384 = 0 := hvolume.symm.trans ((hpages.rd_eq (by decide) R.PAIR_MLVOL 0 0 0).trans reset_mlvol)
  exact absurd hkept (by decide)

end Sys2Proof.Machine
end


section
/-! SUPPORT. Class triggers and compare channels (04 R67; 12 R274): states in which a match does other than the statements say. -/

namespace Sys2Proof.Machine

/-- A lead in which XE takes triggers; class C1 owns compare channel 0, and its next trigger falls at MT 4. -/
def leadClass : State :=
  ((releasedLead.setUnit 0x10 2).wr R.XE_CLS_CFG_EN 1 0).modPly 0 fun p => { p with next := some 4 }

/-! A trigger that ends an armed seal. -/

/-- The lead of `leadClass`, in which a SEAL for ply 0 of C1 waits for the partner's consent while a seal with SEALCLS C1 and ply 0 is
armed. C1's partition has no window in column 0's bank. -/
def leadSealOver : State :=
  let s := ((leadClass.wr R.XE_SM_STAT_STATE 3).wr R.XE_SM_CLS 1).wrLe (moveBase 0 + 0x050 + 32 * mainPart 0) 4 listNone
  { s with ncp := { s.ncp with sealGo := some (false, 0) } }

theorem leadSealOver_sealGo : leadSealOver.ncp.sealGo.isSome = true := by decide

/-- The ply is above ply 0: the seal lapses, and the SEAL is answered (07 R151). -/
theorem leadSealOver_trigger_sealGo : ∃ t, exec (.plyTrigger 0 0) leadSealOver = .next t ∧ t.ncp.sealGo.isSome = false :=
  ⟨_, rfl, by decide +kernel⟩

/-- Refutes O15, by its clause of the ply that starts: it asks that NCP's state stay as it is, but not that no seal be armed. In
`leadSealOver` the trigger is that of the first ply of SEALCLS above the seal's ply; the seal lapses, and the SEAL that waits is answered. -/
theorem not_classTriggersAndFlagFalls : ¬ Obligations.ClassTriggersAndFlagFalls := by
  rintro ⟨-, -, -, hstart, -⟩
  obtain ⟨t, ht, -, -, -, -, -, -, -, -, -, -, -, -, hrest, -⟩ := hstart 0 0 4 leadSealOver
    (by decide +kernel) (by decide +kernel) (by decide +kernel) (by decide +kernel) (by decide +kernel) (by decide +kernel) (by decide +kernel)
    (by decide +kernel) (by decide +kernel)
  obtain ⟨u, hu, hlapse⟩ := leadSealOver_trigger_sealGo
  obtain rfl := Host.Outcome.next.inj (hu.symm.trans ht)
  have hkept : u.ncp.sealGo.isSome = leadSealOver.ncp.sealGo.isSome := by rw [hrest]
  exact absurd (hlapse.symm.trans (hkept.trans leadSealOver_sealGo)) (by decide)

/-! A trigger that stops work whose next row is corrupted. -/

/-- The lead of `leadClass` with a C2 ply in EXECUTE, the next row of which lies outside its half, and with RSTALL set, so that a safety
fault brings a reset (21 R432). -/
def leadRowDue : State :=
  ((leadClass.wr R.SAF_CFG_RSTALL 1).modPly 1 fun p => { p with phase := 3 }).setSeq (levelOf 1) { Seq.idle with ended := false }

theorem leadRowDue_count : leadRowDue.rd R.TIM_CMP_COUNT 0 = 0 := by decide +kernel

/-- C2's rows issue up to the trigger; the schedule fault of the first resets the module, its counters among the registers (05 R110). -/
theorem leadRowDue_match_count : ∃ t, exec (.compareMatch 0 0) leadRowDue = .next t ∧ t.rd R.TIM_CMP_COUNT 0 = 0 :=
  ⟨_, rfl, by decide +kernel⟩

/-- Refutes O39, by its clause of a channel that a class owns: it asks that the match show in COUNT, but not that no other work be in
EXECUTE. In `leadRowDue` the trigger meets C2's work at a row that faults, the safety fault brings a reset, and COUNT reads 0. -/
theorem not_comparesCapturesAndTheTimePort : ¬ Obligations.ComparesCapturesAndTheTimePort := by
  rintro ⟨-, -, -, howned, -⟩
  obtain ⟨t, ht, -, -, hcount, -⟩ := howned 0 0 0 4 leadRowDue
    (by decide +kernel) (by decide +kernel) ⟨rfl, rfl⟩ (by decide +kernel)
  obtain ⟨u, hu, hreset⟩ := leadRowDue_match_count
  obtain rfl := Host.Outcome.next.inj (hu.symm.trans ht)
  have hzero : leadRowDue.rd R.TIM_CMP_COUNT (0 : Fin 8) = 0 := leadRowDue_count
  rw [hzero] at hcount
  exact absurd (hreset.symm.trans hcount) (by decide)

end Sys2Proof.Machine
end

section
/-! SUPPORT. Counters, flags and latched reads, and the updates that each of the three classes takes in turn. -/

namespace Sys2Proof.Machine

theorem State.sat_counted (s : State) (r : Row) (k u : Nat) : s.Counted (s.sat r k u) r k u := by
  have hpos := Nat.two_pow_pos r.width
  rw [State.Counted, State.sat, State.rd_wr_self, satAdd]
  split
  · rw [Nat.mod_eq_of_lt ‹_›]
    omega
  · rw [Nat.mod_eq_of_lt (by omega)]
    omega

theorem State.flag_put (s : State) {r : Row} (h : r.width = 1) (b : Bool) (k u m : Nat) : (s.put r b k u m).flag r k u m = b := by
  cases b <;> simp [State.put, State.flag, b2n, h]

theorem State.flag_wr_one (s : State) {r : Row} (h : r.width = 1) (k u m : Nat) : (s.wr r 1 k u m).flag r k u m = true :=
  s.flag_put h true k u m

theorem State.flag_wr_zero (s : State) (r : Row) (k u m : Nat) : (s.wr r 0 k u m).flag r k u m = false := by simp [State.flag]

theorem State.flag_wr_ne (s : State) (r q : Row) (v k u m k' u' m' : Nat) (h : q.place k' ≠ r.place k) :
    (s.wr r v k u m).flag q k' u' m' = s.flag q k' u' m' := congrArg (· != 0) (State.rd_wr_place _ _ _ _ _ _ _ _ _ _ h)

/-- The two words of a number below 2^64 give it back. -/
theorem rd2_words {v : Nat} (h : v < 2 ^ 64) : v % 2 ^ 32 % 2 ^ 32 + v / 2 ^ 32 % 2 ^ 32 * 2 ^ 32 = v := by omega

/-- A read of the low word of a clock, which latches the high word for the master (12 R266). -/
theorem State.latch_spec (s : State) (v m : Nat) {r : Row} (h : r.width = 32) :
    let t := (s.wr r (v / 2 ^ 32) 0 0 m).answer (v % 2 ^ 32)
    t.bus.data = leBytes 4 (v % 2 ^ 32) ∧ t.rd r 0 0 m = v / 2 ^ 32 % 2 ^ 32 ∧ s.RegsBut t [r.key 0 0 m] ∧
      t = { s with regs := t.regs, bus := t.bus } :=
  ⟨rfl, h ▸ State.rd_wr_self .., (State.RegsBut.refl s _).wr r _ _ _ _ (by simp), rfl⟩

theorem State.each_eq_self {α : Type} {s : State} {f : State → α → State} : ∀ {xs : List α}, (∀ x ∈ xs, f s x = s) → s.each xs f = s
  | [], _ => rfl
  | x :: xs, h => by
    rw [State.each, List.foldl_cons, h x (List.mem_cons_self ..)]
    exact State.each_eq_self fun y hy => h y (List.mem_cons_of_mem _ hy)

/-- What is kept by every update of a list is kept by all of them. -/
theorem State.each_induction {α : Type} {motive : State → Prop} {f : State → α → State} {xs : List α} {s : State} (h : motive s)
    (hf : ∀ t, ∀ x ∈ xs, motive t → motive (f t x)) : motive (s.each xs f) :=
  List.foldlRecOn xs f h fun t ht x hx => hf t x hx ht

/-- An update of the three classes in turn, that of one class leaving what is seen of the others alone: each class stands to its former
self as its own update leaves it. -/
theorem State.each_class {α : Type} {view : State → Nat → α} {After : α → α → Prop} {f : State → Nat → State}
    (hself : ∀ s, ∀ n < 3, After (view s n) (view (f s n) n))
    (hother : ∀ s, ∀ n < 3, ∀ j < 3, j ≠ n → view (f s n) j = view s j) (s : State) (n : Fin 3) :
    After (view s n) (view (s.each (upTo 3) f) n) := by
  show After (view s n) (view (f (f (f s 0) 1) 2) n)
  match n with
  | 0 =>
    have h1 := hother (f s 0) 1 (by decide) 0 (by decide) (by decide)
    have h2 := hother (f (f s 0) 1) 2 (by decide) 0 (by decide) (by decide)
    exact (h2.trans h1) ▸ hself s 0 (by decide)
  | 1 =>
    have h0 := hother s 0 (by decide) 1 (by decide) (by decide)
    have h2 := hother (f (f s 0) 1) 2 (by decide) 1 (by decide) (by decide)
    exact h0 ▸ h2 ▸ hself (f s 0) 1 (by decide)
  | 2 =>
    have h0 := hother s 0 (by decide) 2 (by decide) (by decide)
    have h1 := hother (f s 0) 1 (by decide) 2 (by decide) (by decide)
    exact (h1.trans h0) ▸ hself (f (f s 0) 1) 2 (by decide)

theorem State.ply_setPly_self (s : State) (w : Nat) (p : PlySt) : (s.setPly w p).ply w = p := smGet_smSet_self ..

theorem State.ply_setPly_ne (s : State) (p : PlySt) {w v : Nat} (h : v ≠ w) : (s.setPly w p).ply v = s.ply v := smGet_smSet_ne _ _ _ _ h

end Sys2Proof.Machine
end

section
/-! SUPPORT. The time base (12 R265-R271): what a tick does that loads a SET or applies steps, and what a run of ticks does. -/

namespace Sys2Proof.Machine

/-! NT takes a value. -/

/-- NT and its fraction set from a number of 2⁻²⁸ ns. -/
def State.ntLoaded (s : State) (v : Nat) : State := s.setTim { s.tim with nt := v / 2 ^ 28 % 2 ^ 64, frac := v % 2 ^ 28 }

theorem State.setNtFull_eq (s : State) (v : Nat) :
    s.setNtFull v = if v / 2 ^ 28 % 2 ^ 64 / 2 ^ 32 = s.tim.nt / 2 ^ 32 then s.ntLoaded v else (s.ntLoaded v).ev 0x40 9 := rfl

theorem State.setNtFull_tim (s : State) (v : Nat) :
    (s.setNtFull v).tim = { s.tim with nt := v / 2 ^ 28 % 2 ^ 64, frac := v % 2 ^ 28 } := by
  rw [State.setNtFull_eq]
  split
  · rfl
  · exact State.ev_tim ..

theorem State.setNtFull_rest (s : State) (v : Nat) :
    s.setNtFull v = { s with regs := (s.setNtFull v).regs, tim := (s.setNtFull v).tim } := by
  rw [State.setNtFull_tim, State.setNtFull_eq]
  split
  · rfl
  · exact (State.RegsAlone.refl _).ev 0x40 9

theorem State.setNtFull_regs {s : State} {v : Nat} (h : v / 2 ^ 28 % 2 ^ 64 / 2 ^ 32 = s.tim.nt / 2 ^ 32) : (s.setNtFull v).regs = s.regs := by
  rw [State.setNtFull_eq, if_pos h]
  rfl

/-- Source 185 when NTHI changes (R267). -/
theorem State.setNtFull_rose {s : State} {v : Nat} (h : v / 2 ^ 28 % 2 ^ 64 / 2 ^ 32 ≠ s.tim.nt / 2 ^ 32) :
    s.Rose (s.setNtFull v) 0x40 9 := by
  rw [State.setNtFull_eq, if_neg h]
  exact State.ev_rose (s.ntLoaded v) 0x40 9 (by decide)

theorem State.setNtFull_regsBut (s : State) (v : Nat) : s.RegsBut (s.setNtFull v) (evKeys 0x40) := by
  have h : s.RegsBut (s.ntLoaded v) (evKeys 0x40) := State.RegsBut.refl s _
  rw [State.setNtFull_eq]
  exact h.ite (h.ev 0x40 9 (List.Subset.refl _))

/-! A tick. -/

/-- A tick in which no channel matches is the advance of the clocks. -/
theorem State.tick_of_noMatch {s : State} (h : ∀ k ∈ upTo 8, s.clockTick.matchesNow k = false) : s.tick = s.clockTick :=
  State.each_eq_self fun k hk => if_neg (by rw [h k hk]; exact Bool.false_ne_true)

/-- MT after one tick. -/
def State.mtTick (s : State) : State := { s with mt := (s.mt + 4) % 2 ^ 64 }

/-- The state in which a SET of `v` waits for its tick, and the one that has loaded it. -/
def State.setPending (s : State) (v : Nat) : State := { s with tim := { s.tim with set := some v } }
def State.setLoaded (s : State) (v : Nat) : State := { s with tim := { s.tim with nt := v, frac := 0, set := none } }

theorem State.setLoaded_ntFull (s : State) (v : Nat) : (s.setLoaded v).ntFull = v * 2 ^ 28 := Nat.add_zero _

/-- A tick with a SET alone: NT is loaded with fraction 0 and advances (R269). -/
theorem State.clockTick_set (s : State) (v : Nat) (h : s.tim.steps = []) :
    (s.setPending v).clockTick = (s.mtTick.setLoaded v).setNtFull (v * 2 ^ 28 + s.rd R.TIM_NTINC) := by
  have hload : ({ s.setPending v with mt := ((s.setPending v).mt + 4) % 2 ^ 64 } : State).applySet = s.mtTick.setLoaded v := rfl
  have hsteps : (s.mtTick.setLoaded v).tim.steps = [] := h
  rw [← (s.mtTick).setLoaded_ntFull v]
  unfold State.clockTick
  rw [hload]
  exact if_pos (.inl hsteps)

/-- The registers and the list of steps once they are applied (R270). -/
def State.stepsDone (s : State) (n : Nat) : State :=
  let t := ((s.wr R.TIM_NTSTAT_STEPPEND 0).wr R.TIM_NTSTEP_CMD_GO 0).wrap R.TIM_NTSTAT_GEN 0 0 0 n
  t.setTim { t.tim with steps := [] }

/-- A tick with steps alone: the targets and NT move by their sum, and NT advances. -/
theorem State.clockTick_steps {s : State} (hset : s.tim.set = none) (hne : s.tim.steps ≠ []) (hheld : s.stepsHeld = false) :
    s.clockTick =
      ((s.mtTick.shiftTargets (s.tim.steps.map (sgn 32)).sum).setNtFull
        (s.ntFull + unsgn 64 (s.tim.steps.map (sgn 32)).sum * 2 ^ 28 + s.rd R.TIM_NTINC)).stepsDone s.tim.steps.length := by
  have happly : ({ s with mt := (s.mt + 4) % 2 ^ 64 } : State).applySet = s.mtTick := by
    unfold State.applySet
    rw [show ({ s with mt := (s.mt + 4) % 2 ^ 64 } : State).tim.set = none from hset]
    rfl
  have hwork : ¬ (s.mtTick.tim.steps = [] ∨ s.mtTick.stepsHeld = true) := by
    rintro (h | h)
    · exact hne h
    · exact Bool.false_ne_true (hheld.symm.trans h)
  unfold State.clockTick
  rw [happly]
  exact if_neg hwork

theorem State.stepsDone_tim (s : State) (n : Nat) : (s.stepsDone n).tim = { s.tim with steps := [] } := rfl
theorem State.stepsDone_rest (s : State) (n : Nat) : s.stepsDone n = { s with regs := (s.stepsDone n).regs, tim := (s.stepsDone n).tim } := rfl

theorem State.stepsDone_gen (s : State) (n : Nat) :
    (s.stepsDone n).rd R.TIM_NTSTAT_GEN = (s.rd R.TIM_NTSTAT_GEN + n) % 2 ^ 8 := by
  show (State.wrap _ R.TIM_NTSTAT_GEN 0 0 0 n).rd R.TIM_NTSTAT_GEN = _
  rw [State.wrap, State.rd_wr_self, State.rd_wr_place _ _ _ _ _ _ _ _ _ _ (by decide), State.rd_wr_place _ _ _ _ _ _ _ _ _ _ (by decide)]
  exact Nat.mod_mod ..

theorem State.stepsDone_pend (s : State) (n : Nat) : (s.stepsDone n).flag R.TIM_NTSTAT_STEPPEND = false := by
  show (State.wrap _ R.TIM_NTSTAT_GEN 0 0 0 n).flag R.TIM_NTSTAT_STEPPEND = _
  rw [State.wrap, State.flag_wr_ne _ _ _ _ _ _ _ _ _ _ (by decide), State.flag_wr_ne _ _ _ _ _ _ _ _ _ _ (by decide), State.flag_wr_zero]

theorem State.stepsDone_go (s : State) (n : Nat) : (s.stepsDone n).flag R.TIM_NTSTEP_CMD_GO = false := by
  show (State.wrap _ R.TIM_NTSTAT_GEN 0 0 0 n).flag R.TIM_NTSTEP_CMD_GO = _
  rw [State.wrap, State.flag_wr_ne _ _ _ _ _ _ _ _ _ _ (by decide), State.flag_wr_zero]

theorem State.stepsDone_regsBut (s : State) (n : Nat) :
    s.RegsBut (s.stepsDone n) [R.TIM_NTSTAT_STEPPEND.key 0 0 0, R.TIM_NTSTEP_CMD_GO.key 0 0 0, R.TIM_NTSTAT_GEN.key 0 0 0] :=
  (((State.RegsBut.refl s _).wr _ _ _ _ _ (by simp)).wr _ _ _ _ _ (by simp)).wr _ _ _ _ _ (by simp)

/-! Targets of owned channels. -/

/-- The ply with its next trigger `v` later. -/
def PlySt.moved (p : PlySt) (v : Int) : PlySt := { p with next := p.next.map fun t => unsgn 64 ((t : Int) + v) }

/-- The class is enabled and owns its channel (R274). -/
abbrev State.Owns (s : State) (n : Nat) : Prop := s.flag R.XE_CLS_CFG_EN n = true ∧ s.ownerOf (s.rd R.XE_CLS_CFG_TRIGCH n) = n + 1

/-- The class owns its channel, and its triggers fall in network time. -/
abbrev State.MovesTarget (s : State) (n : Nat) : Prop :=
  s.flag R.XE_CLS_CFG_EN n = true ∧ s.ownerOf (s.rd R.XE_CLS_CFG_TRIGCH n) = n + 1 ∧ (s.ply n).aligned = true

/-- A step's part for one class. -/
def State.shiftTarget (v : Int) (s : State) (n : Nat) : State := if s.MovesTarget n then s.setPly n ((s.ply n).moved v) else s

theorem State.shiftTargets_eq (s : State) (v : Int) : s.shiftTargets v = s.each (upTo 3) (State.shiftTarget v) := rfl

/-- It changes the engine's part of the state alone. -/
theorem State.shiftTarget_rest (v : Int) (s : State) (n : Nat) : State.shiftTarget v s n = { s with xe := (State.shiftTarget v s n).xe } := by
  unfold State.shiftTarget
  split <;> rfl

theorem State.shiftTargets_rest (s : State) (v : Int) : s.shiftTargets v = { s with xe := (s.shiftTargets v).xe } := by
  rw [State.shiftTargets_eq]
  refine State.each_induction (motive := fun t => t = { s with xe := t.xe }) rfl fun t n _ ht => ?_
  exact (State.shiftTarget_rest v t n).trans (congrArg (fun x : State => { x with xe := (State.shiftTarget v t n).xe }) ht)

/-- What a step reads and changes of a class. -/
def State.targetView (s : State) (n : Nat) : Bool × PlySt := (decide (s.Owns n), s.ply n)

theorem State.shiftTarget_self (v : Int) (s : State) (n : Nat) :
    (State.shiftTarget v s n).ply n = if s.MovesTarget n then (s.ply n).moved v else s.ply n := by
  unfold State.shiftTarget
  split
  · exact State.ply_setPly_self ..
  · rfl

theorem State.shiftTarget_other (v : Int) (s : State) {n j : Nat} (h : j ≠ n) : (State.shiftTarget v s n).targetView j = s.targetView j := by
  unfold State.shiftTarget
  split
  · exact Prod.ext rfl (State.ply_setPly_ne s _ h)
  · rfl

/-- The targets of every class that owns its channel in network time move, and no other ply changes (R271). -/
theorem State.shiftTargets_ply (s : State) (v : Int) (n : Fin 3) :
    (s.shiftTargets v).ply n = if s.MovesTarget n then (s.ply n).moved v else s.ply n := by
  rw [State.shiftTargets_eq]
  have h := State.each_class (view := State.targetView) (f := State.shiftTarget v)
    (After := fun a b => b.2 = if a.1 = true ∧ a.2.aligned = true then a.2.moved v else a.2)
    (fun s n _ => by simpa only [State.targetView, decide_eq_true_eq, and_assoc] using State.shiftTarget_self v s n)
    (fun s n _ j _ hj => State.shiftTarget_other v s hj) s n
  simpa only [State.targetView, decide_eq_true_eq, and_assoc] using h

end Sys2Proof.Machine
end

section
/-! SUPPORT. Re-anchoring (04 R67): what it changes of a class, and of the three classes those for which it is due. -/

namespace Sys2Proof.Machine

theorem State.reanchor_counted (s : State) (n : Nat) : s.Counted (s.reanchor n) R.XE_CLS_SKIP_REANCHOR n := s.sat_counted ..

/-- The ply of the class after a re-anchoring: a scheduled trigger stays, and cause bit 4 is set (R81). -/
theorem State.reanchor_ply (s : State) (n : Nat) :
    nbit ((s.reanchor n).ply n).cause 4 = true ∧
      ((s.ply n).next ≠ none → ((s.reanchor n).ply n).reanch = true ∧ ((s.reanchor n).ply n).next = (s.ply n).next) := by
  have hp : (s.sat R.XE_CLS_SKIP_REANCHOR n).ply n = s.ply n := rfl
  unfold State.reanchor State.modPly
  dsimp only
  rw [State.ply_setPly_self, hp]
  cases (s.ply n).next with
  | none => exact ⟨nbit_set _ 4, fun h => absurd rfl h⟩
  | some t => exact ⟨nbit_set _ 4, fun _ => ⟨rfl, rfl⟩⟩

theorem State.reanchor_ply_ne (s : State) {n j : Nat} (h : j ≠ n) : (s.reanchor n).ply j = s.ply j := State.ply_setPly_ne _ _ h

theorem State.reanchor_regsBut (s : State) (n : Nat) : s.RegsBut (s.reanchor n) [R.XE_CLS_SKIP_REANCHOR.key n 0 0] :=
  (State.RegsBut.refl s _).wr R.XE_CLS_SKIP_REANCHOR _ n 0 0 (by simp)

theorem State.reanchor_rest (s : State) (n : Nat) : s.reanchor n = { s with regs := (s.reanchor n).regs, xe := (s.reanchor n).xe } := rfl

theorem State.reanchor_rd (s : State) (n : Nat) {q : Row} (h : q.lo % 32 ≠ 16) (k u m : Nat) : (s.reanchor n).rd q k u m = s.rd q k u m :=
  s.reanchor_regsBut n q k u m (by
    rw [List.mem_singleton]
    exact Row.key_ne_of_place (Row.place_ne_of_lo (r := R.XE_CLS_SKIP_REANCHOR) h k n) u m 0 0)

section
variable (due : State → Nat → Prop) [∀ s n, Decidable (due s n)]

/-- The class is re-anchored where that is due. -/
def State.reanchorDue (s : State) (n : Nat) : State := if due s n then s.reanchor n else s

/-- What re-anchoring reads and changes of a class: whether it is due, its ply, and its count in REANCHOR. -/
def State.anchorView (s : State) (n : Nat) : Prop × PlySt × Nat := (due s n, s.ply n, s.rd R.XE_CLS_SKIP_REANCHOR n)

/-- A class before and after: re-anchored where that is due, else as before. -/
def AnchoredAfter (a b : Prop × PlySt × Nat) : Prop :=
  (a.1 → b.2.2 = min (a.2.2 + 1) (2 ^ 16 - 1) ∧ nbit b.2.1.cause 4 = true ∧
    (a.2.1.next ≠ none → b.2.1.reanch = true ∧ b.2.1.next = a.2.1.next)) ∧ (¬ a.1 → b.2 = a.2)

theorem State.reanchorDue_self (s : State) (n : Nat) : AnchoredAfter (s.anchorView due n) ((s.reanchorDue due n).anchorView due n) := by
  unfold State.reanchorDue
  split
  · exact ⟨fun _ => ⟨s.reanchor_counted n, s.reanchor_ply n⟩, fun h => absurd ‹due s n› h⟩
  · exact ⟨fun h => absurd h ‹¬ due s n›, fun _ => rfl⟩

theorem reanchor_place : ∀ n < 3, ∀ j < 3, j ≠ n → R.XE_CLS_SKIP_REANCHOR.place j ≠ R.XE_CLS_SKIP_REANCHOR.place n := by decide

variable {due} (hdue : ∀ s n j, due (State.reanchor s n) j ↔ due s j)
include hdue

theorem State.reanchorDue_other (s : State) {n j : Nat} (hn : n < 3) (hj : j < 3) (h : j ≠ n) :
    (s.reanchorDue due n).anchorView due j = s.anchorView due j := by
  unfold State.reanchorDue
  split
  · exact Prod.ext (propext (hdue s n j)) (Prod.ext (s.reanchor_ply_ne h) (State.rd_wr_place _ _ _ _ _ _ _ _ _ _ (reanchor_place n hn j hj h)))
  · rfl

/-- Of the three classes those for which it is due are re-anchored, and no other changes. -/
theorem State.reanchorAll_after (s : State) (n : Fin 3) :
    AnchoredAfter (s.anchorView due n) ((s.each (upTo 3) (State.reanchorDue due)).anchorView due n) :=
  State.each_class (fun s n _ => s.reanchorDue_self due n) (fun s _ hn _ hj h => s.reanchorDue_other hdue hn hj h) s n

end

theorem State.reanchorAll_regsBut (due : State → Nat → Prop) [∀ s n, Decidable (due s n)] (s : State) :
    s.RegsBut (s.each (upTo 3) (State.reanchorDue due)) ((upTo 3).map (R.XE_CLS_SKIP_REANCHOR.key · 0 0)) :=
  State.each_induction (motive := fun t => s.RegsBut t _) (State.RegsBut.refl s _) fun t n hn ht => by
    have hkey : [R.XE_CLS_SKIP_REANCHOR.key n 0 0] ⊆ (upTo 3).map (R.XE_CLS_SKIP_REANCHOR.key · 0 0) :=
      List.cons_subset.mpr ⟨List.mem_map_of_mem hn, List.nil_subset _⟩
    unfold State.reanchorDue
    exact (ht.trans ((t.reanchor_regsBut n).mono hkey)).ite ht

theorem State.reanchorAll_rest (due : State → Nat → Prop) [∀ s n, Decidable (due s n)] (s : State) :
    let t := s.each (upTo 3) (State.reanchorDue due)
    t = { s with regs := t.regs, xe := t.xe } :=
  State.each_induction (motive := fun t => t = { s with regs := t.regs, xe := t.xe }) rfl fun t n _ ht => by
    unfold State.reanchorDue
    split
    · exact (t.reanchor_rest n).trans (congrArg (fun x : State => { x with regs := (t.reanchor n).regs, xe := (t.reanchor n).xe }) ht)
    · exact ht

end Sys2Proof.Machine
end

section
/-! SUPPORT. Module time and network time (12 R265-R272): the commands of the clocks, each on the open page TIM. -/

namespace Sys2Proof.Machine

/-! SNAP and NTINC. -/

theorem State.snap_spec {s : State} (hmt : s.mt < 2 ^ 64) (hnt : s.tim.nt < 2 ^ 64) (hfrac : s.tim.frac < 2 ^ 28) :
    s.snap.rd2 R.TIM_SNAP_MTLO R.TIM_SNAP_MTHI = s.mt ∧ s.snap.rd2 R.TIM_SNAP_NTLO R.TIM_SNAP_NTHI = s.tim.nt ∧
      s.snap.rd R.TIM_SNAP_NTFRAC = s.tim.frac := by
  simp (disch := decide) only [State.snap, State.wr2, State.rd2, State.rd_wr_self, State.rd_wr_place]
  exact ⟨rd2_words hmt, rd2_words hnt, Nat.mod_eq_of_lt hfrac⟩

theorem State.snap_only (s : State) :
    s.OnlyRegs s.snap [R.TIM_SNAP_MTLO.key 0 0 0, R.TIM_SNAP_MTHI.key 0 0 0, R.TIM_SNAP_NTLO.key 0 0 0, R.TIM_SNAP_NTHI.key 0 0 0,
      R.TIM_SNAP_NTFRAC.key 0 0 0] :=
  ⟨(((((State.RegsBut.refl s _).wr _ _ _ _ _ (by simp)).wr _ _ _ _ _ (by simp)).wr _ _ _ _ _ (by simp)).wr _ _ _ _ _ (by simp)).wr
    _ _ _ _ _ (by simp), rfl⟩

theorem fieldsAt_ntinc : fieldsAt 0x40 0x110 = [⟨R.TIM_NTINC, 0, 0⟩] := by decide

/-- CFGGEN counts a change of NTINC and nothing else (02 R29). -/
theorem State.cfgBump_ntinc (s t : State) (m : Nat) :
    t.cfgBump s 0x40 0x110 m = if s.rd R.TIM_NTINC = t.rd R.TIM_NTINC then t else t.wrap R.H_CFGGEN 0 0x40 :=
  State.cfgBump_single fieldsAt_ntinc rfl (.inl rfl)

theorem State.writeNtinc_spec (s : State) (v : BitVec 32) (m : Nat) :
    let t := (s.writeNtinc v.toNat).cfgBump s 0x40 0x110 m
    if 0x3FEF9DB2 ≤ v.toNat ∧ v.toNat ≤ 0x4010624E then
      t.rd R.TIM_NTINC = v.toNat ∧ s.OnlyRegs t [R.TIM_NTINC.key 0 0 0, R.H_CFGGEN.key 0 0x40 0]
    else s.Refused t 0x40 0x61 0x110 := by
  dsimp only
  rw [State.cfgBump_ntinc]
  by_cases h : 0x3FEF9DB2 ≤ v.toNat ∧ v.toNat ≤ 0x4010624E
  · rw [if_pos h, State.writeNtinc, if_pos h]
    have hv : (s.wr R.TIM_NTINC v.toNat).rd R.TIM_NTINC = v.toNat := (State.rd_wr_self ..).trans (Nat.mod_eq_of_lt v.isLt)
    have hr : s.RegsBut (s.wr R.TIM_NTINC v.toNat) [R.TIM_NTINC.key 0 0 0, R.H_CFGGEN.key 0 0x40 0] :=
      (State.RegsBut.refl s _).wr _ _ _ _ _ (by simp)
    split
    · exact ⟨hv, hr, rfl⟩
    · exact ⟨(State.rd_wr_place _ _ _ _ _ _ _ _ _ _ (by decide)).trans hv, hr.wr _ _ _ _ _ (by simp), rfl⟩
  · rw [if_neg h, State.writeNtinc, if_neg h,
      if_pos (State.err_rd s _ _ _ R.TIM_NTINC _ _ _ (by decide) (by decide) (by decide)).symm]
    exact s.err_refused _ _ _ (by decide) (by decide)

/-! SET. -/

theorem State.ntSet_spec (s : State) :
    if s.flag R.TIM_NTCTL_LOCKED = true ∨ s.flag R.TIM_NTSTAT_STEPPEND = true then s.Refused s.ntSet 0x40 0x63 0x128
    else s.ntSet.tim = { s.tim with set := some (s.rd R.TIM_NTSETLO + s.rd R.TIM_NTSETHI * 2 ^ 32) } ∧
      s.ntSet.rd R.TIM_NTSTAT_GEN = (s.rd R.TIM_NTSTAT_GEN + 1) % 2 ^ 8 ∧ s.RegsBut s.ntSet [R.TIM_NTSTAT_GEN.key 0 0 0] ∧
      s.ntSet = { s with regs := s.ntSet.regs, tim := s.ntSet.tim } := by
  unfold State.ntSet
  simp only [Bool.or_eq_true]
  split
  · exact s.err_refused _ _ _ (by decide) (by decide)
  · refine ⟨rfl, (State.rd_wr_self ..).trans (Nat.mod_mod ..), ?_, rfl⟩
    exact State.RegsBut.wr (t := s.setTim _) (State.RegsBut.refl s _) _ _ _ _ _ (by simp)

/-- The tick of a SET (R269). -/
theorem State.setTick_spec (s : State) (v : Nat) :
    let t := (s.mtTick.setLoaded v).setNtFull (v * 2 ^ 28 + s.rd R.TIM_NTINC)
    t.mt = (s.mt + 4) % 2 ^ 64 ∧ t.tim.nt = (v + s.rd R.TIM_NTINC / 2 ^ 28) % 2 ^ 64 ∧ t.tim.frac = s.rd R.TIM_NTINC % 2 ^ 28 ∧
      t.tim.set = none ∧ (t.tim.nt / 2 ^ 32 = v / 2 ^ 32 → t.regs = s.regs) ∧ (t.tim.nt / 2 ^ 32 ≠ v / 2 ^ 32 → s.Rose t 0x40 9) ∧
      s.RegsBut t (evKeys 0x40) ∧ t = { s with regs := t.regs, mt := t.mt, tim := t.tim } := by
  intro t
  have hrest : t = { s.mtTick.setLoaded v with regs := t.regs, tim := t.tim } := State.setNtFull_rest ..
  have htim : t.tim = { (s.mtTick.setLoaded v).tim with
      nt := (v * 2 ^ 28 + s.rd R.TIM_NTINC) / 2 ^ 28 % 2 ^ 64, frac := (v * 2 ^ 28 + s.rd R.TIM_NTINC) % 2 ^ 28 } := State.setNtFull_tim ..
  have hmt : t.mt = (s.mt + 4) % 2 ^ 64 := by rw [hrest]; rfl
  have hnt : t.tim.nt = (v * 2 ^ 28 + s.rd R.TIM_NTINC) / 2 ^ 28 % 2 ^ 64 := by rw [htim]
  refine ⟨hmt, by omega, ?_, by rw [htim]; rfl, fun h => ?_, fun h => ?_, State.setNtFull_regsBut (s.mtTick.setLoaded v) _, ?_⟩
  · have hfrac : t.tim.frac = (v * 2 ^ 28 + s.rd R.TIM_NTINC) % 2 ^ 28 := by rw [htim]
    omega
  · exact State.setNtFull_regs (hnt ▸ h)
  · exact State.setNtFull_rose (s := s.mtTick.setLoaded v) (hnt ▸ h)
  · rw [hmt]
    exact hrest

/-! A step. -/

theorem sgn_ofNat (v : Nat) : sgn 32 v = (BitVec.ofNat 32 v).toInt := by
  rw [sgn, BitVec.toInt_eq_toNat_cond, BitVec.toNat_ofNat]
  split <;> split <;> omega

theorem sgn_toNat (v : BitVec 32) : sgn 32 v.toNat = v.toInt := by rw [sgn_ofNat, BitVec.ofNat_toNat, BitVec.setWidth_eq]

/-- The class is enabled and uses network time. -/
abbrev State.NetDue (s : State) (n : Nat) : Prop := (s.flag R.XE_CLS_CFG_EN n && s.usesNet n) = true

theorem State.netDue_iff (s : State) (n : Nat) :
    s.NetDue n ↔ s.flag R.XE_CLS_CFG_EN n = true ∧ s.rd R.XE_CLS_CFG_TBASE n = 0 ∧ s.flag R.TIM_NTCTL_LOCKED = true := by
  simp [State.NetDue, State.usesNet]

theorem State.netDue_congr {s t : State} {n : Nat} (hen : t.rd R.XE_CLS_CFG_EN n = s.rd R.XE_CLS_CFG_EN n)
    (hbase : t.rd R.XE_CLS_CFG_TBASE n = s.rd R.XE_CLS_CFG_TBASE n) (hlock : t.rd R.TIM_NTCTL_LOCKED = s.rd R.TIM_NTCTL_LOCKED) :
    t.NetDue n ↔ s.NetDue n := by simp only [State.NetDue, State.usesNet, State.flag, hen, hbase, hlock]

theorem State.reanchor_netDue (s : State) (n j : Nat) : (s.reanchor n).NetDue j ↔ s.NetDue j :=
  State.netDue_congr (s.reanchor_rd n (by decide) ..) (s.reanchor_rd n (by decide) ..) (s.reanchor_rd n (by decide) ..)

/-- The step is accepted: it joins those that wait for the tick, and where a switch runs STEPPEND and GO show it (R270). -/
def State.stepAccepted (s : State) : State :=
  let t := s.setTim { s.tim with steps := s.tim.steps ++ [s.rd R.TIM_NTSTEP_VAL] }
  if t.rd R.XE_SM_STAT_STATE = 4 then (t.wr R.TIM_NTSTAT_STEPPEND 1).wr R.TIM_NTSTEP_CMD_GO 1 else t

/-- The step is refused as beyond NTSTEPMAX. -/
def State.stepBeyond (s : State) : State := ((s.wr R.TIM_NTSTAT_JUMP 1).ev 0x40 10).sat R.TIM_NTSTAT_STEPREJ

theorem State.ntStep_pending {s : State} (h : s.flag R.TIM_NTSTAT_STEPPEND = true) (force : Bool) : s.ntStep force = s.err 0x40 0x60 0x118 :=
  if_pos h

theorem State.ntStep_beyond {s : State} {force : Bool} (h : s.flag R.TIM_NTSTAT_STEPPEND ≠ true)
    (hv : s.rd R.TIM_NTSTEPMAX < (sgn 32 (s.rd R.TIM_NTSTEP_VAL)).natAbs ∧ (!force) = true) :
    s.ntStep force = s.stepBeyond :=
  (if_neg h).trans (if_pos hv)

theorem State.ntStep_accepted {s : State} {force : Bool} (h : s.flag R.TIM_NTSTAT_STEPPEND ≠ true)
    (hv : ¬ (s.rd R.TIM_NTSTEPMAX < (sgn 32 (s.rd R.TIM_NTSTEP_VAL)).natAbs ∧ (!force) = true)) :
    s.ntStep force = s.stepAccepted.each (upTo 3) (State.reanchorDue State.NetDue) :=
  (if_neg h).trans (if_neg hv)

theorem State.stepBeyond_rd (s : State) {q : Row} {k : Nat} (h : q.place k ≠ R.TIM_NTSTAT_STEPREJ.place 0) (u m : Nat) :
    s.stepBeyond.rd q k u m = ((s.wr R.TIM_NTSTAT_JUMP 1).ev 0x40 10).rd q k u m := State.rd_wr_place _ _ _ _ _ _ _ _ _ _ h

theorem State.stepBeyond_jump (s : State) : s.stepBeyond.flag R.TIM_NTSTAT_JUMP = true := by
  rw [State.flag_eq, s.stepBeyond_rd (by decide), State.ev_rd _ _ _ _ _ _ _ (by decide) (by decide)]
  exact State.flag_wr_one s rfl 0 0 0

theorem State.stepBeyond_rose (s : State) : s.Rose s.stepBeyond 0x40 10 := by
  intro h
  rw [s.stepBeyond_rd (by decide)]
  refine State.ev_rose (s.wr R.TIM_NTSTAT_JUMP 1) 0x40 10 (by decide) ?_
  rwa [State.rd_wr_place _ _ _ _ _ _ _ _ _ _ (by decide)]

theorem State.stepBeyond_counted (s : State) : s.Counted s.stepBeyond R.TIM_NTSTAT_STEPREJ := by
  have h := State.sat_counted ((s.wr R.TIM_NTSTAT_JUMP 1).ev 0x40 10) R.TIM_NTSTAT_STEPREJ 0 0
  rwa [State.Counted, State.ev_rd _ _ _ _ _ _ _ (by decide) (by decide), State.rd_wr_place _ _ _ _ _ _ _ _ _ _ (by decide)] at h

theorem State.stepBeyond_only (s : State) :
    s.OnlyRegs s.stepBeyond ([R.TIM_NTSTAT_JUMP.key 0 0 0, R.TIM_NTSTAT_STEPREJ.key 0 0 0] ++ evKeys 0x40) :=
  ⟨(((State.RegsBut.refl s _).wr _ _ _ _ _ (by simp)).ev _ _ (List.subset_append_right ..)).wr _ _ _ _ _ (by simp),
    (((State.RegsAlone.refl s).wr _ _ _ _ _).ev _ _).wr _ _ _ _ _⟩

theorem State.stepAccepted_tim (s : State) : s.stepAccepted.tim = { s.tim with steps := s.tim.steps ++ [s.rd R.TIM_NTSTEP_VAL] } := by
  unfold State.stepAccepted
  dsimp only
  split <;> rfl

theorem State.stepAccepted_rest (s : State) : s.stepAccepted = { s with regs := s.stepAccepted.regs, tim := s.stepAccepted.tim } := by
  unfold State.stepAccepted
  dsimp only
  split <;> rfl

theorem State.stepAccepted_regsBut (s : State) :
    s.RegsBut s.stepAccepted [R.TIM_NTSTAT_STEPPEND.key 0 0 0, R.TIM_NTSTEP_CMD_GO.key 0 0 0] := by
  have h : s.RegsBut (s.setTim { s.tim with steps := s.tim.steps ++ [s.rd R.TIM_NTSTEP_VAL] })
      [R.TIM_NTSTAT_STEPPEND.key 0 0 0, R.TIM_NTSTEP_CMD_GO.key 0 0 0] := State.RegsBut.refl s _
  unfold State.stepAccepted
  exact ((h.wr _ _ _ _ _ (by simp)).wr _ _ _ _ _ (by simp)).ite h

theorem State.stepAccepted_shown (s : State) :
    if s.rd R.XE_SM_STAT_STATE = 4 then
      s.stepAccepted.flag R.TIM_NTSTAT_STEPPEND = true ∧ s.stepAccepted.flag R.TIM_NTSTEP_CMD_GO = true
    else s.stepAccepted.rd R.TIM_NTSTAT_STEPPEND = s.rd R.TIM_NTSTAT_STEPPEND ∧
      s.stepAccepted.rd R.TIM_NTSTEP_CMD_GO = s.rd R.TIM_NTSTEP_CMD_GO := by
  have hstate : (s.setTim { s.tim with steps := s.tim.steps ++ [s.rd R.TIM_NTSTEP_VAL] }).rd R.XE_SM_STAT_STATE = s.rd R.XE_SM_STAT_STATE := rfl
  unfold State.stepAccepted
  dsimp only
  rw [hstate]
  split
  · refine ⟨?_, State.flag_wr_one _ rfl _ _ _⟩
    rw [State.flag_wr_ne _ _ _ _ _ _ _ _ _ _ (by decide)]
    exact State.flag_wr_one _ rfl _ _ _
  · exact ⟨rfl, rfl⟩

/-- The class fields that re-anchoring reads and counts in lie beside those that the commands of the clocks write. -/
theorem classRows_beside : ∀ q ∈ [R.XE_CLS_CFG_EN, R.XE_CLS_CFG_TBASE, R.XE_CLS_SKIP_REANCHOR], ∀ n : Fin 3,
    ∀ r ∈ [R.TIM_NTSTAT_STEPPEND, R.TIM_NTSTEP_CMD_GO, R.TIM_NTCTL_LOCKED], q.place n ≠ r.place 0 := by decide

theorem State.stepAccepted_rd (s : State) {q : Row} {k : Nat}
    (h : ∀ r ∈ [R.TIM_NTSTAT_STEPPEND, R.TIM_NTSTEP_CMD_GO], q.place k ≠ r.place 0) (u m : Nat) :
    s.stepAccepted.rd q k u m = s.rd q k u m :=
  s.stepAccepted_regsBut q k u m (by
    simp only [List.mem_cons, List.not_mem_nil, or_false, not_or]
    exact ⟨Row.key_ne_of_place (h _ (by simp)) _ _ _ _, Row.key_ne_of_place (h _ (by simp)) _ _ _ _⟩)

theorem State.stepAccepted_classRd (s : State) {q : Row} (h : q ∈ [R.XE_CLS_CFG_EN, R.XE_CLS_CFG_TBASE, R.XE_CLS_SKIP_REANCHOR]) (n : Fin 3) :
    s.stepAccepted.rd q n = s.rd q n :=
  s.stepAccepted_rd (fun r hr => classRows_beside q h n r (by revert hr; simp; tauto)) 0 0

/-- Acceptance itself leaves what re-anchoring reads of a class. -/
theorem State.stepAccepted_view (s : State) (n : Fin 3) : s.stepAccepted.anchorView State.NetDue n = s.anchorView State.NetDue n := by
  have hply : s.stepAccepted.ply n = s.ply n := by rw [s.stepAccepted_rest]; rfl
  have hdue : s.stepAccepted.NetDue n ↔ s.NetDue n :=
    State.netDue_congr (s.stepAccepted_classRd (by simp) n) (s.stepAccepted_classRd (by simp) n) (s.stepAccepted_rd (by decide) 0 0)
  exact Prod.ext (propext hdue) (Prod.ext hply (s.stepAccepted_classRd (by simp) n))

/-- What an accepted step leaves (R270, 04 R67). -/
theorem State.ntStep_accepts (s : State) :
    let t := s.stepAccepted.each (upTo 3) (State.reanchorDue State.NetDue)
    t.tim = { s.tim with steps := s.tim.steps ++ [s.rd R.TIM_NTSTEP_VAL] } ∧
      (if s.rd R.XE_SM_STAT_STATE = 4 then t.flag R.TIM_NTSTAT_STEPPEND = true ∧ t.flag R.TIM_NTSTEP_CMD_GO = true
        else t.rd R.TIM_NTSTAT_STEPPEND = s.rd R.TIM_NTSTAT_STEPPEND ∧ t.rd R.TIM_NTSTEP_CMD_GO = s.rd R.TIM_NTSTEP_CMD_GO) ∧
      (∀ n : Fin 3, AnchoredAfter (s.anchorView State.NetDue n) (t.anchorView State.NetDue n)) ∧
      s.RegsBut t ([R.TIM_NTSTAT_STEPPEND.key 0 0 0, R.TIM_NTSTEP_CMD_GO.key 0 0 0] ++ (upTo 3).map (R.XE_CLS_SKIP_REANCHOR.key · 0 0)) ∧
      t = { s with regs := t.regs, tim := t.tim, xe := t.xe } := by
  intro t
  have hrest : t = { s.stepAccepted with regs := t.regs, xe := t.xe } := State.reanchorAll_rest ..
  have hregs : s.stepAccepted.RegsBut t _ := State.reanchorAll_regsBut State.NetDue s.stepAccepted
  have htim : t.tim = s.stepAccepted.tim := by rw [hrest]
  have hpend : t.rd R.TIM_NTSTAT_STEPPEND = s.stepAccepted.rd R.TIM_NTSTAT_STEPPEND := hregs _ _ _ _ (by decide)
  have hgo : t.rd R.TIM_NTSTEP_CMD_GO = s.stepAccepted.rd R.TIM_NTSTEP_CMD_GO := hregs _ _ _ _ (by decide)
  refine ⟨htim.trans s.stepAccepted_tim, ?_, fun n => ?_, ?_, ?_⟩
  · rw [State.flag_eq, State.flag_eq, hpend, hgo]
    exact s.stepAccepted_shown
  · rw [← s.stepAccepted_view n]
    exact State.reanchorAll_after State.reanchor_netDue s.stepAccepted n
  · exact (s.stepAccepted_regsBut.mono (List.subset_append_left ..)).trans (hregs.mono (List.subset_append_right ..))
  · rw [htim]
    exact hrest.trans (congrArg (fun x : State => { x with regs := t.regs, xe := t.xe }) s.stepAccepted_rest)

/-! The tick that applies steps. -/

section
variable (s : State) (v : Int) (n : Nat)

/-- NT and its fraction after `n` steps of the sum `v` and the advance, and the state that the tick leaves. -/
def State.ntStepped : Nat := s.ntFull + unsgn 64 v * 2 ^ 28 + s.rd R.TIM_NTINC
def State.stepsTick : State := ((s.mtTick.shiftTargets v).setNtFull (s.ntStepped v)).stepsDone n

theorem State.shifted_tim : (s.mtTick.shiftTargets v).tim = s.tim := by
  rw [State.shiftTargets_rest]
  rfl

theorem State.shifted_regsBut (keys : List Nat) : s.RegsBut (s.mtTick.shiftTargets v) keys :=
  State.RegsBut.of_regs (by rw [State.shiftTargets_rest]; rfl) keys

theorem State.stepsTick_tim : (s.stepsTick v n).tim =
    { s.tim with nt := s.ntStepped v / 2 ^ 28 % 2 ^ 64, frac := s.ntStepped v % 2 ^ 28, steps := [] } := by
  rw [State.stepsTick, State.stepsDone_tim, State.setNtFull_tim, State.shifted_tim]

theorem State.stepsTick_rest : s.stepsTick v n =
    { s with regs := (s.stepsTick v n).regs, mt := (s.mt + 4) % 2 ^ 64, tim := (s.stepsTick v n).tim, xe := (s.stepsTick v n).xe } := by
  have hshift := s.mtTick.shiftTargets_rest v
  have hload := (s.mtTick.shiftTargets v).setNtFull_rest (s.ntStepped v)
  exact (State.stepsDone_rest _ n).trans <|
    (congrArg (fun x : State => { x with regs := (s.stepsTick v n).regs, tim := (s.stepsTick v n).tim }) hload).trans <|
    (congrArg (fun x : State => { x with regs := (s.stepsTick v n).regs, tim := (s.stepsTick v n).tim }) hshift).trans <| by
      rw [State.stepsTick, State.stepsDone_rest, hload]
      rfl

theorem State.stepsTick_ply (k : Fin 3) : (s.stepsTick v n).ply k = if s.MovesTarget k then (s.ply k).moved v else s.ply k := by
  have hxe : (s.stepsTick v n).xe = (s.mtTick.shiftTargets v).xe := by rw [State.stepsTick, State.stepsDone_rest, State.setNtFull_rest]
  have hply : (s.stepsTick v n).ply k = (s.mtTick.shiftTargets v).ply k := by rw [State.ply, State.ply, hxe]
  have hmoves : s.mtTick.MovesTarget k ↔ s.MovesTarget k := Iff.rfl
  rw [hply, State.shiftTargets_ply]
  exact if_congr hmoves rfl rfl

theorem State.loaded_regsBut : s.RegsBut ((s.mtTick.shiftTargets v).setNtFull (s.ntStepped v)) (evKeys 0x40) :=
  (s.shifted_regsBut v _).trans (State.setNtFull_regsBut _ _)

theorem State.stepsTick_gen : (s.stepsTick v n).rd R.TIM_NTSTAT_GEN = (s.rd R.TIM_NTSTAT_GEN + n) % 2 ^ 8 := by
  rw [State.stepsTick, State.stepsDone_gen, s.loaded_regsBut v _ _ _ _ (by decide)]

/-- Source 185 when NTHI changes, as at any tick. -/
theorem State.stepsTick_rose (h : (s.stepsTick v n).tim.nt / 2 ^ 32 ≠ s.tim.nt / 2 ^ 32) : s.Rose (s.stepsTick v n) 0x40 9 := by
  rw [State.stepsTick_tim, ← s.shifted_tim v] at h
  intro hraw
  rw [State.stepsTick, State.stepsDone_regsBut _ n _ _ _ _ (by decide)]
  refine State.setNtFull_rose h ?_
  rwa [s.shifted_regsBut v [] _ _ _ _ (by simp)]

theorem State.stepsTick_regsBut : s.RegsBut (s.stepsTick v n) tickKeys :=
  ((s.loaded_regsBut v).mono (by decide)).trans ((State.stepsDone_regsBut _ n).mono (by decide))

end

theorem unsgn_64 (i : Int) : unsgn 64 i = (i % 2 ^ 64).toNat := by simp [unsgn]

theorem PlySt.moved_eq (p : PlySt) (v : Int) :
    p.moved v = { p with next := p.next.map fun a => (((a : Int) + v) % 2 ^ 64).toNat } := by
  unfold PlySt.moved
  congr 1
  cases p.next with
  | none => rfl
  | some a => exact congrArg some (unsgn_64 _)

/-- NT and its fraction together move by the steps and the advance, modulo 2^92. -/
theorem State.ntStepped_full (s : State) (v : Int) :
    ((s.ntStepped v / 2 ^ 28 % 2 ^ 64 : Nat) : Int) * 2 ^ 28 + (s.ntStepped v % 2 ^ 28 : Nat) =
      ((s.tim.nt + v) * 2 ^ 28 + s.tim.frac + s.rd R.TIM_NTINC) % 2 ^ 92 := by
  have hv : ((unsgn 64 v : Nat) : Int) = v % 2 ^ 64 := by rw [unsgn_64]; omega
  unfold State.ntStepped State.ntFull
  omega

/-- A tick of `n + 1` steps of the sum `v` (R270, R271). -/
theorem State.stepsTick_spec (s : State) (v : Int) (n : Nat) :
    let t := s.stepsTick v (n + 1)
    t.mt = (s.mt + 4) % 2 ^ 64 ∧ t.tim.steps = [] ∧
      ((t.tim.nt : Int) * 2 ^ 28 + t.tim.frac) = ((s.tim.nt + v) * 2 ^ 28 + s.tim.frac + s.rd R.TIM_NTINC) % 2 ^ 92 ∧
      t.rd R.TIM_NTSTAT_GEN = (s.rd R.TIM_NTSTAT_GEN + n + 1) % 2 ^ 8 ∧ t.flag R.TIM_NTSTAT_STEPPEND = false ∧
      t.flag R.TIM_NTSTEP_CMD_GO = false ∧ (t.tim.nt / 2 ^ 32 ≠ s.tim.nt / 2 ^ 32 → s.Rose t 0x40 9) ∧
      (∀ k : Fin 3, t.ply k = if s.flag R.XE_CLS_CFG_EN k = true ∧ s.ownerOf (s.rd R.XE_CLS_CFG_TRIGCH k) = k + 1 ∧ (s.ply k).aligned = true then
          { s.ply k with next := (s.ply k).next.map fun a => (((a : Int) + v) % 2 ^ 64).toNat }
        else s.ply k) ∧
      s.RegsBut t tickKeys ∧ t = { s with regs := t.regs, mt := t.mt, tim := t.tim, xe := t.xe } := by
  intro t
  have hmt : t.mt = (s.mt + 4) % 2 ^ 64 := congrArg State.mt (s.stepsTick_rest v (n + 1))
  refine ⟨hmt, ?_, ?_, s.stepsTick_gen v (n + 1), State.stepsDone_pend .., State.stepsDone_go .., s.stepsTick_rose v (n + 1), fun k => ?_,
    s.stepsTick_regsBut v (n + 1), hmt ▸ s.stepsTick_rest v (n + 1)⟩
  · exact congrArg TimSt.steps (s.stepsTick_tim v (n + 1))
  · rw [s.stepsTick_tim v (n + 1)]
    exact s.ntStepped_full v
  · rw [s.stepsTick_ply v (n + 1) k, PlySt.moved_eq]

theorem State.clockTick_words {s : State} {v : BitVec 32} {vs : List (BitVec 32)} (hsteps : s.tim.steps = (v :: vs).map BitVec.toNat)
    (hset : s.tim.set = none) (hheld : s.stepsHeld = false) : s.clockTick = s.stepsTick ((v :: vs).map BitVec.toInt).sum (vs.length + 1) := by
  have hsum : s.tim.steps.map (sgn 32) = (v :: vs).map BitVec.toInt := by
    rw [hsteps, List.map_map]
    exact List.map_congr_left fun w _ => sgn_toNat w
  have htick := State.clockTick_steps hset (by simp [hsteps]) hheld
  rwa [hsum, show s.tim.steps.length = vs.length + 1 by simp [hsteps]] at htick

/-! The wrap of NT. -/

/-- The ticks of `d` in steps of `i` that reach it, and that the one before does not. -/
theorem ticks_reach (d : Nat) {i : Nat} (hi : 1 ≤ i) : d ≤ (d + i - 1) / i * i ∧ (d + i - 1) / i * i < d + i := by
  have hdiv := Nat.div_add_mod (d + i - 1) i
  have hmod := Nat.mod_lt (d + i - 1) hi
  rw [Nat.mul_comm] at hdiv
  omega

/-- With nothing to apply, NT reaches a target ahead after the ticks counted for it. -/
theorem State.awaitNt_free {s : State} (h : s.ClocksFree) {t : Nat} (ht : s.tim.nt < t) : s.awaitNt t = s.clockRun (s.ntTicks t) := by
  have hwork : s.tickWork = false := by simp [State.tickWork, h.1, h.2]
  unfold State.awaitNt
  rw [if_neg (by omega), hwork]
  rfl

theorem State.ntTicks_ahead {s : State} {t : Nat} (ht : s.tim.nt < t) :
    s.ntTicks t = (t * 2 ^ 28 - s.ntFull + s.rd R.TIM_NTINC - 1) / s.rd R.TIM_NTINC := by
  rw [State.ntTicks, if_neg (by omega)]

/-- The instant of the wrap: `f` is NT with its fraction, `k` the number of its wraps, and `a` what the ticks to the next wrap add. -/
theorem wrap_instant {f k a inc : Nat} (hk : f / 2 ^ 60 = k) (hlt : k + 1 < 2 ^ 32) (hinc : inc < 2 ^ 32)
    (hge : (k + 1) * 2 ^ 32 * 2 ^ 28 - f ≤ a) (hbelow : a < (k + 1) * 2 ^ 32 * 2 ^ 28 - f + inc) :
    (f + a) / 2 ^ 28 % 2 ^ 64 * 2 ^ 28 + (f + a) % 2 ^ 28 = f + a ∧ (f + a) / 2 ^ 28 % 2 ^ 64 / 2 ^ 32 = k + 1 ∧
      f + a < (k + 1) * 2 ^ 60 + inc := by
  omega

/-- `n` ticks, one at least, in which nothing but the advance happens. -/
theorem State.clockRun_spec (s : State) {n : Nat} (h : n ≠ 0) :
    (s.clockRun n).tim.nt = (s.ntFull + n * s.rd R.TIM_NTINC) / 2 ^ 28 % 2 ^ 64 ∧
      (s.clockRun n).tim.frac = (s.ntFull + n * s.rd R.TIM_NTINC) % 2 ^ 28 ∧ (s.clockRun n).mt = (s.mt + 4 * n) % 2 ^ 64 ∧
      ((s.clockRun n).tim.nt / 2 ^ 32 ≠ s.tim.nt / 2 ^ 32 → s.Rose (s.clockRun n) 0x40 9) ∧ s.RegsBut (s.clockRun n) (evKeys 0x40) ∧
      s.clockRun n = { s with regs := (s.clockRun n).regs, mt := (s.clockRun n).mt, tim := (s.clockRun n).tim } := by
  let u : State := { s with mt := (s.mt + 4 * n) % 2 ^ 64 }
  have hrun : s.clockRun n = u.setNtFull (s.ntFull + n * s.rd R.TIM_NTINC) := if_neg h
  have hrest := u.setNtFull_rest (s.ntFull + n * s.rd R.TIM_NTINC)
  have htim := u.setNtFull_tim (s.ntFull + n * s.rd R.TIM_NTINC)
  rw [← hrun] at hrest htim
  have hmt : (s.clockRun n).mt = (s.mt + 4 * n) % 2 ^ 64 := by rw [hrest]
  have hnt : (s.clockRun n).tim.nt = (s.ntFull + n * s.rd R.TIM_NTINC) / 2 ^ 28 % 2 ^ 64 := by rw [htim]
  refine ⟨hnt, by rw [htim], hmt, fun hne => ?_, ?_, hmt ▸ hrest⟩
  · rw [hrun]
    exact u.setNtFull_rose (hnt ▸ hne)
  · rw [hrun]
    exact u.setNtFull_regsBut _

theorem State.ntWrap_spec {s : State} (hfree : s.ClocksFree) (hfrac : s.tim.frac < 2 ^ 28) (hinc : 1 ≤ s.rd R.TIM_NTINC)
    (hwraps : s.tim.nt / 2 ^ 32 + 1 < 2 ^ 32) :
    let t := s.awaitNt ((s.tim.nt / 2 ^ 32 + 1) * 2 ^ 32)
    t.tim.nt / 2 ^ 32 = s.tim.nt / 2 ^ 32 + 1 ∧ s.Rose t 0x40 9 ∧
      t.tim.nt * 2 ^ 28 + t.tim.frac < (s.tim.nt / 2 ^ 32 + 1) * 2 ^ 60 + s.rd R.TIM_NTINC ∧
      (t.tim.nt * 2 ^ 28 + t.tim.frac - (s.tim.nt * 2 ^ 28 + s.tim.frac)) % s.rd R.TIM_NTINC = 0 ∧
      (t.mt + 2 ^ 64 - s.mt % 2 ^ 64) % 2 ^ 64 =
        (t.tim.nt * 2 ^ 28 + t.tim.frac - (s.tim.nt * 2 ^ 28 + s.tim.frac)) / s.rd R.TIM_NTINC * 4 % 2 ^ 64 ∧
      s.RegsBut t (evKeys 0x40) ∧ t = { s with regs := t.regs, mt := t.mt, tim := t.tim } := by
  have hahead : s.tim.nt < (s.tim.nt / 2 ^ 32 + 1) * 2 ^ 32 := by omega
  have hfull : s.ntFull = s.tim.nt * 2 ^ 28 + s.tim.frac := rfl
  obtain ⟨hge, hbelow⟩ := ticks_reach ((s.tim.nt / 2 ^ 32 + 1) * 2 ^ 32 * 2 ^ 28 - s.ntFull) hinc
  rw [← State.ntTicks_ahead hahead] at hge hbelow
  rw [State.awaitNt_free hfree hahead]
  generalize s.ntTicks ((s.tim.nt / 2 ^ 32 + 1) * 2 ^ 32) = n at *
  have hpos : n ≠ 0 := fun h0 => by
    rw [h0] at hge
    omega
  obtain ⟨hnow, hhigh, hbound⟩ := wrap_instant (f := s.ntFull) (by omega) hwraps (s.rd_lt R.TIM_NTINC 0 0 0) hge hbelow
  obtain ⟨hnt, hfr, hmt, hrose, hregs, hrest⟩ := s.clockRun_spec hpos
  rw [← hnt] at hnow hhigh
  rw [← hfr] at hnow
  dsimp only
  rw [hnow, ← hfull, Nat.add_sub_cancel_left, Nat.mul_mod_left, Nat.mul_div_cancel _ hinc]
  exact ⟨hhigh, hrose (by omega), hbound, rfl, by omega, hregs, hrest⟩

/-! LOCKED. -/

/-- The class is enabled with TBASE 0. -/
abbrev State.LockDue (s : State) (n : Nat) : Prop := s.flag R.XE_CLS_CFG_EN n = true ∧ s.rd R.XE_CLS_CFG_TBASE n = 0

theorem State.reanchor_lockDue (s : State) (n j : Nat) : (s.reanchor n).LockDue j ↔ s.LockDue j := by
  rw [State.LockDue, State.flag_eq, s.reanchor_rd n (by decide), s.reanchor_rd n (by decide)]
  rfl

theorem State.writeLocked_same {s : State} {b : Bool} (h : s.flag R.TIM_NTCTL_LOCKED = b) : s.writeLocked b = s := if_pos h

theorem State.writeLocked_change {s : State} {b : Bool} (h : s.flag R.TIM_NTCTL_LOCKED ≠ b) :
    s.writeLocked b = (s.put R.TIM_NTCTL_LOCKED b).each (upTo 3) (State.reanchorDue State.LockDue) := if_neg h

theorem State.put_classRd (s : State) (b : Bool) {q : Row} (h : q ∈ [R.XE_CLS_CFG_EN, R.XE_CLS_CFG_TBASE, R.XE_CLS_SKIP_REANCHOR])
    (n : Fin 3) : (s.put R.TIM_NTCTL_LOCKED b).rd q n = s.rd q n :=
  State.rd_wr_place _ _ _ _ _ _ _ _ _ _ (classRows_beside q h n _ (by simp))

theorem State.put_view (s : State) (b : Bool) (n : Fin 3) :
    (s.put R.TIM_NTCTL_LOCKED b).anchorView State.LockDue n = s.anchorView State.LockDue n := by
  have hdue : (s.put R.TIM_NTCTL_LOCKED b).LockDue n ↔ s.LockDue n := by
    rw [State.LockDue, State.flag_eq, s.put_classRd b (by simp), s.put_classRd b (by simp)]
    rfl
  exact Prod.ext (propext hdue) (Prod.ext rfl (s.put_classRd b (by simp) n))

/-- The write of LOCKED, before CFGGEN: a change re-anchors each enabled class with TBASE 0 (R272). -/
theorem State.writeLocked_spec (s : State) (b : Bool) :
    let t := s.writeLocked b
    t.flag R.TIM_NTCTL_LOCKED = b ∧
      (∀ n : Fin 3, s.flag R.TIM_NTCTL_LOCKED ≠ b → AnchoredAfter (s.anchorView State.LockDue n) (t.anchorView State.LockDue n)) ∧
      (∀ n : Fin 3, s.flag R.TIM_NTCTL_LOCKED = b → t.ply n = s.ply n) ∧
      s.RegsBut t (R.TIM_NTCTL_LOCKED.key 0 0 0 :: (upTo 3).map (R.XE_CLS_SKIP_REANCHOR.key · 0 0)) ∧
      t = { s with regs := t.regs, xe := t.xe } := by
  by_cases h : s.flag R.TIM_NTCTL_LOCKED = b
  · rw [State.writeLocked_same h]
    exact ⟨h, fun _ hne => absurd h hne, fun _ _ => rfl, State.RegsBut.refl s _, rfl⟩
  · rw [State.writeLocked_change h]
    have hregs := State.reanchorAll_regsBut State.LockDue (s.put R.TIM_NTCTL_LOCKED b)
    refine ⟨?_, fun n _ => ?_, fun _ heq => absurd heq h, ?_, ?_⟩
    · rw [State.flag_eq, hregs _ _ _ _ (by decide)]
      exact s.flag_put rfl b 0 0 0
    · rw [← s.put_view b n]
      exact State.reanchorAll_after State.reanchor_lockDue _ n
    · exact ((State.RegsBut.refl s _).wr _ _ _ _ _ (by simp)).trans (hregs.mono (List.subset_cons_self ..))
    · exact State.reanchorAll_rest State.LockDue (s.put R.TIM_NTCTL_LOCKED b)

/-- CFGGEN counts or does not; no other field changes. -/
theorem State.cfgBump_cases (s t : State) (page off m : Nat) :
    t.cfgBump s page off m = t ∨ t.cfgBump s page off m = t.wrap R.H_CFGGEN 0 (firstPage page) := by
  unfold State.cfgBump
  dsimp only
  split
  · exact .inl rfl
  · exact .inr rfl

/-- NT_LOCKED_WRITE: the write and its count. -/
theorem State.lockedWrite_spec (s : State) (b : Bool) (m : Nat) :
    let t := (s.writeLocked b).cfgBump s 0x40 0x128 m
    t.flag R.TIM_NTCTL_LOCKED = b ∧
      (∀ n : Fin 3, s.flag R.TIM_NTCTL_LOCKED ≠ b → s.flag R.XE_CLS_CFG_EN n = true → s.rd R.XE_CLS_CFG_TBASE n = 0 →
        s.Counted t R.XE_CLS_SKIP_REANCHOR n ∧ nbit (t.ply n).cause 4 = true ∧ ((s.ply n).next ≠ none → (t.ply n).reanch = true)) ∧
      (∀ n : Fin 3, s.flag R.TIM_NTCTL_LOCKED = b ∨ s.flag R.XE_CLS_CFG_EN n = false ∨ s.rd R.XE_CLS_CFG_TBASE n ≠ 0 → t.ply n = s.ply n) ∧
      s.RegsBut t ([R.TIM_NTCTL_LOCKED.key 0 0 0, R.H_CFGGEN.key 0 0x40 0] ++ (upTo 3).map (R.XE_CLS_SKIP_REANCHOR.key · 0 0)) ∧
      t = { s with regs := t.regs, xe := t.xe } := by
  intro t
  obtain ⟨hlocked, hafter, hsame, hregs, hrest⟩ := s.writeLocked_spec b
  have ht : t = s.writeLocked b ∨ t = (s.writeLocked b).wrap R.H_CFGGEN 0 0x40 := State.cfgBump_cases ..
  have hply : ∀ n, t.ply n = (s.writeLocked b).ply n := fun n => by
    obtain ht | ht := ht
    · rw [ht]
    · rw [ht]; rfl
  have hcfg : (s.writeLocked b).RegsBut t [R.H_CFGGEN.key 0 0x40 0] := by
    rcases ht with ht | ht <;> rw [ht]
    · exact State.RegsBut.refl _ _
    · exact (State.RegsBut.refl _ _).wr _ _ _ _ _ (by simp)
  have hcount : ∀ n : Fin 3, t.rd R.XE_CLS_SKIP_REANCHOR n = (s.writeLocked b).rd R.XE_CLS_SKIP_REANCHOR n := fun n =>
    hcfg _ _ _ _ (by
      rw [List.mem_singleton]
      exact Row.key_ne_of_place (Row.place_ne_of_lo (q := R.XE_CLS_SKIP_REANCHOR) (r := R.H_CFGGEN) (by decide) n 0) 0 0 0x40 0)
  refine ⟨?_, fun n hne hen hbase => ?_, fun n hor => ?_, ?_, ?_⟩
  · rw [State.flag_eq, hcfg _ _ _ _ (by decide)]
    exact hlocked
  · obtain ⟨hc, hcause, hnext⟩ := (hafter n hne).1 ⟨hen, hbase⟩
    rw [hply n, State.Counted, hcount n]
    exact ⟨hc, hcause, fun h => (hnext h).1⟩
  · rw [hply n]
    by_cases h : s.flag R.TIM_NTCTL_LOCKED = b
    · exact hsame n h
    · have hundue : ¬ s.LockDue n := by
        rintro ⟨hen, hbase⟩
        rcases hor with heq | hoff | htb
        · exact h heq
        · exact Bool.false_ne_true (hoff.symm.trans hen)
        · exact htb hbase
      exact congrArg Prod.fst ((hafter n h).2 hundue)
  · refine (hregs.mono ?_).trans (hcfg.mono ?_) <;> decide
  · have hbump : t = { s.writeLocked b with regs := t.regs } := by
      obtain ht | ht := ht
      · rw [ht]
      · rw [ht]; rfl
    have hxe : t.xe = (s.writeLocked b).xe := by rw [hbump]
    rw [hxe]
    exact hbump.trans (congrArg (fun x : State => { x with regs := t.regs }) hrest)

/-! The clauses of O38 in the words of the statement. -/

/-- An enabled class on network time is re-anchored, and no other class changes. -/
theorem State.netAnchored {s t : State} {n : Fin 3} (h : AnchoredAfter (s.anchorView State.NetDue n) (t.anchorView State.NetDue n)) :
    if s.flag R.XE_CLS_CFG_EN n = true ∧ s.rd R.XE_CLS_CFG_TBASE n = 0 ∧ s.flag R.TIM_NTCTL_LOCKED = true then
      s.Counted t R.XE_CLS_SKIP_REANCHOR n ∧ nbit (t.ply n).cause 4 = true ∧ ((s.ply n).next ≠ none → (t.ply n).reanch = true) ∧
        ((s.ply n).next ≠ none → (t.ply n).next = (s.ply n).next)
    else t.ply n = s.ply n ∧ t.rd R.XE_CLS_SKIP_REANCHOR n = s.rd R.XE_CLS_SKIP_REANCHOR n := by
  split
  · obtain ⟨hcount, hcause, hnext⟩ := h.1 ((s.netDue_iff n).mpr ‹_›)
    exact ⟨hcount, hcause, fun hn => (hnext hn).1, fun hn => (hnext hn).2⟩
  · rename_i hnot
    have hkept := h.2 fun hdue => hnot ((s.netDue_iff n).mp hdue)
    exact ⟨congrArg Prod.fst hkept, congrArg Prod.snd hkept⟩

/-- NT_STEP: refused while a step is pending, rejected beyond NTSTEPMAX without FORCE, else accepted (R270). -/
theorem State.ntStep_spec (s : State) (force : Bool) :
    let t := s.ntStep force
    if s.flag R.TIM_NTSTAT_STEPPEND = true then s.Refused t 0x40 0x60 0x118
    else if force = false ∧ s.rd R.TIM_NTSTEPMAX < (BitVec.ofNat 32 (s.rd R.TIM_NTSTEP_VAL)).toInt.natAbs then
      t.flag R.TIM_NTSTAT_JUMP = true ∧ s.Rose t 0x40 10 ∧ s.Counted t R.TIM_NTSTAT_STEPREJ ∧
        s.OnlyRegs t ([R.TIM_NTSTAT_JUMP.key 0 0 0, R.TIM_NTSTAT_STEPREJ.key 0 0 0] ++ evKeys 0x40)
    else t.tim = { s.tim with steps := s.tim.steps ++ [s.rd R.TIM_NTSTEP_VAL] } ∧
      (if s.rd R.XE_SM_STAT_STATE = 4 then t.flag R.TIM_NTSTAT_STEPPEND = true ∧ t.flag R.TIM_NTSTEP_CMD_GO = true
        else t.rd R.TIM_NTSTAT_STEPPEND = s.rd R.TIM_NTSTAT_STEPPEND ∧ t.rd R.TIM_NTSTEP_CMD_GO = s.rd R.TIM_NTSTEP_CMD_GO) ∧
      (∀ n : Fin 3, if s.flag R.XE_CLS_CFG_EN n = true ∧ s.rd R.XE_CLS_CFG_TBASE n = 0 ∧ s.flag R.TIM_NTCTL_LOCKED = true then
          s.Counted t R.XE_CLS_SKIP_REANCHOR n ∧ nbit (t.ply n).cause 4 = true ∧ ((s.ply n).next ≠ none → (t.ply n).reanch = true) ∧
            ((s.ply n).next ≠ none → (t.ply n).next = (s.ply n).next)
        else t.ply n = s.ply n ∧ t.rd R.XE_CLS_SKIP_REANCHOR n = s.rd R.XE_CLS_SKIP_REANCHOR n) ∧
      s.RegsBut t ([R.TIM_NTSTAT_STEPPEND.key 0 0 0, R.TIM_NTSTEP_CMD_GO.key 0 0 0] ++ (upTo 3).map (R.XE_CLS_SKIP_REANCHOR.key · 0 0)) ∧
      t = { s with regs := t.regs, tim := t.tim, xe := t.xe } := by
  dsimp only
  split
  · rw [State.ntStep_pending ‹_›]
    exact s.err_refused _ _ _ (by decide) (by decide)
  · rename_i hfree
    have hbeyond : (force = false ∧ s.rd R.TIM_NTSTEPMAX < (BitVec.ofNat 32 (s.rd R.TIM_NTSTEP_VAL)).toInt.natAbs) ↔
        s.rd R.TIM_NTSTEPMAX < (sgn 32 (s.rd R.TIM_NTSTEP_VAL)).natAbs ∧ (!force) = true := by
      rw [sgn_ofNat, Bool.not_eq_true', and_comm]
    split
    · rw [State.ntStep_beyond hfree (hbeyond.mp ‹_›)]
      exact ⟨s.stepBeyond_jump, s.stepBeyond_rose, s.stepBeyond_counted, s.stepBeyond_only⟩
    · rename_i hwithin
      rw [State.ntStep_accepted hfree fun hb => hwithin (hbeyond.mpr hb)]
      obtain ⟨htim, hshown, hclass, hregs, hrest⟩ := s.ntStep_accepts
      exact ⟨htim, hshown, fun n => State.netAnchored (hclass n), hregs, hrest⟩

/-- No step that is accepted is held back. -/
theorem State.stepsHeld_iff (s : State) : s.stepsHeld = true ↔ s.flag R.TIM_NTSTAT_STEPPEND = true ∧ s.rd R.XE_SM_STAT_STATE = 4 := by
  simp [State.stepsHeld]

/-- NT_STEP_APPLY does nothing where no step waits, or those that do are held. -/
theorem exec_ntStepApply_idle {s : State} (h : s.tim.steps = [] ∨ (s.flag R.TIM_NTSTAT_STEPPEND = true ∧ s.rd R.XE_SM_STAT_STATE = 4)) :
    exec .ntStepApply s = .next s := by
  rw [← s.stepsHeld_iff] at h
  exact congrArg Host.Outcome.next (if_neg (by rcases h with h | h <;> simp [h]))

theorem exec_ntStepApply_tick {s : State} (hne : s.tim.steps ≠ []) (hheld : s.stepsHeld = false)
    (hmatch : ∀ k ∈ upTo 8, s.clockTick.matchesNow k = false) : exec .ntStepApply s = .next s.clockTick :=
  congrArg Host.Outcome.next ((if_pos ⟨hne, by rw [hheld]; rfl⟩).trans (State.tick_of_noMatch hmatch))

/-- Settles O38, clause by clause: each command of the clocks acts as its lemma says on the open page, a tick in which no channel matches
is the advance of the clocks, and a re-anchoring of the classes is one update for each of them. -/
theorem clocksAreReadSetAndStepped : Obligations.ClocksAreReadSetAndStepped := by
  refine ⟨fun m s h => ?_, fun m s h => ?_, fun m s h hmt hnt hfrac => ?_, fun m v s h => ?_, fun m s h => ?_, fun v s hpend hsteps hmatch => ?_,
    fun m force s h => ?_, fun s => exec_ntStepApply_idle, fun v vs s hwait hfree _ hmatch => ?_, fun s hfree _ hfrac hinc hwraps => ?_,
    fun m b s h => ?_⟩
  · exact ⟨_, congrArg Host.Outcome.next (State.onRead_open h _), s.latch_spec s.mt m.toNat (r := R.TIM_MTHI) rfl⟩
  · exact ⟨_, congrArg Host.Outcome.next (State.onRead_open h _), s.latch_spec s.tim.nt m.toNat (r := R.TIM_NTHI) rfl⟩
  · obtain ⟨hm, hn, hf⟩ := State.snap_spec hmt hnt hfrac
    exact ⟨_, congrArg Host.Outcome.next (State.onPage_open h _), hm, hn, hf, s.snap_only⟩
  · exact ⟨_, congrArg Host.Outcome.next (State.onPage_open h _), s.writeNtinc_spec v m.toNat⟩
  · exact ⟨_, congrArg Host.Outcome.next (State.onPage_open h _), s.ntSet_spec⟩
  · have hstep : step (s.setPending v.toNat) = .next (s.setPending v.toNat).tick := by
      unfold step
      rw [show (s.setPending v.toNat).pending = [] from hpend]
    exact ⟨_, hstep.trans (congrArg Host.Outcome.next ((State.tick_of_noMatch hmatch).trans (s.clockTick_set v.toNat hsteps))), s.setTick_spec v.toNat⟩
  · exact ⟨_, congrArg Host.Outcome.next (State.onPage_open h _), s.ntStep_spec force⟩
  · obtain ⟨hwords, hset⟩ := hwait
    have hheld : s.stepsHeld = false := Bool.eq_false_iff.mpr (mt s.stepsHeld_iff.mp hfree)
    have htick := State.clockTick_words hwords hset hheld
    exact ⟨_, (exec_ntStepApply_tick (by simp [hwords]) hheld hmatch).trans (congrArg Host.Outcome.next htick), s.stepsTick_spec _ vs.length⟩
  · exact ⟨_, rfl, State.ntWrap_spec hfree hfrac hinc hwraps⟩
  · exact ⟨_, congrArg Host.Outcome.next (State.onPage_open h _), s.lockedWrite_spec b m.toNat⟩

end Sys2Proof.Machine
end

section
/-! SUPPORT. Single bits of a word of conditions, and the conditions of the backup domain that are raised while AON is up (13 R284, R295,
R296). -/

namespace Sys2Proof.Machine

/-! Frames. -/

theorem State.OnlyRegs.wr {s t : State} {keys : List Nat} (h : s.OnlyRegs t keys) {r : Row} {k u m : Nat} (hk : r.key k u m ∈ keys) (v : Nat) :
    s.OnlyRegs (t.wr r v k u m) keys := ⟨h.1.wr _ _ _ _ _ hk, h.2.wr ..⟩

theorem State.OnlyRegs.trans {s t v : State} {keys : List Nat} (h : s.OnlyRegs t keys) (h' : t.OnlyRegs v keys) : s.OnlyRegs v keys :=
  ⟨h.1.trans h'.1, h.2.trans h'.2⟩

theorem State.OnlyRegs.mono {s t : State} {keys more : List Nat} (h : s.OnlyRegs t keys) (hm : keys ⊆ more) : s.OnlyRegs t more := ⟨h.1.mono hm, h.2⟩

theorem State.RegsBut.flag {s t : State} {keys : List Nat} (h : s.RegsBut t keys) {q : Row} {k : Nat} (hq : q.key k 0 0 ∉ keys) :
    t.flag q k = s.flag q k := congrArg (· != 0) (h q k 0 0 hq)

/-! Bits of a word of conditions. -/

/-- A bit beside `i` is one of the `i` bits below, or of those above. -/
theorem nbit_congr {v w i j : Nat} (hlow : v % 2 ^ i = w % 2 ^ i) (hhigh : v / 2 ^ i / 2 = w / 2 ^ i / 2) (h : j ≠ i) : nbit v j = nbit w j := by
  simp only [nbit_eq_testBit]
  rcases Nat.lt_or_gt_of_ne h with hlt | hgt
  · simpa [hlt] using congrArg (·.testBit j) hlow
  · obtain ⟨d, rfl⟩ := Nat.exists_eq_add_of_lt hgt
    have hbit := congrArg (·.testBit d) hhigh
    simp only [Nat.testBit_div_two, Nat.testBit_div_two_pow] at hbit
    rwa [show d + 1 + i = i + d + 1 by omega] at hbit

theorem nbit_nsetBit_ne (v : Nat) {i j : Nat} (h : j ≠ i) (b : Bool) : nbit (nsetBit v i b) j = nbit v j := by
  have hpos := Nat.two_pow_pos i
  unfold nsetBit
  split
  · rfl
  · rename_i hb
    cases b with
    | true =>
      have heven : v / 2 ^ i % 2 ≠ 1 := by simpa [nbit] using hb
      have hquot : (v + 2 ^ i) / 2 ^ i = v / 2 ^ i + 1 := Nat.add_div_right _ hpos
      refine nbit_congr (Nat.add_mod_right ..) ?_ h
      rw [if_pos rfl, hquot]
      omega
    | false =>
      have hodd : v / 2 ^ i % 2 = 1 := by simpa [nbit] using hb
      have hle : 2 ^ i ≤ v := by
        by_contra hlt
        simp [Nat.div_eq_of_lt (Nat.lt_of_not_le hlt)] at hodd
      have hquot : (v - 2 ^ i) / 2 ^ i = v / 2 ^ i - 1 := by simpa using Nat.sub_mul_div v (2 ^ i) 1
      refine nbit_congr (Nat.mod_eq_sub_mod hle).symm ?_ h
      rw [if_neg Bool.false_ne_true, hquot]
      generalize v / 2 ^ i = q at hodd
      omega

/-! A condition that takes a level. -/

theorem State.evLevel_raw_ne (s : State) (p : Nat) {bit j : Nat} (b : Bool) (h : j ≠ bit) (hj : j < 32) :
    nbit ((s.evLevel p bit b).rd R.H_EVRAW 0 p) j = nbit (s.rd R.H_EVRAW 0 p) j := by
  have hraw : (s.evLevel p bit b).rd R.H_EVRAW 0 p = nsetBit (s.rd R.H_EVRAW 0 p) bit b % 2 ^ 32 := by
    unfold State.evLevel
    dsimp only
    split
    · exact (State.rd_wr_place _ _ _ _ _ _ _ _ _ _ (by decide)).trans (State.rd_wr_self ..)
    · exact State.rd_wr_self ..
  rw [hraw, nbit_mod _ _ _ hj, nbit_nsetBit_ne _ h]

theorem State.evLevel_stat_ne (s : State) (p : Nat) {bit j : Nat} (b : Bool) (h : j ≠ bit) (hj : j < 32) :
    nbit ((s.evLevel p bit b).rd R.H_EVSTAT 0 p) j = nbit (s.rd R.H_EVSTAT 0 p) j := by
  have hstat (v : Nat) : (s.wr R.H_EVRAW v 0 p).rd R.H_EVSTAT 0 p = s.rd R.H_EVSTAT 0 p := State.rd_wr_place _ _ _ _ _ _ _ _ _ _ (by decide)
  unfold State.evLevel
  dsimp only
  split
  · rw [State.rd_wr_self, hstat]
    show nbit (_ % 2 ^ 32) j = _
    rw [nbit_mod _ _ _ hj, nbit_nsetBit_ne _ h]
  · rw [hstat]

theorem State.ev_stat_ne (s : State) (p : Nat) {bit j : Nat} (h : j ≠ bit) (hj : j < 32) :
    nbit ((s.ev p bit).rd R.H_EVSTAT 0 p) j = nbit (s.rd R.H_EVSTAT 0 p) j := by
  rw [State.ev, State.evLevel_down, State.evLevel_stat_ne _ _ _ h hj]

/-! Conditions of the backup domain, raised while AON is up. -/

theorem State.bkPulse_only (s : State) (bit : Nat) : s.OnlyRegs (s.bkPulse bit) (evKeys 0x48) :=
  ⟨((State.RegsBut.refl s _).ev _ _ (List.Subset.refl _)).ite (.refl s _), ((State.RegsAlone.refl s).ev _ _).ite (.refl s)⟩

theorem State.bkPulse_stat_ne (s : State) {bit j : Nat} (h : j ≠ bit) (hj : j < 32) :
    nbit ((s.bkPulse bit).rd R.H_EVSTAT 0 0x48) j = nbit (s.rd R.H_EVSTAT 0 0x48) j := by
  unfold State.bkPulse
  split
  · exact s.ev_stat_ne 0x48 h hj
  · rfl

theorem State.aonUp_iff (s : State) : s.aonUp = true ↔ s.mode ≠ 0 := by simp [State.aonUp]

theorem State.bkPulse_rose (s : State) {bit : Nat} (h : bit < 32) (hm : s.mode ≠ 0) : s.Rose (s.bkPulse bit) 0x48 bit := by
  rw [State.bkPulse, if_pos (s.aonUp_iff.mpr hm)]
  exact s.ev_rose 0x48 bit h

theorem State.bkHold_only (s : State) (bit : Nat) : s.OnlyRegs (s.bkHold bit) (evKeys 0x48) :=
  ⟨(((State.RegsBut.refl s _).evLevel 0x48 bit true (List.Subset.refl _)).wr _ _ _ _ _ (by decide)).ite (.refl s _),
    (((State.RegsAlone.refl s).evLevel 0x48 bit true).wr ..).ite (.refl s)⟩

theorem State.bkHold_stat (s : State) {bit : Nat} (h : bit < 32) (hm : s.mode ≠ 0) : nbit ((s.bkHold bit).rd R.H_EVSTAT 0 0x48) bit = true := by
  rw [State.bkHold, if_pos (s.aonUp_iff.mpr hm), State.rd_wr_self]
  exact (nbit_mod _ _ 32 h).trans (nbit_set ..)

theorem State.bkHold_stat_ne (s : State) {bit j : Nat} (h : j ≠ bit) (hj : j < 32) :
    nbit ((s.bkHold bit).rd R.H_EVSTAT 0 0x48) j = nbit (s.rd R.H_EVSTAT 0 0x48) j := by
  unfold State.bkHold
  split
  · rw [State.rd_wr_self]
    exact (nbit_mod _ _ 32 hj).trans (nbit_nsetBit_ne _ h _)
  · rfl

theorem State.bkHold_raw_ne (s : State) {bit j : Nat} (h : j ≠ bit) (hj : j < 32) :
    nbit ((s.bkHold bit).rd R.H_EVRAW 0 0x48) j = nbit (s.rd R.H_EVRAW 0 0x48) j := by
  unfold State.bkHold
  split
  · rw [State.rd_wr_place _ _ _ _ _ _ _ _ _ _ (by decide), s.evLevel_raw_ne 0x48 true h hj]
  · rfl

end Sys2Proof.Machine
end

section
/-! SUPPORT. The dates of the calendar (13 R290), and time that is brought up to an instant of it. -/

namespace Sys2Proof.Machine

/-! The calendar (R290). -/

theorem Cal.ok_iff (c : Cal) : c.ok = true ↔ c.year ≤ 199 ∧ (1 ≤ c.month ∧ c.month ≤ 12) ∧ (1 ≤ c.day ∧ c.day ≤ monthDays c.year c.month) ∧
    c.hour ≤ 23 ∧ c.min ≤ 59 ∧ c.sec ≤ 59 := by
  simp [Cal.ok, and_assoc]

theorem monthDays_bounds (y m : Nat) : 28 ≤ monthDays y m ∧ monthDays y m ≤ 31 := by
  unfold monthDays
  split
  · split <;> decide
  all_goals decide

theorem daysBeforeMonth_succ (y : Nat) {m : Nat} (h : 1 ≤ m) : daysBeforeMonth y (m + 1) = daysBeforeMonth y m + monthDays y m := by
  obtain ⟨n, rfl⟩ := Nat.exists_eq_add_of_le' h
  simp [daysBeforeMonth, upTo, List.range_succ]

/-- The year has 365 days, 366 in a leap year. -/
theorem daysBeforeMonth_year (y : Nat) : daysBeforeMonth y 12 + monthDays y 12 = if leap y then 366 else 365 := by
  show 0 + 31 + (if leap y then 29 else 28) + 31 + 30 + 31 + 30 + 31 + 31 + 30 + 31 + 30 + 31 = _
  split <;> rfl

/-- The last second of the calendar's range. -/
def Cal.last : Cal := ⟨199, 12, 31, 23, 59, 59⟩

/-- Within the range the calendar goes on by one second; the carry goes from field to field. -/
theorem Cal.next_within {c : Cal} (h : c.ok = true) (hne : c ≠ Cal.last) :
    c.next.1.ok = true ∧ c.next.1.seconds = c.seconds + 1 ∧ c.next.2 = false := by
  obtain ⟨y, mo, d, hr, mi, sc⟩ := c
  obtain ⟨hyear, ⟨hmonth, hmonth'⟩, ⟨hday, hday'⟩, hhour, hmin, hsec⟩ := (Cal.ok_iff _).mp h
  dsimp only at hyear hmonth hmonth' hday hday' hhour hmin hsec
  simp only [Cal.next, Cal.ok_iff]
  split
  case isTrue hs => exact ⟨⟨hyear, ⟨hmonth, hmonth'⟩, ⟨hday, hday'⟩, hhour, hmin, hs⟩, by simp only [Cal.seconds, Cal.days]; omega, rfl⟩
  case isFalse hs =>
  split
  case isTrue hm => exact ⟨⟨hyear, ⟨hmonth, hmonth'⟩, ⟨hday, hday'⟩, hhour, hm, Nat.zero_le _⟩, by simp only [Cal.seconds, Cal.days]; omega, rfl⟩
  case isFalse hm =>
  split
  case isTrue hh => exact ⟨⟨hyear, ⟨hmonth, hmonth'⟩, ⟨hday, hday'⟩, hh, Nat.zero_le _, Nat.zero_le _⟩, by simp only [Cal.seconds, Cal.days]; omega, rfl⟩
  case isFalse hh =>
  split
  case isTrue hd =>
    exact ⟨⟨hyear, ⟨hmonth, hmonth'⟩, ⟨by simp, hd⟩, Nat.zero_le _, Nat.zero_le _, Nat.zero_le _⟩, by simp only [Cal.seconds, Cal.days]; omega, rfl⟩
  case isFalse hd =>
  split
  case isTrue hmo =>
    have hdays := daysBeforeMonth_succ y hmonth
    have hlen := (monthDays_bounds y (mo + 1)).1
    exact ⟨⟨hyear, ⟨by simp, hmo⟩, ⟨by simp, by simp only; omega⟩, Nat.zero_le _, Nat.zero_le _, Nat.zero_le _⟩,
      by simp only [Cal.seconds, Cal.days]; omega, rfl⟩
  case isFalse hmo =>
  obtain rfl : mo = 12 := by omega
  split
  case isTrue hy =>
    have hdays := daysBeforeMonth_year y
    have hyears : daysBeforeYear (y + 1) = daysBeforeYear y + if leap y then 366 else 365 := rfl
    have hfirst : daysBeforeMonth (y + 1) 1 = 0 := rfl
    exact ⟨⟨hy, by simp, ⟨by simp, by simp [monthDays]⟩, Nat.zero_le _, Nat.zero_le _, Nat.zero_le _⟩, by simp only [Cal.seconds, Cal.days]; omega, rfl⟩
  case isFalse hy =>
    refine absurd ?_ hne
    have hlen : monthDays y 12 = 31 := rfl
    rw [Cal.last, Cal.mk.injEq]
    omega

theorem Cal.next_last : Cal.last.next = (Cal.start, true) := by decide
theorem Cal.start_ok : Cal.start.ok = true := by decide

theorem Cal.next_ok {c : Cal} (h : c.ok = true) : c.next.1.ok = true := by
  by_cases hc : c = Cal.last
  · rw [hc, Cal.next_last]
    exact Cal.start_ok
  · exact (Cal.next_within h hc).1

/-! Time that goes by without a SET or a step. -/

theorem State.awaitMt_free {s : State} (h : s.ClocksFree) (t : Nat) : s.awaitMt t = s.clockRun ((t - s.mt + 3) / 4) := by
  have hidle : s.tickWork = false := by simp [State.tickWork, h.1, h.2]
  unfold State.awaitMt State.clockTicks
  split
  · rename_i hn
    rw [hn]
    rfl
  · rw [if_neg (by rw [hidle]; exact Bool.false_ne_true)]

theorem State.awaitMt_frame {s : State} (h : s.ClocksFree) (t : Nat) : s.RegsBut (s.awaitMt t) (evKeys 0x40) ∧
    s.awaitMt t = { s with regs := (s.awaitMt t).regs, mt := (s.awaitMt t).mt, tim := (s.awaitMt t).tim } := by
  rw [State.awaitMt_free h]
  rcases Nat.eq_zero_or_pos ((t - s.mt + 3) / 4) with hn | hn
  · rw [hn]
    exact ⟨.refl s _, rfl⟩
  · exact (s.clockRun_spec (Nat.ne_of_gt hn)).2.2.2.2

/-- The first tick at or after an instant that has not passed. -/
theorem State.awaitMt_reaches {s : State} (h : s.ClocksFree) {t : Nat} (hle : s.mt ≤ t) (hlt : t + 4 ≤ 2 ^ 64) :
    t ≤ (s.awaitMt t).mt ∧ (s.awaitMt t).mt < t + 4 := by
  rw [State.awaitMt_free h]
  rcases Nat.eq_zero_or_pos ((t - s.mt + 3) / 4) with hn | hn
  · rw [hn]
    show t ≤ s.mt ∧ s.mt < t + 4
    omega
  · rw [(s.clockRun_spec (Nat.ne_of_gt hn)).2.2.1]
    omega

/-- Within a tick of the time base after it was 0, the prescaler is 0. -/
theorem prescAt_zero {a t : Nat} (h : t < a + 4) : prescAt 0 a t = 0 := by
  have hd : (t - a) * 32768 / 1000000000 = 0 := by omega
  rw [prescAt, hd]
  rfl

end Sys2Proof.Machine
end

section
/-! SUPPORT. The tick at which the second of the calendar changes (13 R290, R292, R293, R295): the alarms, the life of the cartridge, and what
RTC_SECOND and a commit set before them. -/

namespace Sys2Proof.Machine

/-! The alarms (R295). -/

/-- The alarm is enabled and matches. -/
def State.alarmDue (s : State) (a : Nat) : Bool := s.flag R.BKD_ALM_MASK_EN a && s.alarmMatch a

/-- One alarm, compared at a tick at which the second changed. -/
def State.alarmStep (s : State) (a : Nat) : State := if s.alarmDue a then (s.bitTo R.BKD_ALMFLAG a true).bkHold a else s

theorem State.alarms_eq (s : State) : s.alarms = (s.alarmStep 0).alarmStep 1 := rfl

def alarmKeys : List Nat := R.BKD_ALMFLAG.key 0 0 0 :: evKeys 0x48

theorem State.alarmStep_only (s : State) (a : Nat) : s.OnlyRegs (s.alarmStep a) alarmKeys := by
  obtain ⟨hregs, halone⟩ := (s.bitTo R.BKD_ALMFLAG a true).bkHold_only a
  have hflag : s.OnlyRegs (s.bitTo R.BKD_ALMFLAG a true) alarmKeys := ⟨(State.RegsBut.refl s _).wr _ _ _ _ _ (by decide), rfl⟩
  exact ⟨(hflag.1.trans (hregs.mono (by decide))).ite (.refl s _), (hflag.2.trans halone).ite (.refl s)⟩

theorem State.alarms_only (s : State) : s.OnlyRegs s.alarms alarmKeys :=
  ⟨(s.alarmStep_only 0).1.trans ((s.alarmStep 0).alarmStep_only 1).1, (s.alarmStep_only 0).2.trans ((s.alarmStep 0).alarmStep_only 1).2⟩

/-- What a tick at which the second changes may write, beside the alarms. -/
def calKeys : List Nat := [R.BKD_STAT_RTC_VALID.key 0 0 0, R.BKD_STAT_COMMITPEND.key 0 0 0] ++ alarmKeys ++ evKeys 0x40 ++ lifeKeys

/-- The fields that say when an alarm matches. -/
def alarmRows : List Row := [R.BKD_ALM_MASK_EN, R.BKD_ALM_MASK_FIELDS, R.BKD_ALM_TIME, R.BKD_ALM_DATE_DAY, R.BKD_ALM_DATE_MONTH, R.BKD_ALM_DATE_YEAR,
  R.BKD_ALM_DATE_WDAY]

theorem State.RegsBut.alarm {s t : State} (h : s.RegsBut t calKeys) (a : Fin 2) {q : Row} (hq : q ∈ alarmRows) : t.rd q a = s.rd q a := by
  have hbeside : ∀ a : Fin 2, ∀ q ∈ alarmRows, q.key a 0 0 ∉ calKeys := by decide
  exact h q a 0 0 (hbeside a q hq)

theorem State.alarmMatch_congr {s t : State} (h : s.RegsBut t calKeys) (hc : t.bk.cal = s.bk.cal) (a : Fin 2) : t.alarmMatch a = s.alarmMatch a := by
  unfold State.alarmMatch
  rw [hc]
  simp (disch := decide) only [h.alarm a]

theorem State.alarmEn_congr {s t : State} (h : s.RegsBut t calKeys) (a : Fin 2) : t.flag R.BKD_ALM_MASK_EN a = s.flag R.BKD_ALM_MASK_EN a :=
  congrArg (· != 0) (h.alarm a (by decide))

theorem State.alarmDue_congr {s t : State} (h : s.RegsBut t calKeys) (hc : t.bk.cal = s.bk.cal) (a : Fin 2) : t.alarmDue a = s.alarmDue a := by
  rw [State.alarmDue, State.alarmEn_congr h, State.alarmMatch_congr h hc, State.alarmDue]

theorem State.alarmStep_bk (s : State) (a : Nat) : (s.alarmStep a).bk = s.bk := by rw [(s.alarmStep_only a).2]

theorem State.alarmStep_due (s : State) (a : Nat) (j : Fin 2) : (s.alarmStep a).alarmDue j = s.alarmDue j :=
  State.alarmDue_congr ((s.alarmStep_only a).1.mono (by decide)) (congrArg Bk.cal (s.alarmStep_bk a)) j

/-! The flag and the condition of an alarm, and of the other one. -/

theorem State.bkHold_almflag (s : State) (bit : Nat) : (s.bkHold bit).rd R.BKD_ALMFLAG = s.rd R.BKD_ALMFLAG :=
  (s.bkHold_only bit).1 R.BKD_ALMFLAG 0 0 0 (by decide)

theorem State.alarmStep_flag (s : State) {a : Nat} (h : a < 2) :
    nbit ((s.alarmStep a).rd R.BKD_ALMFLAG) a = (nbit (s.rd R.BKD_ALMFLAG) a || s.alarmDue a) := by
  unfold State.alarmStep
  split
  · rename_i hdue
    rw [State.bkHold_almflag, State.bitTo, State.rd_wr_self, hdue, Bool.or_true]
    exact (nbit_mod _ _ 2 h).trans (nbit_set ..)
  · rename_i hdue
    rw [Bool.eq_false_iff.mpr hdue, Bool.or_false]

theorem State.alarmStep_flag_ne (s : State) {a j : Nat} (h : j < 2) (hne : j ≠ a) :
    nbit ((s.alarmStep a).rd R.BKD_ALMFLAG) j = nbit (s.rd R.BKD_ALMFLAG) j := by
  unfold State.alarmStep
  split
  · rw [State.bkHold_almflag, State.bitTo, State.rd_wr_self]
    exact (nbit_mod _ _ 2 h).trans (nbit_nsetBit_ne _ hne _)
  · rfl

theorem State.alarms_flag (s : State) (a : Fin 2) : nbit (s.alarms.rd R.BKD_ALMFLAG) a = (nbit (s.rd R.BKD_ALMFLAG) a || s.alarmDue a) := by
  rw [State.alarms_eq]
  match a with
  | 0 => exact ((s.alarmStep 0).alarmStep_flag_ne (by decide) (by decide)).trans (s.alarmStep_flag (by decide))
  | 1 =>
    exact ((s.alarmStep 0).alarmStep_flag (by decide)).trans
      (congrArg₂ (· || ·) (s.alarmStep_flag_ne (by decide) (by decide)) (s.alarmStep_due 0 1))

theorem State.bitTo_rd (s : State) {r q : Row} (h : q.place 0 ≠ r.place 0) (i : Nat) (b : Bool) (u m : Nat) :
    (s.bitTo r i b).rd q 0 u m = s.rd q 0 u m := State.rd_wr_place _ _ _ _ _ _ _ _ _ _ h

theorem State.alarmStep_stat (s : State) {a : Nat} (h : a < 2) (hdue : s.alarmDue a = true) (hm : s.mode ≠ 0) :
    nbit ((s.alarmStep a).rd R.H_EVSTAT 0 0x48) a = true := by
  rw [State.alarmStep, if_pos hdue]
  refine (s.bitTo R.BKD_ALMFLAG a true).bkHold_stat (by omega) ?_
  rwa [State.mode, s.bitTo_rd (by decide)]

theorem State.alarmStep_stat_ne (s : State) {a j : Nat} (h : j < 32) (hne : j ≠ a) :
    nbit ((s.alarmStep a).rd R.H_EVSTAT 0 0x48) j = nbit (s.rd R.H_EVSTAT 0 0x48) j := by
  unfold State.alarmStep
  split
  · rw [State.bkHold_stat_ne _ hne h, s.bitTo_rd (by decide)]
  · rfl

theorem State.alarmStep_raw_ne (s : State) {a j : Nat} (h : j < 32) (hne : j ≠ a) :
    nbit ((s.alarmStep a).rd R.H_EVRAW 0 0x48) j = nbit (s.rd R.H_EVRAW 0 0x48) j := by
  unfold State.alarmStep
  split
  · rw [State.bkHold_raw_ne _ hne h, s.bitTo_rd (by decide)]
  · rfl

theorem State.alarms_stat (s : State) (a : Fin 2) (hdue : s.alarmDue a = true) (hm : s.mode ≠ 0) :
    nbit (s.alarms.rd R.H_EVSTAT 0 0x48) a = true := by
  rw [State.alarms_eq]
  match a with
  | 0 => exact ((s.alarmStep 0).alarmStep_stat_ne (by decide) (by decide)).trans (s.alarmStep_stat (by decide) hdue hm)
  | 1 =>
    have hmode : (s.alarmStep 0).mode = s.mode := (s.alarmStep_only 0).1 R.SYS_MODE_MODE 0 0 0 (by decide)
    exact (s.alarmStep 0).alarmStep_stat (by decide) ((s.alarmStep_due 0 1).trans hdue) (hmode.symm ▸ hm)

/-- The alarms leave every other condition of the domain alone. -/
theorem State.alarms_events_ne (s : State) {j : Nat} (h : 2 ≤ j ∧ j < 32) :
    nbit (s.alarms.rd R.H_EVSTAT 0 0x48) j = nbit (s.rd R.H_EVSTAT 0 0x48) j ∧
      nbit (s.alarms.rd R.H_EVRAW 0 0x48) j = nbit (s.rd R.H_EVRAW 0 0x48) j := by
  rw [State.alarms_eq, State.alarmStep_stat_ne _ h.2 (by omega), State.alarmStep_stat_ne _ h.2 (by omega),
    State.alarmStep_raw_ne _ h.2 (by omega), State.alarmStep_raw_ne _ h.2 (by omega)]
  exact ⟨rfl, rfl⟩

/-! The life of the cartridge. -/

/-- `t` is `s` but for what the judgement of the cartridge's life writes. -/
def State.OnlyLife (s t : State) : Prop := s.RegsBut t lifeKeys ∧ t = { s with regs := t.regs, crt := t.crt }

theorem State.OnlyLife.onlyRegs {s t v : State} (h : s.OnlyLife t) (h' : t.OnlyRegs v lifeKeys) : s.OnlyLife v := by
  obtain ⟨hregs, heq⟩ := h
  obtain ⟨hregs', heq'⟩ := h'
  refine ⟨hregs.trans hregs', ?_⟩
  rw [heq', heq]

theorem State.OnlyLife.wr {s t : State} (h : s.OnlyLife t) {r : Row} (hk : r.key 0 0 0 ∈ lifeKeys) (v : Nat) : s.OnlyLife (t.wr r v) :=
  h.onlyRegs ⟨(State.RegsBut.refl t _).wr _ _ _ _ _ hk, rfl⟩

theorem State.OnlyLife.ev {s t : State} (h : s.OnlyLife t) (bit : Nat) : s.OnlyLife (t.ev 0x50 bit) :=
  h.onlyRegs ⟨(State.RegsBut.refl t _).ev _ _ (by decide), (State.RegsAlone.refl t).ev _ _⟩

theorem State.OnlyLife.setCrt {s t : State} (h : s.OnlyLife t) (c : CrtSt) : s.OnlyLife (t.setCrt c) :=
  ⟨h.1, congrArg (State.setCrt · c) h.2⟩

theorem State.OnlyLife.ite {s t v : State} {c : Prop} [Decidable c] (h : s.OnlyLife t) (h' : s.OnlyLife v) : s.OnlyLife (if c then t else v) := by
  split <;> assumption

theorem State.lifeView_only (s : State) : s.OnlyLife s.lifeView := by
  have hself : s.OnlyLife s := ⟨.refl s _, rfl⟩
  have hshown (p w : Nat) : s.OnlyLife ((s.wr R.CRT_LIFE_PCT p).wr R.CRT_LIFE_WHICH w) := (hself.wr (by decide) _).wr (by decide) _
  have hwarned (t : State) (h : s.OnlyLife t) (c : CrtSt) : s.OnlyLife ((t.ev 0x50 3).setCrt c) := (h.ev 3).setCrt c
  unfold State.lifeView
  dsimp only
  split
  · refine State.OnlyLife.ite (State.OnlyLife.ev (State.OnlyLife.wr ?_ (by decide) 1) 4) ?_ <;>
      exact State.OnlyLife.ite (hwarned _ (hshown _ _) _) (hshown _ _)
  · exact hself

/-! A tick at which the second changes (R290, R293, R295). -/

/-- `t` is `s` but for registers, time, the backup domain and the cartridge. -/
def State.CalRest (s t : State) : Prop := t = { s with regs := t.regs, mt := t.mt, tim := t.tim, bk := t.bk, crt := t.crt }

theorem State.CalRest.trans {s t v : State} (h : s.CalRest t) (h' : t.CalRest v) : s.CalRest v :=
  Eq.trans h' (congrArg (fun x : State => { x with regs := v.regs, mt := v.mt, tim := v.tim, bk := v.bk, crt := v.crt }) h)

theorem State.calRest_of_eq {s t : State} {regs : SMap Nat} {mt : Nat} {tim : TimSt} {crt : CrtSt}
    (h : t = { s with regs := regs, mt := mt, tim := tim, crt := crt }) : s.CalRest t ∧ t.bk = s.bk ∧ t.mt = mt := by
  subst h
  exact ⟨rfl, rfl, rfl⟩

theorem State.CalRest.wr {s t : State} (h : s.CalRest t) (r : Row) (v k u m : Nat) : s.CalRest (t.wr r v k u m) := h.trans rfl
theorem State.CalRest.setCal {s t : State} (h : s.CalRest t) (c : Cal) (at_ sub : Nat) : s.CalRest (t.setCal c at_ sub) := h.trans rfl

@[simp] theorem State.setCal_mt (s : State) (c : Cal) (at_ sub : Nat) : (s.setCal c at_ sub).mt = s.mt := rfl
theorem State.setCal_keeps (s : State) (c : Cal) (at_ sub : Nat) : let b := (s.setCal c at_ sub).bk
    b.opBase = s.bk.opBase ∧ b.opAt = s.bk.opAt ∧ b.commit = s.bk.commit ∧ b.wpend = s.bk.wpend := ⟨rfl, rfl, rfl, rfl⟩
theorem State.setCal_bk {s t : State} (h : t.bk = s.bk) (c : Cal) (at_ sub : Nat) : (t.setCal c at_ sub).bk = (s.setCal c at_ sub).bk := by
  rw [State.setCal, h, State.setCal]

/-- The calendar set at an instant that time is brought up to. -/
theorem State.setCal_awaited {s : State} (h : s.ClocksFree) (c : Cal) (at_ sub : Nat) :
    let t := (s.awaitMt at_).setCal c at_ sub
    s.RegsBut t (evKeys 0x40) ∧ s.CalRest t ∧ t.bk = (s.setCal c at_ sub).bk := by
  obtain ⟨hregs, heq⟩ := s.awaitMt_frame h at_
  obtain ⟨hrest, hbk, -⟩ := State.calRest_of_eq heq
  exact ⟨hregs, hrest.setCal c at_ sub, State.setCal_bk hbk c at_ sub⟩

/-- What the calendar's tick writes before the alarms. -/
def secondKeys : List Nat := [R.BKD_STAT_RTC_VALID.key 0 0 0, R.BKD_STAT_COMMITPEND.key 0 0 0] ++ evKeys 0x40

theorem State.lifeView_rd (s : State) {q : Row} {u : Nat} (h : q.key 0 u 0 ∉ lifeKeys) : s.lifeView.rd q 0 u = s.rd q 0 u := s.lifeView_only.1 q 0 u 0 h

section
/-! `v` is `s` with the calendar set, `w` is `v` with its alarms compared and at most an event of another condition. -/

variable {s v w : State} (hv : s.RegsBut v secondKeys) (hw : v.alarms.OnlyRegs w (evKeys 0x48))
include hw

theorem State.judged_frame : v.RegsBut w.lifeView (alarmKeys ++ lifeKeys) ∧ v.CalRest w.lifeView ∧ w.lifeView.bk = v.bk ∧ w.lifeView.mt = v.mt := by
  obtain ⟨hlife, hleq⟩ := w.lifeView_only
  obtain ⟨halarms, haeq⟩ := v.alarms_only
  obtain ⟨hevent, hweq⟩ := hw
  obtain ⟨hlrest, hlbk, hlmt⟩ := State.calRest_of_eq hleq
  obtain ⟨hrest, hbk, hmt⟩ := State.calRest_of_eq (State.RegsAlone.trans haeq hweq)
  exact ⟨((halarms.mono (by decide)).trans (hevent.mono (by decide))).trans (hlife.mono (by decide)), hrest.trans hlrest,
    hlbk.trans hbk, hlmt.trans hmt⟩

include hv

theorem State.judged_match (a : Fin 2) : v.alarmDue a = (s.flag R.BKD_ALM_MASK_EN a && w.lifeView.alarmMatch a) := by
  obtain ⟨hregs, -, hbk, -⟩ := State.judged_frame hw
  rw [State.alarmDue, State.alarmMatch_congr (hregs.mono (by decide)) (congrArg Bk.cal hbk), State.alarmEn_congr (hv.mono (by decide))]

theorem State.judged_flag (a : Fin 2) :
    nbit (w.lifeView.rd R.BKD_ALMFLAG) a = (nbit (s.rd R.BKD_ALMFLAG) a || (s.flag R.BKD_ALM_MASK_EN a && w.lifeView.alarmMatch a)) := by
  have hbefore : v.rd R.BKD_ALMFLAG = s.rd R.BKD_ALMFLAG := hv R.BKD_ALMFLAG 0 0 0 (by decide)
  have hafter : w.rd R.BKD_ALMFLAG = v.alarms.rd R.BKD_ALMFLAG := hw.1 R.BKD_ALMFLAG 0 0 0 (by decide)
  rw [w.lifeView_rd (by decide), hafter, v.alarms_flag, State.judged_match hv hw, hbefore]

theorem State.judged_stat (hstat : ∀ j < 2, nbit (w.rd R.H_EVSTAT 0 0x48) j = nbit (v.alarms.rd R.H_EVSTAT 0 0x48) j) (a : Fin 2)
    (hen : s.flag R.BKD_ALM_MASK_EN a = true) (hmatch : w.lifeView.alarmMatch a = true) (hm : s.mode ≠ 0) :
    nbit (w.lifeView.rd R.H_EVSTAT 0 0x48) a = true := by
  have hmode : v.mode = s.mode := hv R.SYS_MODE_MODE 0 0 0 (by decide)
  rw [w.lifeView_rd (by decide), hstat a a.isLt]
  exact v.alarms_stat a (by rw [State.judged_match hv hw, hen, hmatch]; rfl) (hmode.symm ▸ hm)

end

/-! RTC_SECOND. -/

/-- The calendar at the wrap of the prescaler, before the alarms. -/
def State.secondTick (s : State) : State :=
  (s.awaitMt (wrapAt s.bk.base s.bk.at_)).setCal s.bk.cal.next.1 (wrapAt s.bk.base s.bk.at_) 32767
def State.rolled (s : State) : State := if s.bk.cal.next.2 then s.secondTick.wr R.BKD_STAT_RTC_VALID 0 else s.secondTick

theorem exec_rtcSecond (s : State) : exec .rtcSecond s = .next (s.rolled.alarms.bkPulse 4).lifeView := rfl

theorem State.rolled_frame {s : State} (h : s.ClocksFree) :
    s.RegsBut s.rolled (R.BKD_STAT_RTC_VALID.key 0 0 0 :: evKeys 0x40) ∧ s.CalRest s.rolled ∧
      s.rolled.bk = (s.setCal s.bk.cal.next.1 (wrapAt s.bk.base s.bk.at_) 32767).bk ∧ s.rolled.mt = (s.awaitMt (wrapAt s.bk.base s.bk.at_)).mt := by
  obtain ⟨hregs, hrest, hbk⟩ := State.setCal_awaited h s.bk.cal.next.1 (wrapAt s.bk.base s.bk.at_) 32767
  have hmore := hregs.mono (List.subset_cons_self (R.BKD_STAT_RTC_VALID.key 0 0 0) _)
  unfold State.rolled
  split
  · exact ⟨hmore.wr _ _ _ _ _ (by simp), hrest.wr .., (State.wr_bk ..).trans hbk, (State.wr_mt ..).trans (State.setCal_mt ..)⟩
  · exact ⟨hmore, hrest, hbk, State.setCal_mt ..⟩

/-- RTC_VALID falls at the end of the range alone. -/
theorem State.rolled_valid {s : State} (h : s.ClocksFree) :
    s.rolled.flag R.BKD_STAT_RTC_VALID = (!s.bk.cal.next.2 && s.flag R.BKD_STAT_RTC_VALID) := by
  unfold State.rolled
  split
  · rename_i hend
    rw [State.flag_wr_zero, hend]
    rfl
  · rename_i hin
    rw [Bool.eq_false_iff.mpr hin]
    exact congrArg (· != 0) ((State.setCal_awaited h _ _ 32767).1 R.BKD_STAT_RTC_VALID 0 0 0 (by decide))

/-- Source 196 (R290). -/
theorem State.rolled_rose {s : State} (h : s.ClocksFree) (hm : s.mode ≠ 0) : s.Rose (s.rolled.alarms.bkPulse 4).lifeView 0x48 4 := fun h0 => by
  have hv := (s.rolled_frame h).1
  have hmode : s.rolled.alarms.mode = s.mode := (s.rolled.alarms_only.1 R.SYS_MODE_MODE 0 0 0 (by decide)).trans (hv R.SYS_MODE_MODE 0 0 0 (by decide))
  have hraw : s.rolled.rd R.H_EVRAW 0 0x48 = s.rd R.H_EVRAW 0 0x48 := hv R.H_EVRAW 0 0x48 0 (by decide)
  rw [State.lifeView_rd _ (by decide)]
  refine State.bkPulse_rose _ (by decide) (hmode.symm ▸ hm) ?_
  rw [(s.rolled.alarms_events_ne ⟨by decide, by decide⟩).2, hraw, h0]

theorem State.rtcSecond_spec {s : State} (hok : s.bk.cal.ok = true) (hfree : s.ClocksFree) (hle : s.mt ≤ wrapAt s.bk.base s.bk.at_)
    (hlt : wrapAt s.bk.base s.bk.at_ + 4 ≤ 2 ^ 64) :
    let t := (s.rolled.alarms.bkPulse 4).lifeView
    t.bk.cal.ok = true ∧ t.presc = 0 ∧ wrapAt s.bk.base s.bk.at_ ≤ t.mt ∧ t.mt < wrapAt s.bk.base s.bk.at_ + 4 ∧
    (s.bk.cal ≠ ⟨199, 12, 31, 23, 59, 59⟩ → t.bk.cal.seconds = s.bk.cal.seconds + 1 ∧ t.flag R.BKD_STAT_RTC_VALID = s.flag R.BKD_STAT_RTC_VALID) ∧
    (s.bk.cal = ⟨199, 12, 31, 23, 59, 59⟩ → t.bk.cal = ⟨0, 1, 1, 0, 0, 0⟩ ∧ t.flag R.BKD_STAT_RTC_VALID = false) ∧
    t.bk.cal.wday = (t.bk.cal.days + 5) % 7 + 1 ∧ (s.mode ≠ 0 → s.Rose t 0x48 4) ∧
    (∀ a : Fin 2, nbit (t.rd R.BKD_ALMFLAG) a = (nbit (s.rd R.BKD_ALMFLAG) a || (s.flag R.BKD_ALM_MASK_EN a && t.alarmMatch a))) ∧
    (∀ a : Fin 2, s.flag R.BKD_ALM_MASK_EN a = true → t.alarmMatch a = true → s.mode ≠ 0 → nbit (t.rd R.H_EVSTAT 0 0x48) a = true) ∧
    t.bk.opBase = s.bk.opBase ∧ t.bk.opAt = s.bk.opAt ∧ t.bk.commit = s.bk.commit ∧ t.bk.wpend = s.bk.wpend ∧
    s.RegsBut t ([R.BKD_STAT_RTC_VALID.key 0 0 0, R.BKD_ALMFLAG.key 0 0 0] ++ evKeys 0x48 ++ evKeys 0x40 ++ lifeKeys) ∧
    t = { s with regs := t.regs, mt := t.mt, tim := t.tim, bk := t.bk, crt := t.crt } := by
  obtain ⟨hroll, hrollRest, hrollBk, hrollMt⟩ := s.rolled_frame hfree
  have hv : s.RegsBut s.rolled secondKeys := hroll.mono (by decide)
  have hpulse := s.rolled.alarms.bkPulse_only 4
  obtain ⟨hjudged, hrest, hbk, hmt⟩ := State.judged_frame hpulse
  obtain ⟨hge, hbelow⟩ := State.awaitMt_reaches hfree hle hlt
  have hvalid : (s.rolled.alarms.bkPulse 4).lifeView.flag R.BKD_STAT_RTC_VALID = (!s.bk.cal.next.2 && s.flag R.BKD_STAT_RTC_VALID) :=
    (hjudged.flag (by decide)).trans (State.rolled_valid hfree)
  have hflag := State.judged_flag hv hpulse
  have hstat := State.judged_stat hv hpulse fun j hj => State.bkPulse_stat_ne _ (by omega) (by omega)
  have hrose := State.rolled_rose hfree
  replace hrest := hrollRest.trans hrest
  rw [hrollBk] at hbk
  rw [hrollMt] at hmt
  dsimp only
  generalize (s.rolled.alarms.bkPulse 4).lifeView = t at *
  rw [← hmt] at hge hbelow
  have hcal : t.bk.cal = s.bk.cal.next.1 := congrArg Bk.cal hbk
  obtain ⟨hopBase, hopAt, hcommit, hwpend⟩ := hbk ▸ s.setCal_keeps s.bk.cal.next.1 (wrapAt s.bk.base s.bk.at_) 32767
  refine ⟨hcal ▸ Cal.next_ok hok, ?_, hge, hbelow, fun hin => ?_, fun hend => ?_, rfl, hrose, hflag, hstat,
    hopBase, hopAt, hcommit, hwpend,
    (hroll.mono (by decide)).trans (hjudged.mono (by decide)), hrest⟩
  · rw [State.presc, hbk]
    exact prescAt_zero hbelow
  · obtain ⟨-, hseconds, hno⟩ := Cal.next_within hok hin
    rw [hno] at hvalid
    exact ⟨hcal ▸ hseconds, hvalid⟩
  · rw [show s.bk.cal.next = (Cal.start, true) from hend ▸ Cal.next_last] at hvalid hcal
    exact ⟨hcal, hvalid⟩

/-! RTC_COMMIT. -/

/-- The calendar at the tick that takes a commit, before the alarms. -/
def State.committed (s : State) (c : Cal) : State :=
  let t := s.setCal c s.bk.cdue s.presc
  (({ t with bk := { t.bk with commit := none } } : State).wr R.BKD_STAT_COMMITPEND 0).wr R.BKD_STAT_RTC_VALID 1

theorem State.bkCommit_some {s : State} {c : Cal} (h : s.bk.commit = some c) : s.bkCommit = (s.committed c).alarms.lifeView := by
  unfold State.bkCommit
  rw [h]
  rfl

theorem State.committed_frame (s : State) (c : Cal) :
    s.RegsBut (s.committed c) [R.BKD_STAT_COMMITPEND.key 0 0 0, R.BKD_STAT_RTC_VALID.key 0 0 0] ∧ s.CalRest (s.committed c) ∧
      (s.committed c).mt = s.mt ∧ (s.committed c).bk = { (s.setCal c s.bk.cdue s.presc).bk with commit := none } := by
  have hset : s.RegsBut { s.setCal c s.bk.cdue s.presc with bk := { (s.setCal c s.bk.cdue s.presc).bk with commit := none } }
    [R.BKD_STAT_COMMITPEND.key 0 0 0, R.BKD_STAT_RTC_VALID.key 0 0 0] := .refl s _
  exact ⟨(hset.wr _ _ _ _ _ (by simp)).wr _ _ _ _ _ (by simp), rfl, rfl, rfl⟩

theorem State.committed_shown (s : State) (c : Cal) :
    (s.committed c).flag R.BKD_STAT_COMMITPEND = false ∧ (s.committed c).flag R.BKD_STAT_RTC_VALID = true :=
  ⟨(State.flag_wr_ne _ _ _ _ _ _ _ _ _ _ (by decide)).trans (State.flag_wr_zero ..), State.flag_wr_one _ rfl ..⟩

/-- The state in which a commit awaits its tick. -/
def State.commitDue (s : State) (c : Cal) : State := { s with bk := { s.bk with commit := some c } }

/-- The tick of a commit, and the calendar as it sets it, before the alarms. -/
def State.commitTick (s : State) (c : Cal) : State := ((s.commitDue c).awaitMt s.bk.cdue).committed c

theorem State.commitTick_frame {s : State} (h : s.ClocksFree) (c : Cal) :
    s.RegsBut (s.commitTick c) secondKeys ∧ s.CalRest (s.commitTick c) ∧ (s.commitTick c).mt = ((s.commitDue c).awaitMt s.bk.cdue).mt ∧
      (s.commitTick c).bk.cal = c ∧ (s.commitTick c).bk.base = 0 ∧ (s.commitTick c).bk.at_ = s.bk.cdue ∧ (s.commitTick c).bk.commit = none ∧
      (s.commitTick c).bk.opBase = s.bk.opBase ∧ (s.commitTick c).bk.opAt = s.bk.opAt := by
  obtain ⟨hregs, heq⟩ := State.awaitMt_frame (s := s.commitDue c) h s.bk.cdue
  obtain ⟨hrest, hbk, -⟩ := State.calRest_of_eq heq
  obtain ⟨hcregs, hcrest, hcmt, hcbk⟩ := ((s.commitDue c).awaitMt s.bk.cdue).committed_frame c
  have hdue : s.RegsBut (s.commitDue c) secondKeys := .refl s _
  have hfrom : s.CalRest (s.commitDue c) := rfl
  refine ⟨(hdue.trans (hregs.mono (by decide))).trans (hcregs.mono (by decide)), (hfrom.trans hrest).trans hcrest, hcmt, ?_⟩
  rw [State.commitTick, hcbk, State.setCal, hbk]
  exact ⟨rfl, rfl, rfl, rfl, rfl, rfl⟩

theorem exec_rtcCommit_due {s : State} (h : s.ClocksFree) (c : Cal) : exec .rtcCommit (s.commitDue c) = .next (s.commitTick c).alarms.lifeView := by
  obtain ⟨-, hbk, -⟩ := State.calRest_of_eq (State.awaitMt_frame (s := s.commitDue c) h s.bk.cdue).2
  have hcommit : ((s.commitDue c).awaitMt s.bk.cdue).bk.commit = some c := congrArg Bk.commit hbk
  exact congrArg Host.Outcome.next ((if_neg (by simp [State.commitDue])).trans (State.bkCommit_some hcommit))

theorem State.rtcCommit_spec (c : Cal) {s : State} (hfree : s.ClocksFree) (hle : s.mt ≤ s.bk.cdue) (hlt : s.bk.cdue + 4 ≤ 2 ^ 64) :
    let t := (s.commitTick c).alarms.lifeView
    t.bk.cal = c ∧ t.presc = 0 ∧ t.bk.commit = none ∧ s.bk.cdue ≤ t.mt ∧ t.mt < s.bk.cdue + 4 ∧
      t.bk.opBase = s.bk.opBase ∧ t.bk.opAt = s.bk.opAt ∧ t.flag R.BKD_STAT_COMMITPEND = false ∧ t.flag R.BKD_STAT_RTC_VALID = true ∧
      (∀ a : Fin 2, nbit (t.rd R.BKD_ALMFLAG) a = (nbit (s.rd R.BKD_ALMFLAG) a || (s.flag R.BKD_ALM_MASK_EN a && t.alarmMatch a))) ∧
      nbit (t.rd R.H_EVSTAT 0 0x48) 4 = nbit (s.rd R.H_EVSTAT 0 0x48) 4 ∧
      s.RegsBut t ([R.BKD_STAT_COMMITPEND.key 0 0 0, R.BKD_STAT_RTC_VALID.key 0 0 0, R.BKD_ALMFLAG.key 0 0 0] ++ evKeys 0x48 ++ evKeys 0x40 ++ lifeKeys) ∧
      t = { s with regs := t.regs, mt := t.mt, tim := t.tim, bk := t.bk, crt := t.crt } := by
  obtain ⟨hv, hvrest, hvmt, hcal, hbase, hat, hcommit, hopBase, hopAt⟩ := s.commitTick_frame hfree c
  have hw : (s.commitTick c).alarms.OnlyRegs (s.commitTick c).alarms (evKeys 0x48) := ⟨.refl _ _, .refl _⟩
  obtain ⟨hjudged, hrest, hbk, hmt⟩ := State.judged_frame hw
  obtain ⟨hge, hbelow⟩ := State.awaitMt_reaches (s := s.commitDue c) hfree hle hlt
  obtain ⟨hpend, hvalid⟩ := ((s.commitDue c).awaitMt s.bk.cdue).committed_shown c
  have hflag := State.judged_flag hv hw
  have hroll : nbit ((s.commitTick c).alarms.lifeView.rd R.H_EVSTAT 0 0x48) 4 = nbit (s.rd R.H_EVSTAT 0 0x48) 4 := by
    rw [State.lifeView_rd _ (by decide), ((s.commitTick c).alarms_events_ne ⟨by decide, by decide⟩).1, hv R.H_EVSTAT 0 0x48 0 (by decide)]
  replace hpend := (hjudged.flag (q := R.BKD_STAT_COMMITPEND) (k := 0) (by decide)).trans hpend
  replace hvalid := (hjudged.flag (q := R.BKD_STAT_RTC_VALID) (k := 0) (by decide)).trans hvalid
  replace hrest := hvrest.trans hrest
  rw [hvmt] at hmt
  dsimp only
  generalize (s.commitTick c).alarms.lifeView = t at *
  rw [← hmt] at hge hbelow
  rw [← hbk] at hcal hbase hat hcommit hopBase hopAt
  refine ⟨hcal, ?_, hcommit, hge, hbelow, hopBase, hopAt, hpend, hvalid, hflag, hroll,
    (hv.mono (by decide)).trans (hjudged.mono (by decide)), hrest⟩
  rw [State.presc, hbase, hat]
  exact prescAt_zero hbelow

/-! What an alarm compares (R295). -/

theorem State.alarmMatch_masked {s : State} {a : Nat} (h : s.rd R.BKD_ALM_MASK_FIELDS a = 0x7F) : s.alarmMatch a = true := by
  have hbits : ∀ i < 7, nbit 0x7F i = true := by decide
  simp [State.alarmMatch, h, hbits]

theorem State.alarmMatch_unmasked {s : State} {a : Nat} (h : s.rd R.BKD_ALM_MASK_FIELDS a = 0) : s.alarmMatch a =
    (s.rd R.BKD_ALM_TIME a / 2 ^ 16 % 64 == s.bk.cal.sec && s.rd R.BKD_ALM_TIME a / 2 ^ 8 % 64 == s.bk.cal.min &&
      s.rd R.BKD_ALM_TIME a % 32 == s.bk.cal.hour && s.rd R.BKD_ALM_DATE_DAY a == s.bk.cal.day && s.rd R.BKD_ALM_DATE_MONTH a == s.bk.cal.month &&
      s.rd R.BKD_ALM_DATE_YEAR a == s.bk.cal.year && s.rd R.BKD_ALM_DATE_WDAY a == s.bk.cal.wday) := by
  have hbits : ∀ i, nbit 0 i = false := fun i => by simp [nbit]
  simp [State.alarmMatch, h, hbits, nfield]

/-! RTC_SEC (R292). -/

/-- The effect of RTC_SEC_WRITE where no domain write is pending. -/
def State.secWritten (s : State) (v : Nat) : State :=
  if s.flag R.BKD_STAT_COMMITPEND then s.err 0x48 0x71 0x124
  else if !(s.staged (v % 64)).ok then s.err 0x48 0x70 0x124
  else { s.wr R.BKD_STAT_COMMITPEND 1 with bk := { s.bk with commit := some (s.staged (v % 64)), cdue := s.bkNext } }

theorem exec_rtcSecWrite_free {s : State} (h : s.Open 0x48) (hw : s.bk.wpend = none) (m : BitVec 6) (v : BitVec 32) :
    exec (.rtcSecWrite m v) s = .next (s.secWritten v.toNat) := by
  have hstall : s.bkStall = (false, s) := if_pos hw
  refine congrArg Host.Outcome.next ((State.onPage_open h _).trans ?_)
  rw [hstall]
  simp only [nfield_low]
  rfl

theorem State.secWritten_spec (s : State) (v : Nat) :
    let t := s.secWritten v
    if s.flag R.BKD_STAT_COMMITPEND = true then s.Refused t 0x48 0x71 0x124
    else if (s.staged (v % 64)).ok = false then s.Refused t 0x48 0x70 0x124
    else t.flag R.BKD_STAT_COMMITPEND = true ∧ t.bk = { s.bk with commit := some (s.staged (v % 64)), cdue := s.bkNext } ∧
      s.RegsBut t [R.BKD_STAT_COMMITPEND.key 0 0 0] ∧ t = { s with regs := t.regs, bk := t.bk } := by
  unfold State.secWritten
  simp only [Bool.not_eq_true']
  split
  · exact s.err_refused _ _ _ (by decide) (by decide)
  · split
    · exact s.err_refused _ _ _ (by decide) (by decide)
    · exact ⟨State.flag_wr_one s rfl .., rfl, (State.RegsBut.refl s _).wr R.BKD_STAT_COMMITPEND 1 0 0 0 (by simp), rfl⟩

end Sys2Proof.Machine
end

section
/-! SUPPORT. The calendar as it is read and stamped (13 R291, R294, R296), and the obligation of it all. -/

namespace Sys2Proof.Machine

/-! Widths. -/

theorem Cal.wday_le (c : Cal) : c.wday ≤ 7 := by
  unfold Cal.wday
  omega

theorem Cal.day_le {c : Cal} (h : c.ok = true) : c.day ≤ 31 :=
  ((Cal.ok_iff c).mp h).2.2.1.2.trans (monthDays_bounds ..).2

/-- The words of a calendar time fit the stamp's registers. -/
theorem Cal.words_lt {c : Cal} (h : c.ok = true) : c.dateWord < 2 ^ 27 ∧ c.timeWord < 2 ^ 22 := by
  have hday := Cal.day_le h
  have hwday := c.wday_le
  obtain ⟨hyear, ⟨-, hmonth⟩, -, hhour, hmin, hsec⟩ := (Cal.ok_iff c).mp h
  unfold Cal.dateWord Cal.timeWord
  omega

/-! A snapshot (R291). -/

/-- MT of the tick that an MT lies in, of 30,517.578125 ns each from an instant on: at most 30,519 ns before it. -/
theorem tick_before (d : Nat) : (d * 32768 / 1000000000 * 1000000000 + 32767) / 32768 ≤ d ∧
    d < (d * 32768 / 1000000000 * 1000000000 + 32767) / 32768 + 30519 := by
  omega

theorem State.rtcSnap_time {s : State} (hcal : s.bk.cal.ok = true) (m : Nat) :
    let t := s.rtcSnap m
    t.rd R.BKD_SHD_DATE_YEAR 0 0 m = s.bk.cal.year ∧ t.rd R.BKD_SHD_DATE_MONTH 0 0 m = s.bk.cal.month ∧
      t.rd R.BKD_SHD_DATE_DAY 0 0 m = s.bk.cal.day ∧ t.rd R.BKD_SHD_DATE_WDAY 0 0 m = s.bk.cal.wday ∧
      t.rd R.BKD_SHD_TIME_HOUR 0 0 m = s.bk.cal.hour ∧ t.rd R.BKD_SHD_TIME_MIN 0 0 m = s.bk.cal.min ∧ t.rd R.BKD_SHD_TIME_SEC 0 0 m = s.bk.cal.sec := by
  have hday := Cal.day_le hcal
  have hwday := s.bk.cal.wday_le
  obtain ⟨hyear, ⟨-, hmonth⟩, -, hhour, hmin, hsec⟩ := (Cal.ok_iff _).mp hcal
  simp (disch := decide) only [State.rtcSnap, State.wr2, State.rd_wr_self, State.rd_wr_place]
  exact ⟨Nat.mod_eq_of_lt (show _ < 2 ^ 8 by omega), Nat.mod_eq_of_lt (show _ < 2 ^ 4 by omega), Nat.mod_eq_of_lt (show _ < 2 ^ 5 by omega),
    Nat.mod_eq_of_lt (show _ < 2 ^ 3 by omega), Nat.mod_eq_of_lt (show _ < 2 ^ 5 by omega), Nat.mod_eq_of_lt (show _ < 2 ^ 6 by omega),
    Nat.mod_eq_of_lt (show _ < 2 ^ 6 by omega)⟩

theorem State.rtcSnap_tick {s : State} (hsub : s.presc < 2 ^ 15) (m : Nat) :
    (s.rtcSnap m).rd R.BKD_RTC_SNAP_SUBSEC 0 0 m = s.presc ∧ (s.rtcSnap m).rd R.BKD_RTC_SNAP_VALID 0 0 m = s.rd R.BKD_STAT_RTC_VALID := by
  simp (disch := decide) only [State.rtcSnap, State.wr2, State.rd_wr_self, State.rd_wr_place]
  exact ⟨Nat.mod_eq_of_lt hsub, Nat.mod_eq_of_lt (s.rd_lt R.BKD_STAT_RTC_VALID 0 0 0)⟩

theorem State.rd2_wr2 (s : State) {lo hi : Row} {v k u m : Nat} (hlo : lo.width = 32) (hhi : hi.width = 32) (hne : lo.place k ≠ hi.place k)
    (hv : v < 2 ^ 64) : (s.wr2 lo hi v k u m).rd2 lo hi k u m = v := by
  rw [State.rd2, State.wr2, State.rd_wr_place _ _ _ _ _ _ _ _ _ _ hne, State.rd_wr_self, State.rd_wr_self, hlo, hhi]
  exact rd2_words hv

/-- MT of the latest tick of the domain. -/
def State.tickMt (s : State) : Nat := s.bk.at_ + ((s.mt - s.bk.at_) * 32768 / 1000000000 * 1000000000 + 32767) / 32768

theorem State.tickMt_bounds {s : State} (h : s.bk.at_ ≤ s.mt) : s.tickMt ≤ s.mt ∧ s.mt < s.tickMt + 30519 := by
  obtain ⟨hle, hbelow⟩ := tick_before (s.mt - s.bk.at_)
  unfold State.tickMt
  omega

theorem State.rtcSnap_last (s : State) (m : Nat) : ∃ t, s.rtcSnap m = State.wr2 t R.BKD_SHD_MTLO R.BKD_SHD_MTHI s.tickMt 0 0 m := ⟨_, rfl⟩

theorem State.rtcSnap_mt {s : State} (hat : s.bk.at_ ≤ s.mt) (hlt : s.mt < 2 ^ 64) (m : Nat) :
    (s.rtcSnap m).rd2 R.BKD_SHD_MTLO R.BKD_SHD_MTHI 0 0 m ≤ s.mt ∧ s.mt < (s.rtcSnap m).rd2 R.BKD_SHD_MTLO R.BKD_SHD_MTHI 0 0 m + 30519 := by
  obtain ⟨hle, hbelow⟩ := State.tickMt_bounds hat
  obtain ⟨t, ht⟩ := s.rtcSnap_last m
  rw [ht, State.rd2_wr2 _ rfl rfl (by decide) (by omega)]
  exact ⟨hle, hbelow⟩

theorem State.rtcSnap_only (s : State) (m : Nat) :
    s.OnlyRegs (s.rtcSnap m) ([R.BKD_RTC_SNAP_SUBSEC, R.BKD_RTC_SNAP_VALID, R.BKD_SHD_DATE_YEAR, R.BKD_SHD_DATE_MONTH, R.BKD_SHD_DATE_DAY,
      R.BKD_SHD_DATE_WDAY, R.BKD_SHD_TIME_HOUR, R.BKD_SHD_TIME_MIN, R.BKD_SHD_TIME_SEC, R.BKD_SHD_MTLO, R.BKD_SHD_MTHI].map (·.key 0 0 m)) := by
  unfold State.rtcSnap State.wr2
  dsimp only
  repeat refine State.OnlyRegs.wr ?_ (by simp) _
  exact ⟨.refl s _, .refl s⟩

theorem State.RegsAlone.answer {s t : State} (h : s.RegsAlone t) (w : Nat) :
    t.answer w = { s with regs := (t.answer w).regs, bus := (t.answer w).bus } :=
  congrArg (fun x : State => { x with bus := (t.answer w).bus }) h

theorem State.RegsBut.answer {s t : State} {keys : List Nat} (h : s.RegsBut t keys) (w : Nat) : s.RegsBut (t.answer w) keys :=
  fun r k u m hk => (State.answer_rd ..).trans (h r k u m hk)

theorem exec_rtcSnapshot_open {s : State} (h : s.Open 0x48) (hsub : s.presc < 2 ^ 15) (m : BitVec 6) :
    exec (.rtcSnapshot m) s = .next ((s.rtcSnap m.toNat).answer (s.presc + 2 ^ 31 * s.rd R.BKD_STAT_RTC_VALID)) := by
  obtain ⟨hpresc, hvalid⟩ := State.rtcSnap_tick hsub m.toNat
  refine congrArg Host.Outcome.next ((State.onRead_open h _).trans ?_)
  rw [← hpresc, ← hvalid]

/-- A snapshot, whatever word the read answers. -/
theorem State.rtcSnap_answered {s : State} (hcal : s.bk.cal.ok = true) (hsub : s.presc < 2 ^ 15) (m w : Nat) :
    let t := (s.rtcSnap m).answer w
    t.bus.data = leBytes 4 w ∧ t.rd R.BKD_RTC_SNAP_SUBSEC 0 0 m = s.presc ∧
      t.rd R.BKD_SHD_DATE_YEAR 0 0 m = s.bk.cal.year ∧ t.rd R.BKD_SHD_DATE_MONTH 0 0 m = s.bk.cal.month ∧
      t.rd R.BKD_SHD_DATE_DAY 0 0 m = s.bk.cal.day ∧ t.rd R.BKD_SHD_DATE_WDAY 0 0 m = s.bk.cal.wday ∧
      t.rd R.BKD_SHD_TIME_HOUR 0 0 m = s.bk.cal.hour ∧ t.rd R.BKD_SHD_TIME_MIN 0 0 m = s.bk.cal.min ∧ t.rd R.BKD_SHD_TIME_SEC 0 0 m = s.bk.cal.sec ∧
      (s.bk.at_ ≤ s.mt → s.mt < 2 ^ 64 → t.rd2 R.BKD_SHD_MTLO R.BKD_SHD_MTHI 0 0 m ≤ s.mt ∧
        s.mt < t.rd2 R.BKD_SHD_MTLO R.BKD_SHD_MTHI 0 0 m + 30519) ∧
      s.RegsBut t ([R.BKD_RTC_SNAP_SUBSEC, R.BKD_RTC_SNAP_VALID, R.BKD_SHD_DATE_YEAR, R.BKD_SHD_DATE_MONTH, R.BKD_SHD_DATE_DAY, R.BKD_SHD_DATE_WDAY,
        R.BKD_SHD_TIME_HOUR, R.BKD_SHD_TIME_MIN, R.BKD_SHD_TIME_SEC, R.BKD_SHD_MTLO, R.BKD_SHD_MTHI].map (·.key 0 0 m)) ∧
      t = { s with regs := t.regs, bus := t.bus } := by
  obtain ⟨hyear, hmonth, hday, hwday, hhour, hmin, hsec⟩ := State.rtcSnap_time hcal m
  obtain ⟨hpresc, -⟩ := State.rtcSnap_tick hsub m
  obtain ⟨hregs, halone⟩ := s.rtcSnap_only m
  have hmt := fun hat hlt => State.rtcSnap_mt (s := s) hat hlt m
  generalize s.rtcSnap m = t at *
  have hrd : ∀ q, (t.answer w).rd q 0 0 m = t.rd q 0 0 m := fun q => State.answer_rd ..
  simp only [State.rd2, hrd]
  exact ⟨rfl, hpresc, hyear, hmonth, hday, hwday, hhour, hmin, hsec, hmt, hregs.answer w, halone.answer w⟩

/-! Event inputs (R296). -/

/-- The calendar and prescaler of the tick `f` ticks before the latest. -/
def State.stampTick (s : State) (f : Nat) : Cal × Nat :=
  if f ≤ s.presc then (s.bk.cal, s.presc - f) else (s.bk.prev, s.bk.prevSub + 1 + s.presc - f)

/-- The stamp of input `k` at such a tick. -/
def State.eviStamp (s : State) (k : Nat) (c : Cal × Nat) : State :=
  ((((s.wr R.BKD_EVI_TSDATE c.1.dateWord k).wr R.BKD_EVI_TSTIME c.1.timeWord k).wr R.BKD_EVI_TSSUB_SUBSEC c.2 k).wrap R.BKD_EVI_TSSUB_COUNT k).bkPulse
    (2 + k)

def eviRows : List Row := [R.BKD_EVI_CFG_FILT, R.BKD_EVI_CFG_EDGE, R.BKD_EVI_CFG_LEVEL, R.BKD_EVI_TSDATE, R.BKD_EVI_TSTIME, R.BKD_EVI_TSSUB_SUBSEC,
  R.BKD_EVI_TSSUB_COUNT]

theorem State.rd_wr_evi (s : State) {q r : Row} (hq : q ∈ eviRows) (hr : r ∈ eviRows) (hne : q ≠ r) (k : Fin 2) (v : Nat) :
    (s.wr r v k).rd q k = s.rd q k := by
  have hapart : ∀ q ∈ eviRows, ∀ r ∈ eviRows, q ≠ r → ∀ k : Fin 2, q.place k ≠ r.place k := by decide
  exact State.rd_wr_place _ _ _ _ _ _ _ _ _ _ (hapart q hq r hr hne k)

theorem State.bkPulse_evi (s : State) (bit : Nat) {q : Row} (hq : q ∈ eviRows) (k : Fin 2) : (s.bkPulse bit).rd q k = s.rd q k := by
  have hapart : ∀ q ∈ eviRows, ∀ k : Fin 2, q.key k 0 0 ∉ evKeys 0x48 := by decide
  exact (s.bkPulse_only bit).1 q k 0 0 (hapart q hq k)

/-- An edge is selected by the bit of EDGE for its direction. -/
theorem edge_selected {e : Nat} (h : e < 4) (rising : Bool) :
    ((e == 3) || (e == 1 && rising) || (e == 2 && !rising)) = nbit e (if rising then 0 else 1) := by
  revert e rising
  decide

theorem exec_eviEdge (k : Fin 2) (rising : Bool) (s : State) : exec (.eviEdge k rising) s =
    .next (if nbit (s.rd R.BKD_EVI_CFG_EDGE k) (if rising then 0 else 1) = true then
      (s.put R.BKD_EVI_CFG_LEVEL rising k).eviStamp k (s.stampTick (s.rd R.BKD_EVI_CFG_FILT k)) else s.put R.BKD_EVI_CFG_LEVEL rising k) := by
  have hedge : (s.put R.BKD_EVI_CFG_LEVEL rising k).rd R.BKD_EVI_CFG_EDGE k = s.rd R.BKD_EVI_CFG_EDGE k :=
    s.rd_wr_evi (by decide) (by decide) (by decide) k _
  have hfilt : (s.put R.BKD_EVI_CFG_LEVEL rising k).rd R.BKD_EVI_CFG_FILT k = s.rd R.BKD_EVI_CFG_FILT k :=
    s.rd_wr_evi (by decide) (by decide) (by decide) k _
  show execEviEdge k rising s = _
  rw [execEviEdge, ← edge_selected (s.rd_lt R.BKD_EVI_CFG_EDGE k 0 0), ← hfilt, ← hedge]
  rfl

/-- The time of a stamp is a calendar time. -/
theorem State.stampTick_ok {s : State} (hcal : s.bk.cal.ok = true) (hprev : s.bk.prev.ok = true)
    (f : Nat) : (s.stampTick f).1.ok = true := by
  unfold State.stampTick
  split <;> assumption

theorem State.eviStamp_count (s : State) (k : Fin 2) (c : Cal × Nat) :
    (s.eviStamp k c).rd R.BKD_EVI_TSSUB_COUNT k = (s.rd R.BKD_EVI_TSSUB_COUNT k + 1) % 2 ^ 16 := by
  rw [State.eviStamp, State.bkPulse_evi _ _ (by decide), State.wrap, State.rd_wr_self]
  simp (disch := decide) only [State.rd_wr_evi]
  exact Nat.mod_mod ..

theorem State.eviStamp_words (s : State) (k : Fin 2) (c : Cal × Nat) :
    (s.eviStamp k c).rd R.BKD_EVI_TSDATE k = c.1.dateWord % 2 ^ 27 ∧ (s.eviStamp k c).rd R.BKD_EVI_TSTIME k = c.1.timeWord % 2 ^ 22 ∧
      (s.eviStamp k c).rd R.BKD_EVI_TSSUB_SUBSEC k = c.2 % 2 ^ 15 := by
  simp (disch := decide) only [State.eviStamp, State.bkPulse_evi, State.wrap, State.rd_wr_evi, State.rd_wr_self]
  exact ⟨rfl, rfl, rfl⟩

def stampKeys (k : Nat) : List Nat := [R.BKD_EVI_TSDATE, R.BKD_EVI_TSTIME, R.BKD_EVI_TSSUB_SUBSEC, R.BKD_EVI_TSSUB_COUNT].map (·.key k 0 0)

/-- The registers of the stamp, written before the event. -/
theorem State.eviStamp_eq (s : State) (k : Nat) (c : Cal × Nat) : ∃ t, s.OnlyRegs t (stampKeys k) ∧ s.eviStamp k c = t.bkPulse (2 + k) := by
  refine ⟨_, ?_, rfl⟩
  unfold State.wrap
  repeat refine State.OnlyRegs.wr ?_ (by simp [stampKeys]) _
  exact ⟨.refl s _, .refl s⟩

theorem State.eviStamp_only (s : State) (k : Nat) (c : Cal × Nat) : s.OnlyRegs (s.eviStamp k c) (stampKeys k ++ evKeys 0x48) := by
  obtain ⟨t, ht, heq⟩ := s.eviStamp_eq k c
  rw [heq]
  exact (ht.mono (List.subset_append_left ..)).trans ((t.bkPulse_only _).mono (List.subset_append_right ..))

theorem State.eviStamp_rose (s : State) (k : Fin 2) (c : Cal × Nat) (hm : s.mode ≠ 0) : s.Rose (s.eviStamp k c) 0x48 (2 + k) := by
  obtain ⟨t, ⟨hregs, -⟩, heq⟩ := s.eviStamp_eq k c
  have hbeside : ∀ k : Fin 2, R.SYS_MODE_MODE.key 0 0 0 ∉ stampKeys k ∧ R.H_EVRAW.key 0 0x48 0 ∉ stampKeys k := by decide
  have hmode : t.mode = s.mode := hregs R.SYS_MODE_MODE 0 0 0 (hbeside k).1
  have hraw : t.rd R.H_EVRAW 0 0x48 = s.rd R.H_EVRAW 0 0x48 := hregs R.H_EVRAW 0 0x48 0 (hbeside k).2
  rw [heq]
  exact fun h0 => t.bkPulse_rose (by omega) (hmode.symm ▸ hm) (hraw.symm ▸ h0)

/-- The tick of a stamp, where the filter reaches back over at most one second. -/
theorem State.stampTick_spec (s : State) (f : Nat) :
    (s.stampTick f).1 = (if decide (s.presc < f) = true then s.bk.prev else s.bk.cal) ∧
      (s.presc < 2 ^ 15 → s.bk.prevSub < 2 ^ 15 → f ≤ s.bk.prevSub →
        (s.stampTick f).2 % 2 ^ 15 + f = s.presc + if decide (s.presc < f) = true then s.bk.prevSub + 1 else 0) := by
  unfold State.stampTick
  by_cases h : f ≤ s.presc
  · rw [if_pos h, decide_eq_false (Nat.not_lt.mpr h)]
    exact ⟨rfl, fun _ _ _ => by simp only [Bool.false_eq_true, if_false]; omega⟩
  · rw [if_neg h, decide_eq_true (Nat.lt_of_not_le h)]
    exact ⟨rfl, fun _ _ _ => by simp only [if_true]; omega⟩

theorem State.put_level_only (s : State) (k : Nat) (b : Bool) : s.OnlyRegs (s.put R.BKD_EVI_CFG_LEVEL b k) [R.BKD_EVI_CFG_LEVEL.key k 0 0] :=
  State.OnlyRegs.wr ⟨.refl s _, .refl s⟩ (by simp) _

/-- A selected edge. -/
theorem State.eviEdge_stamps (s : State) (k : Fin 2) (b : Bool) :
    let t := (s.put R.BKD_EVI_CFG_LEVEL b k).eviStamp k (s.stampTick (s.rd R.BKD_EVI_CFG_FILT k))
    t.flag R.BKD_EVI_CFG_LEVEL k = b ∧ s.RegsAlone t ∧
      t.rd R.BKD_EVI_TSSUB_COUNT k = (s.rd R.BKD_EVI_TSSUB_COUNT k + 1) % 2 ^ 16 ∧ (s.mode ≠ 0 → s.Rose t 0x48 (2 + k)) ∧
      (s.bk.cal.ok = true → s.bk.prev.ok = true → s.presc < 2 ^ 15 → s.bk.prevSub < 2 ^ 15 →
        let back : Bool := decide (s.presc < s.rd R.BKD_EVI_CFG_FILT k)
        let c := if back then s.bk.prev else s.bk.cal
        (s.rd R.BKD_EVI_CFG_FILT k ≤ s.bk.prevSub →
          t.rd R.BKD_EVI_TSSUB_SUBSEC k + s.rd R.BKD_EVI_CFG_FILT k = s.presc + if back then s.bk.prevSub + 1 else 0) ∧
        t.rd R.BKD_EVI_TSDATE k = c.year + c.month * 2 ^ 8 + c.day * 2 ^ 16 + c.wday * 2 ^ 24 ∧
        t.rd R.BKD_EVI_TSTIME k = c.hour + c.min * 2 ^ 8 + c.sec * 2 ^ 16) ∧
      s.RegsBut t ([R.BKD_EVI_CFG_LEVEL, R.BKD_EVI_TSDATE, R.BKD_EVI_TSTIME, R.BKD_EVI_TSSUB_SUBSEC, R.BKD_EVI_TSSUB_COUNT].map (·.key k 0 0) ++
        evKeys 0x48) := by
  obtain ⟨htick, hsub⟩ := s.stampTick_spec (s.rd R.BKD_EVI_CFG_FILT k)
  have hok := s.stampTick_ok (f := s.rd R.BKD_EVI_CFG_FILT k)
  obtain ⟨hput, hpalone⟩ := s.put_level_only k b
  generalize s.stampTick (s.rd R.BKD_EVI_CFG_FILT k) = c at *
  obtain ⟨hdate, htime, hsubsec⟩ := (s.put R.BKD_EVI_CFG_LEVEL b k).eviStamp_words k c
  obtain ⟨hregs, halone⟩ := (s.put R.BKD_EVI_CFG_LEVEL b k).eviStamp_only k c
  have hbeside : ∀ k : Fin 2, R.BKD_EVI_CFG_LEVEL.key k 0 0 ∉ stampKeys k ++ evKeys 0x48 ∧ R.SYS_MODE_MODE.key 0 0 0 ∉ [R.BKD_EVI_CFG_LEVEL.key k 0 0] ∧
    R.H_EVRAW.key 0 0x48 0 ∉ [R.BKD_EVI_CFG_LEVEL.key k 0 0] := by decide
  obtain ⟨hlevel, hmode, hraw⟩ := hbeside k
  refine ⟨(hregs.flag hlevel).trans (State.flag_put s rfl ..), hpalone.trans halone, ?_, fun hm h0 => ?_, fun hcal hprev hpresc hprevSub => ?_,
    (hput.mono (by simp)).trans (hregs.mono (by simp [stampKeys]))⟩
  · rw [State.eviStamp_count, State.put, s.rd_wr_evi (by decide) (by decide) (by decide)]
  · refine State.eviStamp_rose (s.put R.BKD_EVI_CFG_LEVEL b k) k c ?_ ?_
    · rwa [State.mode, hput R.SYS_MODE_MODE 0 0 0 hmode]
    · rwa [hput R.H_EVRAW 0 0x48 0 hraw]
  · obtain ⟨hdlt, htlt⟩ := Cal.words_lt (hok hcal hprev)
    dsimp only
    rw [← htick, hdate, htime, hsubsec, Nat.mod_eq_of_lt hdlt, Nat.mod_eq_of_lt htlt]
    exact ⟨hsub hpresc hprevSub, rfl, rfl⟩

theorem sgn_eq_toInt (w v : Nat) : sgn (w + 1) v = (BitVec.ofNat (w + 1) v).toInt := by
  have hpow : 2 ^ (w + 1) = 2 * 2 ^ w := Nat.pow_succ'
  rw [sgn, BitVec.toInt_eq_toNat_cond, BitVec.toNat_ofNat, Nat.add_sub_cancel]
  split <;> split <;> omega

/-- RTC_TRIM (R294). -/
theorem exec_rtcTrim (s : State) : exec .rtcTrim s = .next { s with bk := { s.bk with
    base := s.bk.base + (BitVec.ofNat 8 (s.rd R.BKD_RTC_TRIM)).toInt, opBase := s.bk.opBase + (BitVec.ofNat 8 (s.rd R.BKD_RTC_TRIM)).toInt } } := by
  rw [← sgn_eq_toInt 7]
  rfl

/-- Settles O40, clause by clause: the two ticks at which the second changes set the calendar and then compare the alarms and judge the
cartridge's life alike; a snapshot, a trim and an edge by what they write. -/
theorem calendarAlarmsAndInputs : Obligations.CalendarAlarmsAndInputs := by
  refine ⟨fun s hok hfree hle hlt => ?_, fun a s => State.alarmMatch_masked, fun a s _ => State.alarmMatch_unmasked,
    fun m v s hopen hfree => ?_, fun s h => congrArg Host.Outcome.next (if_pos h), fun c s hfree hle hlt => ?_,
    fun m s hopen hcal hsub => ?_, exec_rtcTrim, fun k rising s => ?_⟩
  · exact ⟨_, exec_rtcSecond s, State.rtcSecond_spec hok hfree hle hlt⟩
  · exact ⟨_, exec_rtcSecWrite_free hopen hfree m v, s.secWritten_spec v.toNat⟩
  · exact ⟨_, exec_rtcCommit_due hfree c, State.rtcCommit_spec c hfree hle hlt⟩
  · exact ⟨_, exec_rtcSnapshot_open hopen hsub m, State.rtcSnap_answered hcal hsub m.toNat _⟩
  · refine ⟨_, exec_eviEdge k rising s, ?_⟩
    by_cases hsel : nbit (s.rd R.BKD_EVI_CFG_EDGE k) (if rising then 0 else 1) = true
    · simp only [if_pos hsel]
      obtain ⟨hlevel, halone, hstamp⟩ := s.eviEdge_stamps k rising
      exact ⟨hlevel, halone, hstamp⟩
    · simp only [if_neg hsel]
      obtain ⟨hregs, halone⟩ := s.put_level_only k rising
      exact ⟨s.flag_put rfl .., halone, hregs⟩

end Sys2Proof.Machine
end

section
/-! SUPPORT. The backup domain (13 R286): what a loss of its state asks for every value of type `Row`. -/

namespace Sys2Proof.Machine

/-- A row that no table holds: the filter of an event input (Table 13.3, value 32 at a backup loss) cut to a field of no bits. -/
def bitlessFilter : Row := { R.BKD_EVI_CFG_FILT with width := 0 }

/-- A field reads below 2 to its width, so this one never reads its value at a loss: `LostRegs`, which speaks of every row, holds between
no two states unless the key of the filter is listed. -/
theorem State.not_lostRegs {s t : State} {keys : List Nat} (hk : bitlessFilter.key 0 0 0 ∉ keys) : ¬ s.LostRegs t keys := fun h => by
  have hlost : t.rd bitlessFilter = 32 := (h bitlessFilter 0 0 0 hk).trans (if_pos (by decide))
  have hlt : t.rd bitlessFilter < 1 := t.rd_lt ..
  omega

/-- Refutes O41, by the frame of registers of BACKUP_STATE_LOST alone: `LostRegs` asks the value at a backup loss of every value of type
`Row`, also of one whose reset value is wider than its field, where a read is cut to the width. No table holds such a row. -/
theorem not_backupDomainAndCell : ¬ Obligations.BackupDomainAndCell := by
  rintro ⟨-, hloss, -⟩
  obtain ⟨t, -, -, -, hregs, -⟩ := hloss State.reset
  exact State.not_lostRegs (by decide) hregs

end Sys2Proof.Machine
end

section
/-! SUPPORT. Cartridge, recorder, rack bus, debug, NCP and image book (14, 15, 17–20): a frame of register pages for every value of type `Row`. -/

namespace Sys2Proof.Machine

-- The facts below evaluate the model in the kernel; one after the other they stay within the memory that their threads may take.
set_option Elab.async false

/-! The clauses below show a field that changes on a page they list; but `PagesBut` asks of every value of type `Row`, also of one of page 0
with the key of that field, that it reads as before. No table holds such a row. -/

/-- The reset module with an ACTIVE cartridge. -/
def resetActive : State := State.reset.wr R.CRT_STAT_STATE 3

theorem resetActive_state : resetActive.rd R.CRT_STAT_STATE = 3 := State.rd_wr_self ..

/-- Refutes O42, by the frame of pages of its clause of a contact break alone: CRT.STAT.STATE falls to 0, on page 0x50, which the clause
lists; but `PagesBut` asks of every value of type `Row`, also of one of page 0 with the key of STATE, that it reads as before. -/
theorem not_cartridgeInsertionAndRemoval : ¬ Obligations.CartridgeInsertionAndRemoval := by
  rintro ⟨-, -, -, -, -, -, hbreak, -⟩
  obtain ⟨t, -, hstate, -, -, -, -, -, -, -, -, -, hpages, -⟩ := hbreak resetActive
  have hkept : 0 = 3 := hstate.symm.trans ((hpages.rd_eq (by decide) R.CRT_STAT_STATE 0 0 0).trans resetActive_state)
  exact absurd hkept (by decide)

theorem reset_ckptSlot : State.reset.rd R.CRT_CKPT_SLOT = 0 := by decide +kernel

/-- Refutes O43, by the frame of pages of its clause of CHECKPOINT_COMPLETE alone: a checkpoint in slot 1 shows in CKPT.SLOT, on page 0x50,
which the clause lists; but `PagesBut` asks of every value of type `Row`, also of one of page 0 with the key of SLOT, that it reads as
before. -/
theorem not_journalCheckpointsAndNand : ¬ Obligations.JournalCheckpointsAndNand := by
  rintro ⟨-, -, -, -, hcomplete, -⟩
  obtain ⟨t, -, -, -, hslot, -, -, -, -, -, -, -, -, -, hpages⟩ :=
    hcomplete 1 0 0 State.reset (by decide +kernel) (by decide +kernel) rfl (.inl (by decide +kernel))
  have hkept : 1 = 0 := hslot.symm.trans ((hpages.rd_eq (by decide) R.CRT_CKPT_SLOT 0 0 0).trans reset_ckptSlot)
  exact absurd hkept (by decide)

/-- The reset module whose recorder ends a flush that began with no record. -/
def resetFlushing : State := { State.reset with er := { State.reset.er with flushing := true } }

theorem resetFlushing_flushes : resetFlushing.rd R.ER_COUNT_FLUSHES = 0 := by decide +kernel

/-- Refutes O44, by the frame of pages of its last clause alone: the end of a flush counts in FLUSHES, on page 0x51, which the clause lists;
but `PagesBut` asks of every value of type `Row`, also of one of page 0 with the key of FLUSHES, that it reads as before. -/
theorem not_eventRecordsAreAcceptedAndWritten : ¬ Obligations.EventRecordsAreAcceptedAndWritten := by
  rintro ⟨-, -, -, -, -, -, -, -, -, -, -, hend⟩
  obtain ⟨t, -, -, hcount, -, hpages, -⟩ :=
    hend resetFlushing rfl (by simp [resetFlushing, State.reset]) (by decide) rfl (.inl (by decide +kernel))
  rw [resetFlushing_flushes] at hcount
  have hkept : 1 = 0 := hcount.symm.trans ((hpages.rd_eq (by decide) R.ER_COUNT_FLUSHES 0 0 0).trans resetFlushing_flushes)
  exact absurd hkept (by decide)

/-- The reset module with a stop of the recorder. -/
def resetStopped : State := State.reset.wr R.ER_STOP_ACTIVE 1

theorem resetStopped_active : resetStopped.rd R.ER_STOP_ACTIVE = 1 := State.rd_wr_self ..

/-- Refutes O45, by the frame of pages of its last clause alone: the end of a clear resets STOP, on page 0x51, which the clause lists; but
`PagesBut` asks of every value of type `Row`, also of one of page 0 with the key of STOP.ACTIVE, that it reads as before. -/
theorem not_eventLogIsReadAndCleared : ¬ Obligations.EventLogIsReadAndCleared := by
  rintro ⟨-, -, -, -, -, -, -, -, -, -, hend⟩
  obtain ⟨t, -, -, -, hpages, -, hstop, -⟩ := hend 0 resetStopped
  have hkept : 0 = 1 := hstop.symm.trans ((hpages.rd_eq (by decide) R.ER_STOP_ACTIVE 0 0 0).trans resetStopped_active)
  exact absurd hkept (by decide)

theorem reset_rxselObj : State.reset.rd R.RB_RXSEL_OBJ 0 0 0 = 0 := by decide +kernel

/-- Refutes O47, by the frame of pages of its clause of RXSEL alone: the object selected shows in RXSEL, on page 0x60, which the clause
lists; but `PagesBut` asks of every value of type `Row`, also of one of page 0 with the key of RXSEL.OBJ, that it reads as before. -/
theorem not_rackBusObjects : ¬ Obligations.RackBusObjects := by
  rintro ⟨-, -, -, -, -, hselect, -⟩
  obtain ⟨t, -, hobj, -, -, -, hpages, -⟩ := hselect 0 0 1 0 State.reset (by decide +kernel)
  have hkept : 1 = 0 := hobj.symm.trans ((hpages.rd_eq (by decide) R.RB_RXSEL_OBJ 0 0 0).trans reset_rxselObj)
  exact absurd hkept (by decide)

/-- The reset module whose rack-bus node 0 has counted its TEC past 255. -/
def resetTec : State := { State.reset with racks := [(0, { tec := 256 })] }

theorem resetTec_errState : resetTec.rd R.RB_ERR_STATE 0 0 = 0 := by decide +kernel

/-- Refutes O48, by the frame of pages of its clause of bus-off alone: the state shows in ERR.STATE, on page 0x60, which the clause lists;
but `PagesBut` asks of every value of type `Row`, also of one of page 0 with the key of ERR.STATE, that it reads as before. -/
theorem not_rackBusFrames : ¬ Obligations.RackBusFrames := by
  rintro ⟨-, -, -, -, -, -, -, -, -, -, -, -, -, hoff, -⟩
  obtain ⟨t, -, h⟩ := hoff 0 resetTec
  rw [if_neg (by decide +kernel)] at h
  obtain ⟨hstate, -, -, -, -, hpages, -⟩ := h
  have hkept : 2 = 0 := hstate.symm.trans ((hpages.rd_eq (by decide) R.RB_ERR_STATE 0 0 0).trans resetTec_errState)
  exact absurd hkept (by decide)

/-- The reset module with debug unlocked. -/
def resetUnlocked : State := State.reset.wr R.DBG_STAT_UNLOCKED 1

theorem resetUnlocked_halted : resetUnlocked.rd R.DBG_STAT_HALTED = 0 := by decide +kernel

/-- Refutes O51, by the frame of pages of its clause of HALT alone: the pair halted shows in STAT.HALTED, on page 0x70, which the clause
lists; but `PagesBut` asks of every value of type `Row`, also of one of page 0 with the key of HALTED, that it reads as before. -/
theorem not_gateEntriesAndDebug : ¬ Obligations.GateEntriesAndDebug := by
  rintro ⟨-, -, -, -, -, -, hhalt, -⟩
  obtain ⟨t, -, hhalted, -, -, hpages, -⟩ := hhalt 0 1 resetUnlocked (by decide +kernel) (by decide +kernel)
  have hset := hhalted 0
  rw [hpages.rd_eq (by decide) R.DBG_STAT_HALTED 0 0 0, resetUnlocked_halted] at hset
  exact absurd hset (by decide)

/-- The reset module with a transfer of an image of type 1. -/
def resetTransfer : State := State.reset.wr R.UPD_STAT_TYPE 1

theorem resetTransfer_type : resetTransfer.rd R.UPD_STAT_TYPE = 1 := State.rd_wr_self ..

/-- Refutes O57, by the frame of pages of its clause of CANCEL alone: the transfer that ends falls out of STAT.TYPE, on page 0x68, which the
clause lists; but `PagesBut` asks of every value of type `Row`, also of one of page 0 with the key of TYPE, that it reads as before. -/
theorem not_imageBook : ¬ Obligations.ImageBook := by
  rintro ⟨-, -, hcancel, -⟩
  obtain ⟨t, -, h⟩ := hcancel 0 resetTransfer (by decide +kernel)
  rw [if_neg (by decide +kernel)] at h
  obtain ⟨htype, -, -, -, -, -, -, hpages, -⟩ := h
  have hkept : 0 = 1 := htype.symm.trans ((hpages.rd_eq (by decide) R.UPD_STAT_TYPE 0 0 0).trans resetTransfer_type)
  exact absurd hkept (by decide)

/-! Safety faults with a result in flight. -/

theorem leadInFlight_faultable : leadInFlight.Faultable := by decide +kernel

/-- The reaction to a temperature fault abandons the ply, and its row in flight completes (22 R456, 21 R430, 04 R80). -/
theorem leadInFlight_temperature_byte : ∃ t, exec .temperatureFault leadInFlight = .next t ∧ t.rb instBase = 1 := ⟨_, rfl, by decide +kernel⟩

/-- Refutes O58, by its first clause: it asks that no byte of memory change, and not that no result be in flight. In `leadInFlight` the
reaction to a temperature fault abandons a ply in EXECUTE, its result in flight completes, and the byte it writes changes. -/
theorem not_safetyFaults : ¬ Obligations.SafetyFaults := by
  rintro ⟨hfault, -⟩
  obtain ⟨t, ht, ⟨-, -, hmem⟩, -⟩ := hfault _ _ _ _ _ _ leadInFlight .temperature leadInFlight_faultable
  obtain ⟨u, hu, hland⟩ := leadInFlight_temperature_byte
  obtain rfl := Host.Outcome.next.inj (hu.symm.trans ht)
  have hbyte : (1 : BitVec 8) = 0 := hland.symm.trans ((hmem instBase).trans leadInFlight_byte)
  exact absurd hbyte (by decide)

/-- The lead of `leadInFlight`, whose diagnostic pass has not ended when the next one is due, and OVRLIM is 1. -/
def leadOverrun : State := { leadInFlight.wr R.SAF_CFG_OVRLIM 1 with saf := { leadInFlight.saf with passing := true } }

theorem leadOverrun_byte : leadOverrun.rb instBase = 0 := by decide +kernel

/-- The overrun is a safety fault; its reaction abandons the ply, and its row in flight completes (21 R434, R430, 04 R80). -/
theorem leadOverrun_pass_byte : ∃ t, exec .diagPassStart leadOverrun = .next t ∧ t.rb instBase = 1 := ⟨_, rfl, by decide +kernel⟩

/-- Refutes O59, by its first clause: it asks that no byte of memory change at the start of a pass, and not that no result be in flight. In
`leadOverrun` the pass overruns; the reaction abandons a ply in EXECUTE, its result in flight completes, and the byte it writes changes. -/
theorem not_diagnosticScheduleAndWatchdogs : ¬ Obligations.DiagnosticScheduleAndWatchdogs := by
  rintro ⟨hstart, -⟩
  obtain ⟨t, ht, hmem, -⟩ := hstart leadOverrun (by decide +kernel) ⟨rfl, rfl⟩
  obtain ⟨u, hu, hland⟩ := leadOverrun_pass_byte
  obtain rfl := Host.Outcome.next.inj (hu.symm.trans ht)
  have hbyte : (1 : BitVec 8) = 0 := hland.symm.trans ((hmem instBase).trans leadOverrun_byte)
  exact absurd hbyte (by decide)

end Sys2Proof.Machine
end

section
/-! SUPPORT. A mirror escape's reset, a frame of no bytes, a transfer of image object 0, and a VERIFY (11, 19). -/

namespace Sys2Proof.Machine

-- The facts below evaluate the model in the kernel; one after the other they stay within the memory that their threads may take.
set_option Elab.async false

/-! A store whose escape brings a reset. -/

/-- A lead with RSTALL set, so that a safety fault brings a reset (21 R432); its mirror lists cover nothing. -/
def leadRstall : State := releasedLead.wr R.SAF_CFG_RSTALL 1

/-- A store of one byte to the memory of the instances by CP0: the mirror escape's reset clears what the fabric answered (11 R240, 03 R57). -/
theorem leadRstall_store_memtype :
    ∃ t, exec (.fabricAccess 0 true .write (BitVec.ofNat 36 instBase) 1 ⟨[1], 0⟩) leadRstall = .next t ∧ t.bus.memtype = 0 :=
  ⟨_, rfl, by decide +kernel⟩

theorem leadRstall_memtype : (leadRstall.byteCheck 0 true .write instBase).memtype = 4 := by decide +kernel

/-- Refutes O50, by its first clause: an allowed access answers with the MEMTYPE and SHARE of its first byte. A store outside the mirror
ranges of a lead with RSTALL is a mirror escape whose reset clears what the fabric answered, so MEMTYPE is 0, not 4. -/
theorem not_allowedAccessesReachTheirTarget : ¬ Obligations.AllowedAccessesReachTheirTarget := by
  rintro ⟨hanswer, -⟩
  obtain ⟨t, ht, hbus⟩ := hanswer 0 true .write (BitVec.ofNat 36 instBase) 1 ⟨[1], 0⟩ leadRstall
    ⟨rfl, by decide +kernel⟩ (.inr (by decide +kernel)) (by decide +kernel) (by decide)
  obtain ⟨u, hu, hreset⟩ := leadRstall_store_memtype
  obtain rfl := Host.Outcome.next.inj (hu.symm.trans ht)
  have hfour : u.bus.memtype = 4 := (congrArg Bus.memtype hbus).trans leadRstall_memtype
  exact absurd (hreset.symm.trans hfour) (by decide)

/-! A frame of no bytes. -/

/-- MAC 0 is ON and takes every frame; the descriptor at its receive head, the first of LPDDR5, is its own, and its buffer lies in the
cartridge window while no cartridge is fitted. -/
def macCartBuffer : State :=
  let s := ((State.reset.setUnit 0x41 2).wr R.EMAC_MACCFG_RXEN 1).wr R.EMAC_MACCFG_PROMISC 1
  ((s.wr R.EMAC_RXBASELO (dramBase / 64)).wrLe dramBase 8 cartBase).wb (dramBase + 11) 0x80

/-- A frame of no bytes. -/
def noBytes : EthFrame := { bytes := [], sfd := 0, bad := false }

theorem macCartBuffer_code : macCartBuffer.rd R.H_ERR_CODE 0 0x50 = 0 := by decide +kernel

/-- The write of no bytes into a window with no cartridge records 0x80 on page 0x50 (14 R310). -/
theorem macCartBuffer_received_code :
    ∃ t, exec (.emacFrameReceived 0 noBytes) macCartBuffer = .next t ∧ t.rd R.H_ERR_CODE 0 0x50 = 0x80 := ⟨_, rfl, by decide +kernel⟩

/-- Refutes O56, by the clause of a frame that a MAC takes: it asks that the registers outside the MAC's page stay. A frame of no bytes
whose buffer lies in the cartridge window, with no cartridge ACTIVE, is written as zero bytes: no gate refuses it, and the access records
error 0x80 on page 0x50. -/
theorem not_ethernetFrames : ¬ Obligations.EthernetFrames := by
  rintro ⟨-, htake, -⟩
  obtain ⟨t, ht, -, hregs, -⟩ := htake 0 noBytes macCartBuffer ⟨rfl, rfl⟩ (by decide +kernel) (by decide +kernel)
    (by decide +kernel) rfl (by decide +kernel)
  obtain ⟨u, hu, hcode⟩ := macCartBuffer_received_code
  obtain rfl := Host.Outcome.next.inj (hu.symm.trans ht)
  have hkept : u.rd R.H_ERR_CODE 0 0x50 = 0 := (hregs R.H_ERR_CODE 0 0x50 0 (by decide +kernel)).trans macCartBuffer_code
  exact absurd (hcode.symm.trans hkept) (by decide)

/-! A transfer of image object 0. -/

/-- The reset module 60 s on, with a transfer of image object 0, which is of no image type, and one block of it placed. -/
def idleTransfer : State :=
  { State.reset with
    mt := 60000000000
    ncp := { State.reset.ncp with xfers := [{ session := 1, image := true, object := 0, total := 2048, got := [], since := 0 }] }
    upd := { State.reset.upd with got := [0] } }

/-- The timeout ends a transfer of UPD's current type alone, and STAT.TYPE 0 says that UPD has none (20 R420). -/
theorem idleTransfer_timeout_got : ∃ t, exec (.transferTimeout true 0) idleTransfer = .next t ∧ t.upd.got = [0] := ⟨_, rfl, by decide +kernel⟩

/-- Refutes O55, by its clause of TRANSFER_TIMEOUT: where the object of the transfer is STAT.TYPE it asks that UPD hold no block any more.
With object 0 and STAT.TYPE 0, no transfer, the model leaves UPD as it is. -/
theorem not_ncpTransfersAndUnitCommands : ¬ Obligations.NcpTransfersAndUnitCommands := by
  rintro ⟨-, -, -, htimeout, -⟩
  obtain ⟨t, ht, h⟩ := htimeout true 0 idleTransfer ⟨rfl, rfl⟩ (by decide)
  rw [if_neg (by decide)] at h
  obtain ⟨-, -, -, -, -, himage⟩ := h _ (List.mem_singleton.mpr rfl)
  obtain ⟨u, hu, hgot⟩ := idleTransfer_timeout_got
  obtain rfl := Host.Outcome.next.inj (hu.symm.trans ht)
  obtain ⟨-, hnone⟩ := himage rfl (by decide +kernel) rfl
  exact absurd (hgot.symm.trans hnone) (by decide)

/-! VERIFY. -/

/-- A session of an Engineer on MAC 0. -/
def engineer : Sess :=
  { id := 1, mac := 0, host := 0, role := 2, opened := true, h := 1, seen := [1], cache := [], h2m := 0, m2h := 0, wrap := 0, transcript := [],
    hostKey := 0, since := 0 }

/-- A lead with that session. -/
def leadEngineer : State := { releasedLead with ncp := { sess := [engineer] } }

/-- A VERIFY as the session's next request, but for its tag. -/
def untaggedVerify : NcpReq :=
  { mac := 0, host := 0, magic := 0x4E43, ver := 3, flags := 0, status := 0, session := 1, seq := 2, object := 0, offset := 0, length := 0, rsv := 0,
    total := 0, payload := [], tag := 0 }

/-- That VERIFY with the tag that the session's key gives. -/
def verifyRequest : NcpReq := { untaggedVerify with tag := BitVec.ofNat 128 (ncpTag engineer.h2m (reqBytes untaggedVerify 0x41)) }

theorem ncpTag_lt (key : Nat) (bytes : List (BitVec 8)) : ncpTag key bytes < 2 ^ 128 := by
  unfold ncpTag
  omega

theorem verifyRequest_tag : verifyRequest.tag.toNat = ncpTag engineer.h2m (reqBytes verifyRequest 0x41) :=
  BitVec.toNat_ofNat _ _ |>.trans (Nat.mod_eq_of_lt (ncpTag_lt ..))

theorem verifyRequest_admitted : leadEngineer.Admits verifyRequest 0x41 engineer :=
  ⟨by decide +kernel, ⟨rfl, rfl, rfl, rfl, rfl, by decide, rfl⟩, rfl, rfl, verifyRequest_tag, by decide, by decide⟩

theorem leadEngineer_smState : leadEngineer.rd R.XE_SM_STAT_STATE = 0 := by decide +kernel

/-- Refutes O54, by the frame of pages of its clause of VERIFY alone: the verification that starts shows in SM.STAT.STATE, on page 0x10,
which the clause lists; but `PagesBut` asks of every value of type `Row`, also of one of page 0 with the key of STATE, that it reads as
before. -/
theorem not_ncpModeAndProgramCommands : ¬ Obligations.NcpModeAndProgramCommands := by
  rintro ⟨-, -, -, -, -, -, -, hverify, -⟩
  obtain ⟨t, -, h⟩ := hverify verifyRequest leadEngineer engineer (by decide) verifyRequest_admitted (by decide)
  rw [if_neg (by decide +kernel), if_neg (by decide +kernel), if_neg (by decide)] at h
  obtain ⟨-, -, hpages, -, hstate⟩ := h
  have hkept : 1 = 0 := (hstate (.inl leadEngineer_smState)).symm.trans
    ((hpages.rd_eq (by decide) R.XE_SM_STAT_STATE 0 0 0).trans leadEngineer_smState)
  exact absurd hkept (by decide)

end Sys2Proof.Machine
end

section
/-! SUPPORT. A publication of more than 2^32 symbols (19 R413). -/

namespace Sys2Proof.Machine

-- The facts below evaluate the model in the kernel; one after the other they stay within the memory that their threads may take.
set_option Elab.async false

theorem beNat_append (xs : List (BitVec 8)) (x : BitVec 8) : beNat (xs ++ [x]) = beNat xs * 256 + x.toNat := List.foldl_concat ..

theorem beNat_lt (xs : List (BitVec 8)) : beNat xs < 256 ^ xs.length := by
  induction xs using List.reverseRecOn with
  | nil => exact Nat.one_pos
  | append_singleton xs x ih =>
    rw [beNat_append, List.length_append, List.length_singleton, Nat.pow_succ]
    have hx : x.toNat < 256 := x.isLt
    omega

/-- The OFFSET of an NCP packet is a number of four bytes. -/
def OffsetFits : Out → Prop
  | .ncp _ _ _ _ _ _ _ _ offset _ _ _ => offset < 2 ^ 32
  | _ => True

theorem State.pubSend_offsetFits (s : State) (p : Pub) (es : List (List (BitVec 8))) (h : ∀ o ∈ s.outs, OffsetFits o) :
    ∀ o ∈ (s.pubSend p es).outs, OffsetFits o := by
  have hoff : beNat ((es.headD []).take 4) < 2 ^ 32 :=
    (beNat_lt _).trans_le (Nat.pow_le_pow_right (by decide : 0 < 256) (List.length_take_le ..))
  refine State.each_induction (motive := fun t => ∀ o ∈ t.outs, OffsetFits o) h fun t port _ ht o ho => ?_
  obtain rfl | ho := List.mem_cons.mp ho
  · exact hoff
  · exact ht o ho

theorem State.pubTv_outs (s : State) (stale : Nat) (y : Sym) : (s.pubTv stale y).2.outs = s.outs := by
  unfold State.pubTv
  cases s.plyTOf y.offset <;> rfl

theorem State.pubEntries_outs (stale : Nat) (ids : List Nat) (s : State) (i : Nat) : (s.pubEntries stale ids i).2.outs = s.outs := by
  induction ids generalizing s i with
  | nil => rfl
  | cons id ids ih =>
    unfold State.pubEntries
    split
    · exact ih ..
    · exact (ih ..).trans (s.pubTv_outs ..)

theorem State.keyFlip_outs (s : State) : s.keyFlip.outs = s.outs := by
  unfold State.keyFlip
  split
  · split <;> rfl
  · rfl

/-- A publication `p` of symbols that all name the first of the table. -/
def firstOnly (n : Nat) : Pub :=
  { id := 0, group := 0, period := 1, ports := 1, stale := 0, trackpub := false, symbols := List.replicate n 0 }

/-- A lead that has publication keys and whose own ply wrote the first tagged value in the memory of the instances. -/
def leadWrote : State := { releasedLead with xe := { releasedLead.xe with wrote := [(0, 1)] } }

/-- That lead with a table of one symbol, of that tagged value, and one publication. -/
def leadPublishing (p : Pub) : State :=
  { leadWrote with ncp := { hasKeys := true, archive := some ⟨[], [⟨0, 0, 16, 16, 0, 0, true⟩], [p], [], []⟩ } }

theorem leadWrote_powered : leadWrote.powered 0x41 = true := by decide +kernel
theorem leadWrote_mode : leadWrote.mode = 3 := by decide +kernel
theorem leadWrote_plyT : (leadWrote.plyTOf 0).isSome = true := by decide +kernel
theorem leadWrote_outs : leadWrote.outs = [] := by decide +kernel

theorem leadPublishing_allWritten (p : Pub) (n : Nat) : (leadPublishing p).AllWritten (List.replicate n 0) := fun id hid => by
  rw [List.eq_of_mem_replicate hid]
  exact ⟨⟨0, 0, 16, 16, 0, 0, true⟩, List.mem_singleton.mpr rfl, leadWrote_plyT⟩

theorem leadPublishing_outs (n : Nat) :
    ∃ t, exec (.publish 0) (leadPublishing (firstOnly n)) = .next t ∧ ∀ o ∈ t.outs, OffsetFits o := by
  have hpub : (leadPublishing (firstOnly n)).publishes (firstOnly n) = true := by
    show (leadWrote.powered 0x41 && (leadWrote.isLead || _)) = true
    rw [leadWrote_powered, State.isLead, leadWrote_mode]
    rfl
  refine ⟨_, congrArg Host.Outcome.next (if_neg (by simp [hpub])), ?_⟩
  refine State.each_induction (motive := fun t => ∀ o ∈ t.outs, OffsetFits o) ?_ fun t es _ => t.pubSend_offsetFits _ es
  rw [State.pubEntries_outs]
  show ∀ o ∈ (State.keyFlip _).outs, OffsetFits o
  rw [State.keyFlip_outs, (State.awaitMt_frame ⟨rfl, rfl⟩ _).2]
  show ∀ o ∈ leadWrote.outs, OffsetFits o
  simp [leadWrote_outs]

/-- The clause of PUBLISH gives packet j of a publication OFFSET 50 j; the model takes OFFSET from the four bytes of an entry's index. -/
theorem offset_of_ncpReadsAndPublication (h : Obligations.NcpReadsAndPublication) (n : Nat) {j : Nat} (hj : j < (n + 49) / 50) :
    50 * j < 2 ^ 32 := by
  obtain ⟨-, -, -, -, -, -, -, -, hpublish, -⟩ := h
  obtain ⟨t, ht, h⟩ := hpublish 0 (leadPublishing (firstOnly n)) ⟨rfl, rfl⟩ rfl (firstOnly n) (List.mem_singleton.mpr rfl)
  rw [if_pos ⟨rfl, leadWrote_powered, .inl leadWrote_mode⟩] at h
  obtain ⟨-, -, -, -, -, -, hsent⟩ := h
  obtain ⟨-, houts⟩ := hsent (leadPublishing_allWritten _ n)
  obtain ⟨u, hu, hfits⟩ := leadPublishing_outs n
  obtain rfl := Host.Outcome.next.inj (hu.symm.trans ht)
  rw [houts] at hfits
  have hpacket : j ∈ upTo (((firstOnly n).symbols.length + 49) / 50) := by
    rw [firstOnly, List.length_replicate]
    exact List.mem_range.mpr hj
  have hport : 0 ∈ (upTo 2).filter (nbit 1) := by decide
  exact hfits _ (List.mem_append_left _ (List.mem_reverse.mpr (List.mem_flatMap.mpr ⟨j, hpacket, List.mem_map.mpr ⟨0, hport, rfl⟩⟩)))

/-- Refutes O53, by its clause of PUBLISH: of 2^32 + 50 symbols it would have the last packet begin at entry 2^32 + 4, and no packet of
the model has such an OFFSET. -/
theorem not_ncpReadsAndPublication : ¬ Obligations.NcpReadsAndPublication := fun h =>
  absurd (offset_of_ncpReadsAndPublication h (2 ^ 32 + 50) (j := 85899346) (by decide)) (by decide)

end Sys2Proof.Machine
end

section
/-! SUPPORT. A step: the front command, or one tick (95; 12 R265, R267). -/

namespace Sys2Proof.Machine

theorem step_cons {s : State} {c : Instr} {cs : List Instr} (h : s.pending = c :: cs) : step s = exec c { s with pending := cs } := by
  rw [step, h]

theorem step_nil {s : State} (h : s.pending = []) : step s = .next s.tick := by
  rw [step, h]

/-- Settles O1, by the front of the queue. -/
theorem stepRunsTheFrontCommand : Obligations.StepRunsTheFrontCommand := fun _ _ _ => step_cons

/-- A tick with no SET and no step is the advance of both clocks. -/
theorem State.clockTick_plain {s : State} (hset : s.tim.set = none) (hsteps : s.tim.steps = []) :
    s.clockTick = s.mtTick.setNtFull (s.ntFull + s.rd R.TIM_NTINC) := by
  have happly : ({ s with mt := (s.mt + 4) % 2 ^ 64 } : State).applySet = s.mtTick := by
    unfold State.applySet
    rw [show ({ s with mt := (s.mt + 4) % 2 ^ 64 } : State).tim.set = none from hset]
    rfl
  unfold State.clockTick
  rw [happly]
  exact if_pos (.inl hsteps)

/-- What moved in registers and time base alone since MT took its tick, moved in registers, MT and time base since before it. -/
theorem State.rest_of_mtTick {s t : State} (h : t = { s.mtTick with regs := t.regs, tim := t.tim }) :
    t.mt = (s.mt + 4) % 2 ^ 64 ∧ t = { s with regs := t.regs, mt := t.mt, tim := t.tim } := by
  have hmt : t.mt = s.mtTick.mt := by rw [h]
  rw [hmt]
  exact ⟨rfl, h⟩

/-- Settles O2: with nothing waiting the tick is `clockTick_plain`, whose parts the lemmas on `setNtFull` give. -/
theorem emptyQueueIsOneTick : Obligations.EmptyQueueIsOneTick := fun s hqueue hset hsteps hmatch => by
  obtain ⟨hmt, hrest⟩ := State.rest_of_mtTick (s.mtTick.setNtFull_rest (s.ntFull + s.rd R.TIM_NTINC))
  have htim := s.mtTick.setNtFull_tim (s.ntFull + s.rd R.TIM_NTINC)
  have hregs := s.mtTick.setNtFull_regsBut (s.ntFull + s.rd R.TIM_NTINC)
  have hstep : step s = .next (s.mtTick.setNtFull (s.ntFull + s.rd R.TIM_NTINC)) := by
    rw [step_nil hqueue, State.tick_of_noMatch hmatch, State.clockTick_plain hset hsteps]
  exact ⟨_, hstep, hmt, congrArg TimSt.nt htim, congrArg TimSt.frac htim, hregs, hrest⟩

end Sys2Proof.Machine
end

section
/-! SUPPORT. What every command keeps (95): the queue of waiting commands, and the canonical form of memory and registers. A lemma for each
function of the model that answers a state, in the order of the model's text; its proof follows the function's branches. -/

namespace Sys2Proof.Machine

-- One lemma after the other: the whole text then stays within the memory that its threads may take.
set_option Elab.async false

/-- From `s` to `t` the queue stayed, and so did the canonical forms. -/
def State.Keeps (s t : State) : Prop := t.pending = s.pending ∧ (s.Inv → t.Inv)

/-- So in every state that may come of it. -/
def State.KeepsOpt (s : State) (o : Option State) : Prop := ∀ u, o = some u → s.Keeps u
def State.KeepsOpt₂ (s : State) (o : Option (α × State)) : Prop := ∀ x, o = some x → s.Keeps x.2

/-- So in the state that a command answers, and it answers one. -/
def State.KeepsRes (s : State) (r : Res) : Prop := ∃ u, r = .next u ∧ s.Keeps u

/-- So in the state after the rules of an NCP command, where they do not refuse it. -/
def State.KeepsEnd (s : State) (e : NcpEnd) : Prop := ∀ u, e = .done u → s.Keeps u

/-- So in every command of a list. -/
def State.KeepsAll (s : State) (cs : List (Nat × (State → Res))) : Prop := ∀ c ∈ cs, ∀ u, s.Keeps u → s.KeepsRes (c.2 u)

section
variable {s t : State}

/-! The rules of the branches. -/

theorem State.Keeps.refl : s.Keeps s := ⟨rfl, id⟩

theorem State.Keeps.ite {c : Prop} [Decidable c] {u v : State} (hu : s.Keeps u) (hv : s.Keeps v) : s.Keeps (if c then u else v) := by
  split
  · exact hu
  · exact hv

theorem State.Keeps.ite₁ {c : Prop} [Decidable c] {u v : State × α} (hu : s.Keeps u.1) (hv : s.Keeps v.1) :
    s.Keeps (if c then u else v).1 := by
  split
  · exact hu
  · exact hv

theorem State.Keeps.ite₂ {c : Prop} [Decidable c] {u v : α × State} (hu : s.Keeps u.2) (hv : s.Keeps v.2) :
    s.Keeps (if c then u else v).2 := by
  split
  · exact hu
  · exact hv

theorem State.Keeps.cond {b : Bool} {u v : State} (hu : s.Keeps u) (hv : s.Keeps v) : s.Keeps (State.cond b u v) := .ite hu hv

theorem State.Keeps.each {xs : List α} {f : State → α → State} (h : s.Keeps t) (hf : ∀ u x, s.Keeps u → s.Keeps (f u x)) :
    s.Keeps (t.each xs f) :=
  List.foldlRecOn xs f h fun u hu x _ => hf u x hu

theorem State.Keeps.getD {o : Option State} (ho : s.KeepsOpt o) (h : s.Keeps t) : s.Keeps (o.getD t) := by
  cases o with
  | none => exact h
  | some u => exact ho u rfl

theorem State.Keeps.fst {x : State × α} {u : State} {a : α} (h : s.Keeps x.1) (hx : x = (u, a)) : s.Keeps u := by
  rwa [hx] at h

theorem State.Keeps.snd {x : α × State} {u : State} {a : α} (h : s.Keeps x.2) (hx : x = (a, u)) : s.Keeps u := by
  rwa [hx] at h

theorem State.KeepsOpt.none : s.KeepsOpt none := fun _ h => nomatch h
theorem State.KeepsOpt.some (h : s.Keeps t) : s.KeepsOpt (some t) := fun _ hu => Option.some.inj hu ▸ h
theorem State.KeepsOpt₂.some {x : α × State} (h : s.Keeps x.2) : s.KeepsOpt₂ (some x) := fun _ hu => Option.some.inj hu ▸ h

theorem State.KeepsOpt.map {o : Option α} {f : α → State} (hf : ∀ x, o = Option.some x → s.Keeps (f x)) : s.KeepsOpt (o.map f) := by
  intro _ hu
  obtain ⟨x, hx, rfl⟩ := Option.map_eq_some_iff.mp hu
  exact hf x hx

theorem State.KeepsOpt₂.map {o : Option β} {f : β → α × State} (hf : ∀ x, o = Option.some x → s.Keeps (f x).2) :
    s.KeepsOpt₂ (o.map f) := by
  intro _ hu
  obtain ⟨x, hx, rfl⟩ := Option.map_eq_some_iff.mp hu
  exact hf x hx

theorem State.KeepsRes.next (h : s.Keeps t) : s.KeepsRes (.next t) := ⟨t, rfl, h⟩

theorem State.KeepsRes.ite {c : Prop} [Decidable c] {r r' : Res} (h : s.KeepsRes r) (h' : s.KeepsRes r') :
    s.KeepsRes (if c then r else r') := by
  split
  · exact h
  · exact h'

theorem State.KeepsEnd.refuse {c : Nat} : s.KeepsEnd (.refuse c) := fun _ h => nomatch h
theorem State.KeepsEnd.done (h : s.Keeps t) : s.KeepsEnd (.done t) := fun _ hu => NcpEnd.done.inj hu ▸ h

theorem State.KeepsEnd.ite {c : Prop} [Decidable c] {e e' : NcpEnd} (h : s.KeepsEnd e) (h' : s.KeepsEnd e') :
    s.KeepsEnd (if c then e else e') := by
  split
  · exact h
  · exact h'

theorem State.KeepsAll.nil : s.KeepsAll [] := fun _ h => nomatch h

theorem State.KeepsAll.cons {n : Nat} {f : State → Res} {cs : List (Nat × (State → Res))} (hf : ∀ u, s.Keeps u → s.KeepsRes (f u))
    (hcs : s.KeepsAll cs) : s.KeepsAll ((n, f) :: cs) := fun c hc => by
  obtain rfl | hc := List.mem_cons.mp hc
  · exact hf
  · exact hcs c hc

/-- Components other than registers, memory and queue are free. -/
theorem State.Keeps.others {bus outs free evcOwner sys pwr saf gates chalFresh act mt xe te rmts stns svc rmc crtFlush pr tim bk crt er lio racks
    ncp emacs upd} (h : s.Keeps t) : s.Keeps { t with
    bus := bus, outs := outs, free := free, evcOwner := evcOwner, sys := sys, pwr := pwr, saf := saf, gates := gates, chalFresh :=
    chalFresh, act := act, mt := mt, xe := xe, te := te, rmts := rmts, stns := stns, svc := svc, rmc := rmc, crtFlush := crtFlush, pr
    := pr, tim := tim, bk := bk, crt := crt, er := er, lio := lio, racks := racks, ncp := ncp, emacs := emacs, upd := upd } := h

/-! Fields or bytes are dropped. -/

theorem State.Keeps.filterRegs (h : s.Keeps t) {p : Nat × Nat → Bool} : s.Keeps { t with regs := t.regs.filter p } :=
  ⟨h.1, fun hs => ⟨(h.2 hs).1, smRising_filter p (h.2 hs).2⟩⟩

theorem State.Keeps.filterMem (h : s.Keeps t) {p : Host.Cell → Bool} : s.Keeps { t with mem := t.mem.filter p } :=
  ⟨h.1, fun hs => ⟨smWf_filter memDefault p (h.2 hs).1, (h.2 hs).2⟩⟩

/-! The model's functions. A lemma names by `u1`, `u2`, … the states that its function's text names on the way. -/

/-! Ops: the operations every unit shares. -/

theorem State.Keeps.wr (h : s.Keeps t) {r v k u m} : s.Keeps (t.wr r v k u m) :=
  ⟨h.1, fun hs => ⟨(h.2 hs).1, smRising_smSet _ _ _ (h.2 hs).2⟩⟩
theorem State.Keeps.put (h : s.Keeps t) {r b k u m} : s.Keeps (t.put r b k u m) := h.wr
theorem State.Keeps.sat (h : s.Keeps t) {r k u m d} : s.Keeps (t.sat r k u m d) := h.wr
theorem State.Keeps.wrap (h : s.Keeps t) {r k u m d} : s.Keeps (t.wrap r k u m d) := h.wr
theorem State.Keeps.bitTo (h : s.Keeps t) {r i b k u m} : s.Keeps (t.bitTo r i b k u m) := h.wr
theorem State.Keeps.wr2 (h : s.Keeps t) {lo hi v k u m} : s.Keeps (t.wr2 lo hi v k u m) := h.wr.wr
theorem State.Keeps.err (h : s.Keeps t) {page code off} : s.Keeps (t.err page code off) := .ite h.wr.wr h.wr
theorem State.Keeps.evLevel (h : s.Keeps t) {p bit b} : s.Keeps (t.evLevel p bit b) := .ite h.wr.wr h.wr
theorem State.Keeps.report (h : s.Keeps t) {p bit} : s.Keeps (t.report p bit) := h.wr
theorem State.Keeps.ev (h : s.Keeps t) {p bit} : s.Keeps (t.ev p bit) := h.evLevel.evLevel

theorem State.Keeps.raise (h : s.Keeps t) {n} : s.Keeps (t.raise n) := by
  unfold State.raise
  split
  · exact h.ev
  · exact h

theorem State.Keeps.out (h : s.Keeps t) {o} : s.Keeps (t.out o) := h.others
theorem State.Keeps.rbCut (h : s.Keeps t) : s.Keeps t.rbCut := h.others
theorem State.Keeps.draw (h : s.Keeps t) : s.Keeps t.draw.2 := h.others
theorem State.Keeps.wb (h : s.Keeps t) {a v} : s.Keeps (t.wb a v) :=
  ⟨h.1, fun hs => ⟨smWf_smSet _ _ _ (h.2 hs).1, (h.2 hs).2⟩⟩

theorem State.Keeps.wbs (h : s.Keeps t) {a bs} : s.Keeps (t.wbs a bs) := by
  induction bs generalizing t a with
  | nil => exact h
  | cons b bs ih => exact ih h.wb

theorem State.Keeps.wrLe (h : s.Keeps t) {a n v} : s.Keeps (t.wrLe a n v) := h.wbs
theorem State.Keeps.copy (h : s.Keeps t) {src dst n} : s.Keeps (t.copy src dst n) := h.wbs

/-! Units: what every unit page does alike. -/

theorem State.Keeps.touch (h : s.Keeps t) {page} : s.Keeps (t.touch page) := .ite h.wr.err h
theorem State.Keeps.onPage (h : s.Keeps t) {page f} (hf : ∀ u, s.Keeps u → s.Keeps (f u)) : s.Keeps (t.onPage page f) :=
  .ite (hf _ h.touch) h
theorem State.Keeps.lockWrite (h : s.Keeps t) {page v} : s.Keeps (t.lockWrite page v) := .ite h (.ite h.wr (.ite h.wr.wr h.wr.err))
theorem State.Keeps.evforce (h : s.Keeps t) {page v} : s.Keeps (t.evforce page v) := .ite h.err h.wr
theorem State.Keeps.setUnit (h : s.Keeps t) {page st} : s.Keeps (t.setUnit page st) := h.wr

theorem State.Keeps.enTransition (h : s.Keeps t) {page en} : s.Keeps (t.enTransition page en) := by
  unfold State.enTransition
  dsimp only
  split
  · exact h.put.setUnit
  · exact h.put.setUnit
  · exact h.put.wr
  · exact h.put.wr
  · exact h.put.setUnit
  · exact h.put

theorem State.Keeps.drained (h : s.Keeps t) {page} : s.Keeps (t.drained page) := .ite h.setUnit.wr h.setUnit
theorem State.Keeps.toFault (h : s.Keeps t) {page} : s.Keeps (t.toFault page) := h.setUnit.wr
theorem State.Keeps.srstRegs (h : s.Keeps t) {page} : s.Keeps (t.srstRegs page) := h.filterRegs.wr.wrap.wr.setUnit
theorem State.Keeps.answer (h : s.Keeps t) {w} : s.Keeps (t.answer w) := h.others
theorem State.Keeps.onRead (h : s.Keeps t) {page f} (hf : ∀ u, s.Keeps u → s.Keeps (f u).2) : s.Keeps (t.onRead page f) :=
  .ite (.answer (hf _ h.touch)) h.answer

/-! Fields: the words of a page as its fields make them. -/

theorem State.Keeps.fieldWrite (h : s.Keeps t) {m v locked f} : s.Keeps (t.fieldWrite m v locked f) := by
  unfold State.fieldWrite
  split
  · exact h.wr
  · exact .ite h h.wr
  · exact h.wr
  · exact h

theorem State.Keeps.wordWrite (h : s.Keeps t) {m v locked fs} : s.Keeps (t.wordWrite m v locked fs) := h.each fun _ _ hu => hu.fieldWrite
theorem State.Keeps.rsvErr (h : s.Keeps t) {page off v} : s.Keeps (t.rsvErr page off v) := .ite h h.err
theorem State.Keeps.cfgBump (h : s.Keeps t) {page off m} : s.Keeps (t.cfgBump t1 page off m) := .ite h h.wrap
theorem State.Keeps.fwWrite (h : s.Keeps t) {page off v} : s.Keeps (t.fwWrite page off v) := h.wordWrite.cfgBump

/-! Book: the image book and its slot directory. -/

theorem State.Keeps.setCrt (h : s.Keeps t) {c} : s.Keeps (t.setCrt c) := h.others
theorem State.Keeps.setUpd (h : s.Keeps t) {u} : s.Keeps (t.setUpd u) := h.others
theorem State.Keeps.updView (h : s.Keeps t) : s.Keeps t.updView := h.each fun _ _ hu => hu.wr.wr.wr.wr.wr.wr
theorem State.Keeps.setBook (h : s.Keeps t) {b} : s.Keeps (t.setBook b) := .ite h.setUpd h.setCrt
theorem State.Keeps.setDir (h : s.Keeps t) {k d} : s.Keeps (t.setDir k d) := .ite h.setUpd h.setCrt.updView
theorem State.Keeps.bookSuccess (h : s.Keeps t) : s.Keeps t.bookSuccess := .setUpd <| h.each fun _ _ hu => .ite hu.setDir hu

/-! Clock: the time base. -/

theorem State.Keeps.setTim (h : s.Keeps t) {t'} : s.Keeps (t.setTim t') := h.others
theorem State.Keeps.setNtFull (h : s.Keeps t) {v} : s.Keeps (t.setNtFull v) := .ite h.setTim h.setTim.ev
theorem State.Keeps.shiftTargets (h : s.Keeps t) {val} : s.Keeps (t.shiftTargets val) := h.each fun _ _ hu => .ite hu.others hu

theorem State.Keeps.applySet (h : s.Keeps t) : s.Keeps t.applySet := by
  unfold State.applySet
  split
  · exact h.setTim
  · exact h

theorem State.Keeps.clockTick (h : s.Keeps t) : s.Keeps t.clockTick :=
  .ite h.others.applySet.setNtFull h.others.applySet.shiftTargets.setNtFull.wr.wr.wrap.setTim
theorem State.Keeps.clockRun (h : s.Keeps t) {n} : s.Keeps (t.clockRun n) := .ite h h.others.setNtFull
theorem State.Keeps.clockTicks (h : s.Keeps t) {n} : s.Keeps (t.clockTicks n) := .ite h (.ite h.clockTick.clockRun h.clockRun)
theorem State.Keeps.awaitMt (h : s.Keeps t) {t'} : s.Keeps (t.awaitMt t') := h.clockTicks
theorem State.Keeps.awaitNt (h : s.Keeps t) {t'} : s.Keeps (t.awaitNt t') := .ite h (.clockRun <| .ite h.clockTick h)
theorem State.Keeps.awaitClk (h : s.Keeps t) {c} : s.Keeps (t.awaitClk c) := .ite h.awaitMt h.awaitMt.others

/-! Mirror: the mirror list and PAIR's taps on the writes to the memory of the instances. -/

theorem State.Keeps.escape (h : s.Keeps t) {off writer master} : s.Keeps (t.escape off writer master) :=
  .others <| .sat <| .ite h.wr.wr.wr h
theorem State.Keeps.dirtyMark (h : s.Keeps t) {off n} : s.Keeps (t.dirtyMark off n) := .ite h.others h

theorem State.Keeps.tap (h : s.Keeps t) {off n writer master} : s.Keeps (t.tap off n writer master) := by
  unfold State.tap
  refine .ite ?_ (.ite h.dirtyMark.escape h.dirtyMark)
  dsimp only
  split
  · exact .escape <| .ite h.dirtyMark.others h.dirtyMark
  · exact .ite h.dirtyMark.others h.dirtyMark

theorem State.Keeps.seqTaken (h : s.Keeps t) {l type} : s.Keeps (t.seqTaken l type) := h.others
theorem State.Keeps.plSend (h : s.Keeps t) {l type flags payload} : s.Keeps (t.plSend l type flags payload) := h.out.seqTaken
theorem State.Keeps.chunkSend (h : s.Keeps t) {l type flags payload} : s.Keeps (t.chunkSend l type flags payload) := h.plSend.others
theorem State.Keeps.chunksAgain (h : s.Keeps t) {l n} : s.Keeps (t.chunksAgain l n) := .ite (h.each fun _ _ hu => hu.plSend) h
theorem State.Keeps.plSendAll (h : s.Keeps t) {type flags payload} : s.Keeps (t.plSendAll type flags payload) :=
  h.each fun _ _ hu => hu.plSend

theorem State.Keeps.fwdSend (h : s.Keeps t) {msg} : s.Keeps (t.fwdSend msg) := by
  unfold State.fwdSend
  split
  · exact h.out.seqTaken
  · exact h

/-! Lanes: the lanes and the sequencer. -/

theorem State.Keeps.setPly (h : s.Keeps t) {w p} : s.Keeps (t.setPly w p) := h.others
theorem State.Keeps.modPly (h : s.Keeps t) {w f} : s.Keeps (t.modPly w f) := h.setPly
theorem State.Keeps.setSeq (h : s.Keeps t) {l q} : s.Keeps (t.setSeq l q) := h.others
theorem State.Keeps.iStore (h : s.Keeps t) {off bs} : s.Keeps (t.iStore off bs) := h.wbs
theorem State.Keeps.iWr (h : s.Keeps t) {off n v} : s.Keeps (t.iWr off n v) := h.iStore
theorem State.Keeps.ftView (h : s.Keeps t) : s.Keeps t.ftView := h.wr.put
theorem State.Keeps.applyForce (h : s.Keeps t) {f} : s.Keeps (t.applyForce f) := .ite h.iStore h
theorem State.Keeps.applyForces (h : s.Keeps t) : s.Keeps t.applyForces :=
  .ite h (.ftView <| .others <| h.each fun _ _ hu => hu.others.applyForce)
theorem State.Keeps.markRetain (h : s.Keeps t) {off n} : s.Keeps (t.markRetain off n) := .ite h h.others
theorem State.Keeps.wroteBy (h : s.Keeps t) {w off n} : s.Keeps (t.wroteBy w off n) := h.others
theorem State.Keeps.fWr (h : s.Keeps t) {w off n v} : s.Keeps (t.fWr w off n v) := .ite h.iWr.tap.wroteBy.markRetain h.iWr.tap.wroteBy

theorem State.Keeps.land (h : s.Keeps t) {lvl f} : s.Keeps (t.land lvl f) := by
  unfold State.land
  refine .ite h ?_
  split
  · exact .ite h.iWr.tap.wroteBy.markRetain h.iWr.tap.wroteBy
  · exact h.others
  · exact .ite h h.others

theorem State.Keeps.landBy (h : s.Keeps t) {lvls c} : s.Keeps (t.landBy lvls c) :=
  .ite h (.each (h.each fun _ _ hu => hu.setSeq) fun _ _ hu => hu.land)
theorem State.Keeps.landAll (h : s.Keeps t) {lvl} : s.Keeps (t.landAll lvl) := h.landBy

theorem State.Keeps.issueRow (h : s.Keeps t) {w bad} : s.Keeps (t.issueRow w bad).1 := by
  unfold State.issueRow
  refine .ite₁ h.landBy.wr.wr.wr.setSeq ?_
  refine .ite₁ h.landBy.wr.wr.wr.setSeq ?_
  refine .ite₁ (.ite₁ h.landBy.wr.wr.wr.setSeq h.landBy.wr.wr.wr.setSeq) ?_
  refine .ite₁ (.ite₁ h.landBy.wr.wr.wr.setSeq h.landBy.wr.wr.wr.setSeq) ?_
  dsimp only
  split <;> exact h.landBy.wr.wr.wr.setSeq

theorem State.Keeps.enterPart (h : s.Keeps t) {w part c before follows} : s.Keeps (t.enterPart w part c before follows) :=
  h.modPly.others.setSeq
theorem State.Keeps.clearCauses (h : s.Keeps t) {w} : s.Keeps (t.clearCauses w) :=
  .ite h.modPly (h.modPly.each fun _ _ hu => hu.fWr.fWr.fWr)

theorem State.Keeps.runRows (h : s.Keeps t) {w lim n} : s.Keeps (t.runRows w lim n).1 := by
  induction n generalizing t with
  | zero => exact h
  | succ n ih =>
    unfold State.runRows
    refine .ite₁ (.ite₁ (ih h.landAll.clearCauses.enterPart) h) (.ite₁ h ?_)
    have hrow := h.issueRow (w := w) (bad := (0, 0))
    split
    · next hv => exact ih (hrow.fst hv)
    · exact hrow

/-! Seg: the segment controllers' shared operations. -/

theorem State.Keeps.setRmt (h : s.Keeps t) {seg r} : s.Keeps (t.setRmt seg r) := h.others
theorem State.Keeps.setStn (h : s.Keeps t) {seg st t'} : s.Keeps (t.setStn seg st t') := h.others
theorem State.Keeps.segEv (h : s.Keeps t) {seg bit} : s.Keeps (t.segEv seg bit) := h.ev
theorem State.Keeps.stErr (h : s.Keeps t) {seg st kind} : s.Keeps (t.stErr seg st kind) := .ite h.sat.segEv h.sat.setRmt.evLevel
theorem State.Keeps.setSvc (h : s.Keeps t) {g k l} : s.Keeps (t.setSvc g k l) := h.others.bitTo

/-! Ncp0: the answers of NCP. -/

theorem State.Keeps.modNcp (h : s.Keeps t) {f} : s.Keeps (t.modNcp f) := h.others

theorem State.Keeps.ncpAnswer (h : s.Keeps t) {w status flags offset total pay} :
    s.Keeps (t.ncpAnswer w status flags offset total pay) := by
  unfold State.ncpAnswer
  split
  · exact h
  · exact h.out.modNcp

theorem State.Keeps.ncpDone (h : s.Keeps t) {w status pay} : s.Keeps (t.ncpDone w status pay) := by
  unfold State.ncpDone
  split
  · exact h.ncpAnswer
  · exact h

theorem State.Keeps.castReply (h : s.Keeps t) : s.Keeps t.castReply := h.ncpDone.modNcp
theorem State.Keeps.sealReply (h : s.Keeps t) {ok} : s.Keeps (t.sealReply ok) := h.ncpDone.modNcp
theorem State.Keeps.verifyReply (h : s.Keeps t) {check} : s.Keeps (t.verifyReply check) := .modNcp <| .ite h.ncpDone h.ncpDone
theorem State.Keeps.forceReplied (h : s.Keeps t) {status} : s.Keeps (t.forceReplied status) := h.ncpDone.modNcp

theorem State.Keeps.imgReply (h : s.Keeps t) {ok} : s.Keeps (t.imgReply ok) := by
  unfold State.imgReply
  refine .modNcp ?_
  split
  · exact h.ncpAnswer
  · exact h

theorem State.Keeps.ncpAlone (h : s.Keeps t) : s.Keeps t.ncpAlone := .ite (.sealReply <| .ite h.forceReplied h) (.ite h.forceReplied h)
theorem State.Keeps.uplinkDone (h : s.Keeps t) {g k mtype len} : s.Keeps (t.uplinkDone g k mtype len) :=
  .ite h (.modNcp <| .ite h.ncpDone h.ncpDone)

/-! Works: which ply or event task has the lanes. -/

theorem State.Keeps.xeView (h : s.Keeps t) : s.Keeps t.xeView := .wr <| .wr <| h.each fun _ _ hu => hu.wr.put.put
theorem State.Keeps.captureOn (h : s.Keeps t) {k rising} : s.Keeps (t.captureOn k rising) := .ite h.wr.sat h.wr2.wr2.wr.put.wr.ev
theorem State.Keeps.captureSource (h : s.Keeps t) {src} : s.Keeps (t.captureSource src) := h.each fun _ _ hu => .ite hu.captureOn hu

theorem State.Keeps.beginFreeze (h : s.Keeps t) {w} : s.Keeps (t.beginFreeze w) := by
  unfold State.beginFreeze
  extract_lets _ _ _ u1 u2 _ u3
  have h1 : s.Keeps u1 := h.awaitClk.applyForces.setPly
  have h2 : s.Keeps u2 := .ite h1.captureSource h1
  have h3 : s.Keeps u3 := .ite h2.others h2
  exact .ite h3.others h3.others.fWr.fWr

theorem State.Keeps.beginCommit (h : s.Keeps t) {w} : s.Keeps (t.beginCommit w) := .setPly <| .ite (.wr (.ite h h.wr)) (.ite h h.wr)
theorem State.Keeps.ackWork (h : s.Keeps t) {w} : s.Keeps (t.ackWork w) := .ite h.wr.setPly h

theorem State.Keeps.resume (h : s.Keeps t) {w} : s.Keeps (t.resume w) := by
  unfold State.resume
  split
  · exact h.modPly
  · exact h

theorem State.Keeps.promoteIn (h : s.Keeps t) {ws} : s.Keeps (t.promoteIn ws) := by
  induction ws with
  | nil => exact h
  | cons w ws ih => exact .ite h.resume (.ite h.beginFreeze (.ite h.beginCommit (.ite h ih)))

theorem State.Keeps.waitClock (h : s.Keeps t) {w} : s.Keeps (t.waitClock w) := by
  unfold State.waitClock
  refine .ite h ?_
  split
  · exact h.setPly
  · exact h.setPly
  · exact h

theorem State.Keeps.promote (h : s.Keeps t) : s.Keeps t.promote := h.promoteIn.each fun _ _ hu => hu.waitClock
theorem State.Keeps.abandon (h : s.Keeps t) {w} : s.Keeps (t.abandon w) :=
  .ite h (.ite (.others <| .setSeq <| .setPly <| .ite h.landAll h) (.setSeq <| .setPly <| .ite h.landAll h))
theorem State.Keeps.abandonAll (h : s.Keeps t) {keep} : s.Keeps (t.abandonAll keep) := h.each fun _ _ hu => .ite hu hu.abandon
theorem State.Keeps.reanchor (h : s.Keeps t) {n} : s.Keeps (t.reanchor n) := h.sat.modPly
theorem State.Keeps.anchorNew (h : s.Keeps t) {n} : s.Keeps (t.anchorNew n) := h.modPly.reanchor
theorem State.Keeps.advanceTrigger (h : s.Keeps t) {n} : s.Keeps (t.advanceTrigger n) := h.modPly

/-! Modes: changes of the major mode and what they carry with them. -/

theorem State.Keeps.sealCancel (h : s.Keeps t) : s.Keeps t.sealCancel := .ite (.ite h.wr.sat.ev.sealReply.fwdSend h.wr.sat.ev.sealReply) h
theorem State.Keeps.sendHandover (h : s.Keeps t) {abrupt} : s.Keeps (t.sendHandover abrupt) := h.each fun _ _ hu => hu.out.seqTaken
theorem State.Keeps.setClaim (h : s.Keeps t) {c} : s.Keeps (t.setClaim c) := h.wr2

theorem State.Keeps.setPsync (h : s.Keeps t) {b} : s.Keeps (t.setPsync b) := by
  unfold State.setPsync
  refine .ite h ?_
  extract_lets _ u1 u2
  have h1 : s.Keeps u1 := .ite h.put (h.put.each fun _ _ hu => hu.ackWork)
  have h2 : s.Keeps u2 := .ite h1 h1.ncpAlone
  exact .ite (.ite h2.err h2.setClaim) h2

theorem State.Keeps.setSync (h : s.Keeps t) {b} : s.Keeps (t.setSync b) := h.put.put
theorem State.Keeps.joinFails (h : s.Keeps t) {cause} : s.Keeps (t.joinFails cause) := .ite h.wr.wr.others h
theorem State.Keeps.sendKeys (h : s.Keeps t) : s.Keeps t.sendKeys := .ite h.fwdSend.fwdSend h
theorem State.Keeps.firstKeys (h : s.Keeps t) : s.Keeps t.firstKeys := .ite h h.draw.draw.modNcp.sendKeys
theorem State.Keeps.joinDone (h : s.Keeps t) : s.Keeps t.joinDone := .sendKeys <| .ev <| h.wr.setPsync.others.each fun _ _ hu => hu.modPly
theorem State.Keeps.castEnd (h : s.Keeps t) {result} : s.Keeps (t.castEnd result) := .castReply <| .others <| .wr (.ite h h.wr)
theorem State.Keeps.dropClaim (h : s.Keeps t) : s.Keeps t.dropClaim := .ite h (.others <| .wr <| .setClaim <| .ite h.castEnd h)
theorem State.Keeps.seatRelease (h : s.Keeps t) {wasRow6} : s.Keeps (t.seatRelease wasRow6) := .ite h.others h

theorem State.Keeps.leaveLead (h : s.Keeps t) {castled keep} : s.Keeps (t.leaveLead castled keep) :=
  .ite (.others <| .setClaim <| .wr <| .ncpAlone <| .joinFails <| .ite (h.each fun _ _ hu => hu.wr) (.sealCancel <| .abandonAll <| .ite
    h.sendHandover.castEnd h.castEnd)) (.wr <| .others <| .setClaim <| .wr <| .ncpAlone <| .joinFails <| .ite (h.each fun _ _ hu => hu.wr)
    (.sealCancel <| .abandonAll <| .ite h.sendHandover.castEnd h.castEnd))

theorem State.Keeps.setMode (h : s.Keeps t) {target cause castled keep} : s.Keeps (t.setMode target cause castled keep) := by
  unfold State.setMode
  refine .ite (.ite h.wr.seatRelease h) ?_
  extract_lets _ _ u1 _ u2 u3 u4 u5 _ u6 _ u7
  have h1 : s.Keeps u1 := .ite h.wr.wrap.wr h.wr.wrap
  have h2 : s.Keeps u2 := .ite h1.wr.bookSuccess h1.wr
  have h3 : s.Keeps u3 := .ite h2.wr h2
  have h4 : s.Keeps u4 := .ite h3.leaveLead (.ite h3 h3.dropClaim)
  have h5 : s.Keeps u5 := .ite h4.put h4.wr.wr
  have h6 : s.Keeps u6 := .ite h5.wr.others h5.wr
  have h7 : s.Keeps u7 := .ite h6 h6.others
  exact h7.ev.seatRelease

theorem State.Keeps.cleared (h : s.Keeps t) {powerOn lost} : s.Keeps (t.cleared powerOn lost) := by
  cases lost with
  | false => exact h.filterRegs
  | true => exact ⟨h.1, fun hs => ⟨smWf_filter _ _ (h.2 hs).1, smRising_filter _ (h.2 hs).2⟩⟩

theorem State.Keeps.aonRise (h : s.Keeps t) : s.Keeps t.aonRise := .ite h.sat h.sat.wr.ev
theorem State.Keeps.bkLevels (h : s.Keeps t) : s.Keeps t.bkLevels := h.wr.wr.wr

theorem State.Keeps.resetAssert (h : s.Keeps t) {causes} : s.Keeps (t.resetAssert causes) :=
  .ev <| .wr <| .wr <| .wr <| .ite (.ite h.cleared.bkLevels.aonRise h.cleared.bkLevels) (.others <| .ite h.cleared.bkLevels.aonRise
    h.cleared.bkLevels)

theorem State.Keeps.powerOff (h : s.Keeps t) : s.Keeps t.powerOff := h.cleared.bkLevels.wr.wr.others

theorem State.Keeps.castleRequest (h : s.Keeps t) {forced} : s.KeepsOpt (t.castleRequest forced) := by
  unfold State.castleRequest
  split
  · exact .some h.wr.others.plSendAll
  · exact .none

theorem State.Keeps.recordFault (h : s.Keeps t) {cause unit info} : s.Keeps (t.recordFault cause unit info) :=
  .sat <| .bitTo <| .ite h.wr.wr.wr.wr2.wr.others h
theorem State.Keeps.teOutputs (h : s.Keeps t) {dq rx} : s.Keeps (t.teOutputs dq rx) := .ite h.wr.wr2.ev h.wr.wr2
theorem State.Keeps.driveSafe (h : s.Keeps t) : s.Keeps t.driveSafe := h.wr.wr.wr.wr.teOutputs.wr.ev

theorem State.Keeps.faultHold (h : s.Keeps t) : s.Keeps t.faultHold := by
  unfold State.faultHold
  exact .ite (.sealReply <| .wr <| .sealCancel <| .abandonAll <| .setMode <| .dropClaim <| .ite (.castEnd (.ite h.wr h)) (.ite h.wr h))
    (.sealCancel <| .abandonAll <| .setMode <| .dropClaim <| .ite (.castEnd (.ite h.wr h)) (.ite h.wr h))

theorem State.Keeps.safetyFault (h : s.Keeps t) {cause kind unit info} : s.Keeps (t.safetyFault cause kind unit info) := by
  unfold State.safetyFault
  refine .ite h ?_
  refine .ite (.ite h.recordFault h) ?_
  dsimp only
  split
  · exact h.recordFault.driveSafe.faultHold.others.sat.resetAssert
  · exact .ite h.recordFault.driveSafe.faultHold.others.sat.resetAssert h.recordFault.driveSafe.faultHold.others
  · exact .ite h.recordFault.driveSafe.faultHold.others.sat.resetAssert h.recordFault.driveSafe.faultHold.others

theorem State.Keeps.escReact (h : s.Keeps t) : s.Keeps t.escReact := .ite h.others.ev.safetyFault h

/-! Half: a loaded program. -/

theorem State.Keeps.stagedView (h : s.Keeps t) : s.Keeps t.stagedView := h.put
theorem State.Keeps.loadActive (h : s.Keeps t) {h'} : s.Keeps (t.loadActive h') :=
  .stagedView <| .wr <| .wr <| .wr <| .wr <| .wr <| .wr <| .wr <| .wr <| h.wr.wr.each fun _ _ hu => hu.wr.wr
theorem State.Keeps.execActivate (h : s.Keeps t) {m sel} : s.KeepsRes (execActivate m sel t) :=
  .next <| h.onPage fun _ hu => .ite hu.wr.cfgBump (.ite hu.wr.cfgBump (.ite hu.wr.cfgBump.others hu.wr.cfgBump.err))
theorem State.Keeps.activated (h : s.Keeps t) {h'} : s.Keeps (t.activated h') := .ite h.wr.put.loadActive h.wr.put.err.stagedView
theorem State.Keeps.execActivationComplete (h : s.Keeps t) : s.KeepsRes (execActivationComplete t) :=
  .next <| .ite h (.ite h.others.activated.joinFails h.others.activated)

/-! Te: the trip engine. -/

theorem State.Keeps.execTePass (h : s.Keeps t) {di} : s.KeepsRes (execTePass di t) := by
  unfold Machine.execTePass
  refine .next ?_
  refine .ite h ?_
  extract_lets _ _ _ _ _ _ _ _ _ _ u1 u2 _ _ u3
  have h1 : s.Keeps u1 := .ite h.awaitMt.wr.ev h.awaitMt
  have h2 : s.Keeps u2 := h1.each fun _ _ hu => .ite hu.ev hu
  have h3 : s.Keeps u3 := h2.teOutputs.wr2.wr2.wr.wr.wrap
  exact h3.others

theorem State.Keeps.execTeTimerExpiry (h : s.Keeps t) {k} : s.KeepsRes (execTeTimerExpiry k t) := .next <| .ite h.awaitMt h
theorem State.Keeps.burstsEnd (h : s.Keeps t) : s.Keeps t.burstsEnd := h.wr.others

theorem State.Keeps.teFault (h : s.Keeps t) {cause} : s.Keeps (t.teFault cause) := by
  unfold State.teFault
  exact h.sat.toFault.burstsEnd.teOutputs.ev.safetyFault

theorem State.Keeps.execTeCompareMismatch (h : s.Keeps t) : s.KeepsRes (execTeCompareMismatch t) := .next <| .ite h.teFault h
theorem State.Keeps.execTeBurstComplete (h : s.Keeps t) {sig} : s.KeepsRes (execTeBurstComplete sig t) :=
  .next <| .ite h (.ite h.wr.wrap.wr.put.others h.wr.teFault)
theorem State.Keeps.teScan (h : s.Keeps t) : s.Keeps t.teScan := .ite h.teFault h
theorem State.Keeps.execTeLock (h : s.Keeps t) {_m key unlock} : s.KeepsRes (execTeLock _m key unlock t) :=
  .next <| h.onPage fun _ hu => .ite hu.err (.ite hu.err (.ite hu.err (.ite hu.wr.err hu.wr.others)))
theorem State.Keeps.execTeLockComplete (h : s.Keeps t) : s.KeepsRes (execTeLockComplete t) := .next <| .ite h h.wr.wr.wr.wr.others.wr.ev
theorem State.Keeps.teUnlocked (h : s.Keeps t) : s.Keeps t.teUnlocked := .ite h.wr.burstsEnd.teOutputs.ev h
theorem State.Keeps.execTeUnlock (h : s.Keeps t) {_m key} : s.KeepsRes (execTeUnlock _m key t) :=
  .next <| h.onPage fun _ hu => .ite hu.err (.ite hu.err hu.teUnlocked)
theorem State.Keeps.teData (h : s.Keeps t) {write v} : s.Keeps (t.teData write v).2 :=
  .wrap <| .ite (.wrap <| .ite h (.ite h.err (.ite h.err (.ite h.err h.others)))) (.ite h (.ite h.err (.ite h.err (.ite h.err h.others))))
theorem State.Keeps.execTeCfgdataAccess (h : s.Keeps t) {_m write value} : s.KeepsRes (execTeCfgdataAccess _m write value t) :=
  .next <| .ite (h.onPage fun _ hu => hu.teData) (h.onRead fun _ hu => hu.teData)

/-! Wire: the Ramette wire. -/

theorem State.Keeps.setRmc (h : s.Keeps t) {r} : s.Keeps (t.setRmc r) := h.others
theorem State.Keeps.modRmc (h : s.Keeps t) {f} : s.Keeps (t.modRmc f) := h.others
theorem State.Keeps.modStn (h : s.Keeps t) {g k f} : s.Keeps (t.modStn g k f) := h.setStn
theorem State.Keeps.modRmt (h : s.Keeps t) {g f} : s.Keeps (t.modRmt g f) := h.setRmt
theorem State.Keeps.setGuard (h : s.Keeps t) {g b x} : s.Keeps (t.setGuard g b x) := h.modRmt
theorem State.Keeps.guardCut (h : s.Keeps t) {g b kind} : s.Keeps (t.guardCut g b kind) := h.sat.wr.segEv
theorem State.Keeps.guardBlock (h : s.Keeps t) {g b} : s.Keeps (t.guardBlock g b) := h.guardCut.bitTo.setGuard
theorem State.Keeps.guardSeed (h : s.Keeps t) {g b c t'} : s.Keeps (t.guardSeed g b c t') := h.setGuard
theorem State.Keeps.guardPulse (h : s.Keeps t) {g b c t' len} : s.Keeps (t.guardPulse g b c t' len) :=
  .ite h.setGuard (.ite h.setGuard h.guardBlock)
theorem State.Keeps.transmit (h : s.Keeps t) {g b short due close bytes} : s.Keeps (t.transmit g b short due close bytes) :=
  .ite h.awaitMt.modRmt.out (.ite h.awaitMt.guardCut h.awaitMt.guardCut.out)
theorem State.Keeps.sendSlot (h : s.Keeps t) {g b n e type flags payload} : s.Keeps (t.sendSlot g b n e type flags payload) := h.transmit
theorem State.Keeps.takeEcho (h : s.Keeps t) {g b e} : s.Keeps (t.takeEcho g b e) := h.modRmt

theorem State.Keeps.learnPath (h : s.Keeps t) {g k b} : s.Keeps (t.learnPath g k b) := by
  unfold State.learnPath
  dsimp only
  split
  · exact .ite h h.wr
  · exact h

theorem State.Keeps.remeasure (h : s.Keeps t) {g b} : s.Keeps (t.remeasure g b) :=
  .ite h.modRmt (.ite h.modRmt (h.modRmt.wr.each fun _ _ hu => hu.learnPath))
theorem State.Keeps.queueMsg (h : s.Keeps t) {g k mtype bytes} : s.Keeps (t.queueMsg g k mtype bytes) := h.modStn.setSvc
theorem State.Keeps.tellEcho (h : s.Keeps t) {g} : s.Keeps (t.tellEcho g) := .ite (h.modRmt.each fun _ _ hu => hu.queueMsg) h

/-! Saf: SAF. -/

theorem State.Keeps.finding (h : s.Keeps t) {note cause kind unit info} (hnote : ∀ u, s.Keeps u → s.Keeps (note u)) :
    s.Keeps (t.finding note cause kind unit info) :=
  .safetyFault <| .ite (hnote _ h) h

theorem State.Keeps.execCoreLockstepError (h : s.Keeps t) {pair info} : s.KeepsRes (execCoreLockstepError pair info t) :=
  .next <| h.finding fun _ hu => hu.ev
theorem State.Keeps.execUncorrectableEcc (h : s.Keeps t) {site addr} : s.KeepsRes (execUncorrectableEcc site addr t) :=
  .next <| h.finding fun _ hu => hu.ev

theorem State.Keeps.execClockMonitorFault (h : s.Keeps t) {clock} : s.KeepsRes (execClockMonitorFault clock t) := by
  unfold Machine.execClockMonitorFault
  refine .next ?_
  dsimp only
  split
  · exact .ite h.bitTo.ev.guardBlock h
  · exact h.finding fun _ hu => hu.bitTo.ev.ev
  · exact h.finding fun _ hu => hu.bitTo.ev

theorem State.Keeps.execVoltageMonitorFault (h : s.Keeps t) {rail deep} : s.KeepsRes (execVoltageMonitorFault rail deep t) :=
  .next <| .ite h (.ite (.resetAssert <| h.finding fun _ hu => hu.bitTo.evLevel) (h.finding fun _ hu => hu.bitTo.evLevel))
theorem State.Keeps.execTemperatureFault (h : s.Keeps t) : s.KeepsRes (execTemperatureFault t) := .next h.safetyFault
theorem State.Keeps.execSafeStateReadbackFault (h : s.Keeps t) : s.KeepsRes (execSafeStateReadbackFault t) := .next h.safetyFault
theorem State.Keeps.execSafChannelMismatch (h : s.Keeps t) : s.KeepsRes (execSafChannelMismatch t) := .next h.safetyFault
theorem State.Keeps.execSafInject (h : s.Keeps t) {_m} : s.KeepsRes (execSafInject _m t) :=
  .next <| h.onPage fun _ hu => .ite hu.safetyFault hu.err

theorem State.Keeps.passBegins (h : s.Keeps t) : s.Keeps t.passBegins := by
  unfold State.passBegins
  refine .others ?_
  split
  · exact h.awaitMt
  · exact h

theorem State.Keeps.execDiagPassStart (h : s.Keeps t) : s.KeepsRes (execDiagPassStart t) :=
  .next <| .ite h (.ite (.ite h.passBegins.sat.sat.ev.others.safetyFault h.passBegins.sat.sat.ev.others) (.ite
    h.passBegins.others.wr.others h.passBegins.others))

theorem State.Keeps.crcScan (h : s.Keeps t) : s.Keeps t.crcScan :=
  .ite (.ite (.wr <| .ite h.wrap.sat.wr.stagedView h.wrap) (.safetyFault <| .sat <| .wr <| .ite h.wrap.sat.wr.stagedView h.wrap)) (.ite
    h.wrap.sat.wr.stagedView h.wrap)

theorem State.Keeps.execDiagPassComplete (h : s.Keeps t) {durUs checkersOk} : s.KeepsRes (execDiagPassComplete durUs checkersOk t) := by
  unfold Machine.execDiagPassComplete
  refine .next ?_
  refine .ite h ?_
  extract_lets _ _ u1 _ _ u2 u3
  have h1 : s.Keeps u1 := .ite h.awaitMt.wrap.wr.ev h.awaitMt.wrap.wr.ev.wr
  have h2 : s.Keeps u2 := .ite h1.others.crcScan h1.others
  have h3 : s.Keeps u3 := .ite h2.teScan h2
  exact .ite h3.safetyFault h3

theorem State.Keeps.execEccCountSecond (h : s.Keeps t) {count} : s.KeepsRes (execEccCountSecond count t) :=
  .next <| .ite h (.ite h.awaitMt.others.draw.draw.sat.sat.wr.ev h.awaitMt.others.draw.draw.sat.sat.wr)
theorem State.Keeps.setWd (h : s.Keeps t) {n w} : s.Keeps (t.setWd n w) := h.others
theorem State.Keeps.wdFault (h : s.Keeps t) {n} : s.Keeps (t.wdFault n) := h.safetyFault
theorem State.Keeps.wdService (h : s.Keeps t) {n v} : s.Keeps (t.wdService n v) :=
  .ite h (.ite (.ite h.setWd h.wdFault) (.ite h.wdFault h.setWd))
theorem State.Keeps.execWatchdogService (h : s.Keeps t) {n value} : s.KeepsRes (execWatchdogService n value t) :=
  .next <| h.onPage fun _ hu => hu.wdService
theorem State.Keeps.execWatchdogPreExpiry (h : s.Keeps t) {n} : s.KeepsRes (execWatchdogPreExpiry n t) := .next <| .ite h.awaitMt.setWd.ev h
theorem State.Keeps.execWatchdogExpiry (h : s.Keeps t) {n} : s.KeepsRes (execWatchdogExpiry n t) := .next <| .ite h.awaitMt.wdFault h
theorem State.Keeps.execWatchdogKeyTimeout (h : s.Keeps t) {n} : s.KeepsRes (execWatchdogKeyTimeout n t) :=
  .next <| .ite h.awaitMt.wdFault h
theorem State.Keeps.wdPause (h : s.Keeps t) {n} : s.Keeps (t.wdPause n) := h.setWd.wr
theorem State.Keeps.wdResume (h : s.Keeps t) {n} : s.Keeps (t.wdResume n) := h.setWd.wr

/-! Dbg: the debug unit. -/

theorem State.Keeps.drawChal (h : s.Keeps t) : s.Keeps t.drawChal := .others <| h.each fun _ _ hu => hu.draw.wr
theorem State.Keeps.execDbgNewchal (h : s.Keeps t) {_m} : s.KeepsRes (execDbgNewchal _m t) := .next <| h.onPage fun _ hu => hu.drawChal
theorem State.Keeps.dbgTry (h : s.Keeps t) : s.Keeps t.dbgTry :=
  .ite h.others.err.ev (.ite h.others.err.ev (.ite h.others.wr.ev h.others.sat.err.ev))
theorem State.Keeps.execDbgUnlock (h : s.Keeps t) {_m} : s.KeepsRes (execDbgUnlock _m t) := .next <| h.onPage fun _ hu => hu.dbgTry
theorem State.Keeps.execDbgRelock (h : s.Keeps t) {_m} : s.KeepsRes (execDbgRelock _m t) := .next <| h.onPage fun _ hu => hu.wr
theorem State.Keeps.dbgWhen (h : s.Keeps t) {f} (hf : ∀ u, s.Keeps u → s.Keeps (f u)) : s.Keeps (t.dbgWhen f) := .ite (hf _ h) h.err
theorem State.Keeps.execDbgReset (h : s.Keeps t) {_m} : s.KeepsRes (execDbgReset _m t) :=
  .next <| h.onPage fun _ hu => hu.dbgWhen fun _ hu1 => hu1.resetAssert
theorem State.Keeps.dbgHalts (h : s.Keeps t) {cores} : s.Keeps (t.dbgHalts cores) :=
  .ite h (.ev <| h.each fun _ _ hu => .ite (.ite hu.out hu.out.bitTo.wdPause) hu)
theorem State.Keeps.dbgResumes (h : s.Keeps t) {cores} : s.Keeps (t.dbgResumes cores) := h.each fun _ _ hu => .ite hu.bitTo.wdResume hu
theorem State.Keeps.execDbgHalt (h : s.Keeps t) {_m cores} : s.KeepsRes (execDbgHalt _m cores t) :=
  .next <| h.onPage fun _ hu => hu.dbgWhen fun _ hu1 => hu1.dbgHalts
theorem State.Keeps.execDbgResume (h : s.Keeps t) {_m cores} : s.KeepsRes (execDbgResume _m cores t) :=
  .next <| h.onPage fun _ hu => hu.dbgWhen fun _ hu1 => hu1.dbgResumes

/-! Gate: the physical address map. -/

theorem State.Keeps.stagedTouched (h : s.Keeps t) : s.Keeps t.stagedTouched := .ite h.wr.wr h
theorem State.Keeps.gateLevels (h : s.Keeps t) : s.Keeps t.gateLevels := h.evLevel.evLevel.evLevel.evLevel.evLevel.evLevel
theorem State.Keeps.fltRecord (h : s.Keeps t) {g m priv k a0 a cause} : s.Keeps (t.fltRecord g m priv k a0 a cause) :=
  .gateLevels <| .ite h.sat.wr h.sat.wr2.wr.put.wr.wr.put.wr.put.wr
theorem State.Keeps.decRecord (h : s.Keeps t) {m k a} : s.Keeps (t.decRecord m k a) := .gateLevels <| .ite h.sat.wr h.sat.wr2.wr.wr.wr
theorem State.Keeps.dbgRefused (h : s.Keeps t) {a} : s.Keeps (t.dbgRefused a) := .ite h.sat.ev h.sat.ev.wr2.wr
theorem State.Keeps.dbgRefusal (h : s.Keeps t) {a} : s.Keeps (t.dbgRefusal a) := h.dbgRefused.ev

theorem State.Keeps.refusal (h : s.Keeps t) {m priv k a0 x5} : s.Keeps (t.refusal m priv k a0 x5) := by
  unfold State.refusal
  split
  · exact h
  · exact h.decRecord
  · exact .ite h.dbgRefusal h.fltRecord

theorem State.Keeps.dma (h : s.Keeps t) {m k a n} : s.Keeps (t.dma m k a n).2 := by
  unfold State.dma
  split
  · exact h
  · exact h.refusal

theorem State.Keeps.gateWrite (h : s.Keeps t) {m} : s.Keeps (t.gateWrite m) :=
  .ite h.err (.ite h.err.ev (.ite h.err (.ite h.others.bitTo h.others)))
theorem State.Keeps.gateRead (h : s.Keeps t) {m} : s.Keeps (t.gateRead m) := h.wr.wr.wr.wr.wr.wr.wr.wr.wr.put.put.put.put
theorem State.Keeps.execGateCmdWrite (h : s.Keeps t) {m} : s.KeepsRes (execGateCmdWrite m t) := .next <| h.onPage fun _ hu => hu.gateWrite
theorem State.Keeps.execGateCmdRead (h : s.Keeps t) {m} : s.KeepsRes (execGateCmdRead m t) := .next <| h.onPage fun _ hu => hu.gateRead

/-! Target: what an access that its gate allows does at a memory target. -/

theorem State.Keeps.answerBus (h : s.Keeps t) {data refused memtype share} : s.Keeps (t.answerBus data refused memtype share) := h.others

theorem State.Keeps.stationStore (h : s.Keeps t) {a bs} : s.Keeps (t.stationStore a bs) := by
  induction bs generalizing t a with
  | nil => exact h
  | cons b bs ih =>
    unfold State.stationStore
    exact ih (.ite h h.wb)

theorem State.Keeps.memStore (h : s.Keeps t) {m a bs} : s.Keeps (t.memStore m a bs) := by
  unfold State.memStore
  refine .ite h ?_
  refine .ite h.others ?_
  refine .ite h.iStore.tap ?_
  refine .ite h.stationStore ?_
  refine .ite (.ite h.err h.wbs) ?_
  split
  · exact .wbs <| .ite h h.stagedTouched
  · exact h.wbs

theorem State.Keeps.memLoad (h : s.Keeps t) {a n} : s.Keeps (t.memLoad a n).2 := .ite₂ h.err h
theorem State.Keeps.dmaStore (h : s.Keeps t) {m a bs} : s.Keeps (t.dmaStore m a bs).2 := .ite h.dma.memStore.escReact h.dma
theorem State.Keeps.dmaLoad (h : s.Keeps t) {m a n} : s.Keeps (t.dmaLoad m a n).2 := .ite₂ h.dma.memLoad h.dma
theorem State.Keeps.accessRefused (h : s.Keeps t) {x v} : s.Keeps (t.accessRefused x v) := h.refusal.others
theorem State.Keeps.accessMem (h : s.Keeps t) {x memtype share} : s.Keeps (t.accessMem x memtype share) :=
  .answerBus <| .ite (.memStore <| .ite₂ h.memLoad h) (.ite₂ h.memLoad h)

theorem State.Keeps.waitedAccesses (h : s.Keeps t) : s.Keeps t.waitedAccesses := by
  unfold State.waitedAccesses
  refine h.others.each fun _ _ hu => ?_
  split
  · exact hu.accessMem.escReact
  · exact hu.accessRefused

/-! Life: the life of the cartridge. -/

theorem State.Keeps.lifeView (h : s.Keeps t) : s.Keeps t.lifeView :=
  .ite (.ite (.ev <| .wr <| .ite h.wr.wr.ev.setCrt h.wr.wr) (.ite h.wr.wr.ev.setCrt h.wr.wr)) h
theorem State.Keeps.ckDrop (h : s.Keeps t) : s.Keeps t.ckDrop := h.setCrt.wr

/-! Bkd: the backup domain. -/

theorem State.Keeps.bkPulse (h : s.Keeps t) {bit} : s.Keeps (t.bkPulse bit) := .ite h.ev h
theorem State.Keeps.bkHold (h : s.Keeps t) {bit} : s.Keeps (t.bkHold bit) := .ite h.evLevel.wr h
theorem State.Keeps.alarms (h : s.Keeps t) : s.Keeps t.alarms := h.each fun _ _ hu => .ite hu.bitTo.bkHold hu
theorem State.Keeps.setCal (h : s.Keeps t) {c at_ prevSub} : s.Keeps (t.setCal c at_ prevSub) := h.others
theorem State.Keeps.execRtcSecond (h : s.Keeps t) : s.KeepsRes (execRtcSecond t) :=
  .next <| .lifeView <| .bkPulse <| .alarms <| .ite h.awaitMt.setCal.wr h.awaitMt.setCal
theorem State.Keeps.bkCommands (h : s.Keeps t) {v} : s.Keeps (t.bkCommands v) :=
  .ite (.others <| .wr <| .ite (.wr <| .wr (.ite h.wr h)) (.ite h.wr h)) (.ite (.wr <| .wr (.ite h.wr h)) (.ite h.wr h))

theorem State.Keeps.bkTake (h : s.Keeps t) : s.Keeps t.bkTake := by
  unfold State.bkTake
  split
  · exact h
  · exact .ite h.wr.others.bkCommands h.wr.others.wordWrite.evLevel.evLevel

theorem State.Keeps.bkCommit (h : s.Keeps t) : s.Keeps t.bkCommit := by
  unfold State.bkCommit
  split
  · exact h
  · exact h.setCal.others.wr.wr.alarms.lifeView

theorem State.Keeps.bkStall (h : s.Keeps t) : s.Keeps t.bkStall.2 := .ite₂ h <| .ite h.awaitMt.bkTake.bkCommit h.awaitMt.bkTake
theorem State.Keeps.bkWrite (h : s.Keeps t) {stalled off v} : s.Keeps (t.bkWrite stalled off v) := .ite h.wr.others.bkTake h.wr.others
theorem State.Keeps.execBkWriteTaken (h : s.Keeps t) : s.KeepsRes (execBkWriteTaken t) := .next <| .ite h h.awaitMt.bkTake
theorem State.Keeps.bkCommand (h : s.Keeps t) {v} : s.Keeps (t.bkCommand v) :=
  .ite (.ite h.bkStall.err h.bkStall) (.bkWrite <| .ite h.bkStall.err h.bkStall)
theorem State.Keeps.execRtcSecWrite (h : s.Keeps t) {_m value} : s.KeepsRes (execRtcSecWrite _m value t) :=
  .next <| h.onPage fun _ hu => .ite hu.bkStall.err (.ite hu.bkStall.err hu.bkStall.wr.others)
theorem State.Keeps.execRtcCommit (h : s.Keeps t) : s.KeepsRes (execRtcCommit t) := .next <| .ite h h.awaitMt.bkCommit
theorem State.Keeps.rtcSnap (h : s.Keeps t) {m} : s.Keeps (t.rtcSnap m) := h.wr.wr.wr.wr.wr.wr.wr.wr.wr.wr2
theorem State.Keeps.execRtcSnapshot (h : s.Keeps t) {m} : s.KeepsRes (execRtcSnapshot m t) := .next <| h.onRead fun _ hu => hu.rtcSnap
theorem State.Keeps.execRtcTrim (h : s.Keeps t) : s.KeepsRes (execRtcTrim t) := .next h.others
theorem State.Keeps.execEviEdge (h : s.Keeps t) {k rising} : s.KeepsRes (execEviEdge k rising t) :=
  .next <| .ite h.put.wr.wr.wr.wrap.bkPulse h.put
theorem State.Keeps.opsec (h : s.Keeps t) : s.Keeps t.opsec := h.awaitMt.sat.others
theorem State.Keeps.execBkValidate (h : s.Keeps t) {_m} : s.KeepsRes (execBkValidate _m t) := .next <| h.onPage fun _ hu => hu.bkCommand
theorem State.Keeps.execBkChangeover (h : s.Keeps t) {nah} : s.KeepsRes (execBkChangeover nah t) :=
  .next <| .bkPulse <| .wrap <| .wr <| .wr (.ite h.sat h)

theorem State.Keeps.execBackupStateLost (h : s.Keeps t) : s.KeepsRes (execBackupStateLost t) := by
  unfold Machine.execBackupStateLost
  extract_lets _ u1
  have h1 : s.Keeps u1 := h.filterRegs.others
  exact .next <| .ite h1.wr.evLevel.evLevel.evLevel.ev h1

theorem State.Keeps.execCoulombTake (h : s.Keeps t) {_m} : s.KeepsRes (execCoulombTake _m t) := .next <| h.onPage fun _ hu => hu.bkCommand
theorem State.Keeps.execCellLoadTest (h : s.Keeps t) {_m} : s.KeepsRes (execCellLoadTest _m t) := .next <| h.onPage fun _ hu => hu.bkCommand
theorem State.Keeps.execLoadTestComplete (h : s.Keeps t) {mv nah} : s.KeepsRes (execLoadTestComplete mv nah t) :=
  .next <| .ite h (.ite h.awaitMt.wr.wr.sat.wr.bkHold h.awaitMt.wr.wr.sat.wr.evLevel)

/-! SegOff: what the end of a segment, of the cluster time and of a station's OPERATE does. -/

theorem State.Keeps.setCstate (h : s.Keeps t) {c} : s.Keeps (t.setCstate c) := .ite h (h.wr.ev.each fun _ _ hu => hu.segEv)
theorem State.Keeps.rmcOff (h : s.Keeps t) : s.Keeps t.rmcOff := h.setCstate.wr.wr.wr.wr.wr.others
theorem State.Keeps.markLost (h : s.Keeps t) {g k} : s.Keeps (t.markLost g k) := h.each fun _ _ hu => hu.modPly

theorem State.Keeps.setStation (h : s.Keeps t) {g k st} : s.Keeps (t.setStation g k st) := by
  unfold State.setStation
  refine .ite h ?_
  extract_lets _ u1 u2 _ u3 _ u4 u5 u6
  have h1 : s.Keeps u1 := .ite h.wr.segEv.sat.segEv h.wr.segEv
  have h2 : s.Keeps u2 := .ite h1.wr h1
  have h3 : s.Keeps u3 := .ite h2.setStn h2
  have h4 : s.Keeps u4 := .ite h3.setStn h3
  have h5 : s.Keeps u5 := .ite h4.markLost h4
  have h6 : s.Keeps u6 := .ite h5.setSvc h5
  exact .ite h6.setSvc h6

theorem State.Keeps.segLeaves (h : s.Keeps t) {g} : s.Keeps (t.segLeaves g) :=
  .ite (.rmcOff <| .evLevel <| .wr <| .wr <| .setRmt <| h.each fun _ _ hu => hu.setStation.wr.setStn) (.evLevel <| .wr <| .wr <| .setRmt
    <| h.each fun _ _ hu => hu.setStation.wr.setStn)

/-! Pwr: PWR. -/

theorem State.Keeps.execFeedGood (h : s.Keeps t) : s.KeepsRes (execFeedGood t) := by
  unfold Machine.execFeedGood
  refine .next ?_
  refine .ite ?_ h
  refine .resetAssert ?_
  split
  · exact h.awaitMt
  · exact h

theorem State.Keeps.execAonSupplyLost (h : s.Keeps t) : s.KeepsRes (execAonSupplyLost t) := .next h.powerOff

theorem State.Keeps.execPowerFailWarning (h : s.Keeps t) : s.KeepsRes (execPowerFailWarning t) := by
  unfold Machine.execPowerFailWarning
  refine .next ?_
  refine .ite h ?_
  extract_lets u1 _ u2
  have h1 : s.Keeps u1 := .ite h h.awaitMt
  have h2 : s.Keeps u2 := h1.wr.sat.evLevel.ckDrop
  exact .ite h2.others.sealCancel.others (.ite (.getD h2.others.sealCancel.castleRequest h2.others.sealCancel.err) h2.others.sealCancel)

theorem State.Keeps.execPowerFailClear (h : s.Keeps t) : s.KeepsRes (execPowerFailClear t) := .next <| .ite h.wr.evLevel h

theorem State.Keeps.execPowerFailHold (h : s.Keeps t) : s.KeepsRes (execPowerFailHold t) :=
  .next <| .ite h (.ite (.others <| .wr <| .wr <| .wr <| .wr <| .ite (.ite h.awaitMt.wr h.awaitMt.wr.dropClaim.setMode.report)
    h.awaitMt.wr.dropClaim.setMode) (.wr <| .ite (.ite h.awaitMt.wr h.awaitMt.wr.dropClaim.setMode.report)
    h.awaitMt.wr.dropClaim.setMode))

theorem State.Keeps.supplyResetDue (h : s.Keeps t) : s.Keeps t.supplyResetDue := .ite h.resetAssert h
theorem State.Keeps.execFlushOnlyEnd (h : s.Keeps t) : s.KeepsRes (execFlushOnlyEnd t) :=
  .next <| .ite (.supplyResetDue <| .others <| .wr <| .wr <| .ite h.awaitMt h) h
theorem State.Keeps.execFeedsReturn (h : s.Keeps t) : s.KeepsRes (execFeedsReturn t) := .next <| .ite h.others.supplyResetDue h
theorem State.Keeps.execFeedLow (h : s.Keeps t) {feed low} : s.KeepsRes (execFeedLow feed low t) := .next h.put.evLevel
theorem State.Keeps.execFeedMeanUpdate (h : s.Keeps t) {p1 p2} : s.KeepsRes (execFeedMeanUpdate p1 p2 t) := .next h.wr.wr
theorem State.Keeps.execHoldupStoreCharged (h : s.Keeps t) : s.KeepsRes (execHoldupStoreCharged t) := .next h.others
theorem State.Keeps.setSeated (h : s.Keeps t) {c b} : s.Keeps (t.setSeated c b) := h.others
theorem State.Keeps.execSeatedOpen (h : s.Keeps t) {contact} : s.KeepsRes (execSeatedOpen contact t) :=
  .next <| .ite (.setSeated (.ite h.others h)) (.rbCut <| .others <| .setSeated (.ite h.others h))
theorem State.Keeps.execSeatedMade (h : s.Keeps t) {contact} : s.KeepsRes (execSeatedMade contact t) :=
  .next <| .ite (.others <| .ite h.setSeated.others h.setSeated) (.ite h.setSeated.others h.setSeated)

/-! Rec: event records. -/

theorem State.Keeps.setEr (h : s.Keeps t) {e} : s.Keeps (t.setEr e) := h.others
theorem State.Keeps.unitSet (h : s.Keeps t) {i first hi st} : s.Keeps (t.unitSet i first hi st) := h.wrLe.wrLe
theorem State.Keeps.erView (h : s.Keeps t) : s.Keeps t.erView := .wr <| .ite h.wr.put.put.wr (.ite h.wr.put.put h.wr.put.put.wr)
theorem State.Keeps.erDrop (h : s.Keeps t) {sev} : s.Keeps (t.erDrop sev) := .ev <| .ite h.sat h.sat
theorem State.Keeps.erStop (h : s.Keeps t) {sev} : s.Keeps (t.erStop sev) := h.wr.wr
theorem State.Keeps.erAccept (h : s.Keeps t) {r} : s.Keeps (t.erAccept r) := h.setEr.wrap.erView
theorem State.Keeps.erOwn (h : s.Keeps t) {code sev len body} : s.Keeps (t.erOwn code sev len body) := h.erAccept
theorem State.Keeps.erSubmit (h : s.Keeps t) {ws n} : s.Keeps (t.erSubmit ws n).2 :=
  .ite₂ h.err <| .ite₂ h.erDrop <| .ite₂ h.erDrop h.erAccept
theorem State.Keeps.fwRecord (h : s.Keeps t) : s.Keeps t.fwRecord := h.draw.erSubmit

/-! Crt: the cartridge. -/

theorem State.Keeps.mw (h : s.Keeps t) {off bs} : s.Keeps (t.mw off bs) := h.wbs
theorem State.Keeps.sbWrite (h : s.Keeps t) {state removed} : s.Keeps (t.sbWrite state removed) := h.mw
theorem State.Keeps.lifeWrite (h : s.Keeps t) : s.Keeps t.lifeWrite := h.mw
theorem State.Keeps.lifeLoad (h : s.Keeps t) {anew} : s.Keeps (t.lifeLoad anew) := h.fwWrite.fwWrite.fwWrite
theorem State.Keeps.ringWrite (h : s.Keeps t) : s.Keeps t.ringWrite := h.mw
theorem State.Keeps.execOpsecTick (h : s.Keeps t) : s.KeepsRes (execOpsecTick t) := .next <| .ite h (.ite h.opsec.ringWrite h.opsec)
theorem State.Keeps.ringAdopt (h : s.Keeps t) : s.Keeps t.ringAdopt := h.each fun _ _ hu => .ite hu.mw hu
theorem State.Keeps.frWrite (h : s.Keeps t) : s.Keeps t.frWrite := h.mw
theorem State.Keeps.jView (h : s.Keeps t) : s.Keeps t.jView := h.wr.wr

theorem State.Keeps.jAppend (h : s.Keeps t) {kind last ply sec sub lines body} :
    s.KeepsOpt (t.jAppend kind last ply sec sub lines body) := by
  unfold State.jAppend
  extract_lets
  split
  · exact .none
  · exact .some h.mw.setCrt

theorem State.Keeps.jBreak (h : s.Keeps t) {ply sec sub} : s.Keeps (t.jBreak ply sec sub) :=
  .jView <| .getD h.setCrt.wr.sat.jAppend h.setCrt.wr.sat

theorem State.Keeps.jBreakHeld (h : s.Keeps t) : s.Keeps t.jBreakHeld := by
  unfold State.jBreakHeld
  split
  · exact h
  · exact h.jBreak

theorem State.Keeps.ckStart (h : s.Keeps t) {slot begin_ format} : s.Keeps (t.ckStart slot begin_ format) := h.mw.setCrt.wr
theorem State.Keeps.crtUse (h : s.Keeps t) : s.Keeps t.crtUse := h.wr

theorem State.Keeps.ckFinish (h : s.Keeps t) {k end_} : s.Keeps (t.ckFinish k end_) :=
  .ite (.fwRecord <| .updView <| .crtUse <| .setCrt <| .jView <| .setCrt <| .ite h.mw.mw.wr.wr.wr.wr.wr h.mw.mw.wr.wr.wr.wr) (.setCrt <|
    .jView <| .setCrt <| .ite h.mw.mw.wr.wr.wr.wr.wr h.mw.mw.wr.wr.wr.wr)

theorem State.Keeps.execCheckpointComplete (h : s.Keeps t) : s.KeepsRes (execCheckpointComplete t) := by
  unfold Machine.execCheckpointComplete
  refine .next ?_
  split
  · exact h
  · exact .ite h (.ite h.mw.ckFinish h.mw.setCrt)

theorem State.Keeps.execCkptCommand (h : s.Keeps t) {_m} : s.KeepsRes (execCkptCommand _m t) :=
  .next <| h.onPage fun _ hu => .ite hu hu.setCrt

theorem State.Keeps.crtHand (h : s.Keeps t) {ply marks} : s.Keeps (t.crtHand ply marks) :=
  .ite (.ite h.setCrt.ckStart h.setCrt) (.ite (.ckStart <| .ite h.setCrt.setCrt.jBreakHeld h.setCrt.setCrt.jView) (.ite
    h.setCrt.setCrt.jBreakHeld h.setCrt.setCrt.jView))

theorem State.Keeps.jSealed (h : s.Keeps t) {ply} : s.Keeps (t.jSealed ply) := by
  unfold State.jSealed
  dsimp only
  split
  · split
    · exact .ite (.ckFinish <| .ite h.setCrt h.setCrt.wr) (.jView <| .ite h.setCrt h.setCrt.wr)
    · exact .jView <| .ite h.setCrt h.setCrt.wr
  · exact .jView <| .ite h.setCrt h.setCrt.wr

theorem State.Keeps.jTaken (h : s.Keeps t) {h' rest n} : s.Keeps (t.jTaken h' rest n) := .ite h.setCrt.jSealed h.setCrt.jView

theorem State.Keeps.jNext (h : s.Keeps t) {most} : s.Keeps (t.jNext most) := by
  unfold State.jNext
  split
  · exact h
  · refine .ite h ?_
    split
    · exact h.jBreakHeld
    · next hv => exact .jTaken (h.jAppend _ hv)

theorem State.Keeps.execJournalEntryWritten (h : s.Keeps t) : s.KeepsRes (execJournalEntryWritten t) := .next (.ite h.jNext h)

theorem State.Keeps.jAll (h : s.Keeps t) {n} : s.Keeps (t.jAll n) := by
  induction n generalizing t with
  | zero => exact h
  | succ n ih => exact .ite h (ih h.jNext)

theorem State.Keeps.jSwitch (h : s.Keeps t) {ply dir oldId newId} : s.Keeps (t.jSwitch ply dir oldId newId) := by
  unfold State.jSwitch
  refine .ite h ?_
  dsimp only
  split
  · next hv => exact .jView (h.jAll.jAppend _ hv)
  · exact h.jAll.jBreak

theorem State.Keeps.ckAfterSwitch (h : s.Keeps t) : s.Keeps t.ckAfterSwitch := .setCrt (.ite h.ckDrop h)

theorem State.Keeps.execCrtFlushComplete (h : s.Keeps t) : s.KeepsRes (execCrtFlushComplete t) :=
  .next <| .ite h (.supplyResetDue <| .others <| .ite (.wr <| .ite h.jAll.ringWrite.lifeWrite.ev h) (.ite h.jAll.ringWrite.lifeWrite.ev
    h))

theorem State.Keeps.crtResume (h : s.Keeps t) : s.Keeps t.crtResume := by
  unfold State.crtResume
  split
  · exact h.setCrt
  · exact h.wr.wr.wr.setCrt.jView

theorem State.Keeps.crtFormat (h : s.Keeps t) : s.Keeps t.crtFormat :=
  h.sbWrite.lifeWrite.ringWrite.frWrite.mw.filterMem.setCrt.wr.ckStart.jView

theorem State.Keeps.crtIdentify (h : s.Keeps t) {scap ins} : s.Keeps (t.crtIdentify scap ins) := by
  unfold State.crtIdentify
  refine .ite (.ev <| .wr <| .wr <| .setCrt <| .wr <| .wr <| .wr <| h.each fun _ _ hu => hu.wr) ?_
  refine .ite (.ev <| .wr <| .wr <| .setCrt <| .wr <| .setCrt <| .wr <| .wr <| .wr <| h.each fun _ _ hu => hu.wr) ?_
  extract_lets _ _ u1 u2 u3 u4
  have h1 : s.Keeps u1 := .lifeLoad <| .setCrt <| .wr <| .setCrt <| .wr <| .wr <| .wr <| h.each fun _ _ hu => hu.wr
  have h2 : s.Keeps u2 := .ite h1.sat.ev h1
  have h3 : s.Keeps u3 := .ite h2.wr.put h2
  have h4 : s.Keeps u4 := .ite h3.crtResume.crtUse.updView h3.crtFormat
  exact h4.lifeView

theorem State.Keeps.xferDrop (h : s.Keeps t) : s.Keeps t.xferDrop := h.wr.wr.wr.others
theorem State.Keeps.crtGone (h : s.Keeps t) : s.Keeps t.crtGone := h.wr.wr.wr.wr.wr.wr.wr.setCrt.others.jView.xferDrop.erView

theorem State.Keeps.execCartridgeInsert (h : s.Keeps t) {c} : s.KeepsRes (execCartridgeInsert c t) :=
  .next <| .ite (.setCrt <| .wr <| .ite (.others <| .crtGone <| .ite h (h.setCrt.each fun _ _ hu => .ite hu.wb hu)) (.ite h (h.setCrt.each
    fun _ _ hu => .ite hu.wb hu))) (.wr <| .setCrt <| .wr <| .ite (.others <| .crtGone <| .ite h (h.setCrt.each fun _ _ hu => .ite hu.wb
    hu)) (.ite h (h.setCrt.each fun _ _ hu => .ite hu.wb hu)))

theorem State.Keeps.execCartridgeIdentify (h : s.Keeps t) {scap} : s.KeepsRes (execCartridgeIdentify scap t) :=
  .next <| .ite h.awaitMt.crtIdentify h
theorem State.Keeps.execCartridgeRelease (h : s.Keeps t) {_m} : s.KeepsRes (execCartridgeRelease _m t) :=
  .next <| h.onPage fun _ hu => .ite hu (.ite hu.ckDrop.sbWrite.wr.setCrt.others.erView hu.err)
theorem State.Keeps.execCartridgeRemoved (h : s.Keeps t) : s.KeepsRes (execCartridgeRemoved t) := .next <| .ite h.crtGone.ev h
theorem State.Keeps.execCartridgeContactBreak (h : s.Keeps t) : s.KeepsRes (execCartridgeContactBreak t) :=
  .next h.crtGone.filterMem.setCrt.wr
theorem State.Keeps.cmdRuns (h : s.Keeps t) {bits} : s.Keeps (t.cmdRuns bits) := h.setCrt

theorem State.Keeps.formatCmd (h : s.Keeps t) : s.KeepsOpt t.formatCmd := by
  unfold State.formatCmd
  split
  · exact .some h.crtFormat.cmdRuns
  · exact .none

theorem State.Keeps.execCartridgeFormat (h : s.Keeps t) {_m key} : s.KeepsRes (execCartridgeFormat _m key t) :=
  .next <| h.onPage fun _ hu => .ite hu.err (.getD hu.formatCmd hu.err)

theorem State.Keeps.adoptCmd (h : s.Keeps t) : s.KeepsOpt t.adoptCmd := by
  unfold State.adoptCmd
  split
  · exact .none
  · split
    · exact .some h.sbWrite.ringAdopt.lifeLoad.setCrt.wr.crtResume.crtUse.updView.lifeView
    · split
      · exact .some h.lifeLoad.wr.crtFormat.lifeView.cmdRuns
      · exact .none

theorem State.Keeps.execCartridgeAdopt (h : s.Keeps t) {_m key} : s.KeepsRes (execCartridgeAdopt _m key t) :=
  .next <| h.onPage fun _ hu => .ite hu.err (.getD hu.adoptCmd hu.err)

theorem State.Keeps.nandPut (h : s.Keeps t) {page i bs} : s.Keeps (t.nandPut page i bs) := by
  induction bs generalizing t i with
  | nil => exact h
  | cons b bs ih => exact ih h.setCrt

theorem State.Keeps.nandErased (h : s.Keeps t) {block} : s.Keeps (t.nandErased block) := h.setCrt
theorem State.Keeps.nandGo (h : s.Keeps t) {op} : s.Keeps (t.nandGo op) := .ite h.wr.cfgBump (.ite h.wr.cfgBump.err h.wr.cfgBump.wr.setCrt)
theorem State.Keeps.execNandRead (h : s.Keeps t) {_m} : s.KeepsRes (execNandRead _m t) := .next <| h.onPage fun _ hu => hu.nandGo
theorem State.Keeps.execNandProgram (h : s.Keeps t) {_m} : s.KeepsRes (execNandProgram _m t) := .next <| h.onPage fun _ hu => hu.nandGo
theorem State.Keeps.execNandErase (h : s.Keeps t) {_m} : s.KeepsRes (execNandErase _m t) := .next <| h.onPage fun _ hu => hu.nandGo

theorem State.Keeps.execNandOpComplete (h : s.Keeps t) {fail uncorr maxflip corr} :
    s.KeepsRes (execNandOpComplete fail uncorr maxflip corr t) := by
  unfold Machine.execNandOpComplete
  refine .next ?_
  refine .ite h ?_
  refine .ite (.ite (.err <| .wrap <| .wr <| .put <| .put <| .ite h.wr.setCrt.dmaStore.others h.wr.setCrt.dmaStore) (.wrap <| .wr <| .put
    <| .put <| .ite h.wr.setCrt.dmaStore.others h.wr.setCrt.dmaStore)) ?_
  refine .ite ?_ (.ite h.wr.setCrt.put.wr.wr.nandPut.others h.wr.setCrt.put.wr.wr.nandErased)
  split
  · next hv => exact .ite (.others (.nandPut (h.wr.setCrt.put.wr.wr.dmaLoad.snd hv))) (.nandPut (h.wr.setCrt.put.wr.wr.dmaLoad.snd hv))
  · next hv => exact .wr (h.wr.setCrt.put.wr.wr.dmaLoad.snd hv)

/-! Links: the sending side of the mirror. -/

theorem State.Keeps.sendPieces (h : s.Keeps t) {v w last ps} : s.Keeps (t.sendPieces v w last ps) := by
  induction ps generalizing t with
  | nil => exact h
  | cons p ps ih =>
    unfold State.sendPieces
    refine ih (.others ?_)
    split
    · exact h
    · exact h.chunkSend
    · exact h.chunkSend

theorem State.Keeps.tailLines (h : s.Keeps t) {w} : s.Keeps (t.tailLines w).2 := .ite₂ h h.others
theorem State.Keeps.sendRange (h : s.Keeps t) {w e} : s.Keeps (t.sendRange t1 w e) := .sendPieces <| .others <| .ite₂ h.tailLines h
theorem State.Keeps.sendTail (h : s.Keeps t) {w} : s.Keeps (t.sendTail w) := .ite h.tailLines.sendPieces h

/-! Lio: the local I/O. -/

theorem State.Keeps.lioLevels (h : s.Keeps t) : s.Keeps t.lioLevels :=
  .evLevel <| .evLevel <| .evLevel <| .evLevel <| h.each fun _ _ hu => hu.evLevel
theorem State.Keeps.seatEnds (h : s.Keeps t) {k} : s.Keeps (t.seatEnds k) := .ite h.others h
theorem State.Keeps.dqTake (h : s.Keeps t) {k b} : s.Keeps (t.dqTake k b) := h.others.seatEnds
theorem State.Keeps.lioCommit (h : s.Keeps t) {n image} : s.Keeps (t.lioCommit n image) :=
  .ite h (.ite h.others (h.others.others.each fun _ _ hu => hu.bitTo.dqTake))
theorem State.Keeps.lioFollow (h : s.Keeps t) {n image} : s.Keeps (t.lioFollow n image) := .ite h (h.each fun _ _ hu => hu.dqTake)
theorem State.Keeps.diChange (h : s.Keeps t) {k b} : s.Keeps (t.diChange k b) := .ite h.bitTo.bitTo h.bitTo
theorem State.Keeps.diSample (h : s.Keeps t) {k filt first b} : s.Keeps (t.diSample k filt first b) :=
  .ite h.bitTo.diChange.others (.ite h.bitTo.others (.ite h.bitTo.diChange.others h.bitTo.others))
theorem State.Keeps.execLioGroupSample (h : s.Keeps t) {g levels} : s.KeepsRes (execLioGroupSample g levels t) :=
  .next <| .ite h (.lioLevels <| .others <| h.awaitMt.each fun _ _ hu => hu.diSample)
theorem State.Keeps.execReadbackMismatch (h : s.Keeps t) {k} : s.KeepsRes (execReadbackMismatch k t) := .next <| .ite h h.bitTo.lioLevels
theorem State.Keeps.execOpenLoad (h : s.Keeps t) {k off} : s.KeepsRes (execOpenLoad k off t) := .next <| .ite h h.bitTo.lioLevels
theorem State.Keeps.execCurrentLimit (h : s.Keeps t) {k} : s.KeepsRes (execCurrentLimit k t) := .next <| .ite h h.bitTo.lioLevels
theorem State.Keeps.execThermalShutdown (h : s.Keeps t) {k} : s.KeepsRes (execThermalShutdown k t) :=
  .next <| .ite h (.lioLevels <| .ite h.bitTo.sat.bitTo h.bitTo.sat)
theorem State.Keeps.tmodeTake (h : s.Keeps t) : s.Keeps t.tmodeTake := h.others
theorem State.Keeps.execThermalCool (h : s.Keeps t) {k} : s.KeepsRes (execThermalCool k t) :=
  .next <| .ite h (.lioLevels <| .ite h.bitTo.tmodeTake.bitTo.bitTo (.ite h.bitTo.tmodeTake.bitTo h.bitTo.tmodeTake))
theorem State.Keeps.execDqclr (h : s.Keeps t) {_m value} : s.KeepsRes (execDqclr _m value t) :=
  .next <| h.onPage fun _ hu => hu.each fun _ _ hu1 => .ite hu1.bitTo hu1.bitTo

theorem State.Keeps.execFieldSupplyChange (h : s.Keeps t) {group missing low mv} :
    s.KeepsRes (execFieldSupplyChange group missing low mv t) :=
  .next <| .ite h (.evLevel <| .evLevel <| .ite h.put.put.wr.others h.put.put.wr)

/-! Ply: the ply. -/

theorem State.Keeps.putSubst (h : s.Keeps t) {w g k j area plyT h'} : s.Keeps (t.putSubst w g k j area plyT h') := h.fWr
theorem State.Keeps.putLine (h : s.Keeps t) {w g k j area plyT mts tv} : s.Keeps (t.putLine w g k j area plyT mts tv) := h.others.fWr
theorem State.Keeps.takeHalf (h : s.Keeps t) {w g k h'} : s.Keeps (t.takeHalf w g k h').2 := .ite h h.others

theorem State.Keeps.freezeEntry (h : s.Keeps t) {w plyT e} : s.Keeps (t.freezeEntry w plyT e).2 := by
  unfold State.freezeEntry
  refine .ite₂ (.others <| h.each fun _ _ hu => hu.putSubst) ?_
  refine .each (.ite₂ (.ite₂ (.ite h.setStn.modPly.others h.setStn) <| .takeHalf <| .ite h.setStn.modPly.others h.setStn) <| .takeHalf <|
    .ite₂ (.ite h.setStn.modPly.others h.setStn) <| .takeHalf <| .ite h.setStn.modPly.others h.setStn) fun _ _ hu => ?_
  split
  · exact hu.putLine
  · exact .ite hu.putSubst (.ite hu.fWr hu.putLine)

theorem State.Keeps.warmAges (h : s.Keeps t) {plyT} : s.Keeps (t.warmAges plyT) := by
  unfold State.warmAges
  split
  · exact h
  · exact h.others.each fun _ _ hu => hu.fWr

theorem State.Keeps.putStatus (h : s.Keeps t) {w count fresh} : s.Keeps (t.putStatus w count fresh) :=
  h.each fun _ _ hu => hu.fWr.fWr.fWr.fWr

theorem State.Keeps.freezeRun (h : s.Keeps t) {w c es at_} : s.Keeps (t.freezeRun w c es at_) := by
  induction es generalizing t at_ with
  | nil => exact h
  | cons e es ih => exact .ite h (ih h.freezeEntry.modPly)

theorem State.Keeps.commitEntry (h : s.Keeps t) {e} : s.Keeps (t.commitEntry e) := h.wbs

theorem State.Keeps.commitRun (h : s.Keeps t) {w c es at_} : s.Keeps (t.commitRun w c es at_) := by
  induction es generalizing t at_ with
  | nil => exact h
  | cons e es ih => exact .ite h (ih h.commitEntry.modPly)

theorem State.Keeps.copyTo (h : s.Keeps t) {w c} : s.Keeps (t.copyTo w c) := .ite h.freezeRun (.ite h.commitRun h)

theorem State.Keeps.pathNow (h : s.Keeps t) : s.Keeps t.pathNow := by
  unfold State.pathNow
  dsimp only
  split
  · exact h.landBy.copyTo
  · exact h.landBy

theorem State.Keeps.beginExecute (h : s.Keeps t) {w} : s.Keeps (t.beginExecute w) :=
  .ite h.modPly.enterPart (.ite h.modPly.enterPart h.modPly.setSeq)
theorem State.Keeps.endFreeze (h : s.Keeps t) {w} : s.Keeps (t.endFreeze w) :=
  .beginExecute <| .putStatus <| .modPly <| .ite h.awaitClk.copyTo.warmAges h.awaitClk.copyTo
theorem State.Keeps.xeDone (h : s.Keeps t) : s.Keeps t.xeDone := h.escReact.promote.escReact

theorem State.Keeps.execFreezeComplete (h : s.Keeps t) : s.KeepsRes (execFreezeComplete t) := by
  unfold Machine.execFreezeComplete
  refine .next ?_
  split
  · exact .ite h.endFreeze.xeDone h
  · exact h

theorem State.Keeps.scheduleFaultAt (h : s.Keeps t) {w f} : s.Keeps (t.scheduleFaultAt w f) := by
  unfold State.scheduleFaultAt
  exact .safetyFault <| .abandon <| .sat <| .ite h.wr.wr.wr.wr h

theorem State.Keeps.rowsThen (h : s.Keeps t) {w lim n f} (hf : ∀ u, s.Keeps u → s.Keeps (f u)) : s.Keeps (t.rowsThen w lim n f) :=
  .ite (hf _ h.runRows) h.runRows.awaitClk.scheduleFaultAt

theorem State.Keeps.endExecute (h : s.Keeps t) {w} : s.Keeps (t.endExecute w) :=
  .ite (.modPly <| .sendTail <| .modPly <| .ite h.landAll.clearCauses h.landAll) (.beginCommit <| .modPly <| .ite h.landAll.clearCauses
    h.landAll)

theorem State.Keeps.execExecuteComplete (h : s.Keeps t) : s.KeepsRes (execExecuteComplete t) := by
  unfold Machine.execExecuteComplete
  refine .next ?_
  split
  · exact .ite (.xeDone <| h.rowsThen fun _ hu => hu.awaitClk.endExecute) h
  · exact h

theorem State.Keeps.engineRows (h : s.Keeps t) {rows} : s.Keeps (t.engineRows rows) := by
  unfold State.engineRows
  dsimp only
  split
  · exact .ite (.pathNow <| h.pathNow.rowsThen fun _ hu => .ite hu (hu.rowsThen fun _ hu1 => hu1.awaitClk)) h.pathNow
  · exact h.pathNow

theorem State.Keeps.stopWork (h : s.Keeps t) {c} : s.Keeps (t.stopWork c) := .ite h.modPly.others (.ite h.modPly.others h)

theorem State.Keeps.preempt (h : s.Keeps t) {w rows} : s.Keeps (t.preempt w rows) := by
  unfold State.preempt
  dsimp only
  split
  · exact .ite h.engineRows.stopWork h.engineRows
  · exact h.engineRows

theorem State.Keeps.execScheduleFault (h : s.Keeps t) {rows kind col} : s.KeepsRes (execScheduleFault rows kind col t) := by
  unfold Machine.execScheduleFault
  refine .next ?_
  dsimp only
  split
  · exact .ite h.engineRows.issueRow.awaitClk.scheduleFaultAt.xeDone h.engineRows.xeDone
  · exact h.engineRows.xeDone

theorem State.Keeps.lockstep (h : s.Keeps t) {unit level row dest} : s.Keeps (t.lockstep unit level row dest) := by
  unfold State.lockstep
  refine .safetyFault ?_
  refine .ev ?_
  refine .sat ?_
  refine .ite ?_ h
  dsimp only
  split
  · exact h.wr.wr.wr.wr
  · exact h.wr.wr.wr

theorem State.Keeps.dropWrite (h : s.Keeps t) {w c dest} : s.Keeps (t.dropWrite w c dest) := by
  unfold State.dropWrite
  dsimp only
  split
  · exact h.setSeq
  · exact h

theorem State.Keeps.execXeLockstepError (h : s.Keeps t) {rows unit dest} : s.KeepsRes (execXeLockstepError rows unit dest t) := by
  unfold Machine.execXeLockstepError
  refine .next ?_
  dsimp only
  split
  · exact .ite (.xeDone <| .lockstep <| .abandon <| .ite h.engineRows h.engineRows.dropWrite) h.engineRows.xeDone
  · exact h.engineRows.xeDone

theorem State.Keeps.testBank (h : s.Keeps t) : s.Keeps t.testBank := h.each fun _ _ hu => hu.draw.others
theorem State.Keeps.injected (h : s.Keeps t) {unit} : s.Keeps (t.injected unit) := .ite h (.ite h.lockstep h.draw.lockstep)
theorem State.Keeps.execLsInject (h : s.Keeps t) {_m value} : s.KeepsRes (execLsInject _m value t) :=
  .next <| h.onPage fun _ hu => .ite hu.err (.ite hu.rsvErr (hu.rsvErr.testBank.each fun _ _ hu1 => hu1.injected))
theorem State.Keeps.commitSwitch (h : s.Keeps t) {es} : s.Keeps (t.commitSwitch es) := h.each fun _ _ hu => .ite hu.wb.wr hu.wb
theorem State.Keeps.outImage (h : s.Keeps t) {w} : s.Keeps (t.outImage w) := .ite h h.lioCommit
theorem State.Keeps.commitDone (h : s.Keeps t) {w} : s.Keeps (t.commitDone w) := .ite h.commitSwitch.outImage h.commitSwitch
theorem State.Keeps.classReact (h : s.Keeps t) {w} : s.Keeps (t.classReact w) :=
  .ite (.ite h.ev.sealCancel.others (.getD h.ev.sealCancel.castleRequest h.ev.sealCancel.err)) h.ev.setMode
theorem State.Keeps.handRetained (h : s.Keeps t) {ply} : s.Keeps (t.handRetained ply) := h.crtHand.others

theorem State.Keeps.endCommit (h : s.Keeps t) {w} : s.Keeps (t.endCommit w) := by
  unfold State.endCommit
  extract_lets _ u1 u2 _ _ u3 _ _ u4 _ _ _ u5
  have h1 : s.Keeps u1 := h.awaitClk.copyTo.commitDone
  have h2 : s.Keeps u2 := .ite h1.handRetained h1
  have h3 : s.Keeps u3 := .ite (.ite h2.wr.wr.ev h2.wr.wr) h2
  have h4 : s.Keeps u4 := .ite h3.others h3
  have h5 : s.Keeps u5 := .ite h4.modPly.others.joinDone h4.modPly.others
  exact .ite h5.classReact h5

theorem State.Keeps.execCommitComplete (h : s.Keeps t) : s.KeepsRes (execCommitComplete t) := by
  unfold Machine.execCommitComplete
  refine .next ?_
  split
  · exact .ite h.endCommit.xeDone h
  · exact h

theorem State.Keeps.trigger (h : s.Keeps t) {n late} : s.Keeps (t.trigger n late) :=
  .ite h (.ite h.advanceTrigger.wrap.sat.wr (.ite h.advanceTrigger.wrap.sat (.ite h.advanceTrigger.wrap.awaitClk.preempt (.xeDone <|
    .modPly <| .ite h.advanceTrigger.wrap.awaitClk.preempt.sealCancel h.advanceTrigger.wrap.awaitClk.preempt))))

theorem State.Keeps.execFlagFall (h : s.Keeps t) {cls} : s.KeepsRes (execFlagFall cls t) := .next <| .ite h.awaitMt.sat.sat.wr.modPly.ev h
theorem State.Keeps.resumeCommit (h : s.Keeps t) {w rows} : s.Keeps (t.resumeCommit w rows) := h.preempt.ackWork.xeDone

theorem State.Keeps.execMirrorWaitTimeout (h : s.Keeps t) {w late} : s.KeepsRes (execMirrorWaitTimeout w late t) := by
  unfold Machine.execMirrorWaitTimeout
  refine .next ?_
  dsimp only
  split
  · exact h
  · exact .xeDone <| .setPsync <| .preempt <| .awaitClk <| .ite (.others <| .ite h.awaitMt.ev.sat.modPly h.awaitMt.ev.sat) (.ite
      h.awaitMt.ev.sat.modPly h.awaitMt.ev.sat)

theorem State.Keeps.taskTrigger (h : s.Keeps t) {k} : s.Keeps (t.taskTrigger k) :=
  .ite h (.ite h.others (.ite (.wrap <| .ite h.bitTo.modPly h.bitTo) (.ite h.bitTo.modPly h.bitTo)))
theorem State.Keeps.execEventTaskTrigger (h : s.Keeps t) {k} : s.KeepsRes (execEventTaskTrigger k t) := .next <| .ite h.taskTrigger h
theorem State.Keeps.execEtTrigWrite (h : s.Keeps t) {_m value} : s.KeepsRes (execEtTrigWrite _m value t) :=
  .next <| h.onPage fun _ hu => .rsvErr <| hu.each fun _ _ hu1 => hu1.taskTrigger

theorem State.Keeps.execEventTaskStart (h : s.Keeps t) {rows} : s.KeepsRes (execEventTaskStart rows t) := by
  unfold Machine.execEventTaskStart
  refine .next ?_
  split
  · exact h
  · exact .ite h (.ite h.preempt h.preempt.bitTo.modPly.beginFreeze.xeDone)

theorem State.Keeps.clsCfgFields (h : s.Keeps t) {n v} : s.Keeps (t.clsCfgFields n v) := by
  unfold State.clsCfgFields
  extract_lets _ _ _ u1 u2 u3
  have h1 : s.Keeps u1 := .ite h.wr.wr.wr h.wr.wr.err
  have h2 : s.Keeps u2 := .ite h1.wr h1.err
  have h3 : s.Keeps u3 := .ite h2.wr h2.err
  exact .ite h3.wr h3.err

theorem State.Keeps.clsCfg (h : s.Keeps t) {n v} : s.Keeps (t.clsCfg n v) :=
  .ite h.clsCfgFields.modPly (.ite h.clsCfgFields.anchorNew (.ite h.clsCfgFields.reanchor h.clsCfgFields))
theorem State.Keeps.clsPerFields (h : s.Keeps t) {n v} : s.Keeps (t.clsPerFields n v) :=
  .ite (.wr (.ite h.wr h.err)) (.err (.ite h.wr h.err))
theorem State.Keeps.clsPer (h : s.Keeps t) {n v} : s.Keeps (t.clsPer n v) := .ite h.clsPerFields.reanchor h.clsPerFields
theorem State.Keeps.clsWrite (h : s.Keeps t) {m n per v} : s.Keeps (t.clsWrite m n per v) := .cfgBump <| .rsvErr <| .ite h.clsPer h.clsCfg
theorem State.Keeps.execClassCfgWrite (h : s.Keeps t) {m cls per value} : s.KeepsRes (execClassCfgWrite m cls per value t) :=
  .next <| h.onPage fun _ hu => hu.clsWrite
theorem State.Keeps.seedCommit (h : s.Keeps t) : s.Keeps t.seedCommit :=
  h.each fun _ _ hu => .ite (.commitDone <| hu.each fun _ _ hu1 => hu1.commitEntry) hu

theorem State.Keeps.enterLead (h : s.Keeps t) {anchor} : s.Keeps (t.enterLead anchor) :=
  .ite (.each (.each (.seedCommit <| h.setMode.wr.firstKeys.each fun _ _ hu => hu.modPly) fun _ _ hu => .ite hu hu.put) fun _ _ hu => .ite
    hu.anchorNew hu) (.each (.seedCommit <| h.setMode.wr.firstKeys.each fun _ _ hu => hu.modPly) fun _ _ hu => .ite hu hu.put)

/-! Tim: module time and network time. -/

theorem State.Keeps.snap (h : s.Keeps t) : s.Keeps t.snap := h.wr2.wr2.wr
theorem State.Keeps.execTimeSnapshot (h : s.Keeps t) {_m} : s.KeepsRes (execTimeSnapshot _m t) := .next <| h.onPage fun _ hu => hu.snap
theorem State.Keeps.readMt (h : s.Keeps t) {m} : s.Keeps (t.readMt m).2 := h.wr
theorem State.Keeps.readNt (h : s.Keeps t) {m} : s.Keeps (t.readNt m).2 := h.wr
theorem State.Keeps.execMtRead (h : s.Keeps t) {m} : s.KeepsRes (execMtRead m t) := .next <| h.onRead fun _ hu => hu.readMt
theorem State.Keeps.execNtRead (h : s.Keeps t) {m} : s.KeepsRes (execNtRead m t) := .next <| h.onRead fun _ hu => hu.readNt
theorem State.Keeps.writeNtinc (h : s.Keeps t) {v} : s.Keeps (t.writeNtinc v) := .ite h.wr h.err
theorem State.Keeps.execNtincWrite (h : s.Keeps t) {m value} : s.KeepsRes (execNtincWrite m value t) :=
  .next <| h.onPage fun _ hu => hu.writeNtinc.cfgBump
theorem State.Keeps.ntSet (h : s.Keeps t) : s.Keeps t.ntSet := .ite h.err h.setTim.wrap
theorem State.Keeps.execNtSet (h : s.Keeps t) {_m} : s.KeepsRes (execNtSet _m t) := .next <| h.onPage fun _ hu => hu.ntSet
theorem State.Keeps.ntStep (h : s.Keeps t) {force} : s.Keeps (t.ntStep force) :=
  .ite h.err (.ite h.wr.ev.sat (.each (.ite h.setTim.wr.wr h.setTim) fun _ _ hu => .ite hu.reanchor hu))
theorem State.Keeps.execNtStep (h : s.Keeps t) {_m force} : s.KeepsRes (execNtStep _m force t) := .next <| h.onPage fun _ hu => hu.ntStep
theorem State.Keeps.writeLocked (h : s.Keeps t) {b} : s.Keeps (t.writeLocked b) := .ite h (h.put.each fun _ _ hu => .ite hu.reanchor hu)
theorem State.Keeps.execNtLockedWrite (h : s.Keeps t) {m locked} : s.KeepsRes (execNtLockedWrite m locked t) :=
  .next <| h.onPage fun _ hu => hu.writeLocked.cfgBump
theorem State.Keeps.setPulses (h : s.Keeps t) {p} : s.Keeps (t.setPulses p) := .ite h.setTim.put h.setTim.put.out
theorem State.Keeps.matched (h : s.Keeps t) {k} : s.Keeps (t.matched k) := .captureSource <| .ite h.ev.wrap.setPulses h.ev.wrap
theorem State.Keeps.compareMatch (h : s.Keeps t) {k late} : s.Keeps (t.compareMatch k late) :=
  .ite h.matched.trigger (.ite h.matched.wr (.ite h.matched.wr2 h))

theorem State.Keeps.matchNext (h : s.Keeps t) {k late} : s.Keeps (t.matchNext k late) := by
  unfold State.matchNext
  split
  · exact .compareMatch <| .ite h.awaitMt.awaitNt h.awaitMt.awaitMt
  · exact h

theorem State.Keeps.execCompareMatch (h : s.Keeps t) {k late} : s.KeepsRes (execCompareMatch k late t) := .next h.matchNext
theorem State.Keeps.execPlyTrigger (h : s.Keeps t) {cls late} : s.KeepsRes (execPlyTrigger cls late t) := .next <| .ite h.matchNext h
theorem State.Keeps.tick (h : s.Keeps t) : s.Keeps t.tick := h.clockTick.each fun _ _ hu => .ite hu.compareMatch hu
theorem State.Keeps.execNtStepApply (h : s.Keeps t) : s.KeepsRes (execNtStepApply t) := .next (.ite h.tick h)
theorem State.Keeps.execNtWrap (h : s.Keeps t) : s.KeepsRes (execNtWrap t) := .next h.awaitNt

theorem State.Keeps.execPpsPulseEnd (h : s.Keeps t) {k} : s.KeepsRes (execPpsPulseEnd k t) := by
  unfold Machine.execPpsPulseEnd
  refine .next ?_
  split
  · exact h
  · exact h.awaitMt.setPulses

theorem State.Keeps.execCapture (h : s.Keeps t) {k rising} : s.KeepsRes (execCapture k rising t) := .next <| .ite h h.captureOn
theorem State.Keeps.execPpsInputEdge (h : s.Keeps t) : s.KeepsRes (execPpsInputEdge t) := .next h.setTim
theorem State.Keeps.execPpsInputMissing (h : s.Keeps t) : s.KeepsRes (execPpsInputMissing t) := .next <| .ite h.awaitMt.setTim.ev h
theorem State.Keeps.execTimePortFault (h : s.Keeps t) {output} : s.KeepsRes (execTimePortFault output t) := .next h.wr.evLevel.evLevel
theorem State.Keeps.setEmac (h : s.Keeps t) {x e} : s.Keeps (t.setEmac x e) := h.others
theorem State.Keeps.stampView (h : s.Keeps t) {x} : s.Keeps (t.stampView x) := h.wr.wr.wr.wr2.wr.put.wr.wr2.wr.wr.wr.evLevel.evLevel
theorem State.Keeps.stamp (h : s.Keeps t) {x rx p} : s.Keeps (t.stamp x rx p) :=
  .ite (.ite h.sat.ev h.setEmac.stampView) (.ite h.sat.ev h.setEmac.stampView)

theorem State.Keeps.passes (h : s.Keeps t) {x rx sfd b} : s.Keeps (t.passes x rx sfd b).2 := by
  unfold State.passes
  refine .awaitMt ?_
  split
  · exact .ite₂ h.awaitMt.stamp h.awaitMt
  · exact h.awaitMt

theorem State.Keeps.stampPop (h : s.Keeps t) {x rx} : s.Keeps (t.stampPop x rx) := h.setEmac.stampView
theorem State.Keeps.execTsPop (h : s.Keeps t) {_m mac rx} : s.KeepsRes (execTsPop _m mac rx t) := .next <| h.onPage fun _ hu => hu.stampPop

/-! Emac: the MACs' rings. -/

theorem State.Keeps.macCheck (h : s.Keeps t) {x} : s.Keeps (t.macCheck x) := .ite h.setEmac.wr.wr h.setEmac.toFault.err
theorem State.Keeps.macDrop (h : s.Keeps t) {x} : s.Keeps (t.macDrop x) := h.sat.ev
theorem State.Keeps.rxReturn (h : s.Keeps t) {x d len flags} : s.Keeps (t.rxReturn x d len flags) := h.memStore.wr

theorem State.Keeps.macStore (h : s.Keeps t) {x f stamped} : s.Keeps (t.macStore x f stamped) :=
  .ite (.macDrop <| .dma (.ite h.sat h)) (.ite (.macDrop (.ite h.sat h)) (.ite (.macDrop <| .dma <| .dma (.ite h.sat h)) (.ite (.ev <|
    .wrap <| .rxReturn <| .escReact <| .memStore (.ite h.sat h)) (.rxReturn <| .escReact <| .memStore (.ite h.sat h)))))

theorem State.Keeps.execEmacFrameReceived (h : s.Keeps t) {mac f} : s.KeepsRes (execEmacFrameReceived mac f t) :=
  .next <| .ite h.passes.macStore h
theorem State.Keeps.macSend (h : s.Keeps t) {x} : s.Keeps (t.macSend x) :=
  .ite h.setEmac (.ite h.dma.setEmac (.ite h.setEmac (.ite h.dma.setEmac h.out.setEmac)))
theorem State.Keeps.execEmacTxkick (h : s.Keeps t) {_m mac} : s.KeepsRes (execEmacTxkick _m mac t) :=
  .next <| h.onPage fun _ hu => .ite hu hu.macSend
theorem State.Keeps.execEmacFrameSent (h : s.Keeps t) {mac sfd} : s.KeepsRes (execEmacFrameSent mac sfd t) :=
  .next <| .ite h (.macSend <| .wr <| .ite h.passes.memStore h.passes.dma)
theorem State.Keeps.execEmacLinkChange (h : s.Keeps t) {mac up speed fdx} : s.KeepsRes (execEmacLinkChange mac up speed fdx t) :=
  .next <| .ite h h.put.wr.put.ev

/-! Er: the event recorder. -/

theorem State.Keeps.execErWriteRequest (h : s.Keeps t) {m n} : s.KeepsRes (execErWriteRequest m n t) :=
  .next <| h.onPage fun _ hu => .ite hu.erSubmit.wr.wr hu.erSubmit.wr
theorem State.Keeps.execSeqnextWrite (h : s.Keeps t) {m value} : s.KeepsRes (execSeqnextWrite m value t) :=
  .next <| h.onPage fun _ hu => .ite hu.err hu.wr.cfgBump
theorem State.Keeps.sectorPut (h : s.Keeps t) {unit sec ws} : s.Keeps (t.sectorPut unit sec ws) := h.nandPut
theorem State.Keeps.erErase (h : s.Keeps t) {i} : s.Keeps (t.erErase i) := h.nandErased.unitSet
theorem State.Keeps.erUnstop (h : s.Keeps t) : s.Keeps t.erUnstop := .ite h.wr.wr.erOwn h

theorem State.Keeps.erClose (h : s.Keeps t) : s.Keeps t.erClose := by
  unfold State.erClose
  split
  · exact h
  · exact h.sectorPut.unitSet.setEr

theorem State.Keeps.erUnit (h : s.Keeps t) {sev} : s.KeepsOpt₂ (t.erUnit sev) := by
  unfold State.erUnit
  split
  · exact .some h
  · exact .map fun _ hv => h.erErase.sat.erUnstop

theorem State.Keeps.erOpen (h : s.Keeps t) {u first} : s.Keeps (t.erOpen u first) := h.unitSet.setEr

theorem State.Keeps.erResume (h : s.Keeps t) : s.Keeps t.erResume := by
  unfold State.erResume
  split
  · exact .ite h h.sat.setEr
  · exact h

theorem State.Keeps.erUnitFor (h : s.Keeps t) {r} : s.KeepsOpt (t.erUnitFor r) := by
  unfold State.erUnitFor
  extract_lets u1 u2
  have h2 : s.Keeps u2 := .ite h.erResume.erClose h.erResume
  split
  · exact .some h2
  · exact .map fun _ hv => (h2.erUnit _ hv).erOpen

theorem State.Keeps.erSector (h : s.Keeps t) {u most ok} : s.Keeps (t.erSector u most ok).2 :=
  .ite₂ h.unitSet.setEr.err.erView h.sectorPut.unitSet.setEr.erView

theorem State.Keeps.erProgram (h : s.Keeps t) {most ok} : s.Keeps (t.erProgram most ok).2 := by
  unfold State.erProgram
  split
  · exact h
  · split
    · exact h.setEr.erStop.erDrop.erView
    · next hv =>
      split
      · exact h.erUnitFor _ hv
      · exact (h.erUnitFor _ hv).erSector

theorem State.Keeps.execErSectorProgram (h : s.Keeps t) {ok} : s.KeepsRes (execErSectorProgram ok t) := .next <| .ite h.erProgram h

theorem State.Keeps.erWriteOut (h : s.Keeps t) {f n} : s.Keeps (t.erWriteOut f n) := by
  induction f generalizing t n with
  | zero => exact h
  | succ f ih =>
    cases n with
    | zero => exact h
    | succ n => exact ih h.erProgram

theorem State.Keeps.execErFlush (h : s.Keeps t) : s.KeepsRes (execErFlush t) := .next <| .ite (.erView <| .setEr <| .ite h h.awaitMt) h
theorem State.Keeps.execErFlushComplete (h : s.Keeps t) : s.KeepsRes (execErFlushComplete t) :=
  .next <| .ite h (.supplyResetDue <| .erView <| .ev <| .wrap <| .setEr <| .ite h.erWriteOut h)
theorem State.Keeps.erEnabled (h : s.Keeps t) : s.Keeps t.erEnabled := h.erResume.erOwn
theorem State.Keeps.erDrained (h : s.Keeps t) : s.Keeps t.erDrained := .ite h.erWriteOut h

theorem State.Keeps.erMoved (h : s.Keeps t) {m found} : s.Keeps (t.erMoved m found) := by
  unfold State.erMoved
  dsimp only
  split
  · exact h.sat.wr.wr
  · exact .setEr <| .put <| .wr <| .wr <| .wr <| .wr <| h.sat.each fun _ _ hu => hu.wr

theorem State.Keeps.erMove (h : s.Keeps t) {m op} : s.Keeps (t.erMove m op) := .ite h (.setEr <| .ite h.wr.cfgBump.wr h.wr)
theorem State.Keeps.execErCursorOldest (h : s.Keeps t) {m} : s.KeepsRes (execErCursorOldest m t) := .next <| h.onPage fun _ hu => hu.erMove
theorem State.Keeps.execErCursorNewest (h : s.Keeps t) {m} : s.KeepsRes (execErCursorNewest m t) := .next <| h.onPage fun _ hu => hu.erMove
theorem State.Keeps.execErCursorSeek (h : s.Keeps t) {m} : s.KeepsRes (execErCursorSeek m t) := .next <| h.onPage fun _ hu => hu.erMove
theorem State.Keeps.execErNext (h : s.Keeps t) {m} : s.KeepsRes (execErNext m t) := .next <| h.onPage fun _ hu => hu.erMove
theorem State.Keeps.execErCursorMoveComplete (h : s.Keeps t) {m} : s.KeepsRes (execErCursorMoveComplete m t) :=
  .next <| .ite h h.wr.wr.setEr.erMoved
theorem State.Keeps.tokenRead (h : s.Keeps t) : s.Keeps t.tokenRead.2 := h.draw.setEr
theorem State.Keeps.execClrtokenRead (h : s.Keeps t) {_m} : s.KeepsRes (execClrtokenRead _m t) := .next <| h.onRead fun _ hu => hu.tokenRead
theorem State.Keeps.execClearTokenExpiry (h : s.Keeps t) : s.KeepsRes (execClearTokenExpiry t) := .next <| .ite h h.awaitMt.setEr

theorem State.Keeps.erClearStart (h : s.Keeps t) : s.Keeps t.erClearStart := by
  unfold State.erClearStart
  dsimp only
  split
  · exact h.erWriteOut.erClose.setEr.erOwn.erOpen.erProgram.setEr.erView
  · exact h.erWriteOut.erClose.erErase.setEr.erOwn.erOpen.erProgram.setEr.erView.erUnstop
  · exact h.erWriteOut.erClose

theorem State.Keeps.erClr (h : s.Keeps t) {priv v} : s.Keeps (t.erClr priv v) := by
  unfold State.erClr
  split
  · exact h.erClearStart
  · exact h.setEr.err
  · exact h.err

theorem State.Keeps.execErClr (h : s.Keeps t) {_m priv value} : s.KeepsRes (execErClr _m priv value t) :=
  .next <| h.onPage fun _ hu => hu.erClr

theorem State.Keeps.execErClearComplete (h : s.Keeps t) : s.KeepsRes (execErClearComplete t) := by
  unfold Machine.execErClearComplete
  refine .next ?_
  split
  · exact h
  · exact .erView <| .setEr <| .wr <| .wr <| .each (.ite (h.each fun _ _ hu => hu.erErase) (.erUnstop <| h.each fun _ _ hu => hu.erErase))
      fun _ _ hu => hu.wr.wr

/-! Rb: the rack-bus controllers. -/

theorem State.Keeps.setRb (h : s.Keeps t) {u r} : s.Keeps (t.setRb u r) := h.others
theorem State.Keeps.setObj (h : s.Keeps t) {u i o} : s.Keeps (t.setObj u i o) := h.setRb
theorem State.Keeps.setObjBit (h : s.Keeps t) {r u i b} : s.Keeps (t.setObjBit r u i b) := h.bitTo
theorem State.Keeps.rbLevels (h : s.Keeps t) {u} : s.Keeps (t.rbLevels u) := h.evLevel.evLevel.evLevel
theorem State.Keeps.rbDrive (h : s.Keeps t) {u o} : s.Keeps (t.rbDrive u o) := .ite h h.out
theorem State.Keeps.rbWatch (h : s.Keeps t) {u} : s.Keeps (t.rbWatch u) := h.setRb
theorem State.Keeps.rbAwait (h : s.Keeps t) {u n} : s.Keeps (t.rbAwait u n) := h.awaitMt
theorem State.Keeps.rbCheck (h : s.Keeps t) {u} : s.Keeps (t.rbCheck u) := .ite h.rbWatch h.toFault.err
theorem State.Keeps.rbIdle (h : s.Keeps t) {u} : s.Keeps (t.rbIdle u) := .ite h.rbAwait.rbWatch.setUnit h
theorem State.Keeps.execRbBusIdle (h : s.Keeps t) {u} : s.KeepsRes (execRbBusIdle u t) := .next (.ite h.rbIdle h)
theorem State.Keeps.poolView (h : s.Keeps t) {u} : s.Keeps (t.poolView u) := h.wr
theorem State.Keeps.rbCancel (h : s.Keeps t) {u i} : s.Keeps (t.rbCancel u i) := .ite h (.ite h.setRb h.setObjBit.setObj)
theorem State.Keeps.rbWrite (h : s.Keeps t) {m u} : s.Keeps (t.rbWrite m u) :=
  .ite h.err (.ite h.rbCancel.setObj.poolView (.ite h.err (.ite h.err h.setObj.poolView)))
theorem State.Keeps.execRbObjWrite (h : s.Keeps t) {m u} : s.KeepsRes (execRbObjWrite m u t) := .next <| h.onPage fun _ hu => hu.rbWrite
theorem State.Keeps.rbRead (h : s.Keeps t) {m u} : s.Keeps (t.rbRead m u) := h.wr.put.put.put.put.put.wr.wr.wr.wr.wr.wr.wr.wr.wr.wr
theorem State.Keeps.execRbObjRead (h : s.Keeps t) {m u} : s.KeepsRes (execRbObjRead m u t) := .next <| h.onPage fun _ hu => hu.rbRead
theorem State.Keeps.rbLoad (h : s.Keeps t) {m u} : s.Keeps (t.rbLoad m u) := .ite h.err (.ite h.err h.setObj)
theorem State.Keeps.execRbObjLoad (h : s.Keeps t) {m u} : s.KeepsRes (execRbObjLoad m u t) := .next <| h.onPage fun _ hu => hu.rbLoad
theorem State.Keeps.rbRequest (h : s.Keeps t) {u k v} : s.Keeps (t.rbRequest u k v) :=
  .ite (.err <| h.each fun _ _ hu => .ite hu hu.setObjBit.setObj) (h.each fun _ _ hu => .ite hu hu.setObjBit.setObj)
theorem State.Keeps.execRbTxRequest (h : s.Keeps t) {_m u k bits} : s.KeepsRes (execRbTxRequest _m u k bits t) :=
  .next <| h.onPage fun _ hu => hu.rbRequest
theorem State.Keeps.execRbTxCancel (h : s.Keeps t) {_m u k bits} : s.KeepsRes (execRbTxCancel _m u k bits t) :=
  .next <| h.onPage fun _ hu => hu.each fun _ _ hu1 => hu1.rbCancel

theorem State.Keeps.execRbTxStart (h : s.Keeps t) {u} : s.KeepsRes (execRbTxStart u t) := by
  unfold Machine.execRbTxStart
  refine .next ?_
  refine .ite h ?_
  split
  · exact h
  · exact h.setObj.setRb.rbDrive

theorem State.Keeps.rbTxEnd (h : s.Keeps t) {u} : s.Keeps (t.rbTxEnd u) := h.setRb

theorem State.Keeps.rbMeasure (h : s.Keeps t) {u} : s.Keeps (t.rbMeasure u) := by
  unfold State.rbMeasure
  split
  · exact h
  · exact .ite h.draw.wr h

theorem State.Keeps.rbErr (h : s.Keeps t) {u tec rec_ off} : s.Keeps (t.rbErr u tec rec_ off) :=
  .ite h.setRb.wr.wr.wr.put.ev h.setRb.wr.wr.wr.put
theorem State.Keeps.rbReceiveError (h : s.Keeps t) {u kind inData heavy} : s.Keeps (t.rbReceiveError u kind inData heavy) :=
  h.wr.rbErr.rbDrive
theorem State.Keeps.rbLec (h : s.Keeps t) {u kind inData} : s.Keeps (t.rbLec u kind inData) := h.wr

theorem State.Keeps.rbStore (h : s.Keeps t) {u f at_} : s.Keeps (t.rbStore u f at_) := by
  unfold State.rbStore
  split
  · exact h.sat
  · exact .ite h.setObj.sat.setObjBit h.setObj.setObjBit

theorem State.Keeps.execRbFrameReceived (h : s.Keeps t) {u f ago} : s.KeepsRes (execRbFrameReceived u f ago t) :=
  .next <| .ite h (.ite h.rbReceiveError (.ite h.rbDrive.rbStore.rbLevels (.ite h.rbDrive.rbStore.rbLevels.rbErr
    h.rbDrive.rbStore.rbLevels.draw.rbErr)))

theorem State.Keeps.rbLoop (h : s.Keeps t) {u r} : s.Keeps (t.rbLoop u r) := by
  unfold State.rbLoop
  split
  · exact .ite h.rbStore h
  · exact h

theorem State.Keeps.execRbTxSuccess (h : s.Keeps t) {u} : s.KeepsRes (execRbTxSuccess u t) := by
  unfold Machine.execRbTxSuccess
  refine .next ?_
  split
  · exact h
  · exact h.rbMeasure.rbTxEnd.setObjBit.setObjBit.setObj.rbLoop.rbErr.rbLevels

theorem State.Keeps.execRbTxError (h : s.Keeps t) {u kind inData counts lost} : s.KeepsRes (execRbTxError u kind inData counts lost t) := by
  unfold Machine.execRbTxError
  refine .next ?_
  split
  · exact h
  · extract_lets _ _ u1 _ _ u2 u3 u4
    have h1 : s.Keeps u1 := .rbTxEnd <| .ite h.rbMeasure h
    have h2 : s.Keeps u2 := .ite h1 h1.rbLec.rbDrive
    have h3 : s.Keeps u3 := .ite h2.rbErr h2
    have h4 : s.Keeps u4 := .ite h3.setObjBit.setObj (.ite h3.setObjBit.setObjBit.setObj h3.setObj)
    exact h4.rbLevels

theorem State.Keeps.execRbReceiveError (h : s.Keeps t) {u kind inData heavy} : s.KeepsRes (execRbReceiveError u kind inData heavy t) :=
  .next <| .ite h.rbReceiveError h
theorem State.Keeps.execRbBusOff (h : s.Keeps t) {u} : s.KeepsRes (execRbBusOff u t) := .next <| .ite h h.sat.rbErr.rbWatch
theorem State.Keeps.execRbBusoffRecovery (h : s.Keeps t) {u} : s.KeepsRes (execRbBusoffRecovery u t) := .next <| .ite h.rbAwait.rbErr h
theorem State.Keeps.rbRxView (h : s.Keeps t) {m u} : s.Keeps (t.rbRxView m u) :=
  h.wr.put.put.put.wr.put.put.wr.put.wr2.each fun _ _ hu => hu.wr
theorem State.Keeps.execRbRxSelect (h : s.Keeps t) {m u obj pos} : s.KeepsRes (execRbRxSelect m u obj pos t) :=
  .next <| h.onPage fun _ hu => hu.wr.wr.cfgBump.rbRxView
theorem State.Keeps.rbAck (h : s.Keeps t) {u i n} : s.Keeps (t.rbAck u i n) := .ite h.setObj.err h.setObj
theorem State.Keeps.execRbRxAck (h : s.Keeps t) {_m u obj n} : s.KeepsRes (execRbRxAck _m u obj n t) :=
  .next <| h.onPage fun _ hu => hu.rbAck

theorem State.Keeps.rbReset (h : s.Keeps t) {u} : s.Keeps (t.rbReset u) := by
  unfold State.rbReset
  exact .rbLevels <| .wr <| .wr <| .wr <| .wr <| .wr <| .wr <| .wr <| .poolView <| .setRb <| h.each fun _ _ hu => hu.each fun _ _ hu1 => hu1.wr

/-! Claims: claims for the lease. -/

theorem State.Keeps.makeClaim (h : s.Keeps t) {kind cyc} : s.Keeps (t.makeClaim kind cyc) :=
  .ite h.err (.ite (.wr <| .ite h.setClaim.wr.others.sealCancel h.setClaim.wr.others) (.ite h.setClaim.wr.others.sealCancel
    h.setClaim.wr.others))

theorem State.Keeps.withdraw (h : s.Keeps t) : s.Keeps t.withdraw := by
  unfold State.withdraw
  dsimp only
  split
  · exact h.setClaim.others.wr.setSync
  · exact h.setClaim.others.wr.castEnd
  · exact h.setClaim.others.wr.setMode.others
  · exact h.setClaim.others.wr.setMode

theorem State.Keeps.claimWon (h : s.Keeps t) : s.Keeps t.claimWon := by
  unfold State.claimWon
  split
  · exact h.others.enterLead.wr.ev
  · exact h.wr.others
  · exact .ite h.others.enterLead.wr.ev h.wr
  · exact h.wr.others

theorem State.Keeps.claim_ (h : s.Keeps t) {kind cyc} : s.Keeps (t.claim_ kind cyc) := .ite h.makeClaim.claimWon h.makeClaim

/-! Restart: restarts, the start policy, and the beginning of a join. -/

theorem State.Keeps.stationsAbsent (h : s.Keeps t) : s.Keeps t.stationsAbsent := h.each fun _ _ hu => hu.setStation

theorem State.Keeps.instInit (h : s.Keeps t) : s.Keeps t.instInit := by
  unfold State.instInit
  extract_lets u1
  have h1 : s.Keeps u1 := h.filterMem
  split
  · exact h1.each fun _ _ hu => .ite hu.wb hu
  · exact h1

theorem State.Keeps.inputsInit (h : s.Keeps t) : s.Keeps t.inputsInit := h.each fun _ _ hu => hu.each fun _ _ hu1 => hu1.iWr
theorem State.Keeps.setForces (h : s.Keeps t) {f} : s.Keeps (t.setForces f) := .ftView <| h.others.each fun _ _ hu => hu.applyForce
theorem State.Keeps.flagsInit (h : s.Keeps t) : s.Keeps t.flagsInit := h.each fun _ _ hu => hu.wr.wr
theorem State.Keeps.stagedInit (h : s.Keeps t) : s.Keeps t.stagedInit := .ite h.wr.wr.stagedView.wr h.wr.wr.stagedView
theorem State.Keeps.restartInit (h : s.Keeps t) {f c2} : s.Keeps (t.restartInit f c2) :=
  h.inputsInit.setForces.flagsInit.stagedInit.stationsAbsent.wr.wr.wr.setCrt.others

theorem State.Keeps.ckWhole (h : s.Keeps t) {ply} : s.Keeps (t.ckWhole ply) := by
  unfold State.ckWhole
  refine .ite h ?_
  dsimp only
  split
  · exact h.setCrt.ckStart.mw.ckFinish
  · exact h.setCrt.ckStart.mw

theorem State.Keeps.coldInit (h : s.Keeps t) : s.Keeps t.coldInit :=
  .wr <| .ite h.instInit.restartInit.ckWhole.frWrite h.instInit.restartInit.ckWhole

/-! A replay (14 R317): its state. -/

theorem State.Keeps.replayTake {r : Replay} (h : s.Keeps r.s) {e} : s.Keeps (r.take e).s := by
  unfold Replay.take
  extract_lets
  split
  · exact h.each fun _ _ hu => .ite hu.wbs hu
  · exact h

theorem State.Keeps.replayRun {r : Replay} (h : s.Keeps r.s) {layout off expect n} :
    ∀ r' ∈ r.run layout off expect n, s.Keeps r'.s := by
  induction n generalizing r off expect with
  | zero => exact fun _ hr => Option.some.inj hr ▸ h
  | succ n ih =>
    unfold Replay.run
    split
    · exact fun _ hr => Option.some.inj hr ▸ h
    · split
      · exact fun _ hr => Option.some.inj hr ▸ h
      · split
        · exact fun _ hr => nomatch hr
        · split
          · exact fun _ hr => Option.some.inj hr ▸ h
          · split
            · exact fun _ hr => nomatch hr
            · exact ih h.replayTake

theorem State.Keeps.replayStart (h : s.Keeps t) {c} : s.Keeps (t.replayStart c).s := by
  unfold State.replayStart
  extract_lets
  split
  · exact h.copy
  · exact h.copy.draw

theorem State.Keeps.restore (h : s.Keeps t) : ∀ r, t.restore = some r → s.Keeps r.s := fun r hr => by
  unfold State.restore at hr
  split at hr
  · exact nomatch hr
  · obtain ⟨c, -, hr⟩ := Option.bind_eq_some_iff.mp hr
    exact h.replayStart.replayRun r (Option.filter_eq_some_iff.mp hr).1

theorem State.Keeps.warmInit (h : s.Keeps t) : s.KeepsOpt t.warmInit := by
  unfold State.warmInit
  split
  · exact .none
  · next hv => exact .some <| .wr <| .wr <| .setCrt <| .others (h.instInit.restore _ hv).restartInit

theorem State.Keeps.restartClaim (h : s.Keeps t) {kind} : s.Keeps (t.restartClaim kind) :=
  .ite (.ite h.others.claim_ h.others) (.others <| .setMode <| .ite h.others.claim_ h.others)

theorem State.Keeps.warmOr (h : s.Keeps t) (h1 : s.Keeps t1) : s.Keeps (t.warmOr t1) := by
  unfold State.warmOr
  split
  · next hv => exact .restartClaim (h.warmInit _ hv)
  · exact h1

theorem State.Keeps.startPolicy (h : s.Keeps t) : s.Keeps t.startPolicy := by
  unfold State.startPolicy
  dsimp only
  split
  · exact h.fwWrite.warmOr h.fwWrite.setMode
  · exact h.fwWrite.coldInit.restartClaim
  · exact h.fwWrite.warmOr h.fwWrite.coldInit.restartClaim
  · exact h.fwWrite.warmOr h.fwWrite.setMode
  · exact h.fwWrite.setMode

theorem State.Keeps.joinBegin (h : s.Keeps t) {lead prog} : s.Keeps (t.joinBegin lead prog) := h.wr.wr.wr.others
theorem State.Keeps.joinStart (h : s.Keeps t) : s.Keeps t.joinStart := h.joinBegin.flagsInit.stationsAbsent.wr.wr
theorem State.Keeps.partnerPolicy (h : s.Keeps t) : s.Keeps t.partnerPolicy :=
  .ite h (.ite h.others.startPolicy (.ite (.ite h.others.joinStart h.others) h))
theorem State.Keeps.endAlone (h : s.Keeps t) {partner} : s.Keeps (t.endAlone partner) :=
  .ite h.setMode (.ite h.setMode.others h.startPolicy)
theorem State.Keeps.endStart (h : s.Keeps t) : s.Keeps t.endStart :=
  .ite h.setMode (.ite (.ite h.setMode h.endAlone) (.ite (.ite h.setMode.joinStart h.setMode) h.endAlone))
theorem State.Keeps.startRecords (h : s.Keeps t) : s.Keeps t.startRecords := .ite (.fwRecord <| .ite h.fwRecord h) (.ite h.fwRecord h)
theorem State.Keeps.execEndOfStart (h : s.Keeps t) : s.KeepsRes (execEndOfStart t) := .next <| .ite h.startRecords.endStart h

/-! Pair: the pair. -/

theorem State.Keeps.setHbok (h : s.Keeps t) {l b} : s.Keeps (t.setHbok l b) := h.put.bitTo
theorem State.Keeps.seeEpoch (h : s.Keeps t) {e} : s.Keeps (t.seeEpoch e) := h.wr
theorem State.Keeps.seeClaim (h : s.Keeps t) {c} : s.Keeps (t.seeClaim c) := h.seeEpoch.wr2
theorem State.Keeps.execHeartbeatSend (h : s.Keeps t) : s.KeepsRes (execHeartbeatSend t) :=
  .next <| .ite h (h.seeEpoch.each fun _ _ hu => hu.plSend)
theorem State.Keeps.detect (h : s.Keeps t) {hb} : s.Keeps (t.detect hb) :=
  .ite h.wr.ev.wr (.ite (.setPsync <| .ite h.wr.ev.wr.ev.fwRecord h.wr.ev.wr.ev) (.ite h.wr.ev.wr.ev.fwRecord h.wr.ev.wr.ev))

theorem State.Keeps.sendBulk (h : s.Keeps t) {lines} : s.Keeps (t.sendBulk lines) := by
  unfold State.sendBulk
  refine h.each fun _ _ hu => ?_
  dsimp only
  split
  · exact hu
  · exact hu.chunkSend
  · exact hu.chunkSend

theorem State.Keeps.sendAll (h : s.Keeps t) : s.Keeps t.sendAll := h.sendBulk
theorem State.Keeps.sendHalf (h : s.Keeps t) {staged h'} : s.Keeps (t.sendHalf staged h') :=
  .each (h.each fun _ _ hu => hu.fwdSend) fun _ _ hu => hu.fwdSend
theorem State.Keeps.sendList (h : s.Keeps t) {staged l} : s.Keeps (t.sendList staged l) := .ite h h.fwdSend
theorem State.Keeps.sendForces (h : s.Keeps t) {staged t'} : s.Keeps (t.sendForces staged t') := h.fwdSend
theorem State.Keeps.sendProgram (h : s.Keeps t) : s.Keeps t.sendProgram :=
  .sendForces <| .each (.sendList <| .sendList <| .ite h.sendHalf.sendHalf h.sendHalf) fun _ _ hu => hu.fwdSend

theorem State.Keeps.leadJoin (h : s.Keeps t) : s.Keeps t.leadJoin :=
  .ite (.sendForces <| .fwdSend <| .ite h.joinBegin.sendProgram h.joinBegin) (.sendAll <| .sendForces <| .fwdSend <| .ite
    h.joinBegin.sendProgram h.joinBegin)

theorem State.Keeps.leadAgain (h : s.Keeps t) : s.Keeps t.leadAgain :=
  .ite (.setMode <| .err <| h.castEnd.others.wr.wr.each fun _ _ hu => .ite hu.anchorNew hu) (.setClaim <| h.castEnd.others.wr.wr.each fun
    _ _ hu => .ite hu.anchorNew hu)

theorem State.Keeps.castFollow (h : s.Keeps t) {claiming castling track} : s.Keeps (t.castFollow claiming castling track) :=
  .ite (.others <| .wr (.ite h.wr h)) (.ite (.castEnd (.ite h.wr h)) (.ite h.wr h))
theorem State.Keeps.hbCastle (h : s.Keeps t) {hb} : s.Keeps (t.hbCastle hb) :=
  .ite h (.ite (.ite h.leadAgain h) (.ite h.castEnd h.castFollow))

theorem State.Keeps.hbReact (h : s.Keeps t) {hb} : s.Keeps (t.hbReact hb) := by
  unfold State.hbReact
  extract_lets _ _ _ _ u1 u2 u3 u4
  have h1 : s.Keeps u1 := .ite h.setPsync h
  have h2 : s.Keeps u2 := .ite h1.setSync h1
  have h3 : s.Keeps u3 := .ite h2.joinFails h2
  have h4 : s.Keeps u4 := .ite (.ite h3.leadJoin (.ite h3.joinFails h3)) h3
  exact h4.hbCastle

theorem State.Keeps.joinOnLink (h : s.Keeps t) : s.Keeps t.joinOnLink := .ite h.joinStart h
theorem State.Keeps.nowHeard (h : s.Keeps t) : s.Keeps t.nowHeard := h.others

theorem State.Keeps.execHeartbeatReceived (h : s.Keeps t) {link hb} : s.KeepsRes (execHeartbeatReceived link hb t) := by
  unfold Machine.execHeartbeatReceived
  refine .next ?_
  refine .ite h ?_
  extract_lets _ _ _ _ _ _ _ _ _ u1 _ _ u2 _ u3 u4 u5
  have h1 : s.Keeps u1 := h.wr.wr2.others.setHbok.seeEpoch
  have h2 : s.Keeps u2 := h1.seeClaim.wr.wr.wr.wr.wr.wr
  have h3 : s.Keeps u3 := .ite h2.detect.nowHeard h2
  have h4 : s.Keeps u4 := .ite h3.wr h3
  have h5 : s.Keeps u5 := h4.hbReact.partnerPolicy
  exact .xeDone <| .ite h5.joinOnLink h5

theorem State.Keeps.execHeartbeatMissing (h : s.Keeps t) {link} : s.KeepsRes (execHeartbeatMissing link t) :=
  .next <| .ite h (.ite h.awaitMt.setHbok.sat.ev h.awaitMt.setHbok.sat)
theorem State.Keeps.castLinksLost (h : s.Keeps t) : s.Keeps t.castLinksLost :=
  .ite h.wr (.ite h.castEnd (.ite h.castEnd.setClaim.others.setSync.wr h))
theorem State.Keeps.execHeartbeatsLost100us (h : s.Keeps t) : s.KeepsRes (execHeartbeatsLost100us t) :=
  .next <| .ite h (.xeDone <| .ite h.awaitMt.pathNow.others.ev.castLinksLost.setPsync h.awaitMt.pathNow.others.ev.castLinksLost)
theorem State.Keeps.execPartnerLost (h : s.Keeps t) : s.KeepsRes (execPartnerLost t) :=
  .next <| .ite h.awaitMt.pathNow.others.wr.ev.partnerPolicy.xeDone h
theorem State.Keeps.execPartnerDetectionTimeout (h : s.Keeps t) : s.KeepsRes (execPartnerDetectionTimeout t) :=
  .next <| .ite (.wr <| .ite h.awaitMt.wr h.awaitMt) h
theorem State.Keeps.execPlFrameBad (h : s.Keeps t) {link} : s.KeepsRes (execPlFrameBad link t) := .next h.sat
theorem State.Keeps.execPlLinkDown (h : s.Keeps t) {x} : s.KeepsRes (execPlLinkDown x t) :=
  .next <| .ite h (.xeDone <| .ite h.wr.wr.sat.ev.ev.chunksAgain.castLinksLost h.wr.wr.sat.ev.ev.chunksAgain)
theorem State.Keeps.execPlLinkUp (h : s.Keeps t) {link} : s.KeepsRes (execPlLinkUp link t) := .next <| .ite h h.wr.wr.ev.joinOnLink

theorem State.Keeps.runUntil (h : s.Keeps t) {w want n} : s.Keeps (t.runUntil w want n).1 := by
  induction n generalizing t with
  | zero => exact h
  | succ n ih =>
    unfold State.runUntil
    refine .ite₁ h ?_
    have hrow := h.runRows (w := w) (lim := noLimit) (n := 1)
    split
    · next hv => exact ih (hrow.fst hv)
    · exact hrow

theorem State.Keeps.execMirrorRangeFinal (h : s.Keeps t) {entry} : s.KeepsRes (execMirrorRangeFinal entry t) := by
  unfold Machine.execMirrorRangeFinal
  refine .next ?_
  refine .ite h ?_
  dsimp only
  split
  · exact h
  · exact .ite h (.ite (.ite h.runUntil.awaitClk.sendRange.xeDone h.runUntil.awaitClk.scheduleFaultAt.xeDone) h.sendRange.xeDone)

theorem State.Keeps.ackSend (h : s.Keeps t) {writer ply count} : s.Keeps (t.ackSend writer ply count) := .ite h.plSendAll.others h.plSendAll

theorem State.Keeps.takeChunk (h : s.Keeps t) {c} : s.Keeps (t.takeChunk c) := by
  unfold State.takeChunk
  refine .ite h.dmaStore ?_
  refine .ite (.others <| .ite h.dmaStore.markRetain h.dmaStore) ?_
  refine .ite (.ackSend <| .others <| .ite h.dmaStore.markRetain h.dmaStore) ?_
  extract_lets u1 u2
  have h1 : s.Keeps u1 := .ite (.wr <| .ackSend <| .others <| .ite h.dmaStore.markRetain h.dmaStore) (.ackSend <| .others <| .ite
    h.dmaStore.markRetain h.dmaStore)
  have h2 : s.Keeps u2 := .ite h1.handRetained h1
  exact .ite (.ite h2 h2.lioFollow) h2

theorem State.Keeps.execMirrorReceived (h : s.Keeps t) {link writer seq ply offset count last data} :
    s.KeepsRes (execMirrorReceived link writer seq ply offset count last data t) :=
  .next <| .ite h (.ite h.others.setSync (.ite h.others.others h.others.takeChunk))

theorem State.Keeps.execAckReceived (h : s.Keeps t) {link writer ply crc rows} :
    s.KeepsRes (execAckReceived link writer ply crc rows t) := by
  unfold Machine.execAckReceived
  refine .next ?_
  refine .ite h ?_
  extract_lets u1
  have h1 : s.Keeps u1 := by
    dsimp only [u1]
    split
    · exact .ite h h.setPsync
    · exact h
  split
  · exact h1.xeDone
  · exact .ite h1.xeDone (.ite h1.modPly.xeDone (.ite h1.resumeCommit h1.xeDone))

theorem State.Keeps.execMirrorEscape (h : s.Keeps t) {addr writer m} : s.KeepsRes (execMirrorEscape addr writer m t) :=
  .next <| .ite h.escape.xeDone h

theorem State.Keeps.mlChecked (h : s.Keeps t) : s.Keeps t.mlChecked.2 := by
  unfold State.mlChecked
  extract_lets u1
  have h1 : s.Keeps u1 := h.each fun _ _ hu => hu.wr
  clear_value u1
  split
  · exact h1.wr.err
  · split
    · exact h1.wr.err
    · exact h1.wr

theorem State.Keeps.execMlCheck (h : s.Keeps t) {_m} : s.KeepsRes (execMlCheck _m t) :=
  .next <| h.onPage fun _ hu => .ite hu.mlChecked.joinFails hu.mlChecked
theorem State.Keeps.mlData (h : s.Keeps t) {write v} : s.Keeps (t.mlData write v).2 :=
  .wrap <| .ite (.wrap <| .ite h (.ite h.others (.ite h.others h.err))) (.ite h (.ite h.others (.ite h.others h.err)))
theorem State.Keeps.execMldataAccess (h : s.Keeps t) {_m write value} : s.KeepsRes (execMldataAccess _m write value t) :=
  .next <| .ite (h.onPage fun _ hu => hu.mlData) (h.onRead fun _ hu => hu.mlData)
theorem State.Keeps.execSyncCmdJoin (h : s.Keeps t) {_m} : s.KeepsRes (execSyncCmdJoin _m t) :=
  .next <| h.onPage fun _ hu => .ite hu.joinStart hu.err
theorem State.Keeps.dirtyRound (h : s.Keeps t) : s.Keeps t.dirtyRound := h.others.sendBulk
theorem State.Keeps.roundEnd (h : s.Keeps t) : s.Keeps t.roundEnd :=
  .ite h.wrap.wr (.ite h.wrap.joinFails (.ite h.wrap.dirtyRound h.wrap.others))

theorem State.Keeps.execJoinPhaseComplete (h : s.Keeps t) : s.KeepsRes (execJoinPhaseComplete t) := by
  unfold Machine.execJoinPhaseComplete
  refine .next ?_
  split
  · exact .ite h.wr.sendAll h.wr
  · exact .ite h.wr.dirtyRound h.wr.others
  · exact h.roundEnd
  · exact .ite h h.wr.setSync.ev
  · exact h

theorem State.Keeps.execJoinFail (h : s.Keeps t) {cause} : s.KeepsRes (execJoinFail cause t) := .next h.joinFails.xeDone
theorem State.Keeps.execBulkReceived (h : s.Keeps t) {link offset data} : s.KeepsRes (execBulkReceived link offset data t) :=
  .next <| .ite h (.ite h.dmaStore.others h.dmaStore)
theorem State.Keeps.claimDecision (h : s.Keeps t) : s.Keeps t.claimDecision :=
  .ite h.others (.ite (.ite h.claim_ h.wr.others) (.ite h.claim_ h))
theorem State.Keeps.claimOutcome (h : s.Keeps t) {own other} : s.Keeps (t.claimOutcome own other) :=
  .ite h (.ite h.others (.ite h.claimWon (.ite h.withdraw h.others)))

theorem State.Keeps.leaseDecision (h : s.Keeps t) {own other} : s.Keeps (t.leaseDecision own other) :=
  .ite h.wr (.ite h.wr.wr.others (.ite h.wr.setMode.ev (.ite (.ev <| .setMode <| .ite (.getD h.sat.castleRequest h.sat.err) h.sat) (.ite
    (.getD h.sat.castleRequest h.sat.err) h.sat))))

theorem State.Keeps.castlingDone (h : s.Keeps t) : s.Keeps t.castlingDone := h.castEnd.wrap.setMode.ev.ev

theorem State.Keeps.execPairCycleEnd (h : s.Keeps t) : s.KeepsRes (execPairCycleEnd t) :=
  .next <| .ite h (.xeDone <| .others <| .ite h.wr.wr.castlingDone (.ite h.wr.wr.dropClaim.setMode.ev (.ite (.ite (.ite h.wr.wr
    h.wr.wr.claimWon) h.wr.wr.claimOutcome) (.ite (.ite h.wr.wr h.wr.wr.leaseDecision) (.ite h.wr.wr.claimDecision h.wr.wr)))))

theorem State.Keeps.execCastleCmdReq (h : s.Keeps t) {m forced} : s.KeepsRes (execCastleCmdReq m forced t) :=
  .next <| h.onPage fun _ hu => .cfgBump <| .getD hu.put.castleRequest hu.put.err
theorem State.Keeps.execCastleReceived (h : s.Keeps t) {link kind} : s.KeepsRes (execCastleReceived link kind t) :=
  .next <| .ite h (.ite (.ite h.wr.others h) (.ite (.ite h.setClaim.others.castEnd.wr (.ite h.castEnd h)) h))
theorem State.Keeps.execCastlingHandover (h : s.Keeps t) : s.KeepsRes (execCastlingHandover t) :=
  .next <| .ite h (.ite h (.ite h h.abandonAll.sendHandover.wr.wr.wr.wr.others))
theorem State.Keeps.execCastlingNoGap (h : s.Keeps t) : s.KeepsRes (execCastlingNoGap t) := .next <| .ite h.plSendAll.castEnd h

theorem State.Keeps.execHandoverReceived (h : s.Keeps t) {link abrupt plies nexts inNt tasks} :
    s.KeepsRes (execHandoverReceived link abrupt plies nexts inNt tasks t) :=
  .next <| .ite h (.ite h.castEnd.others.enterLead.wr.ev.wrap.ev.wr.xeDone (.xeDone <| .setPsync <|
    h.castEnd.others.enterLead.wr.ev.wrap.ev.wr.each fun _ _ hu => .ite hu.wr.modPly hu.wr))

/-! Ramette: the Ramette cluster. -/

theorem State.Keeps.joinSegs (h : s.Keeps t) : s.Keeps t.joinSegs := h.each fun _ _ hu => hu.modRmt

theorem State.Keeps.segCycle (h : s.Keeps t) {c t' len seed g} : s.Keeps (t.segCycle c t' len seed g) :=
  .ite (.evLevel <| .tellEcho <| .each (h.wr.modRmt.each fun _ _ hu => .ite hu.guardSeed hu.guardPulse) fun _ _ hu => hu.remeasure)
    (.tellEcho <| .each (h.wr.modRmt.each fun _ _ hu => .ite hu.guardSeed hu.guardPulse) fun _ _ hu => hu.remeasure)

theorem State.Keeps.beginCycle (h : s.Keeps t) {c t' seed} : s.Keeps (t.beginCycle c t' seed) :=
  h.wr.wr2.modRmc.others.joinSegs.each fun _ _ hu => hu.segCycle
theorem State.Keeps.listen (h : s.Keeps t) : s.Keeps t.listen := h.setCstate.modRmc
theorem State.Keeps.coldstart (h : s.Keeps t) {t'} : s.Keeps (t.coldstart t') := h.setCstate.sat.modRmc.beginCycle
theorem State.Keeps.coldCycleEnd (h : s.Keeps t) : s.Keeps t.coldCycleEnd := .ite h.setCstate.sat.ev.modRmc (.ite h.setCstate h)
theorem State.Keeps.integrates (h : s.Keeps t) {c} : s.Keeps (t.integrates c) :=
  .ite h.setRmc (.ite h.listen (.ite h.setRmc (.ite h.setCstate h)))

theorem State.Keeps.execCycleStart (h : s.Keeps t) : s.KeepsRes (execCycleStart t) :=
  .next <| .ite h (.xeDone <| .ite (.ite h.awaitMt.pathNow.coldCycleEnd h.awaitMt.pathNow) (.ite (.integrates <| .modRmc <| .beginCycle <|
    .ite h.awaitMt.pathNow.coldCycleEnd h.awaitMt.pathNow) (.modRmc <| .beginCycle <| .ite h.awaitMt.pathNow.coldCycleEnd
    h.awaitMt.pathNow)))

theorem State.Keeps.integrateOn (h : s.Keeps t) {f e node} : s.Keeps (t.integrateOn f e node) := h.setCstate.modRmc.beginCycle
theorem State.Keeps.awaitNode (h : s.Keeps t) : s.Keeps t.awaitNode := h.setCstate.modRmc

theorem State.Keeps.hearLoose (h : s.Keeps t) {f} : s.Keeps (t.hearLoose f) := by
  unfold State.hearLoose
  split
  · refine .ite ?_ h
    split
    · exact h.integrateOn
    · exact .ite h.awaitNode h.modRmc
  · exact h

theorem State.Keeps.confirm (h : s.Keeps t) {f node dev} : s.Keeps (t.confirm f node dev) := .ite (.ite h.setRmc h.listen) (.ite h.setRmc h)
theorem State.Keeps.measure (h : s.Keeps t) {f node dev} : s.Keeps (t.measure f node dev) := .ite h h.modRmc
theorem State.Keeps.lateOfA (h : s.Keeps t) : s.Keeps t.lateOfA := .ite (.ite h.modRmc.sat.listen h.modRmc) h
theorem State.Keeps.meets (h : s.Keeps t) : s.Keeps t.meets := h.modRmc

theorem State.Keeps.frameErr (h : s.Keeps t) {g x kind} : s.Keeps (t.frameErr g x kind) := by
  unfold State.frameErr
  split
  · exact h.stErr
  · exact .ite h.segEv h

theorem State.Keeps.frameValid (h : s.Keeps t) {f e dev act} (hact : ∀ u a, s.Keeps u → s.Keeps (act u a)) :
    s.Keeps (t.frameValid f e dev act) := by
  unfold State.frameValid
  refine hact _ _ ?_
  refine .ite ?_ ?_
  · refine .segEv ?_
    refine .wr ?_
    split
    · exact .ite (.measure <| .ite h h.confirm) h
    · exact h
  · split
    · exact .ite (.measure <| .ite h h.confirm) h
    · exact h

theorem State.Keeps.judge (h : s.Keeps t) {f n e act} (hact : ∀ u a, s.Keeps u → s.Keeps (act u a)) : s.Keeps (t.judge f n e act) := by
  unfold State.judge
  extract_lets _ _ _ _ u1
  have h1 : s.Keeps u1 := by
    dsimp only [u1]
    split
    · exact .ite h.confirm h
    · exact h
  exact .ite (.ite h1.frameErr.lateOfA h1.frameErr) (.ite (.ite h1.frameErr.modRmt h1.frameErr) (h1.frameValid hact))

theorem State.Keeps.hearOwn (h : s.Keeps t) {f e} : s.Keeps (t.hearOwn f e) := by
  unfold State.hearOwn
  split
  · exact h.takeEcho
  · exact .ite h.meets h

theorem State.Keeps.inSlotFrame (h : s.Keeps t) {f n e act} (hact : ∀ u a, s.Keeps u → s.Keeps (act u a)) :
    s.Keeps (t.inSlotFrame f n e act) :=
  .ite h (h.hearOwn.judge hact)

theorem State.Keeps.reflexTake (h : s.Keeps t) {g k payload} : s.Keeps (t.reflexTake g k payload) := .ite h.others h

theorem State.Keeps.judgeMini (h : s.Keeps t) {f round m} : s.Keeps (t.judgeMini f round m) := by
  unfold State.judgeMini
  dsimp only
  split
  · exact h.hearOwn.segEv
  · refine .ite h.hearOwn.frameErr ?_
    refine .ite h.hearOwn.frameErr ?_
    refine .ite h.hearOwn.frameErr ?_
    split
    · exact h.hearOwn.reflexTake
    · exact h.hearOwn

theorem State.Keeps.receive (h : s.Keeps t) {f act} (hact : ∀ u a, s.Keeps u → s.Keeps (act u a)) : s.Keeps (t.receive f act) := by
  unfold State.receive
  refine .ite h ?_
  refine .ite (.ite h h.hearLoose) ?_
  dsimp only
  split
  · exact .segEv (.ite h.meets h)
  · exact .judgeMini (.ite h.meets h)
  · exact .inSlotFrame (.ite h.meets h) hact

theorem State.Keeps.takeBeacon (h : s.Keeps t) {f} : s.Keeps (t.takeBeacon f) :=
  .ite (.setSync <| .ite (.others <| .others <| .ite (.ev <| .ite h.seeClaim h) (.ite h.seeClaim h)) (.others <| .ite (.ev <| .ite
    h.seeClaim h) (.ite h.seeClaim h))) (.ite (.others <| .others <| .ite (.ev <| .ite h.seeClaim h) (.ite h.seeClaim h)) (.others <| .ite
    (.ev <| .ite h.seeClaim h) (.ite h.seeClaim h)))

theorem State.Keeps.stray (h : s.Keeps t) {g b t'} : s.Keeps (t.stray g b t') := by
  unfold State.stray
  refine .ite h ?_
  split
  · exact h.segEv
  · split
    · exact h.segEv
    · exact .ite h h.frameErr
  · exact .ite (.ite h.meets h) (.frameErr (.ite h.meets h))

theorem State.Keeps.execStrayFrame (h : s.Keeps t) {seg chanB start} : s.KeepsRes (execStrayFrame seg chanB start t) :=
  .next h.awaitMt.pathNow.stray.xeDone

theorem State.Keeps.correct (h : s.Keeps t) : s.Keeps t.correct :=
  .ite (h.wr.wr.wr.modRmc.setCstate.sat.each fun _ _ hu => hu.wr.segEv) (.ite (h.wr.wr.wr.modRmc.setCstate.each fun _ _ hu => hu.wr)
    h.wr.wr.wr.modRmc)

theorem State.Keeps.execClockCorrection (h : s.Keeps t) : s.KeepsRes (execClockCorrection t) :=
  .next <| .ite h h.awaitMt.pathNow.correct.xeDone
theorem State.Keeps.execListenTimeout (h : s.Keeps t) : s.KeepsRes (execListenTimeout t) :=
  .next <| .ite h (.xeDone <| .ite h.awaitMt.pathNow.awaitNode h.awaitMt.pathNow.coldstart)
theorem State.Keeps.execColdstartCycleEnd (h : s.Keeps t) : s.KeepsRes (execColdstartCycleEnd t) :=
  .next <| .ite h h.awaitMt.pathNow.coldCycleEnd.xeDone
theorem State.Keeps.execBackoffEnd (h : s.Keeps t) : s.KeepsRes (execBackoffEnd t) := .next <| .ite h h.awaitMt.pathNow.coldstart.xeDone
theorem State.Keeps.execGuardianBlock (h : s.Keeps t) {seg chanB} : s.KeepsRes (execGuardianBlock seg chanB t) :=
  .next <| .ite h.guardBlock h
theorem State.Keeps.execGuardianCut (h : s.Keeps t) {seg chanB} : s.KeepsRes (execGuardianCut seg chanB t) := .next <| .ite h.guardCut h
theorem State.Keeps.execGuardianReopen (h : s.Keeps t) {seg chanB} : s.KeepsRes (execGuardianReopen seg chanB t) := .next (.ite h.bitTo h)

/-! Stations: stations. -/

theorem State.Keeps.markValid (h : s.Keeps t) {f k} : s.Keeps (t.markValid f k) := h.modStn
theorem State.Keeps.fillHalf (h : s.Keeps t) {f k h' mts stat again} : s.Keeps (t.fillHalf f k h' mts stat again) :=
  .ite h.wrLe.wrLe.wrLe.wbs.wb h.wrLe.wrLe.wrLe.wbs.wb.modStn

theorem State.Keeps.ackDown (h : s.Keeps t) {g k ack} : s.Keeps (t.ackDown g k ack) := by
  unfold State.ackDown
  split
  · exact .ite h.setSvc.segEv h
  · exact h

theorem State.Keeps.takeData (h : s.Keeps t) {f e} : s.Keeps (t.takeData f e) := by
  unfold State.takeData
  extract_lets _ _ _ _ _ _ _ r u1 _ u2
  have h1 : s.Keeps u1 := by
    dsimp only [u1, r]
    split
    · exact h
    · exact h.draw
  have h2 : s.Keeps u2 := .ite h1 h1.fillHalf.modStn
  exact h2.wr.markValid.modStn.modStn.learnPath.ackDown

theorem State.Keeps.takeUplink (h : s.Keeps t) {f} : s.Keeps (t.takeUplink f) := by
  unfold State.takeUplink
  refine .ite h ?_
  refine .ite h.setStn ?_
  extract_lets
  exact .ite h.wbs.setStn.segEv.uplinkDone h.wbs.setStn

theorem State.Keeps.frameActs (h : s.Keeps t) {f e} : s.Keeps (t.frameActs f e) := by
  unfold State.frameActs
  refine .ite (.ite h.takeBeacon h) ?_
  refine .ite h ?_
  split
  · exact .ite h.takeData h.markValid
  · exact .ite h.takeUplink h
  · exact h

theorem State.Keeps.takeFrame (h : s.Keeps t) {f} : s.Keeps (t.takeFrame f) :=
  .xeDone <| h.awaitMt.pathNow.receive fun _ _ hu => hu.frameActs
theorem State.Keeps.execDataFrameReceived (h : s.Keeps t) {f} : s.KeepsRes (execDataFrameReceived f t) := .next h.takeFrame
theorem State.Keeps.execNullFrameReceived (h : s.Keeps t) {f} : s.KeepsRes (execNullFrameReceived f t) := .next h.takeFrame
theorem State.Keeps.execSyncFrameReceived (h : s.Keeps t) {f} : s.KeepsRes (execSyncFrameReceived f t) := .next h.takeFrame
theorem State.Keeps.execCsfReceived (h : s.Keeps t) {f} : s.KeepsRes (execCsfReceived f t) := .next h.takeFrame
theorem State.Keeps.execBeaconReceived (h : s.Keeps t) {f} : s.KeepsRes (execBeaconReceived f t) := .next h.takeFrame
theorem State.Keeps.execServiceFrameReceived (h : s.Keeps t) {f} : s.KeepsRes (execServiceFrameReceived f t) := .next h.takeFrame
theorem State.Keeps.execServiceQueue (h : s.Keeps t) {_m seg st src} : s.KeepsRes (execServiceQueue _m seg st src t) :=
  .next <| h.onPage fun _ hu => .ite hu.err (.ite hu.queueMsg (.ite hu.queueMsg hu.queueMsg))

theorem State.Keeps.execDownlinkResend (h : s.Keeps t) {seg st} : s.KeepsRes (execDownlinkResend seg st t) := by
  unfold Machine.execDownlinkResend
  refine .next ?_
  split
  · exact .ite (.ite h h.awaitMt) (.ite (.err <| .setSvc <| .ite h h.awaitMt) (.setSvc <| .ite h h.awaitMt))
  · exact h

theorem State.Keeps.parameterise (h : s.Keeps t) {g k} : s.Keeps (t.parameterise g k) :=
  .ite h (.ite h.modStn.queueMsg.queueMsg (.ite h h.modStn.queueMsg))
theorem State.Keeps.evaluate (h : s.Keeps t) {g k e} : s.Keeps (t.evaluate g k e) :=
  .ite h.setStn.wr.setStation.wr.parameterise h.setStn.wr.setStation.wr

theorem State.Keeps.execStationEvaluation (h : s.Keeps t) {seg st} : s.KeepsRes (execStationEvaluation seg st t) := by
  unfold Machine.execStationEvaluation
  refine .next ?_
  split
  · exact h
  · exact .ite h h.awaitMt.pathNow.evaluate.xeDone

theorem State.Keeps.execOutSlotSend (h : s.Keeps t) {seg chanB slot} : s.KeepsRes (execOutSlotSend seg chanB slot t) := by
  unfold Machine.execOutSlotSend
  refine .next ?_
  dsimp only
  split
  · exact h
  · exact .ite h (.ite h.awaitMt.pathNow.xeDone h.awaitMt.pathNow.sendSlot.xeDone)

theorem State.Keeps.moduleSend (h : s.Keeps t) {ty x} : s.Keeps (t.moduleSend ty x) :=
  h.awaitMt.pathNow.each fun _ _ hu => .ite hu.sendSlot hu

theorem State.Keeps.execModuleSlotSend (h : s.Keeps t) : s.KeepsRes (execModuleSlotSend t) := by
  unfold Machine.execModuleSlotSend
  refine .next ?_
  split
  · exact h
  · exact .xeDone <| .each (.ite h.seeEpoch h) fun _ _ hu => hu.moduleSend

theorem State.Keeps.sendFragment (h : s.Keeps t) {g k n e b} : s.Keeps (t.sendFragment g k n e b) := by
  unfold State.sendFragment
  split
  · exact h
  · exact h.sendSlot.setSvc

theorem State.Keeps.execServiceDownlinkSend (h : s.Keeps t) {seg chanB} : s.KeepsRes (execServiceDownlinkSend seg chanB t) := by
  unfold Machine.execServiceDownlinkSend
  refine .next ?_
  dsimp only
  split
  · exact h
  · split
    · exact h
    · refine .ite h ?_
      refine .ite h.awaitMt.pathNow.xeDone ?_
      split
      · exact h.awaitMt.pathNow.sendFragment.xeDone
      · exact h.awaitMt.pathNow.sendSlot.xeDone

theorem State.Keeps.segJoins (h : s.Keeps t) {g} : s.Keeps (t.segJoins g) := .ite h.wr.modRmt.setCstate.modRmc (.ite h.wr.wr h.wr)
theorem State.Keeps.segStart (h : s.Keeps t) {g} : s.Keeps (t.segStart g) :=
  .ite h.wr.toFault.err h.wr.wrLe.wr.setRmt.wr.wr.guardSeed.guardSeed.setUnit.segJoins

/-! Upd: UPD. -/

theorem State.Keeps.updRes (h : s.Keeps t) {code check} : s.Keeps (t.updRes code check) := by
  unfold State.updRes
  dsimp only
  split
  · exact h.wr.wr.err
  · exact h.wr.wr.err
  · exact h.wr.wr.err
  · exact h.wr.wr

theorem State.Keeps.blockHeld (h : s.Keeps t) {type off data} : s.Keeps (t.blockHeld type off data) :=
  .ite (.wr <| .setUpd <| .ev <| .wr <| .setUpd <| .ite h.setBook h.setUpd) (.updRes <| .ev <| .wr <| .setUpd <| .ite h.setBook h.setUpd)

theorem State.Keeps.updBlock (h : s.Keeps t) {type off len total data room} : s.Keeps (t.updBlock type off len total data room) :=
  .ite h.err (.ite h.updRes (.ite h.ev.updRes (.ite h.updRes (.ite h.updRes (.ite (.ite h.xferDrop.ev.updRes (.ite h.updRes
    h.setDir.setUpd.wr.setBook.blockHeld)) h.setUpd.wr.blockHeld)))))

theorem State.Keeps.execUpdBlockSubmit (h : s.Keeps t) {_m room} : s.KeepsRes (execUpdBlockSubmit _m room t) := by
  unfold Machine.execUpdBlockSubmit
  refine .next ?_
  refine h.onPage ?_
  intro _ hu
  refine .ite hu.err ?_
  split
  · next hv => exact .updBlock (hu.dmaLoad.snd hv)
  · next hv => exact .updRes (hu.dmaLoad.snd hv)

theorem State.Keeps.recoveryDone (h : s.Keeps t) : s.Keeps t.recoveryDone := .ite h.wr.others h

theorem State.Keeps.execUpdVerifyComplete (h : s.Keeps t) : s.KeepsRes (execUpdVerifyComplete t) :=
  .next <| .ite h (.ite (.recoveryDone <| .imgReply <| .updRes <| .ev <| .ite h.xferDrop.setDir.setUpd h.xferDrop.setDir)
    h.xferDrop.setDir.ev.updRes.imgReply)

theorem State.Keeps.updCancel (h : s.Keeps t) : s.Keeps t.updCancel := .ite h (.xferDrop (.ite h.setDir h))
theorem State.Keeps.execUpdCancel (h : s.Keeps t) {_m} : s.KeepsRes (execUpdCancel _m t) := .next <| h.onPage fun _ hu => hu.updCancel
theorem State.Keeps.execUpdUnpend (h : s.Keeps t) {m type} : s.KeepsRes (execUpdUnpend m type t) :=
  .next <| h.onPage fun _ hu => .ite hu.wr.cfgBump.err hu.wr.cfgBump.setDir
theorem State.Keeps.bookStart (h : s.Keeps t) : s.Keeps t.bookStart := .ite h.setCrt.updView.setUpd.put.ev h.setCrt.updView.setUpd.put

/-! Enable: CTRL. -/

theorem State.Keeps.domain (h : s.Keeps t) {p on} : s.Keeps (t.domain p on) := .ite h.bitTo (.ite h.bitTo h)
theorem State.Keeps.unitStarting (h : s.Keeps t) {p} : s.Keeps (t.unitStarting p) :=
  .ite h (.ite h.domain.macCheck (.ite h.domain.rbCheck h.domain))
theorem State.Keeps.linkOff (h : s.Keeps t) {l} : s.Keeps (t.linkOff l) :=
  .ite h.wr.wr (.xeDone <| .ite h.wr.wr.ev.castLinksLost h.wr.wr.ev)
theorem State.Keeps.unitEnters (h : s.Keeps t) {p} : s.Keeps (t.unitEnters p) :=
  .ite h.erEnabled.erView (.ite h.others.lioLevels (.ite h.wr h))
theorem State.Keeps.started (h : s.Keeps t) {p} : s.Keeps (t.started p) := .ite h (.ite h.setUnit (.ite h.segStart h.setUnit.unitEnters))
theorem State.Keeps.execStartUpComplete (h : s.Keeps t) {page} : s.KeepsRes (execStartUpComplete page t) := .next <| .ite h.started h
theorem State.Keeps.unitDisabled (h : s.Keeps t) {p} : s.Keeps (t.unitDisabled p) :=
  .ite h.abandonAll.xeDone (.ite h.lioLevels (.ite h.wr h))

theorem State.Keeps.writeEn (h : s.Keeps t) {page en} : s.Keeps (t.writeEn page en) :=
  .ite (.ite h h.err) (.ite (.ite h.enTransition.unitStarting h.enTransition) (.unitDisabled <| .ite h.enTransition.domain
    h.enTransition))

theorem State.Keeps.ctrlEn (h : s.Keeps t) {page en} : s.Keeps (t.ctrlEn page en) := .ite h.put h.writeEn
theorem State.Keeps.execCtrlEnWrite (h : s.Keeps t) {_m page en} : s.KeepsRes (execCtrlEnWrite _m page en t) :=
  .next <| h.onPage fun _ hu => hu.ctrlEn
theorem State.Keeps.unitLeaves (h : s.Keeps t) {p} : s.Keeps (t.unitLeaves p) :=
  .ite h.segLeaves (.ite h.linkOff (.ite h.erDrained.erView h))

theorem State.Keeps.drainEnds (h : s.Keeps t) {p} : s.Keeps (t.drainEnds p) :=
  .ite h (.ite (.unitStarting <| .ite (.drained <| .ite h.unitLeaves h) (.unitLeaves <| .drained <| .ite h.unitLeaves h)) (.domain <| .ite
    (.drained <| .ite h.unitLeaves h) (.unitLeaves <| .drained <| .ite h.unitLeaves h)))

theorem State.Keeps.execDrainingComplete (h : s.Keeps t) {page} : s.KeepsRes (execDrainingComplete page t) :=
  .next <| .ite h (.ite h.awaitMt.pathNow.drainEnds.xeDone h.drainEnds)
theorem State.Keeps.pairAbandon (h : s.Keeps t) : s.Keeps t.pairAbandon := .others <| .wr <| .dropClaim <| .ite h h.castEnd

theorem State.Keeps.xeAbandon (h : s.Keeps t) {keep} : s.Keeps (t.xeAbandon keep) :=
  .ite (.sealReply <| .wr <| .ite h.abandonAll.sealCancel.others.wr.wr.verifyReply h.abandonAll.sealCancel.others.wr) (.ite
    h.abandonAll.sealCancel.others.wr.wr.verifyReply h.abandonAll.sealCancel.others.wr)

theorem State.Keeps.timAbandon (h : s.Keeps t) : s.Keeps t.timAbandon := h.wr.wr.setTim.setPulses
theorem State.Keeps.crtAbandon (h : s.Keeps t) : s.Keeps t.crtAbandon := h.ckDrop.wr.setCrt
theorem State.Keeps.erAbandon (h : s.Keeps t) : s.Keeps t.erAbandon := h.setEr.erView
theorem State.Keeps.bkdAbandon (h : s.Keeps t) : s.Keeps t.bkdAbandon := h.wr.wr.wr.others
theorem State.Keeps.rmcAbandon (h : s.Keeps t) : s.Keeps t.rmcAbandon := .ite h.rmcOff h.rmcOff.wr.joinSegs.listen

theorem State.Keeps.unitAbandon (h : s.Keeps t) {p} : s.Keeps (t.unitAbandon p) := by
  unfold State.unitAbandon
  refine .ite h.segLeaves ?_
  refine .ite h.linkOff ?_
  refine .ite h.setEmac ?_
  refine .ite h.rbTxEnd ?_
  split
  · exact h.xeAbandon.xeDone
  · exact h.others
  · exact h.rmcAbandon
  · exact h.pairAbandon
  · exact h.timAbandon
  · exact h.bkdAbandon
  · exact h.crtAbandon
  · exact h.erAbandon
  · exact h.xferDrop
  · exact h

theorem State.Keeps.execDrainingTimeout (h : s.Keeps t) {page} : s.KeepsRes (execDrainingTimeout page t) :=
  .next <| .ite h.toFault.unitAbandon h
theorem State.Keeps.execUnitFault (h : s.Keeps t) {page} : s.KeepsRes (execUnitFault page t) :=
  .next <| .ite (.ite h.toFault.unitAbandon.lioLevels h.toFault.unitAbandon) h

theorem State.Keeps.unitRefresh (h : s.Keeps t) {p} : s.Keeps (t.unitRefresh p) := by
  unfold State.unitRefresh
  refine .ite h.rbReset ?_
  refine .ite h.stampView ?_
  split
  · exact .stagedView <| h.each fun _ _ hu => .ite hu hu.modPly
  · exact h.others
  · exact h.erView
  · exact h.lioLevels
  · exact h

theorem State.Keeps.srst (h : s.Keeps t) {page} : s.Keeps (t.srst page) :=
  .ite (.ev <| .unitStarting <| .unitRefresh <| .srstRegs <| .ite (.others <| .teUnlocked <| .ite h.unitAbandon.writeLocked h.unitAbandon)
    (.ite h.unitAbandon.writeLocked h.unitAbandon)) (.unitStarting <| .unitRefresh <| .srstRegs <| .ite (.others <| .teUnlocked <| .ite
    h.unitAbandon.writeLocked h.unitAbandon) (.ite h.unitAbandon.writeLocked h.unitAbandon))

theorem State.Keeps.writeSrst (h : s.Keeps t) {page} : s.Keeps (t.writeSrst page) := .ite h.err (.ite h.err (.ite h.wr.wrap.setUnit h.srst))
theorem State.Keeps.execSoftReset (h : s.Keeps t) {_m page} : s.KeepsRes (execSoftReset _m page t) :=
  .next <| h.onPage fun _ hu => hu.writeSrst
theorem State.Keeps.execLockKeyWrite (h : s.Keeps t) {_m page value} : s.KeepsRes (execLockKeyWrite _m page value t) := .next h.lockWrite
theorem State.Keeps.execEvforceWrite (h : s.Keeps t) {_m page value} : s.KeepsRes (execEvforceWrite _m page value t) :=
  .next <| h.onPage fun _ hu => hu.evforce

/-! Evc: the event controller. -/

theorem State.Keeps.claimSrc (h : s.Keeps t) {n k} : s.Keeps (t.claimSrc n k) := .ite h.wr (.ite h.wr.others.wr h.wr.others)

theorem State.Keeps.claim (h : s.Keeps t) {n} : s.Keeps (t.claim n).2 := by
  unfold State.claim
  split
  · exact h.claimSrc
  · exact h

theorem State.Keeps.complete (h : s.Keeps t) {n k} : s.Keeps (t.complete n k) := .ite (.ite h.wr h.err) (.ite h.wr.wr.others h.err)
theorem State.Keeps.claims (h : s.Keeps t) {cp0 cp1} : s.Keeps (t.claims cp0 cp1) :=
  .others <| .ite₂ (.claim (.ite₂ h.claim h)) (.ite₂ h.claim h)
theorem State.Keeps.execEvcClaim (h : s.Keeps t) {cp0 cp1} : s.KeepsRes (execEvcClaim cp0 cp1 t) := .next <| .ite h.touch.claims h.others
theorem State.Keeps.execEvcComplete (h : s.Keeps t) {pair src} : s.KeepsRes (execEvcComplete pair src t) :=
  .next <| h.onPage fun _ hu => hu.complete

/-! Sealed: on-line change and forced values. -/

theorem State.Keeps.smDir (h : s.Keeps t) {m dir} : s.Keeps (t.smDir m dir) := h.put.cfgBump
theorem State.Keeps.smVerifyGo (h : s.Keeps t) : s.Keeps t.smVerifyGo := .ite h (.ite h.wr.wr h.err)
theorem State.Keeps.execSmVerify (h : s.Keeps t) {m dir} : s.KeepsRes (execSmVerify m dir t) :=
  .next <| h.onPage fun _ hu => hu.smDir.smVerifyGo
theorem State.Keeps.execSmVerifyComplete (h : s.Keeps t) : s.KeepsRes (execSmVerifyComplete t) :=
  .next <| .ite h (.verifyReply <| .ite h.wr.put.stagedView.wr.wr h.wr.put.stagedView.wr.wr.err)
theorem State.Keeps.smArmGo (h : s.Keeps t) {rev} : s.Keeps (t.smArmGo rev) := .ite (.ite h.others.wr.sealCancel h.others.wr) h.err
theorem State.Keeps.execSmArm (h : s.Keeps t) {m dir} : s.KeepsRes (execSmArm m dir t) := .next <| h.onPage fun _ hu => hu.smDir.smArmGo
theorem State.Keeps.smCancelGo (h : s.Keeps t) : s.Keeps t.smCancelGo := .ite h.sealCancel h.err
theorem State.Keeps.execSmCancel (h : s.Keeps t) {_m} : s.KeepsRes (execSmCancel _m t) := .next <| h.onPage fun _ hu => hu.smCancelGo
theorem State.Keeps.execSealLapse (h : s.Keeps t) : s.KeepsRes (execSealLapse t) := .next <| .ite (.ite h.matchNext h) h
theorem State.Keeps.carry (h : s.Keeps t) {h' d} : s.Keeps (t.carry h' d) := .dirtyMark <| h.each fun _ _ hu => hu.iStore
theorem State.Keeps.carryAll (h : s.Keeps t) {h' ds} : s.Keeps (t.carryAll h' ds) := h.each fun _ _ hu => hu.carry
theorem State.Keeps.switchStart (h : s.Keeps t) : s.Keeps t.switchStart :=
  .wr <| .carryAll <| .ite h.ckDrop.applyForces.wr.others.plSendAll h.ckDrop.applyForces.wr.others
theorem State.Keeps.execSwitchBegin (h : s.Keeps t) : s.KeepsRes (execSwitchBegin t) := .next <| .ite h.switchStart h
theorem State.Keeps.execSwitchMarkerReceived (h : s.Keeps t) : s.KeepsRes (execSwitchMarkerReceived t) :=
  .next <| .ite h.others.switchStart h
theorem State.Keeps.loadClass (h : s.Keeps t) {n} : s.Keeps (t.loadClass n) :=
  .ite h (.ite h.clsCfgFields.clsPerFields.modPly (.ite h.clsCfgFields.clsPerFields.anchorNew h.clsCfgFields.clsPerFields.reanchor))
theorem State.Keeps.swapForces (h : s.Keeps t) : s.Keeps t.swapForces := .ftView <| h.others.each fun _ _ hu => hu.applyForce
theorem State.Keeps.swapProgram (h : s.Keeps t) : s.Keeps t.swapProgram := h.modNcp
theorem State.Keeps.switchLoad (h : s.Keeps t) : s.Keeps t.switchLoad :=
  .ckAfterSwitch <| .jSwitch <| h.loadActive.swapForces.swapProgram.others.each fun _ _ hu => hu.loadClass
theorem State.Keeps.switchReport (h : s.Keeps t) : s.Keeps t.switchReport :=
  .wr <| .wrap <| .wr <| .wr <| .wr <| .ev <| h.each fun _ _ hu => hu.modPly
theorem State.Keeps.castleDue (h : s.Keeps t) : s.Keeps t.castleDue := .ite (.getD h.others.castleRequest h.others.err) h
theorem State.Keeps.switchResume (h : s.Keeps t) : s.Keeps t.switchResume :=
  .castleDue <| .waitedAccesses <| .each (.others <| h.others.each fun _ _ hu => hu.taskTrigger) fun _ _ hu => hu.takeChunk
theorem State.Keeps.switchFinish (h : s.Keeps t) : s.Keeps t.switchFinish := h.switchLoad.switchReport.switchResume.sealReply.xeDone
theorem State.Keeps.execSwitchEnd (h : s.Keeps t) : s.KeepsRes (execSwitchEnd t) := .next <| .ite h.awaitMt.switchFinish h
theorem State.Keeps.ftStore (h : s.Keeps t) {staged i f} : s.Keeps (t.ftStore staged i f).2 :=
  .ite₂ h <| .ite₂ h <| .ite₂ h.others h.others.ftView
theorem State.Keeps.ftWrite (h : s.Keeps t) : s.Keeps t.ftWrite := .ite h.ftStore h.ftStore.err
theorem State.Keeps.execForceTableWrite (h : s.Keeps t) {_m} : s.KeepsRes (execForceTableWrite _m t) :=
  .next <| h.onPage fun _ hu => hu.ftWrite
theorem State.Keeps.ftRead (h : s.Keeps t) : s.Keeps t.ftRead := h.wr.wr.put.put.wr.each fun _ _ hu => hu.wr.wr
theorem State.Keeps.execForceTableRead (h : s.Keeps t) {_m} : s.KeepsRes (execForceTableRead _m t) :=
  .next <| h.onPage fun _ hu => hu.ftRead
theorem State.Keeps.execForceApply (h : s.Keeps t) : s.KeepsRes (execForceApply t) := .next h.applyForces
theorem State.Keeps.packageHeader (h : s.Keeps t) {d} : s.Keeps (t.packageHeader d) := .ite h h.others.fwWrite.fwWrite.fwWrite
theorem State.Keeps.stagedStore (h : s.Keeps t) {a d} : s.Keeps (t.stagedStore a d) := .ite h h.stagedTouched.wbs

theorem State.Keeps.pkgPlace (h : s.Keeps t) {part total off d} : s.Keeps (t.pkgPlace part total off d) := by
  unfold State.pkgPlace
  split
  · exact .ite h.packageHeader h
  · exact h.stagedStore
  · exact h.stagedStore
  · exact .ite (h.each fun _ _ hu => hu.fwWrite) h
  · exact h.wbs
  · exact h.wbs
  · exact h.others
  · exact h.modNcp
  · exact h

theorem State.Keeps.fwArm (h : s.Keeps t) {rev ply ft} : s.Keeps (t.fwArm rev ply ft) :=
  .smArmGo <| .smDir <| .fwWrite <| .ite (h.others.each fun _ _ hu => hu.fwWrite.fwWrite) h.others
theorem State.Keeps.recordDropped (h : s.Keeps t) {ids} : s.Keeps (t.recordDropped ids) := h.each fun _ _ hu => hu.fwRecord
theorem State.Keeps.sealGo (h : s.Keeps t) {rev ply} : s.Keeps (t.sealGo rev ply) :=
  .ite h.modNcp.fwArm.recordDropped (.ite h.modNcp.fwArm.sealReply h.modNcp.fwArm)
theorem State.Keeps.forceGo (h : s.Keeps t) {i f} : s.Keeps (t.forceGo i f) :=
  .ite h.forceReplied (.ite h.ftStore.frWrite.forceReplied h.forceReplied)
theorem State.Keeps.sealProposed (h : s.Keeps t) {hash rev ply dropped} : s.Keeps (t.sealProposed hash rev ply dropped) :=
  .ite h.fwArm.recordDropped.fwdSend h.fwdSend
theorem State.Keeps.programPhase (h : s.Keeps t) : s.Keeps t.programPhase := .ite h.wr h
theorem State.Keeps.joinList (h : s.Keeps t) {staged ws} : s.Keeps (t.joinList staged ws) :=
  .ite h.others.mlChecked.joinFails (.ite h.others.mlChecked h.others.mlChecked.others)
theorem State.Keeps.joinForces (h : s.Keeps t) {staged es} : s.Keeps (t.joinForces staged es) :=
  .each (.ite h.others h.setForces) fun _ _ hu => hu.ftStore

theorem State.Keeps.joinPart (h : s.Keeps t) {part} : s.Keeps (t.joinPart part) := by
  unfold State.joinPart
  refine .ite h ?_
  split
  · exact h.programPhase.dmaStore
  · exact h.programPhase.joinList
  · exact h.programPhase.clsWrite.clsWrite
  · exact h.joinForces
  · exact h.wr.wr.wr.setCrt

theorem State.Keeps.execFwdReceived (h : s.Keeps t) {link msg} : s.KeepsRes (execFwdReceived link msg t) := by
  unfold Machine.execFwdReceived
  refine .next ?_
  refine .ite h ?_
  split
  · exact h.pkgPlace
  · exact h.sealProposed
  · split
    · exact .ite h.sealGo h.sealReply
    · exact h
  · exact .ite h.sealCancel h
  · exact h.ftStore.fwdSend
  · split
    · exact .ite h.forceGo h.forceReplied
    · exact h
  · exact h.fwWrite
  · exact h.others
  · exact h.joinPart

/-! Ncp: NCP. -/

theorem State.Keeps.ncpReject (h : s.Keeps t) {q cmd status} : s.Keeps (t.ncpReject q cmd status) := .ite h h.out.modNcp

theorem State.Keeps.ncpRun (h : s.Keeps t) {q cmd role unit_ bounds body} (hbody : ∀ u a b, s.Keeps u → s.KeepsEnd (body u a b)) :
    s.Keeps (t.ncpRun q cmd role unit_ bounds body) := by
  unfold State.ncpRun
  refine .ite h ?_
  split
  · exact h
  · exact h.ncpReject
  · split
    · exact h.ncpReject
    · refine .ite h.ncpReject ?_
      refine .ite h.ncpReject ?_
      split
      · exact h.out
      · refine .ite h ?_
        refine .ite h.ncpAnswer ?_
        dsimp only
        split
        · exact h.ncpAnswer
        · next hv => exact (hbody _ _ _ h.modNcp _ hv)

theorem State.Keeps.ncpOk (h : s.Keeps t) {w pay} : s.KeepsEnd (t.ncpOk w pay) := .done h.ncpAnswer
theorem State.Keeps.helloOpen (h : s.Keeps t) {q role hostKey chosen} : s.Keeps (t.helloOpen q role hostKey chosen) :=
  h.draw.draw.draw.out.modNcp

theorem State.Keeps.execNcpHello (h : s.Keeps t) {q cert chosen} : s.KeepsRes (execNcpHello q cert chosen t) := by
  unfold Machine.execNcpHello
  refine .next ?_
  refine .ite h ?_
  split
  · exact h
  · exact h.ncpReject
  · refine .ite h.ncpReject ?_
    refine .ite h.ncpReject ?_
    refine .ite h.out ?_
    refine .ite h.out ?_
    refine .ite h.out ?_
    split
    · exact h.out
    · exact .helloOpen <| .ite h h.fwRecord

theorem State.Keeps.finish (h : s.Keeps t) {q x} : s.Keeps (t.finish q x) :=
  .ite h.ncpReject (.ite h (.ite h.ncpAnswer (.ite h.ncpAnswer h.modNcp.ncpAnswer)))

theorem State.Keeps.execNcpFinish (h : s.Keeps t) {q} : s.KeepsRes (execNcpFinish q t) := by
  unfold Machine.execNcpFinish
  refine .next ?_
  split
  · refine .ite (h.ncpRun fun _ _ _ hu => .refuse) ?_
    refine .ite h ?_
    split
    · exact h
    · exact h.ncpReject
    · exact h.finish
  · exact h.ncpRun fun _ _ _ hu => .refuse

theorem State.Keeps.dropXfer (h : s.Keeps t) {x} : s.Keeps (t.dropXfer x) := .ite h.modNcp.updCancel h.modNcp
theorem State.Keeps.closeSession (h : s.Keeps t) {id} : s.Keeps (t.closeSession id) := .modNcp <| h.each fun _ _ hu => hu.dropXfer
theorem State.Keeps.execNcpKeepalive (h : s.Keeps t) {q} : s.KeepsRes (execNcpKeepalive q t) := .next <| h.ncpRun fun _ _ _ hu => hu.ncpOk
theorem State.Keeps.execNcpBye (h : s.Keeps t) {q} : s.KeepsRes (execNcpBye q t) :=
  .next <| h.ncpRun fun _ _ _ hu => .done hu.ncpAnswer.closeSession

theorem State.Keeps.execHelloTimeout (h : s.Keeps t) {session} : s.KeepsRes (execHelloTimeout session t) := by
  unfold Machine.execHelloTimeout
  refine .next ?_
  split
  · exact .ite h h.awaitMt.closeSession
  · exact h

theorem State.Keeps.execSessionTimeout (h : s.Keeps t) {session} : s.KeepsRes (execSessionTimeout session t) := by
  unfold Machine.execSessionTimeout
  refine .next ?_
  split
  · exact .ite h.awaitMt.closeSession h
  · exact h

theorem State.Keeps.execTransferTimeout (h : s.Keeps t) {image object} : s.KeepsRes (execTransferTimeout image object t) := by
  unfold Machine.execTransferTimeout
  refine .next ?_
  split
  · exact h.awaitMt.dropXfer
  · exact h

/-! NcpCmd: the commands of NCP in an open session. -/

theorem State.Keeps.execNcpIdent (h : s.Keeps t) {q} : s.KeepsRes (execNcpIdent q t) := .next <| h.ncpRun fun _ _ _ hu => hu.ncpOk
theorem State.Keeps.execNcpCartid (h : s.Keeps t) {q} : s.KeepsRes (execNcpCartid q t) := .next <| h.ncpRun fun _ _ _ hu => hu.draw.ncpOk
theorem State.Keeps.slice (h : s.Keeps t) {w q obj} : s.KeepsEnd (t.slice w q obj) := .done h.ncpAnswer

theorem State.Keeps.execNcpReadvar (h : s.Keeps t) {q} : s.KeepsRes (execNcpReadvar q t) := by
  unfold Machine.execNcpReadvar
  refine .next ?_
  refine h.ncpRun ?_
  intro _ _ _ hu
  split
  · exact hu.slice
  · exact .refuse

theorem State.Keeps.varStore (h : s.Keeps t) {y off data} : s.Keeps (t.varStore y off data) := .xeDone <| h.each fun _ _ hu => hu.memStore

theorem State.Keeps.execNcpWritevar (h : s.Keeps t) {q} : s.KeepsRes (execNcpWritevar q t) := by
  unfold Machine.execNcpWritevar
  refine .next ?_
  refine h.ncpRun ?_
  intro _ _ _ hu
  split
  · exact hu.varStore.ncpOk
  · exact .refuse

theorem State.Keeps.execNcpStop (h : s.Keeps t) {q} : s.KeepsRes (execNcpStop q t) := .next <| h.ncpRun fun _ _ _ hu => hu.setMode.ncpOk

theorem State.Keeps.execNcpRestart (h : s.Keeps t) {q} : s.KeepsRes (execNcpRestart q t) := by
  unfold Machine.execNcpRestart
  refine .next ?_
  refine h.ncpRun ?_
  intro _ _ _ hu
  split
  · split
    · next hv => exact .ncpOk <| .restartClaim (hu.warmInit _ hv)
    · exact .done hu.setMode.ncpAnswer
  · exact hu.coldInit.restartClaim.ncpOk
  · exact .refuse

theorem State.Keeps.execNcpJoin (h : s.Keeps t) {q} : s.KeepsRes (execNcpJoin q t) :=
  .next <| h.ncpRun fun _ _ _ hu => .ncpOk <| .ite hu.setMode.joinStart hu.setMode

theorem State.Keeps.execNcpCastle (h : s.Keeps t) {q} : s.KeepsRes (execNcpCastle q t) := by
  unfold Machine.execNcpCastle
  refine .next ?_
  refine h.ncpRun ?_
  intro _ _ _ hu
  split
  · next hv => exact .done (.modNcp (hu.castleRequest _ hv))
  · exact .done hu.err.ncpAnswer

theorem State.Keeps.execNcpEnterService (h : s.Keeps t) {q} : s.KeepsRes (execNcpEnterService q t) :=
  .next <| h.ncpRun fun _ _ _ hu => hu.setMode.ncpOk
theorem State.Keeps.execNcpLeaveService (h : s.Keeps t) {q} : s.KeepsRes (execNcpLeaveService q t) :=
  .next <| h.ncpRun fun _ _ _ hu => .done hu.ncpAnswer.resetAssert
theorem State.Keeps.execNcpReset (h : s.Keeps t) {q} : s.KeepsRes (execNcpReset q t) :=
  .next <| h.ncpRun fun _ _ _ hu => .done hu.ncpAnswer.resetAssert
theorem State.Keeps.xferHold (h : s.Keeps t) {image object session total off} : s.Keeps (t.xferHold image object session total off).2 :=
  .ite₂ h.modNcp h.modNcp

theorem State.Keeps.execNcpPkgload (h : s.Keeps t) {q} : s.KeepsRes (execNcpPkgload q t) :=
  .next <| h.ncpRun fun _ _ _ hu => .ite .refuse (.ite .refuse (.done <| .ncpAnswer <| .ite hu.xferHold.pkgPlace.fwdSend
    hu.xferHold.pkgPlace))

theorem State.Keeps.imgBlock (h : s.Keeps t) {q w type room} : s.Keeps (t.imgBlock q w type room) := by
  unfold State.imgBlock
  exact .ite h.fwWrite.fwWrite.fwWrite.fwWrite.updBlock.modNcp h.fwWrite.fwWrite.fwWrite.fwWrite.updBlock.modNcp.ncpAnswer

theorem State.Keeps.execNcpImgload (h : s.Keeps t) {q room} : s.KeepsRes (execNcpImgload q room t) :=
  .next <| h.ncpRun fun _ _ _ hu => .ite .refuse (.done hu.imgBlock)
theorem State.Keeps.execNcpImgstat (h : s.Keeps t) {q} : s.KeepsRes (execNcpImgstat q t) := .next <| h.ncpRun fun _ _ _ hu => hu.ncpOk
theorem State.Keeps.execNcpVerify (h : s.Keeps t) {q} : s.KeepsRes (execNcpVerify q t) :=
  .next <| h.ncpRun fun _ _ _ hu => .done hu.modNcp.smVerifyGo
theorem State.Keeps.sealRun (h : s.Keeps t) {w rev drop p} : s.KeepsEnd (t.sealRun w rev drop p) :=
  .ite .refuse (.ite .refuse (.ite .refuse (.ite (.done h.modNcp.modNcp.fwdSend) (.done h.modNcp.sealGo))))
theorem State.Keeps.execNcpSeal (h : s.Keeps t) {q} : s.KeepsRes (execNcpSeal q t) := .next <| h.ncpRun fun _ _ _ hu => hu.sealRun
theorem State.Keeps.execNcpUnseal (h : s.Keeps t) {q} : s.KeepsRes (execNcpUnseal q t) := .next <| h.ncpRun fun _ _ _ hu => hu.sealRun

theorem State.Keeps.forceRun (h : s.Keeps t) {q w} : s.KeepsEnd (t.forceRun q w) := by
  unfold State.forceRun
  split
  · exact .refuse
  · split
    · exact .refuse
    · exact h.ncpOk
    · exact .ite (.done h.modNcp.modNcp.fwdSend) (.done h.modNcp.forceGo)

theorem State.Keeps.execNcpForce (h : s.Keeps t) {q} : s.KeepsRes (execNcpForce q t) := .next <| h.ncpRun fun _ _ _ hu => hu.forceRun
theorem State.Keeps.execNcpForcelist (h : s.Keeps t) {q} : s.KeepsRes (execNcpForcelist q t) := .next <| h.ncpRun fun _ _ _ hu => hu.slice

theorem State.Keeps.erRead (h : s.Keeps t) {w object seq} : s.KeepsEnd (t.erRead w object seq) := by
  unfold State.erRead
  dsimp only
  split <;> exact .done h.sat.ncpAnswer

theorem State.Keeps.execNcpErread (h : s.Keeps t) {q} : s.KeepsRes (execNcpErread q t) :=
  .next <| h.ncpRun fun _ _ _ hu => .ite .refuse hu.erRead
theorem State.Keeps.execNcpErclear (h : s.Keeps t) {q} : s.KeepsRes (execNcpErclear q t) :=
  .next <| h.ncpRun fun _ _ _ hu => .done hu.fwWrite.tokenRead.erClr.ncpAnswer

theorem State.Keeps.execNcpAdopt (h : s.Keeps t) {q} : s.KeepsRes (execNcpAdopt q t) := by
  unfold Machine.execNcpAdopt
  refine .next ?_
  refine h.ncpRun ?_
  intro _ _ _ hu
  split
  · next hv => exact .ncpOk (hu.adoptCmd _ hv)
  · exact .done hu.err.ncpAnswer

theorem State.Keeps.execNcpCartformat (h : s.Keeps t) {q} : s.KeepsRes (execNcpCartformat q t) := by
  unfold Machine.execNcpCartformat
  refine .next ?_
  refine h.ncpRun ?_
  intro _ _ _ hu
  split
  · next hv => exact .ncpOk (hu.formatCmd _ hv)
  · exact .done hu.err.ncpAnswer

theorem State.Keeps.acycRun (h : s.Keeps t) {q w} : s.KeepsEnd (t.acycRun q w) :=
  .ite .refuse (.ite .refuse (.ite .refuse (.ite .refuse (.done h.queueMsg.modNcp))))
theorem State.Keeps.execNcpAcyc (h : s.Keeps t) {q} : s.KeepsRes (execNcpAcyc q t) := .next <| h.ncpRun fun _ _ _ hu => hu.acycRun

theorem State.Keeps.execAcycTimeout (h : s.Keeps t) {seg st} : s.KeepsRes (execAcycTimeout seg st t) := by
  unfold Machine.execAcycTimeout
  refine .next ?_
  dsimp only
  split
  · exact h.awaitMt.ncpAnswer.modNcp
  · exact h

theorem State.Keeps.execNcpPubkey (h : s.Keeps t) {q} : s.KeepsRes (execNcpPubkey q t) :=
  .next <| h.ncpRun fun _ _ _ hu => .ite .refuse hu.ncpOk

theorem State.Keeps.keyFlip (h : s.Keeps t) : s.Keeps t.keyFlip := by
  unfold State.keyFlip
  split
  · exact .ite h.modNcp h
  · exact h

theorem State.Keeps.execPublicationKeyRotate (h : s.Keeps t) : s.KeepsRes (execPublicationKeyRotate t) :=
  .next <| .ite h.keyFlip h.awaitMt.keyFlip.draw.modNcp.fwdSend

theorem State.Keeps.pubTv (h : s.Keeps t) {stale y} : s.Keeps (t.pubTv stale y).2 := by
  unfold State.pubTv
  dsimp only
  split
  · exact h
  · exact h.draw

theorem State.Keeps.pubEntries (h : s.Keeps t) {stale ids i} : s.Keeps (t.pubEntries stale ids i).2 := by
  induction ids generalizing t i with
  | nil => exact h
  | cons id ids ih =>
    unfold State.pubEntries
    split
    · exact ih h
    · exact ih h.pubTv

theorem State.Keeps.pubSend (h : s.Keeps t) {p es} : s.Keeps (t.pubSend p es) := .modNcp <| h.each fun _ _ hu => hu.out

theorem State.Keeps.execPublish (h : s.Keeps t) {id} : s.KeepsRes (execPublish id t) := by
  unfold Machine.execPublish
  refine .next ?_
  split
  · exact h.keyFlip
  · exact .ite h.keyFlip (h.awaitMt.keyFlip.modNcp.pubEntries.each fun _ _ hu => hu.pubSend)

/-! Sys: resets, the start steps, SYS. -/

theorem State.Keeps.execResetAssert (h : s.Keeps t) {causes} : s.KeepsRes (execResetAssert causes t) := .next <| .ite h h.resetAssert
theorem State.Keeps.resetRelease (h : s.Keeps t) : s.Keeps t.resetRelease :=
  .wr <| h.others.each fun _ _ hu => .ite hu.setUnit.unitStarting hu
theorem State.Keeps.execResetRelease (h : s.Keeps t) : s.KeepsRes (execResetRelease t) := .next <| .ite h.resetRelease h
theorem State.Keeps.loadBase (h : s.Keeps t) : s.Keeps t.loadBase := .ite h.wr h
theorem State.Keeps.bookFallback (h : s.Keeps t) : s.Keeps t.bookFallback := .ite h h.setUpd.wr
theorem State.Keeps.step3 (h : s.Keeps t) : s.Keeps t.step3 := .ite h.bookStart.bookFallback h
theorem State.Keeps.recover (h : s.Keeps t) : s.Keeps t.recover := h.others
theorem State.Keeps.execRecoveryService (h : s.Keeps t) : s.KeepsRes (execRecoveryService t) := .next <| .ite (.ite h h.step3.recover) h
theorem State.Keeps.stepFails (h : s.Keeps t) {k} : s.Keeps (t.stepFails k) := .others (.ite h.wr h)
theorem State.Keeps.toStep (h : s.Keeps t) {k} : s.Keeps (t.toStep k) := h.wr

theorem State.Keeps.step6 (h : s.Keeps t) {ok scap} : s.Keeps (t.step6 ok scap) := by
  unfold State.step6
  refine .ite h ?_
  refine .ite h.stepFails ?_
  refine .crtIdentify ?_
  split
  · exact h.fwWrite.fwWrite
  · exact h

theorem State.Keeps.stepEnds (h : s.Keeps t) {ok scap archive} : s.Keeps (t.stepEnds ok scap archive) := by
  unfold State.stepEnds
  split
  · exact .ite h.toStep h.stepFails
  · exact .ite h.toStep h.stepFails
  · exact .ite h (.ite h.step3.toStep h.step3.recover)
  · exact .toStep <| .loadBase <| .ite h h.stepFails
  · exact .toStep <| .ite h h.stepFails
  · exact h.step6.toStep
  · exact .others <| .toStep <| .ite h.modNcp h.modNcp.stepFails
  · exact h.toStep
  · exact h

theorem State.Keeps.execStartStepComplete (h : s.Keeps t) {ok scap archive} : s.KeepsRes (execStartStepComplete ok scap archive t) :=
  .next <| .ite h.stepEnds h
theorem State.Keeps.execStartTimeout (h : s.Keeps t) : s.KeepsRes (execStartTimeout t) := .next <| .ite h.awaitMt.sat.resetAssert h
theorem State.Keeps.leadByLease (h : s.Keeps t) : s.Keeps t.leadByLease := h.others.enterLead.wr.ev
theorem State.Keeps.modecmd (h : s.Keeps t) {target cause key} : s.Keeps (t.modecmd target cause key) :=
  .ite h.err.ev (.ite h.leadByLease h.setMode)
theorem State.Keeps.execModecmdToLead (h : s.Keeps t) {_m cause key} : s.KeepsRes (execModecmdToLead _m cause key t) :=
  .next <| h.onPage fun _ hu => hu.modecmd
theorem State.Keeps.execModecmdToTrack (h : s.Keeps t) {_m cause key} : s.KeepsRes (execModecmdToTrack _m cause key t) :=
  .next <| h.onPage fun _ hu => hu.modecmd
theorem State.Keeps.execModecmdToHold (h : s.Keeps t) {_m cause key} : s.KeepsRes (execModecmdToHold _m cause key t) :=
  .next <| h.onPage fun _ hu => hu.modecmd
theorem State.Keeps.execModecmdToService (h : s.Keeps t) {_m cause key} : s.KeepsRes (execModecmdToService _m cause key t) :=
  .next <| h.onPage fun _ hu => hu.modecmd

theorem State.Keeps.execModecmdToStartOrDormant (h : s.Keeps t) {_m start cause key} :
    s.KeepsRes (execModecmdToStartOrDormant _m start cause key t) :=
  .next <| h.onPage fun _ hu => hu.modecmd

theorem State.Keeps.rstcmd (h : s.Keeps t) {go key} : s.Keeps (t.rstcmd go key) := .ite h (.ite h.resetAssert h.err)
theorem State.Keeps.execRstcmd (h : s.Keeps t) {_m go key} : s.KeepsRes (execRstcmd _m go key t) := .next <| h.onPage fun _ hu => hu.rstcmd
theorem State.Keeps.execKeySwitchChange (h : s.Keeps t) {service} : s.KeepsRes (execKeySwitchChange service t) :=
  .next <| .ite h.put (.ite h.put.ev.resetAssert h.put.ev)

/-! Read: reads of register words. -/

theorem State.Keeps.rcClear (h : s.Keeps t) {m page off} : s.Keeps (t.rcClear m page off) := h.each fun _ _ hu => hu.wr
theorem State.Keeps.plCounts (h : s.Keeps t) {l} : s.Keeps (t.plCounts l) := .ite h h.draw.draw.draw.wrap.sat.wr

theorem State.Keeps.regRead (h : s.Keeps t) {m page off} : s.Keeps (t.regRead m page off).2 := by
  unfold State.regRead
  split
  · exact h.draw
  · refine .ite₂ h.plCounts ?_
    split
    · exact h.claim
    · exact h.claim
    · exact h.teData
    · exact h.mlData
    · exact h.readMt
    · exact h.readNt
    · exact h.rtcSnap
    · exact h.tokenRead
    · exact h.rcClear

theorem State.Keeps.pageRead (h : s.Keeps t) {m page off} : s.Keeps (t.pageRead m page off) := h.onRead fun _ hu => hu.regRead
theorem State.Keeps.execErrinfoRead (h : s.Keeps t) {m page} : s.KeepsRes (execErrinfoRead m page t) := .next h.pageRead
theorem State.Keeps.execRcCounterRead (h : s.Keeps t) {m page word} : s.KeepsRes (execRcCounterRead m page word t) := .next h.pageRead

/-! Write: writes of register words by fabric masters. -/

theorem State.Keeps.doing (h : s.Keeps t) {f} (hf : ∀ u, s.Keeps u → s.KeepsRes (f u)) : s.Keeps (t.doing f) := by
  obtain ⟨_, hu, hkeeps⟩ := hf t h
  rw [State.doing, hu]
  exact hkeeps

theorem State.Keeps.commands (h : s.Keeps t) {v cs} (hcs : s.KeepsAll cs) : s.Keeps (t.commands v cs) :=
  State.each_induction h fun _ c hc hu => .ite (hu.doing (hcs c hc)) hu
theorem State.Keeps.fields (h : s.Keeps t) {m page off v} : s.Keeps (t.fields m page off v) := h.wordWrite.cfgBump
theorem State.Keeps.notes (h : s.Keeps t) {m page off v} : s.Keeps (t.notes t1 m page off v) :=
  .ite h (.ite (.err (.ite h.err h)) (.ite (.err (.ite h.err h)) (.ite h.err h)))
theorem State.Keeps.plainWrite (h : s.Keeps t) {m page off v} : s.Keeps (t.plainWrite m page off v) := h.fields.notes
theorem State.Keeps.cmdWrite (h : s.Keeps t) {m page off v cs} (hcs : s.KeepsAll cs) : s.Keeps (t.cmdWrite m page off v cs) :=
  .notes <| h.fields.commands hcs
theorem State.Keeps.ranged {x page off code r k u m ok} (hx : s.Keeps x.2) : s.Keeps (State.ranged x page off code r k u m ok).2 :=
  .ite₂ hx hx.err
theorem State.Keeps.rangedWrite {m page off v x} (hx : s.Keeps x.2) : s.Keeps (t.rangedWrite m page off v x) := hx.fields.notes

theorem State.Keeps.refusedUnless (h : s.Keeps t) {ok m page off v code f} (hf : ∀ u, s.Keeps u → s.Keeps (f u)) :
    s.Keeps (t.refusedUnless ok m page off v code f) :=
  .ite (hf _ h) h.err.notes

theorem State.Keeps.headWrite (h : s.Keeps t) {m page off v} : s.Keeps (t.headWrite m page off v) := by
  unfold State.headWrite
  split
  · exact .ite (.ite h.ctrlEn.writeSrst h.ctrlEn) (.ite (.writeSrst <| .ite h.err h.err.ctrlEn) (.ite h.err h.err.ctrlEn))
  · exact h.wr
  · exact h.evforce
  · exact h.plainWrite

theorem State.Keeps.sysWrite (h : s.Keeps t) {m off v} : s.Keeps (t.sysWrite m off v) := by
  unfold State.sysWrite
  split
  · exact h.modecmd.rsvErr
  · exact h.rstcmd.notes
  · exact h.plainWrite

theorem State.Keeps.pwrWrite (h : s.Keeps t) {m off v} : s.Keeps (t.pwrWrite m off v) := .ite h.plainWrite.evLevel h.plainWrite
theorem State.Keeps.evcWrite (h : s.Keeps t) {m page off v} : s.Keeps (t.evcWrite m page off v) :=
  .ite h.complete.rsvErr (.ite (.ite h.plainWrite h.plainWrite.err) (.ite (.ite h.err (.ite h h.err)) h.plainWrite))
theorem State.Keeps.wdCfg (h : s.Keeps t) {m off v} : s.Keeps (t.wdCfg m off v) :=
  .ite h.ranged.ranged.ranged.rangedWrite.setWd h.ranged.ranged.ranged.rangedWrite
theorem State.Keeps.dsEn (h : s.Keeps t) {m v} : s.Keeps (t.dsEn m v) := h.ranged.rangedWrite.put

theorem State.Keeps.safWrite (h : s.Keeps t) {m off v} : s.Keeps (t.safWrite m off v) := by
  unfold State.safWrite
  split
  · exact h.wdCfg
  · exact h.wdCfg
  · exact h.wdService
  · exact h.wdService
  · exact h.dsEn
  · exact h.cmdWrite <| .cons (fun _ hu => hu.execSafInject) .nil
  · exact h.plainWrite

theorem State.Keeps.gateWriteReg (h : s.Keeps t) {m off v} : s.Keeps (t.gateWriteReg m off v) :=
  .ite (h.cmdWrite <| .cons (fun _ hu => hu.execGateCmdWrite) <| .cons (fun _ hu => hu.execGateCmdRead) .nil) (.ite (.gateLevels <| .ite
    h.plainWrite h.plainWrite.wr) (.ite (.gateLevels <| .ite h.plainWrite h.plainWrite.wr) h.plainWrite))

theorem State.Keeps.xe0Write (h : s.Keeps t) {m off v} : s.Keeps (t.xe0Write m off v) := by
  unfold State.xe0Write
  dsimp only
  split
  · exact h.cmdWrite <| .cons (fun _ hu => hu.execActivate) .nil
  · exact h.cmdWrite <| .cons (fun _ hu => hu.execSmVerify) <| .cons (fun _ hu => hu.execSmArm) <| .cons (fun _ hu => hu.execSmCancel)
      .nil
  · exact h.ranged.rangedWrite
  · exact h.plainWrite

theorem State.Keeps.xe1Write (h : s.Keeps t) {m off v} : s.Keeps (t.xe1Write m off v) :=
  .ite h.clsWrite (.ite (.ite h.wr h) (.ite h.ranged.rangedWrite (.ite h.ranged.rangedWrite (.ite (h.doing fun _ hu => hu.execEtTrigWrite)
    h.plainWrite))))

theorem State.Keeps.xe2Write (h : s.Keeps t) {m off v} : s.Keeps (t.xe2Write m off v) := by
  unfold State.xe2Write
  split
  · exact h.doing fun _ hu => hu.execLsInject
  · exact h.cmdWrite <| .cons (fun _ hu => hu.execForceTableWrite) <| .cons (fun _ hu => hu.execForceTableRead) .nil
  · exact h.plainWrite

theorem State.Keeps.teAssign (h : s.Keeps t) {m off v} : s.Keeps (t.teAssign m off v) := .ite h.err.notes (.ite h.notes h.plainWrite)

theorem State.Keeps.teWrite (h : s.Keeps t) {m off v} : s.Keeps (t.teWrite m off v) := by
  unfold State.teWrite
  dsimp only
  split
  · exact .rsvErr <| .ite (h.doing fun _ hu => hu.execTeLock) (.ite (h.doing fun _ hu => hu.execTeUnlock) h)
  · exact h.teData
  · exact h.teAssign
  · exact h.teAssign
  · exact h.teAssign
  · exact h.plainWrite

theorem State.Keeps.rmtWrite (h : s.Keeps t) {m page off v} : s.Keeps (t.rmtWrite m page off v) := by
  unfold State.rmtWrite
  split
  · exact h.ranged.rangedWrite
  · exact .rsvErr <| .ite (h.doing fun _ hu => hu.execServiceQueue) h
  · exact h.plainWrite

theorem State.Keeps.pairWrite (h : s.Keeps t) {m off v} : s.Keeps (t.pairWrite m off v) := by
  unfold State.pairWrite
  dsimp only
  split
  · exact h.ranged.rangedWrite
  · exact h.ranged.rangedWrite
  · exact h.cmdWrite <| .cons (fun _ hu => hu.execMlCheck) .nil
  · exact h.mlData
  · exact h.cmdWrite <| .cons (fun _ hu => hu.execSyncCmdJoin) .nil
  · exact h.cmdWrite <| .cons (fun _ hu => hu.execCastleCmdReq) .nil
  · exact h.plainWrite

theorem State.Keeps.arm (h : s.Keeps t) {k} : s.Keeps (t.arm k) := h.setTim

theorem State.Keeps.cmpWrite (h : s.Keeps t) {m off v} : s.Keeps (t.cmpWrite m off v) := by
  unfold State.cmpWrite
  dsimp only
  split
  · exact h.ranged.rangedWrite.arm
  · exact h.ranged.rangedWrite
  · exact h.plainWrite.arm

theorem State.Keeps.tpcfg (h : s.Keeps t) {m v} : s.Keeps (t.tpcfg m v) := .ite h.ranged.rangedWrite.setTim h.ranged.rangedWrite

theorem State.Keeps.timWrite (h : s.Keeps t) {m off v} : s.Keeps (t.timWrite m off v) := by
  unfold State.timWrite
  refine .ite h.cmpWrite ?_
  refine .ite h.ranged.rangedWrite ?_
  split
  · exact h.writeNtinc.cfgBump
  · exact .rsvErr (.ite h.ntStep h)
  · exact h.ranged.rangedWrite
  · exact .rsvErr <| .ite h.writeLocked.cfgBump.ntSet h.writeLocked.cfgBump
  · exact h.cmdWrite <| .cons (fun _ hu => hu.execTimeSnapshot) .nil
  · exact h.tpcfg
  · exact h.plainWrite

theorem State.Keeps.emacWrite (h : s.Keeps t) {m page off v} : s.Keeps (t.emacWrite m page off v) := by
  unfold State.emacWrite
  dsimp only
  split
  · exact h.cmdWrite <| .cons (fun _ hu => hu.execTsPop) .nil
  · exact h.cmdWrite <| .cons (fun _ hu => hu.execTsPop) .nil
  · exact h.refusedUnless fun _ hu => hu.plainWrite
  · exact h.refusedUnless fun _ hu => hu.plainWrite
  · exact h.cmdWrite <| .cons (fun _ hu => hu.execEmacTxkick) .nil
  · exact h.plainWrite

theorem State.Keeps.domainWrite (h : s.Keeps t) {m off v} : s.Keeps (t.domainWrite m off v) :=
  .ite h.bkStall.err (.ite h.bkStall.err.notes (.ite h.bkStall.notes (.notes <| .ite h.bkStall.bkWrite h.bkStall.bkWrite.wrap)))
theorem State.Keeps.bkdWriteReg (h : s.Keeps t) {m off v} : s.Keeps (t.bkdWriteReg m off v) :=
  .ite h.bkCommand.notes (.ite (.rsvErr <| h.doing fun _ hu => hu.execRtcSecWrite) (.ite h.domainWrite h.plainWrite))

theorem State.Keeps.crtWrite (h : s.Keeps t) {m off v} : s.Keeps (t.crtWrite m off v) := by
  unfold State.crtWrite
  dsimp only
  split
  · exact h.cmdWrite <| .cons (fun _ hu => hu.execCartridgeFormat) <| .cons (fun _ hu => hu.execCartridgeAdopt) <| .cons (fun _ hu =>
      hu.execCartridgeRelease) <| .cons (fun _ hu => hu.execCkptCommand) .nil
  · exact h.ranged.ranged.rangedWrite
  · exact .notes <| .ite h.fields.nandGo h.fields
  · exact .ite h.plainWrite.lifeView h.plainWrite

theorem State.Keeps.erWrite (h : s.Keeps t) {m priv off v} : s.Keeps (t.erWrite m priv off v) := by
  unfold State.erWrite
  dsimp only
  split
  · exact h.doing fun _ hu => hu.execSeqnextWrite
  · exact h.refusedUnless fun _ hu => hu.plainWrite
  · exact .rsvErr <| .ite (h.doing fun _ hu => hu.execErWriteRequest) h
  · exact .ite h.notes (.notes <| .ite h.fields.erMove h.fields)
  · exact h.cmdWrite <| .cons (fun _ hu => hu.execErNext) .nil
  · exact h.erClr
  · exact h.plainWrite

theorem State.Keeps.updWriteReg (h : s.Keeps t) {m off v} : s.Keeps (t.updWriteReg m off v) := by
  unfold State.updWriteReg
  dsimp only
  split
  · exact .notes <| .ite (h.fields.draw.doing fun _ hu => hu.execUpdBlockSubmit) h.fields
  · exact h.cmdWrite <| .cons (fun _ hu => hu.execUpdCancel) <| .cons (fun _ hu => hu.execUpdUnpend) .nil
  · exact h.plainWrite

theorem State.Keeps.lioWrite (h : s.Keeps t) {m off v} : s.Keeps (t.lioWrite m off v) := by
  unfold State.lioWrite
  dsimp only
  split
  · exact .rangedWrite (.ite h h.err)
  · exact h.refusedUnless fun _ hu => hu.plainWrite
  · exact h.plainWrite.tmodeTake
  · exact .rsvErr <| h.doing fun _ hu => hu.execDqclr
  · exact .ite h.plainWrite.lioLevels h.plainWrite

theorem State.Keeps.rackWrite (h : s.Keeps t) {m page off v} : s.Keeps (t.rackWrite m page off v) :=
  .ite (h.refusedUnless fun _ hu => hu.refusedUnless fun _ hu1 => hu1.plainWrite) (.ite (h.refusedUnless fun _ hu => hu.plainWrite) (.ite
    (h.cmdWrite <| .cons (fun _ hu => hu.execRbObjWrite) <| .cons (fun _ hu => hu.execRbObjRead) <| .cons (fun _ hu => hu.execRbObjLoad)
    .nil) (.ite h.rbRequest (.ite (h.each fun _ _ hu => hu.rbCancel) (.ite h.rbAck.rsvErr (.ite h.plainWrite.rbLevels h.plainWrite))))))

theorem State.Keeps.dbgWrite (h : s.Keeps t) {m off v} : s.Keeps (t.dbgWrite m off v) := by
  unfold State.dbgWrite
  refine .ite ?_ (.ite h.wr h.plainWrite)
  extract_lets u1 u2 u3
  have h1 : s.Keeps u1 := h.commands <| .cons (fun _ hu => hu.execDbgNewchal) <| .cons (fun _ hu => hu.execDbgUnlock) <| .cons (fun _ hu
    => hu.execDbgRelock) <| .cons (fun _ hu => hu.execDbgReset) .nil
  have h2 : s.Keeps u2 := .ite h1 (h1.doing fun _ hu => hu.execDbgHalt)
  have h3 : s.Keeps u3 := .ite h2 (h2.doing fun _ hu => hu.execDbgResume)
  exact .ite h1 h3.rsvErr

theorem State.Keeps.regWrite (h : s.Keeps t) {m priv page off v} : s.Keeps (t.regWrite m priv page off v) := by
  unfold State.regWrite
  refine .ite h.headWrite ?_
  refine .ite h.rmtWrite ?_
  refine .ite h.emacWrite ?_
  refine .ite h.rackWrite ?_
  split
  · exact h.sysWrite
  · exact h.pwrWrite
  · exact h.evcWrite
  · exact h.evcWrite
  · exact h.safWrite
  · exact h.gateWriteReg
  · exact h.xe0Write
  · exact h.xe1Write
  · exact h.xe2Write
  · exact h.teWrite
  · exact h.pairWrite
  · exact h.timWrite
  · exact h.bkdWriteReg
  · exact h.crtWrite
  · exact h.erWrite
  · exact h.lioWrite
  · exact h.updWriteReg
  · exact h.dbgWrite
  · exact h.plainWrite

theorem State.Keeps.pageWrite (h : s.Keeps t) {m priv page off v} : s.Keeps (t.pageWrite m priv page off v) :=
  .ite h.lockWrite (h.onPage fun _ hu => hu.regWrite)
theorem State.Keeps.execRegisterWrite (h : s.Keeps t) {m page word value} : s.KeepsRes (execRegisterWrite m page word value t) :=
  .next h.pageWrite

/-! Access: FABRIC_ACCESS. -/

theorem State.Keeps.accessDone (h : s.Keeps t) {m x memtype share} : s.Keeps (t.accessDone m x memtype share) :=
  .ite (.ite h.pageWrite.answerBus h.pageRead.answerBus) h.accessMem.xeDone

theorem State.Keeps.access (h : s.Keeps t) {m x} : s.Keeps (t.access m x) := by
  unfold State.access
  refine .ite (.others <| .ite h.waitedAccesses h) ?_
  split
  · exact .accessDone <| .ite h.waitedAccesses h
  · exact .accessRefused <| .ite h.waitedAccesses h

theorem State.Keeps.execFabricAccess (h : s.Keeps t) {m priv kind addr size beat} :
    s.KeepsRes (execFabricAccess m priv kind addr size beat t) :=
  .next <| .ite h (.access <| .ite h h.engineRows)

/-! Reflex: the reflex path on the wire. -/

theorem State.Keeps.execReflexFrameReceived (h : s.Keeps t) {seg chanB start jkOk codesOk trOk payload crc} :
    s.KeepsRes (execReflexFrameReceived seg chanB start jkOk codesOk trOk payload crc t) :=
  .next <| .xeDone <| h.awaitMt.pathNow.receive fun _ _ hu => hu

theorem State.Keeps.execReflexInputTimeout (h : s.Keeps t) {k} : s.KeepsRes (execReflexInputTimeout k t) :=
  .next <| .wr2 <| .ite h h.awaitMt
theorem State.Keeps.reflexSend (h : s.Keeps t) {n bits g b} : s.Keeps (t.reflexSend n bits g b) := .ite h.transmit h

theorem State.Keeps.execReflexSend (h : s.Keeps t) : s.KeepsRes (execReflexSend t) := by
  unfold Machine.execReflexSend
  refine .next ?_
  split
  · exact h
  · exact .ite h.awaitMt.pathNow.xeDone (.xeDone <| h.awaitMt.pathNow.modRmc.each fun _ _ hu => hu.reflexSend)

/-! The commands, and the step. -/

/-- Every command answers a state, and keeps queue and canonical forms. -/
theorem State.Keeps.exec (h : s.Keeps t) : ∀ c, s.KeepsRes (exec c t)
  | .registerWrite .. => h.execRegisterWrite
  | .errinfoRead .. => h.execErrinfoRead
  | .rcCounterRead .. => h.execRcCounterRead
  | .ctrlEnWrite m .. => h.execCtrlEnWrite (_m := m)
  | .softReset m .. => h.execSoftReset (_m := m)
  | .lockKeyWrite m .. => h.execLockKeyWrite (_m := m)
  | .evforceWrite m .. => h.execEvforceWrite (_m := m)
  | .startUpComplete .. => h.execStartUpComplete
  | .drainingComplete .. => h.execDrainingComplete
  | .drainingTimeout .. => h.execDrainingTimeout
  | .unitFault .. => h.execUnitFault
  | .evcClaim .. => h.execEvcClaim
  | .evcComplete .. => h.execEvcComplete
  | .fabricAccess .. => h.execFabricAccess
  | .feedGood => h.execFeedGood
  | .aonSupplyLost => h.execAonSupplyLost
  | .resetAssert .. => h.execResetAssert
  | .resetRelease => h.execResetRelease
  | .startStepComplete .. => h.execStartStepComplete
  | .endOfStart => h.execEndOfStart
  | .recoveryService => h.execRecoveryService
  | .startTimeout => h.execStartTimeout
  | .modecmdToLead m .. => h.execModecmdToLead (_m := m)
  | .modecmdToTrack m .. => h.execModecmdToTrack (_m := m)
  | .modecmdToHold m .. => h.execModecmdToHold (_m := m)
  | .modecmdToService m .. => h.execModecmdToService (_m := m)
  | .modecmdToStartOrDormant m .. => h.execModecmdToStartOrDormant (_m := m)
  | .rstcmd m .. => h.execRstcmd (_m := m)
  | .keySwitchChange .. => h.execKeySwitchChange
  | .powerFailWarning => h.execPowerFailWarning
  | .powerFailClear => h.execPowerFailClear
  | .powerFailHold => h.execPowerFailHold
  | .flushOnlyEnd => h.execFlushOnlyEnd
  | .feedsReturn => h.execFeedsReturn
  | .feedLow .. => h.execFeedLow
  | .feedMeanUpdate .. => h.execFeedMeanUpdate
  | .holdupStoreCharged => h.execHoldupStoreCharged
  | .plyTrigger .. => h.execPlyTrigger
  | .classCfgWrite .. => h.execClassCfgWrite
  | .freezeComplete => h.execFreezeComplete
  | .executeComplete => h.execExecuteComplete
  | .commitComplete => h.execCommitComplete
  | .flagFall .. => h.execFlagFall
  | .mirrorWaitTimeout .. => h.execMirrorWaitTimeout
  | .eventTaskTrigger .. => h.execEventTaskTrigger
  | .etTrigWrite m .. => h.execEtTrigWrite (_m := m)
  | .eventTaskStart .. => h.execEventTaskStart
  | .scheduleFault .. => h.execScheduleFault
  | .xeLockstepError .. => h.execXeLockstepError
  | .activate .. => h.execActivate
  | .lsInject m .. => h.execLsInject (_m := m)
  | .smVerify .. => h.execSmVerify
  | .smVerifyComplete => h.execSmVerifyComplete
  | .smArm .. => h.execSmArm
  | .smCancel m => h.execSmCancel (_m := m)
  | .switchBegin => h.execSwitchBegin
  | .switchEnd => h.execSwitchEnd
  | .sealLapse => h.execSealLapse
  | .switchMarkerReceived => h.execSwitchMarkerReceived
  | .forceTableWrite m => h.execForceTableWrite (_m := m)
  | .forceTableRead m => h.execForceTableRead (_m := m)
  | .forceApply => h.execForceApply
  | .tePass .. => h.execTePass
  | .teTimerExpiry .. => h.execTeTimerExpiry
  | .teCompareMismatch => h.execTeCompareMismatch
  | .teBurstComplete .. => h.execTeBurstComplete
  | .teLock m .. => h.execTeLock (_m := m)
  | .teLockComplete => h.execTeLockComplete
  | .teUnlock m .. => h.execTeUnlock (_m := m)
  | .teCfgdataAccess m .. => h.execTeCfgdataAccess (_m := m)
  | .reflexFrameReceived .. => h.execReflexFrameReceived
  | .reflexInputTimeout .. => h.execReflexInputTimeout
  | .reflexSend => h.execReflexSend
  | .cycleStart => h.execCycleStart
  | .clockCorrection => h.execClockCorrection
  | .dataFrameReceived .. => h.execDataFrameReceived
  | .nullFrameReceived .. => h.execNullFrameReceived
  | .syncFrameReceived .. => h.execSyncFrameReceived
  | .csfReceived .. => h.execCsfReceived
  | .beaconReceived .. => h.execBeaconReceived
  | .serviceFrameReceived .. => h.execServiceFrameReceived
  | .strayFrame .. => h.execStrayFrame
  | .outSlotSend .. => h.execOutSlotSend
  | .moduleSlotSend => h.execModuleSlotSend
  | .serviceDownlinkSend .. => h.execServiceDownlinkSend
  | .listenTimeout => h.execListenTimeout
  | .coldstartCycleEnd => h.execColdstartCycleEnd
  | .backoffEnd => h.execBackoffEnd
  | .guardianBlock .. => h.execGuardianBlock
  | .guardianCut .. => h.execGuardianCut
  | .guardianReopen .. => h.execGuardianReopen
  | .stationEvaluation .. => h.execStationEvaluation
  | .serviceQueue m .. => h.execServiceQueue (_m := m)
  | .downlinkResend .. => h.execDownlinkResend
  | .heartbeatSend => h.execHeartbeatSend
  | .heartbeatReceived .. => h.execHeartbeatReceived
  | .heartbeatMissing .. => h.execHeartbeatMissing
  | .heartbeatsLost100us => h.execHeartbeatsLost100us
  | .partnerLost => h.execPartnerLost
  | .partnerDetectionTimeout => h.execPartnerDetectionTimeout
  | .plFrameBad .. => h.execPlFrameBad
  | .plLinkDown .. => h.execPlLinkDown
  | .plLinkUp .. => h.execPlLinkUp
  | .mirrorRangeFinal .. => h.execMirrorRangeFinal
  | .mirrorReceived .. => h.execMirrorReceived
  | .ackReceived .. => h.execAckReceived
  | .bulkReceived .. => h.execBulkReceived
  | .fwdReceived .. => h.execFwdReceived
  | .mirrorEscape .. => h.execMirrorEscape
  | .mlCheck m => h.execMlCheck (_m := m)
  | .mldataAccess m .. => h.execMldataAccess (_m := m)
  | .syncCmdJoin m => h.execSyncCmdJoin (_m := m)
  | .joinPhaseComplete => h.execJoinPhaseComplete
  | .joinFail .. => h.execJoinFail
  | .pairCycleEnd => h.execPairCycleEnd
  | .castleCmdReq .. => h.execCastleCmdReq
  | .castleReceived .. => h.execCastleReceived
  | .castlingHandover => h.execCastlingHandover
  | .castlingNoGap => h.execCastlingNoGap
  | .handoverReceived .. => h.execHandoverReceived
  | .timeSnapshot m => h.execTimeSnapshot (_m := m)
  | .mtRead .. => h.execMtRead
  | .ntRead .. => h.execNtRead
  | .ntincWrite .. => h.execNtincWrite
  | .ntSet m => h.execNtSet (_m := m)
  | .ntStep m .. => h.execNtStep (_m := m)
  | .ntStepApply => h.execNtStepApply
  | .ntWrap => h.execNtWrap
  | .ntLockedWrite .. => h.execNtLockedWrite
  | .compareMatch .. => h.execCompareMatch
  | .capture .. => h.execCapture
  | .ppsPulseEnd .. => h.execPpsPulseEnd
  | .ppsInputMissing => h.execPpsInputMissing
  | .timePortFault .. => h.execTimePortFault
  | .tsPop m .. => h.execTsPop (_m := m)
  | .bkChangeover .. => h.execBkChangeover
  | .backupStateLost => h.execBackupStateLost
  | .bkWriteTaken => h.execBkWriteTaken
  | .rtcSecond => h.execRtcSecond
  | .rtcSnapshot .. => h.execRtcSnapshot
  | .rtcSecWrite m .. => h.execRtcSecWrite (_m := m)
  | .rtcCommit => h.execRtcCommit
  | .rtcTrim => h.execRtcTrim
  | .eviEdge .. => h.execEviEdge
  | .opsecTick => h.execOpsecTick
  | .bkValidate m => h.execBkValidate (_m := m)
  | .coulombTake m => h.execCoulombTake (_m := m)
  | .cellLoadTest m => h.execCellLoadTest (_m := m)
  | .loadTestComplete .. => h.execLoadTestComplete
  | .cartridgeInsert .. => h.execCartridgeInsert
  | .cartridgeIdentify .. => h.execCartridgeIdentify
  | .journalEntryWritten => h.execJournalEntryWritten
  | .ckptCommand m => h.execCkptCommand (_m := m)
  | .checkpointComplete => h.execCheckpointComplete
  | .crtFlushComplete => h.execCrtFlushComplete
  | .cartridgeRelease m => h.execCartridgeRelease (_m := m)
  | .cartridgeRemoved => h.execCartridgeRemoved
  | .cartridgeContactBreak => h.execCartridgeContactBreak
  | .cartridgeFormat m .. => h.execCartridgeFormat (_m := m)
  | .cartridgeAdopt m .. => h.execCartridgeAdopt (_m := m)
  | .nandRead m => h.execNandRead (_m := m)
  | .nandProgram m => h.execNandProgram (_m := m)
  | .nandErase m => h.execNandErase (_m := m)
  | .nandOpComplete .. => h.execNandOpComplete
  | .erWriteRequest .. => h.execErWriteRequest
  | .seqnextWrite .. => h.execSeqnextWrite
  | .erSectorProgram .. => h.execErSectorProgram
  | .erFlush => h.execErFlush
  | .erFlushComplete => h.execErFlushComplete
  | .erCursorOldest .. => h.execErCursorOldest
  | .erCursorNewest .. => h.execErCursorNewest
  | .erCursorSeek .. => h.execErCursorSeek
  | .erNext .. => h.execErNext
  | .erCursorMoveComplete .. => h.execErCursorMoveComplete
  | .clrtokenRead m => h.execClrtokenRead (_m := m)
  | .clearTokenExpiry => h.execClearTokenExpiry
  | .erClr m .. => h.execErClr (_m := m)
  | .erClearComplete => h.execErClearComplete
  | .lioGroupSample .. => h.execLioGroupSample
  | .readbackMismatch .. => h.execReadbackMismatch
  | .openLoad .. => h.execOpenLoad
  | .currentLimit .. => h.execCurrentLimit
  | .thermalShutdown .. => h.execThermalShutdown
  | .thermalCool .. => h.execThermalCool
  | .dqclr m .. => h.execDqclr (_m := m)
  | .fieldSupplyChange .. => h.execFieldSupplyChange
  | .seatedOpen .. => h.execSeatedOpen
  | .seatedMade .. => h.execSeatedMade
  | .rbBusIdle .. => h.execRbBusIdle
  | .rbObjWrite .. => h.execRbObjWrite
  | .rbObjRead .. => h.execRbObjRead
  | .rbObjLoad .. => h.execRbObjLoad
  | .rbTxRequest m .. => h.execRbTxRequest (_m := m)
  | .rbTxCancel m .. => h.execRbTxCancel (_m := m)
  | .rbTxStart .. => h.execRbTxStart
  | .rbTxSuccess .. => h.execRbTxSuccess
  | .rbTxError .. => h.execRbTxError
  | .rbFrameReceived .. => h.execRbFrameReceived
  | .rbRxSelect .. => h.execRbRxSelect
  | .rbRxAck m .. => h.execRbRxAck (_m := m)
  | .rbBusOff .. => h.execRbBusOff
  | .rbBusoffRecovery .. => h.execRbBusoffRecovery
  | .gateCmdWrite .. => h.execGateCmdWrite
  | .gateCmdRead .. => h.execGateCmdRead
  | .dbgNewchal m => h.execDbgNewchal (_m := m)
  | .dbgUnlock m => h.execDbgUnlock (_m := m)
  | .dbgRelock m => h.execDbgRelock (_m := m)
  | .dbgReset m => h.execDbgReset (_m := m)
  | .dbgHalt m .. => h.execDbgHalt (_m := m)
  | .dbgResume m .. => h.execDbgResume (_m := m)
  | .ncpHello .. => h.execNcpHello
  | .ncpFinish .. => h.execNcpFinish
  | .ncpKeepalive .. => h.execNcpKeepalive
  | .ncpBye .. => h.execNcpBye
  | .ncpIdent .. => h.execNcpIdent
  | .ncpCartid .. => h.execNcpCartid
  | .ncpReadvar .. => h.execNcpReadvar
  | .ncpWritevar .. => h.execNcpWritevar
  | .ncpStop .. => h.execNcpStop
  | .ncpRestart .. => h.execNcpRestart
  | .ncpJoin .. => h.execNcpJoin
  | .ncpCastle .. => h.execNcpCastle
  | .ncpEnterService .. => h.execNcpEnterService
  | .ncpLeaveService .. => h.execNcpLeaveService
  | .ncpReset .. => h.execNcpReset
  | .ncpPkgload .. => h.execNcpPkgload
  | .ncpVerify .. => h.execNcpVerify
  | .ncpSeal .. => h.execNcpSeal
  | .ncpUnseal .. => h.execNcpUnseal
  | .ncpForce .. => h.execNcpForce
  | .ncpForcelist .. => h.execNcpForcelist
  | .ncpImgload .. => h.execNcpImgload
  | .ncpImgstat .. => h.execNcpImgstat
  | .ncpErread .. => h.execNcpErread
  | .ncpErclear .. => h.execNcpErclear
  | .ncpAdopt .. => h.execNcpAdopt
  | .ncpCartformat .. => h.execNcpCartformat
  | .ncpAcyc .. => h.execNcpAcyc
  | .ncpPubkey .. => h.execNcpPubkey
  | .acycTimeout .. => h.execAcycTimeout
  | .publish .. => h.execPublish
  | .publicationKeyRotate => h.execPublicationKeyRotate
  | .helloTimeout .. => h.execHelloTimeout
  | .sessionTimeout .. => h.execSessionTimeout
  | .transferTimeout .. => h.execTransferTimeout
  | .emacFrameReceived .. => h.execEmacFrameReceived
  | .emacTxkick m .. => h.execEmacTxkick (_m := m)
  | .emacFrameSent .. => h.execEmacFrameSent
  | .emacLinkChange .. => h.execEmacLinkChange
  | .updBlockSubmit m .. => h.execUpdBlockSubmit (_m := m)
  | .updVerifyComplete => h.execUpdVerifyComplete
  | .updCancel m => h.execUpdCancel (_m := m)
  | .updUnpend .. => h.execUpdUnpend
  | .coreLockstepError .. => h.execCoreLockstepError
  | .uncorrectableEcc .. => h.execUncorrectableEcc
  | .clockMonitorFault .. => h.execClockMonitorFault
  | .voltageMonitorFault .. => h.execVoltageMonitorFault
  | .temperatureFault => h.execTemperatureFault
  | .safeStateReadbackFault => h.execSafeStateReadbackFault
  | .safChannelMismatch => h.execSafChannelMismatch
  | .diagPassStart => h.execDiagPassStart
  | .diagPassComplete .. => h.execDiagPassComplete
  | .eccCountSecond .. => h.execEccCountSecond
  | .watchdogService .. => h.execWatchdogService
  | .watchdogPreExpiry .. => h.execWatchdogPreExpiry
  | .watchdogExpiry .. => h.execWatchdogExpiry
  | .watchdogKeyTimeout .. => h.execWatchdogKeyTimeout
  | .safInject m => h.execSafInject (_m := m)
  | .activationComplete => h.execActivationComplete
  | .rbReceiveError .. => h.execRbReceiveError
  | .ppsInputEdge => h.execPpsInputEdge

end

/-- Settles O3: what every command keeps, of the state it starts from. -/
theorem everyCommandAnswersAndLeavesTheQueue : Obligations.EveryCommandAnswersAndLeavesTheQueue := fun c s => by
  obtain ⟨t, hexec, hqueue, -⟩ := (State.Keeps.refl (s := s)).exec c
  exact ⟨t, hexec, hqueue⟩

/-- Settles O4: a tick keeps the forms and the empty queue; the front command keeps the forms and the rest of the queue. -/
theorem everyStepKeepsTheForms : Obligations.EveryStepKeepsTheForms := fun s hs => by
  cases hqueue : s.pending with
  | nil =>
    obtain ⟨hrest, hforms⟩ := (State.Keeps.refl (s := s)).tick
    exact ⟨s.tick, step_nil hqueue, hforms hs, hrest.trans hqueue⟩
  | cons c cs =>
    obtain ⟨t, hexec, hrest, hforms⟩ := (State.Keeps.refl (s := { s with pending := cs })).exec c
    exact ⟨t, (step_cons hqueue).trans hexec, hforms hs, hrest⟩

end Sys2Proof.Machine
end

section
/-! SUPPORT. The check of an access at its gate (18 R385-R387): the entry that decides on a byte, what it grants, and the lowest byte that
fails. -/

namespace Sys2Proof.Machine

/-! The entry that decides (R385). -/

theorem State.gateEntryAt_eq_some {s : State} {g a i : Nat} :
    s.gateEntryAt g a = some i ↔ (i < 16 ∧ (s.gate g i).covers a = true) ∧ ∀ j < i, (s.gate g j).covers a = false := by
  rw [State.gateEntryAt, upTo, List.find?_range_eq_some]
  simp only [Bool.not_eq_true', List.mem_range]
  tauto

theorem State.gateEntryAt_lt {s : State} {g a : Nat} : (s.gateEntryAt g a).getD 0 < 16 := by
  cases h : s.gateEntryAt g a with
  | none => simp
  | some i => exact (State.gateEntryAt_eq_some.mp h).1.1

/-! The check of one byte (R385, R386, R391, R393). -/

theorem toNat_eq_dbgMaster (m : BitVec 6) : m.toNat = dbgMaster ↔ m = 0x3F := by
  rw [← BitVec.toNat_inj]
  rfl

/-- Rights and memory type let an access type pass just where the type is granted and, for an atomic one, the memory type is 2 to 4. -/
theorem grantCause_eq_zero {k : AccessKind} {rights mt : Nat} :
    (if isAtomic k = true ∧ mt < 2 then 5 else if grants rights k = true then 0 else 3) = 0 ↔
      grants rights k = true ∧ (isAtomic k = true → 2 ≤ mt) := by
  split
  case isTrue h => simp [h.1, Nat.not_le.mpr h.2]
  case isFalse h =>
    have hmt : isAtomic k = true → 2 ≤ mt := fun hk => Nat.not_lt.mp fun hlt => h ⟨hk, hlt⟩
    split
    case isTrue hg => exact ⟨fun _ => ⟨hg, hmt⟩, fun _ => rfl⟩
    case isFalse hg => simp [hg]

theorem State.byteCheck_some {s : State} {m a i : Nat} {priv : Bool} {k : AccessKind} (h : s.gateEntryAt ((gateOf a).getD 0) a = some i) :
    let e := s.gate ((gateOf a).getD 0) i
    (s.byteCheck m priv k a).cause =
      if (!nbit e.mask m) = true ∨ (m = dbgMaster ∧ (!s.flag R.H_CTRL_EN 0 0x70) = true) then 2
      else if m = dbgMaster ∧ e.lock = true ∧ (!(e.dbg && s.flag R.DBG_STAT_UNLOCKED)) = true then 3
      else if isAtomic k = true ∧ e.memtype < 2 then 5 else if grants (if priv then e.p else e.u) k = true then 0 else 3 := by
  rw [State.byteCheck, h]

theorem State.byteCheck_none {s : State} {m a : Nat} {priv : Bool} {k : AccessKind} (h : s.gateEntryAt ((gateOf a).getD 0) a = none) :
    (s.byteCheck m priv k a).cause = if m = dbgMaster ∨ (!priv) = true then 1
      else if isAtomic k = true ∧ (defaultMap a).2.1 < 2 then 5 else if grants (defaultMap a).1 k = true then 0 else 3 := by
  rw [State.byteCheck, h]

theorem State.byteCheck_lt (s : State) (m a : Nat) (priv : Bool) (k : AccessKind) : (s.byteCheck m priv k a).cause < 8 := by
  cases h : s.gateEntryAt ((gateOf a).getD 0) a with
  | none => rw [State.byteCheck_none h]; split_ifs <;> decide
  | some i => rw [State.byteCheck_some h]; split_ifs <;> decide

theorem State.byteCause_lt (s : State) (m a0 n a : Nat) (priv : Bool) (k : AccessKind) : s.byteCause m priv k a0 n a < 8 := by
  unfold State.byteCause
  dsimp only
  split
  · exact s.byteCheck_lt ..
  · split_ifs <;> decide

/-! The lowest byte that fails (R387). -/

theorem gateIn_mem {a g : Nat} : ∀ {rs : List (Nat × Nat × Nat)}, gateIn a rs = some g → ∃ r ∈ rs, r.1 = g ∧ a ≤ r.2.2
  | [], h => nomatch h
  | (g', lo, hi) :: rs, h => by
    rw [gateIn] at h
    split at h
    case isTrue hin => exact ⟨_, List.mem_cons_self .., Option.some.inj h, hin.2⟩
    case isFalse =>
      obtain ⟨r, hr, hg⟩ := gateIn_mem h
      exact ⟨r, List.mem_cons_of_mem _ hr, hg⟩

theorem gateOf_lt (a : Nat) : (gateOf a).getD 0 < 13 := by
  cases h : gateOf a with
  | none => decide
  | some g =>
    obtain ⟨r, hr, rfl, -⟩ := gateIn_mem h
    exact (by decide : ∀ r ∈ gateRanges, r.1 < 13) r hr

theorem State.decodes_lt {s : State} {a : Nat} (h : s.decodes a = true) : a < 2 ^ 36 - 1 := by
  obtain ⟨g, hg⟩ := Option.isSome_iff_exists.mp (Bool.and_eq_true_iff.mp h).1
  obtain ⟨r, hr, -, hle⟩ := gateIn_mem hg
  exact Nat.lt_of_le_of_lt hle ((by decide : ∀ r ∈ gateRanges, r.2.2 < 2 ^ 36 - 1) r hr)

/-- Byte `b` of an access fails: it is undecoded, or has a cause. -/
def State.byteFails (s : State) (m : Nat) (priv : Bool) (k : AccessKind) (a0 n b : Nat) : Bool :=
  !s.decodes b || s.byteCause m priv k a0 n b != 0

/-- The verdict on a failing byte. -/
def State.verdictAt (s : State) (m : Nat) (priv : Bool) (k : AccessKind) (a0 n b : Nat) : Verdict :=
  if s.decodes b = false then .undecoded b else .refused b (s.byteCause m priv k a0 n b)

theorem State.failsAt_eq (s : State) (m : Nat) (priv : Bool) (k : AccessKind) (a n : Nat) :
    s.failsAt m priv k a n = ((upTo n).map (a + ·)).find? (s.byteFails m priv k a n) := List.head?_filter ..

/-- From any byte on: the first one that fails decides, and lies below 2^36. -/
theorem State.verdictFrom_find {s : State} {m : Nat} {priv : Bool} {k : AccessKind} {a0 n b : Nat} :
    ∀ {r a : Nat}, a < 2 ^ 36 → ((upTo r).map (a + ·)).find? (s.byteFails m priv k a0 n) = some b →
      s.verdictFrom m priv k a0 n a r = s.verdictAt m priv k a0 n b ∧ b < 2 ^ 36
  | 0, _, _, h => nomatch h
  | r + 1, a, ha, h => by
    have htail : (upTo (r + 1)).map (a + ·) = a :: (upTo r).map (a + 1 + ·) := by
      simp [upTo, List.range_succ_eq_map, Function.comp_def, Nat.add_comm 1, Nat.add_assoc]
    rw [htail, List.find?_cons] at h
    rw [State.verdictFrom]
    cases hd : s.decodes a with
    | false =>
      have hfail : s.byteFails m priv k a0 n a = true := by simp [State.byteFails, hd]
      rw [hfail] at h
      obtain rfl := Option.some.inj h
      exact ⟨by simp [State.verdictAt, hd], ha⟩
    | true =>
      by_cases hc : s.byteCause m priv k a0 n a = 0
      · have hnext : ((upTo r).map (a + 1 + ·)).find? (s.byteFails m priv k a0 n) = some b := by simpa [State.byteFails, hd, hc] using h
        have hlt := State.decodes_lt hd
        simpa [hc] using State.verdictFrom_find (by omega) hnext
      · have hfail : s.byteFails m priv k a0 n a = true := by simp [State.byteFails, hc]
        rw [hfail] at h
        obtain rfl := Option.some.inj h
        exact ⟨by simp [State.verdictAt, hd, hc], ha⟩

theorem State.verdict_of_failsAt {s : State} {m : Nat} {priv : Bool} {k : AccessKind} {a n b : Nat} (ha : a < 2 ^ 36)
    (h : s.failsAt m priv k a n = some b) : s.verdict m priv k a n = s.verdictAt m priv k a n b ∧ b < 2 ^ 36 :=
  State.verdictFrom_find ha (s.failsAt_eq .. ▸ h)

/-! An access without a work in progress. -/

theorem State.NoWork.current {s : State} (h : s.NoWork) : s.current = none := by
  obtain ⟨hphase, -⟩ := h
  refine List.find?_eq_none.mpr fun w hw => ?_
  simp [hphase w hw]

theorem State.landBy_nothing {s : State} (h : ∀ v ∈ allLevels, (s.seq v).flight = []) (c : Nat) : s.landBy allLevels c = s := by
  unfold State.landBy
  refine if_pos (List.flatMap_eq_nil_iff.mpr fun v hv => ?_)
  simp [h v hv]

theorem State.NoWork.pathNow {s : State} (h : s.NoWork) : s.pathNow = s := by
  have hland : s.landBy allLevels s.clk = s := State.landBy_nothing h.2.1 _
  rw [State.pathNow, hland]
  simp [h.current]

theorem State.NoWork.engineRows {s : State} (h : s.NoWork) (rows : Nat) : s.engineRows rows = s := by
  rw [State.engineRows, h.pathNow]
  simp [h.current]

theorem State.access_refused {s : State} {m : BitVec 6} {x : Access} {b : Nat} (hwaits : s.xe.waits = []) (hsm : s.rd R.XE_SM_STAT_STATE ≠ 4)
    (hv : s.verdict x.m x.priv x.kind x.addr x.size = s.verdictAt x.m x.priv x.kind x.addr x.size b) :
    s.access m x = s.accessRefused x (s.verdictAt x.m x.priv x.kind x.addr x.size b) := by
  have hnone : s.waitsSwitch x = false := by simp [State.waitsSwitch, hsm]
  simp only [State.access, hwaits, hnone, hv, bne_self_eq_false, Bool.false_and, Bool.false_eq_true, if_false]
  cases hd : s.decodes b <;> simp [State.verdictAt, hd]

/-- An access with a failing byte, where no switch is under way and no work: it is refused with that byte's record. -/
theorem execFabricAccess_refused {m : BitVec 6} {priv : Bool} {k : AccessKind} {a : BitVec 36} {n : BitVec 13} {beat : Beat} {s : State}
    {b : Nat} (hwaits : s.xe.waits = [] ∧ s.rd R.XE_SM_STAT_STATE ≠ 4) (hidle : isPageByte a.toNat = true ∨ s.NoWork)
    (h : s.failsAt m.toNat (priv || decide (2 ≤ m.toNat)) k a.toNat n.toNat = some b) :
    let p := priv || decide (2 ≤ m.toNat)
    let v := s.verdictAt m.toNat p k a.toNat n.toNat b
    execFabricAccess m priv k a n beat s = .next { s.refusal m.toNat p k a.toNat v with
      bus := ⟨if loads k then List.replicate n.toNat 0 else [], true, 0, false, b⟩ } := by
  intro p v
  have hn : n.toNat ≠ 0 := fun h0 => by rw [h0] at h; nomatch h
  have hrows : (if isPageByte a.toNat = true then s else s.engineRows beat.rows) = s := by
    rcases hidle with hpage | hwork
    · exact if_pos hpage
    · rw [hwork.engineRows, ite_self]
  have hv := (State.verdict_of_failsAt a.isLt h).1
  have hfault : v.fault = b := by
    show (State.verdictAt ..).fault = b
    unfold State.verdictAt
    split <;> rfl
  have hzeros : (upTo n.toNat).map (fun _ => (0 : BitVec 8)) = List.replicate n.toNat 0 := by simp [upTo]
  unfold execFabricAccess
  dsimp only
  rw [if_neg hn, hrows, State.access_refused hwaits.1 hwaits.2 hv, State.accessRefused]
  dsimp only
  rw [hzeros]
  exact congrArg (fun f => Host.Outcome.next { s.refusal m.toNat p k a.toNat v with
    bus := ⟨if loads k then List.replicate n.toNat 0 else [], true, 0, false, f⟩ }) hfault

end Sys2Proof.Machine
end

section
/-! SUPPORT. The records of refused accesses (18 R387, R388, R391). -/

namespace Sys2Proof.Machine

/-! A list of fields of one entry written one after the other. -/

/-- The fields of entry `k` written in turn. -/
def State.wrFields (s : State) (xs : List (Row × Nat)) (k : Nat) : State := s.each xs fun s x => s.wr x.1 x.2 k

theorem State.wrFields_rd_other (s : State) {xs : List (Row × Nat)} {k : Nat} {q : Row} {k' u m : Nat}
    (h : ∀ x ∈ xs, q.place k' ≠ x.1.place k) : (s.wrFields xs k).rd q k' u m = s.rd q k' u m :=
  State.each_induction (motive := fun t => t.rd q k' u m = s.rd q k' u m) rfl
    fun t x hx ht => (State.rd_wr_place t x.1 q x.2 k 0 0 k' u m (h x hx)).trans ht

theorem State.wrFields_rd {k : Nat} {r : Row} {v : Nat} {xs : List (Row × Nat)} (hd : (xs.map (·.1.place k)).Nodup) (hx : (r, v) ∈ xs)
    (s : State) : (s.wrFields xs k).rd r k = v % 2 ^ r.width := by
  induction xs generalizing s with
  | nil => exact absurd hx List.not_mem_nil
  | cons x xs ih =>
    obtain ⟨hnot, hd⟩ := List.nodup_cons.mp hd
    rcases List.mem_cons.mp hx with rfl | hx
    · refine (State.wrFields_rd_other (s.wr r v k) fun y hy he => hnot ?_).trans (State.rd_wr_self ..)
      exact List.mem_map.mpr ⟨y, hy, he.symm⟩
    · exact ih hd hx (s.wr x.1 x.2 k)

theorem State.RegsBut.wrFields {s t : State} {K : List Nat} (h : s.RegsBut t K) {xs : List (Row × Nat)} {k : Nat}
    (hk : ∀ x ∈ xs, x.1.key k 0 0 ∈ K) : s.RegsBut (t.wrFields xs k) K :=
  State.each_induction (motive := fun t => s.RegsBut t K) h fun _ x hx ht => ht.wr _ _ _ _ _ (hk x hx)

theorem State.RegsAlone.wrFields {s t : State} (h : s.RegsAlone t) (xs : List (Row × Nat)) (k : Nat) : s.RegsAlone (t.wrFields xs k) :=
  State.each_induction (motive := s.RegsAlone) h fun _ _ _ ht => ht.wr ..

/-! Levels of several conditions of a page. -/

/-- Each condition of a page takes its level. -/
def State.evLevels (s : State) (p : Nat) (xs : List (Nat × Bool)) : State := s.each xs fun s x => s.evLevel p x.1 x.2

theorem State.evLevels_rd (s : State) {p : Nat} {xs : List (Nat × Bool)} {q : Row} {k u m : Nat} (h : q.place k ≠ R.H_EVRAW.place 0)
    (h' : q.place k ≠ R.H_EVSTAT.place 0) : (s.evLevels p xs).rd q k u m = s.rd q k u m :=
  State.each_induction (motive := fun t => t.rd q k u m = s.rd q k u m) rfl fun t _ _ ht => (t.evLevel_rd _ _ _ q k u m h h').trans ht

theorem State.evLevels_stat_ne (s : State) {p j : Nat} {xs : List (Nat × Bool)} (h : ∀ x ∈ xs, j ≠ x.1) (hj : j < 32) :
    nbit ((s.evLevels p xs).rd R.H_EVSTAT 0 p) j = nbit (s.rd R.H_EVSTAT 0 p) j :=
  State.each_induction (motive := fun t => nbit (t.rd R.H_EVSTAT 0 p) j = nbit (s.rd R.H_EVSTAT 0 p) j) rfl
    fun t x hx ht => (t.evLevel_stat_ne p x.2 (h x hx) hj).trans ht

theorem State.evLevels_rose {p j : Nat} (hj : j < 32) {xs : List (Nat × Bool)} (hd : (xs.map (·.1)).Nodup) (hx : (j, true) ∈ xs) (s : State) :
    s.Rose (s.evLevels p xs) p j := by
  induction xs generalizing s with
  | nil => exact absurd hx List.not_mem_nil
  | cons x xs ih =>
    obtain ⟨hnot, hd⟩ := List.nodup_cons.mp hd
    rcases List.mem_cons.mp hx with rfl | hx
    · intro h0
      refine ((s.evLevel p j true).evLevels_stat_ne (fun y hy he => hnot ?_) hj).trans (s.evLevel_rose p j hj h0)
      exact List.mem_map.mpr ⟨y, hy, he.symm⟩
    · have hne : j ≠ x.1 := fun he => hnot (List.mem_map.mpr ⟨_, hx, he⟩)
      intro h0
      exact ih hd hx (s.evLevel p x.1 x.2) ((s.evLevel_raw_ne p x.2 hne hj).trans h0)

theorem State.RegsBut.evLevels {s t : State} {K : List Nat} (h : s.RegsBut t K) {p : Nat} (xs : List (Nat × Bool)) (hk : evKeys p ⊆ K) :
    s.RegsBut (t.evLevels p xs) K :=
  State.each_induction (motive := fun t => s.RegsBut t K) h fun _ _ _ ht => ht.evLevel _ _ _ hk

theorem State.RegsAlone.evLevels {s t : State} (h : s.RegsAlone t) (p : Nat) (xs : List (Nat × Bool)) : s.RegsAlone (t.evLevels p xs) :=
  State.each_induction (motive := s.RegsAlone) h fun _ _ _ ht => ht.evLevel ..

/-! The conditions of the gates (Table 18.8). -/

/-- The group of gates whose records show in one condition. -/
def gateGroup (g : Nat) : Nat := if g ≤ 4 then 0 else if g ≤ 6 then 1 else if g ≤ 8 then 2 else if g ≤ 11 then 3 else 4

/-- A record of `n` gates from `lo` on is held. -/
def State.fltHeld (s : State) (lo n : Nat) : Bool := (upTo n).any fun i => s.flag R.GATE_FLT_INFO_VALID (lo + i)

theorem State.fltHeld_of {s : State} {lo n g : Nat} (h : s.flag R.GATE_FLT_INFO_VALID g = true) (hlo : lo ≤ g) (hhi : g < lo + n) :
    s.fltHeld lo n = true :=
  List.any_eq_true.mpr ⟨g - lo, List.mem_range.mpr (by omega), by rwa [Nat.add_sub_cancel' hlo]⟩

/-- The levels of the conditions of page GATE. -/
def State.gateLevelList (s : State) : List (Nat × Bool) :=
  [(0, s.fltHeld 0 5), (1, s.fltHeld 5 2), (2, s.fltHeld 7 2), (3, s.fltHeld 9 3), (4, s.fltHeld 12 1), (5, s.flag R.GATE_DEC_INFO_VALID)]

theorem State.gateLevels_eq (s : State) : s.gateLevels = s.evLevels 0x06 s.gateLevelList := rfl

theorem State.gateLevelList_nodup (s : State) : (s.gateLevelList.map (·.1)).Nodup := by
  show [0, 1, 2, 3, 4, 5].Nodup
  decide

theorem State.gateLevelList_flt {s : State} {g : Nat} (hg : g < 13) (h : s.flag R.GATE_FLT_INFO_VALID g = true) :
    (gateGroup g, true) ∈ s.gateLevelList := by
  have held {lo n : Nat} (hlo : lo ≤ g) (hhi : g < lo + n) := s.fltHeld_of h hlo hhi
  unfold gateGroup
  split_ifs
  · simp [State.gateLevelList, held (lo := 0) (n := 5) (by omega) (by omega)]
  · simp [State.gateLevelList, held (lo := 5) (n := 2) (by omega) (by omega)]
  · simp [State.gateLevelList, held (lo := 7) (n := 2) (by omega) (by omega)]
  · simp [State.gateLevelList, held (lo := 9) (n := 3) (by omega) (by omega)]
  · simp [State.gateLevelList, held (lo := 12) (n := 1) (by omega) (by omega)]

theorem gateGroup_lt (g : Nat) : gateGroup g < 32 := by
  unfold gateGroup
  split_ifs <;> decide

theorem State.gateLevels_rose_flt {s : State} {g : Nat} (hg : g < 13) (h : s.flag R.GATE_FLT_INFO_VALID g = true) :
    s.Rose s.gateLevels 0x06 (gateGroup g) :=
  State.evLevels_rose (gateGroup_lt g) s.gateLevelList_nodup (State.gateLevelList_flt hg h) s

theorem State.gateLevels_rose_dec {s : State} (h : s.flag R.GATE_DEC_INFO_VALID = true) : s.Rose s.gateLevels 0x06 5 :=
  State.evLevels_rose (by decide) s.gateLevelList_nodup (by simp [State.gateLevelList, h]) s

theorem State.Rose.after {s u t : State} {p bit : Nat} (h : u.rd R.H_EVRAW 0 p = s.rd R.H_EVRAW 0 p) (hr : u.Rose t p bit) : s.Rose t p bit :=
  fun h0 => hr (h.symm ▸ h0)

/-! The record of a refusal by a gate (R388). -/

/-- The fields of the record of gate `g` beside MORE and COUNT, and all of them. -/
def fltInfoRows : List Row :=
  [R.GATE_FLT_ADDRLO, R.GATE_FLT_ADDRHI, R.GATE_FLT_INFO_MASTER, R.GATE_FLT_INFO_PRIV, R.GATE_FLT_INFO_TYPE, R.GATE_FLT_INFO_CAUSE,
    R.GATE_FLT_INFO_STRADDLE, R.GATE_FLT_INFO_ENTRY, R.GATE_FLT_INFO_NOENT, R.GATE_FLT_INFO_VALID]
def fltRows : List Row := R.GATE_FLT_INFO_MORE :: R.GATE_FLT_COUNT :: fltInfoRows

theorem fltRows_nodup {g : Nat} (hg : g < 13) : (fltRows.map (·.place g)).Nodup :=
  (by decide : ∀ g : Fin 13, (fltRows.map (·.place g)).Nodup) ⟨g, hg⟩

theorem fltRows_not_event {g : Nat} (hg : g < 13) {q : Row} (hq : q ∈ fltRows) :
    q.place g ≠ R.H_EVRAW.place 0 ∧ q.place g ≠ R.H_EVSTAT.place 0 :=
  (by decide : ∀ g : Fin 13, ∀ q ∈ fltRows, q.place g ≠ R.H_EVRAW.place 0 ∧ q.place g ≠ R.H_EVSTAT.place 0) ⟨g, hg⟩ q hq

theorem fltInfoRows_place_ne {g : Nat} (hg : g < 13) {q : Row} (hq : q ∈ fltInfoRows) :
    q.place g ≠ R.GATE_FLT_INFO_MORE.place g ∧ q.place g ≠ R.GATE_FLT_COUNT.place g :=
  (by decide : ∀ g : Fin 13, ∀ q ∈ fltInfoRows, q.place g ≠ R.GATE_FLT_INFO_MORE.place g ∧ q.place g ≠ R.GATE_FLT_COUNT.place g) ⟨g, hg⟩ q hq

/-- What a first refusal writes in the record of its gate. -/
def State.fltFields (s : State) (g m : Nat) (priv : Bool) (k : AccessKind) (a0 a cause : Nat) : List (Row × Nat) :=
  [(R.GATE_FLT_ADDRLO, a % 2 ^ 32), (R.GATE_FLT_ADDRHI, a / 2 ^ 32), (R.GATE_FLT_INFO_MASTER, m), (R.GATE_FLT_INFO_PRIV, b2n priv),
    (R.GATE_FLT_INFO_TYPE, kindCode k), (R.GATE_FLT_INFO_CAUSE, cause), (R.GATE_FLT_INFO_STRADDLE, b2n (a != a0)),
    (R.GATE_FLT_INFO_ENTRY, (s.gateEntryAt g a).getD 0), (R.GATE_FLT_INFO_NOENT, b2n (s.gateEntryAt g a).isNone), (R.GATE_FLT_INFO_VALID, 1)]

/-- What a refusal writes in the record of its gate beside COUNT. -/
def State.fltUpdate (s : State) (g m : Nat) (priv : Bool) (k : AccessKind) (a0 a cause : Nat) : List (Row × Nat) :=
  if s.flag R.GATE_FLT_INFO_VALID g then [(R.GATE_FLT_INFO_MORE, 1)] else s.fltFields g m priv k a0 a cause

/-- The record of gate `g` after a refusal, its levels not yet taken. -/
def State.fltFilled (s : State) (g m : Nat) (priv : Bool) (k : AccessKind) (a0 a cause : Nat) : State :=
  (s.sat R.GATE_FLT_COUNT g).wrFields (s.fltUpdate g m priv k a0 a cause) g

section
variable {s : State} {g m : Nat} {priv : Bool} {k : AccessKind} {a0 a cause : Nat}

theorem State.sat_flt_rd {q : Row} (hg : g < 13) (hq : q ∈ fltInfoRows) : (s.sat R.GATE_FLT_COUNT g).rd q g = s.rd q g :=
  State.rd_wr_place _ _ _ _ _ _ _ _ _ _ (fltInfoRows_place_ne hg hq).2

theorem State.fltRecord_eq (hg : g < 13) : s.fltRecord g m priv k a0 a cause = (s.fltFilled g m priv k a0 a cause).gateLevels := by
  have hvalid : (s.sat R.GATE_FLT_COUNT g).flag R.GATE_FLT_INFO_VALID g = s.flag R.GATE_FLT_INFO_VALID g :=
    congrArg (· != 0) (State.sat_flt_rd hg (by decide))
  rw [State.fltFilled, State.fltUpdate, ← hvalid]
  unfold State.fltRecord
  dsimp only
  split <;> rfl

theorem State.fltUpdate_mem {x : Row × Nat} (hx : x ∈ s.fltUpdate g m priv k a0 a cause) : x.1 ∈ R.GATE_FLT_INFO_MORE :: fltInfoRows := by
  rw [State.fltUpdate] at hx
  split at hx
  · rw [List.mem_singleton.mp hx]
    exact List.mem_cons_self ..
  · exact List.mem_cons_of_mem _ (List.mem_map_of_mem (f := Prod.fst) hx)

theorem State.fltRecord_rd (hg : g < 13) {q : Row} (hq : q ∈ fltRows) :
    (s.fltRecord g m priv k a0 a cause).rd q g = (s.fltFilled g m priv k a0 a cause).rd q g := by
  obtain ⟨hraw, hstat⟩ := fltRows_not_event hg hq
  rw [State.fltRecord_eq hg, State.gateLevels_eq, State.evLevels_rd _ hraw hstat]

/-- A record that is held stays as it is. -/
theorem State.fltFilled_held_rd (hg : g < 13) (h : s.flag R.GATE_FLT_INFO_VALID g = true) {q : Row} (hq : q ∈ fltInfoRows) :
    (s.fltFilled g m priv k a0 a cause).rd q g = s.rd q g := by
  have hmore := (fltInfoRows_place_ne hg hq).1
  rw [State.fltFilled, State.fltUpdate, if_pos h, State.wrFields_rd_other _ (by simpa using hmore), State.sat_flt_rd hg hq]

theorem State.fltFilled_held_more (h : s.flag R.GATE_FLT_INFO_VALID g = true) :
    (s.fltFilled g m priv k a0 a cause).flag R.GATE_FLT_INFO_MORE g = true := by
  rw [State.fltFilled, State.fltUpdate, if_pos h]
  exact State.flag_wr_one _ rfl ..

/-- A record that is free takes the refusal. -/
theorem State.fltFilled_first_rd (hg : g < 13) (h : s.flag R.GATE_FLT_INFO_VALID g = false) {q : Row} {v : Nat}
    (hq : (q, v) ∈ s.fltFields g m priv k a0 a cause) : (s.fltFilled g m priv k a0 a cause).rd q g = v % 2 ^ q.width := by
  have hnodup : ((s.fltFields g m priv k a0 a cause).map (·.1.place g)).Nodup :=
    (List.nodup_cons.mp (List.nodup_cons.mp (fltRows_nodup hg)).2).2
  rw [State.fltFilled, State.fltUpdate, if_neg (by simp [h]), State.wrFields_rd hnodup hq]

theorem State.fltFilled_valid (hg : g < 13) : (s.fltFilled g m priv k a0 a cause).flag R.GATE_FLT_INFO_VALID g = true := by
  cases h : s.flag R.GATE_FLT_INFO_VALID g with
  | true => exact (congrArg (· != 0) (State.fltFilled_held_rd hg h (by decide))).trans h
  | false => exact congrArg (· != 0) (State.fltFilled_first_rd hg h (v := 1) (by simp [State.fltFields]))

theorem State.fltFilled_counted (hg : g < 13) : s.Counted (s.fltFilled g m priv k a0 a cause) R.GATE_FLT_COUNT g := by
  refine Eq.trans (State.wrFields_rd_other _ fun x hx => ?_) (s.sat_counted R.GATE_FLT_COUNT g 0)
  exact (by decide : ∀ g : Fin 13, ∀ q ∈ R.GATE_FLT_INFO_MORE :: fltInfoRows, R.GATE_FLT_COUNT.place g ≠ q.place g) ⟨g, hg⟩ _
    (State.fltUpdate_mem hx)

theorem State.fltFilled_raw (hg : g < 13) : (s.fltFilled g m priv k a0 a cause).rd R.H_EVRAW 0 0x06 = s.rd R.H_EVRAW 0 0x06 := by
  have hne {q : Row} (hq : q ∈ fltRows) := (fltRows_not_event hg hq).1.symm
  refine (State.wrFields_rd_other _ fun x hx => hne ?_).trans (State.rd_wr_place _ _ _ _ _ _ _ _ _ _ (hne (by decide)))
  exact (by decide : R.GATE_FLT_INFO_MORE :: fltInfoRows ⊆ fltRows) (State.fltUpdate_mem hx)

theorem State.fltRecord_rose (hg : g < 13) : s.Rose (s.fltRecord g m priv k a0 a cause) 0x06 (gateGroup g) := by
  rw [State.fltRecord_eq hg]
  exact (State.gateLevels_rose_flt hg (State.fltFilled_valid hg)).after (State.fltFilled_raw hg)

theorem State.fltRecord_frame (hg : g < 13) : s.RegsBut (s.fltRecord g m priv k a0 a cause) (fltKeys g ++ evKeys 0x06) ∧
    s.RegsAlone (s.fltRecord g m priv k a0 a cause) := by
  have hkeys : ∀ q ∈ fltRows, q.key g 0 0 ∈ fltKeys g ++ evKeys 0x06 := by simp [fltRows, fltInfoRows, fltKeys]
  rw [State.fltRecord_eq hg, State.gateLevels_eq]
  constructor
  · refine State.RegsBut.evLevels (.wrFields ((State.RegsBut.refl s _).wr _ _ _ _ _ (hkeys _ (by decide))) fun x hx => ?_) _
      (List.subset_append_right ..)
    exact hkeys _ ((by decide : R.GATE_FLT_INFO_MORE :: fltInfoRows ⊆ fltRows) (State.fltUpdate_mem hx))
  · exact State.RegsAlone.evLevels (.wrFields ((State.RegsAlone.refl s).wr ..) ..) ..

end

end Sys2Proof.Machine
end

section
/-! SUPPORT. The decode record and the record of refused debug accesses (18 R387, R391). -/

namespace Sys2Proof.Machine

/-- The address of a byte below 2^36 in two words of 32 and 4 bits. -/
theorem rd2_address {v : Nat} (h : v < 2 ^ 36) : v % 2 ^ 32 % 2 ^ 32 + v / 2 ^ 32 % 2 ^ 4 * 2 ^ 32 = v := by omega

/-! The decode record (R387). -/

/-- The fields of the decode record beside MORE and COUNT, and all of them. -/
def decInfoRows : List Row :=
  [R.GATE_DEC_ADDRLO, R.GATE_DEC_ADDRHI, R.GATE_DEC_INFO_MASTER, R.GATE_DEC_INFO_TYPE, R.GATE_DEC_INFO_VALID]
def decRows : List Row := R.GATE_DEC_INFO_MORE :: R.GATE_DEC_COUNT :: decInfoRows

theorem decRows_not_event : ∀ q ∈ decRows, q.place 0 ≠ R.H_EVRAW.place 0 ∧ q.place 0 ≠ R.H_EVSTAT.place 0 := by decide

theorem decInfoRows_place_ne : ∀ q ∈ decInfoRows,
    q.place 0 ≠ R.GATE_DEC_INFO_MORE.place 0 ∧ q.place 0 ≠ R.GATE_DEC_COUNT.place 0 := by decide

/-- What a first undecoded access writes in the decode record. -/
def decFields (m : Nat) (k : AccessKind) (a : Nat) : List (Row × Nat) :=
  [(R.GATE_DEC_ADDRLO, a % 2 ^ 32), (R.GATE_DEC_ADDRHI, a / 2 ^ 32), (R.GATE_DEC_INFO_MASTER, m), (R.GATE_DEC_INFO_TYPE, kindCode k),
    (R.GATE_DEC_INFO_VALID, 1)]

/-- What an undecoded access writes in the decode record beside COUNT. -/
def State.decUpdate (s : State) (m : Nat) (k : AccessKind) (a : Nat) : List (Row × Nat) :=
  if s.flag R.GATE_DEC_INFO_VALID then [(R.GATE_DEC_INFO_MORE, 1)] else decFields m k a

/-- The decode record after an undecoded access, its level not yet taken. -/
def State.decFilled (s : State) (m : Nat) (k : AccessKind) (a : Nat) : State := (s.sat R.GATE_DEC_COUNT).wrFields (s.decUpdate m k a) 0

section
variable {s : State} {m : Nat} {k : AccessKind} {a : Nat}

theorem State.sat_dec_rd {q : Row} (hq : q ∈ decInfoRows) : (s.sat R.GATE_DEC_COUNT).rd q = s.rd q :=
  State.rd_wr_place _ _ _ _ _ _ _ _ _ _ (decInfoRows_place_ne q hq).2

theorem State.decRecord_eq : s.decRecord m k a = (s.decFilled m k a).gateLevels := by
  have hvalid : (s.sat R.GATE_DEC_COUNT).flag R.GATE_DEC_INFO_VALID = s.flag R.GATE_DEC_INFO_VALID :=
    congrArg (· != 0) (State.sat_dec_rd (by decide))
  rw [State.decFilled, State.decUpdate, ← hvalid]
  unfold State.decRecord
  dsimp only
  split <;> rfl

theorem State.decUpdate_mem {x : Row × Nat} (hx : x ∈ s.decUpdate m k a) : x.1 ∈ R.GATE_DEC_INFO_MORE :: decInfoRows := by
  rw [State.decUpdate] at hx
  split at hx
  · rw [List.mem_singleton.mp hx]
    exact List.mem_cons_self ..
  · exact List.mem_cons_of_mem _ (List.mem_map_of_mem (f := Prod.fst) hx)

theorem State.decRecord_rd {q : Row} (hq : q ∈ decRows) : (s.decRecord m k a).rd q = (s.decFilled m k a).rd q := by
  obtain ⟨hraw, hstat⟩ := decRows_not_event q hq
  rw [State.decRecord_eq, State.gateLevels_eq, State.evLevels_rd _ hraw hstat]

theorem State.decFilled_held_rd (h : s.flag R.GATE_DEC_INFO_VALID = true) {q : Row} (hq : q ∈ decInfoRows) :
    (s.decFilled m k a).rd q = s.rd q := by
  have hmore := (decInfoRows_place_ne q hq).1
  rw [State.decFilled, State.decUpdate, if_pos h, State.wrFields_rd_other _ (by simpa using hmore), State.sat_dec_rd hq]

theorem State.decFilled_held_more (h : s.flag R.GATE_DEC_INFO_VALID = true) : (s.decFilled m k a).flag R.GATE_DEC_INFO_MORE = true := by
  rw [State.decFilled, State.decUpdate, if_pos h]
  exact State.flag_wr_one _ rfl ..

theorem State.decFilled_first_rd (h : s.flag R.GATE_DEC_INFO_VALID = false) {q : Row} {v : Nat} (hq : (q, v) ∈ decFields m k a) :
    (s.decFilled m k a).rd q = v % 2 ^ q.width := by
  have hnodup : ((decFields m k a).map (·.1.place 0)).Nodup := (by decide : (decInfoRows.map (·.place 0)).Nodup)
  rw [State.decFilled, State.decUpdate, if_neg (by simp [h]), State.wrFields_rd hnodup hq]

theorem State.decFilled_valid : (s.decFilled m k a).flag R.GATE_DEC_INFO_VALID = true := by
  cases h : s.flag R.GATE_DEC_INFO_VALID with
  | true => exact (congrArg (· != 0) (State.decFilled_held_rd h (by decide))).trans h
  | false => exact congrArg (· != 0) (State.decFilled_first_rd h (v := 1) (by simp [decFields]))

theorem State.decFilled_counted : s.Counted (s.decFilled m k a) R.GATE_DEC_COUNT := by
  refine Eq.trans (State.wrFields_rd_other _ fun x hx => ?_) (s.sat_counted R.GATE_DEC_COUNT 0 0)
  exact (by decide : ∀ q ∈ R.GATE_DEC_INFO_MORE :: decInfoRows, R.GATE_DEC_COUNT.place 0 ≠ q.place 0) _ (State.decUpdate_mem hx)

theorem State.decFilled_raw : (s.decFilled m k a).rd R.H_EVRAW 0 0x06 = s.rd R.H_EVRAW 0 0x06 := by
  have hne {q : Row} (hq : q ∈ decRows) := (decRows_not_event q hq).1.symm
  refine (State.wrFields_rd_other _ fun x hx => hne ?_).trans (State.rd_wr_place _ _ _ _ _ _ _ _ _ _ (hne (by decide)))
  exact (by decide : R.GATE_DEC_INFO_MORE :: decInfoRows ⊆ decRows) (State.decUpdate_mem hx)

theorem State.decRecord_rose : s.Rose (s.decRecord m k a) 0x06 5 := by
  rw [State.decRecord_eq]
  exact (State.gateLevels_rose_dec State.decFilled_valid).after State.decFilled_raw

theorem State.decRecord_frame : s.RegsBut (s.decRecord m k a) (decKeys ++ evKeys 0x06) ∧ s.RegsAlone (s.decRecord m k a) := by
  have hkeys : ∀ q ∈ decRows, q.key 0 0 0 ∈ decKeys ++ evKeys 0x06 := by decide
  rw [State.decRecord_eq, State.gateLevels_eq]
  constructor
  · refine State.RegsBut.evLevels (.wrFields ((State.RegsBut.refl s _).wr _ _ _ _ _ (hkeys _ (by decide))) fun x hx => ?_) _
      (List.subset_append_right ..)
    exact hkeys _ ((by decide : R.GATE_DEC_INFO_MORE :: decInfoRows ⊆ decRows) (State.decUpdate_mem hx))
  · exact State.RegsAlone.evLevels (.wrFields ((State.RegsAlone.refl s).wr ..) ..) ..

end

/-! The record of refused debug accesses (R391). -/

section
variable {s : State} {a : Nat}

/-- The fields that a first refused debug access writes. -/
def dbgFields (a : Nat) : List (Row × Nat) := [(R.DBG_ERRADDRLO, a % 2 ^ 32), (R.DBG_ERRADDRHI, a / 2 ^ 32), (R.DBG_ERR_STICKY, 1)]
def dbgInfoRows : List Row := [R.DBG_ERRADDRLO, R.DBG_ERRADDRHI, R.DBG_ERR_STICKY]

theorem dbgRows_not_event : ∀ q ∈ R.DBG_ERRCOUNT :: dbgInfoRows, q.place 0 ≠ R.H_EVRAW.place 0 ∧ q.place 0 ≠ R.H_EVSTAT.place 0 := by decide

theorem dbgInfoRows_place_ne : ∀ q ∈ dbgInfoRows, q.place 0 ≠ R.DBG_ERRCOUNT.place 0 := by decide

/-- What a refused debug access writes in its record beside ERRCOUNT. -/
def State.dbgUpdate (s : State) (a : Nat) : List (Row × Nat) := if s.flag R.DBG_ERR_STICKY then [] else dbgFields a

theorem State.dbgUpdate_mem {x : Row × Nat} (hx : x ∈ s.dbgUpdate a) : x.1 ∈ dbgInfoRows := by
  rw [State.dbgUpdate] at hx
  split at hx
  · exact absurd hx List.not_mem_nil
  · exact List.mem_map_of_mem (f := Prod.fst) hx

/-- The count and the source of a refused debug access. -/
def State.dbgCounted (s : State) : State := (s.sat R.DBG_ERRCOUNT).ev 0x06 6

theorem State.dbgCounted_rd {q : Row} (hq : q ∈ dbgInfoRows) : s.dbgCounted.rd q = s.rd q := by
  obtain ⟨hraw, hstat⟩ := dbgRows_not_event q (List.mem_cons_of_mem _ hq)
  rw [State.dbgCounted, State.ev_rd _ _ _ _ _ _ _ hraw hstat]
  exact State.rd_wr_place _ _ _ _ _ _ _ _ _ _ (dbgInfoRows_place_ne q hq)

theorem State.dbgRefusal_eq : s.dbgRefusal a = (s.dbgCounted.wrFields (s.dbgUpdate a) 0).ev 0x70 2 := by
  have hsticky : s.dbgCounted.flag R.DBG_ERR_STICKY = s.flag R.DBG_ERR_STICKY := congrArg (· != 0) (State.dbgCounted_rd (by decide))
  rw [State.dbgUpdate, ← hsticky]
  unfold State.dbgRefusal State.dbgRefused
  dsimp only
  split <;> simp_all [State.dbgCounted] <;> rfl

theorem State.dbgRefusal_rd {q : Row} (hq : q ∈ R.DBG_ERRCOUNT :: dbgInfoRows) :
    (s.dbgRefusal a).rd q = (s.dbgCounted.wrFields (s.dbgUpdate a) 0).rd q := by
  obtain ⟨hraw, hstat⟩ := dbgRows_not_event q hq
  rw [State.dbgRefusal_eq, State.ev_rd _ _ _ _ _ _ _ hraw hstat]

theorem State.dbgRefusal_held_rd (h : s.flag R.DBG_ERR_STICKY = true) {q : Row} (hq : q ∈ dbgInfoRows) : (s.dbgRefusal a).rd q = s.rd q := by
  rw [State.dbgRefusal_rd (List.mem_cons_of_mem _ hq), State.dbgUpdate, if_pos h]
  exact State.dbgCounted_rd hq

theorem State.dbgRefusal_first_rd (h : s.flag R.DBG_ERR_STICKY = false) {q : Row} {v : Nat} (hq : (q, v) ∈ dbgFields a) :
    (s.dbgRefusal a).rd q = v % 2 ^ q.width := by
  have hrow : q ∈ dbgInfoRows := List.mem_map_of_mem (f := Prod.fst) hq
  have hnodup : ((dbgFields a).map (·.1.place 0)).Nodup := (by decide : (dbgInfoRows.map (·.place 0)).Nodup)
  rw [State.dbgRefusal_rd (List.mem_cons_of_mem _ hrow), State.dbgUpdate, if_neg (by simp [h]), State.wrFields_rd hnodup hq]

theorem State.dbgRefusal_sticky : (s.dbgRefusal a).flag R.DBG_ERR_STICKY = true := by
  cases h : s.flag R.DBG_ERR_STICKY with
  | true => exact (congrArg (· != 0) (State.dbgRefusal_held_rd h (by decide))).trans h
  | false => exact congrArg (· != 0) (State.dbgRefusal_first_rd h (v := 1) (by simp [dbgFields]))

theorem State.dbgRefusal_address (ha : a < 2 ^ 36) : (s.dbgRefusal a).rd2 R.DBG_ERRADDRLO R.DBG_ERRADDRHI =
    if s.flag R.DBG_ERR_STICKY then s.rd2 R.DBG_ERRADDRLO R.DBG_ERRADDRHI else a := by
  unfold State.rd2
  cases h : s.flag R.DBG_ERR_STICKY with
  | true => rw [State.dbgRefusal_held_rd h (by decide), State.dbgRefusal_held_rd h (by decide), if_pos rfl]
  | false =>
    rw [State.dbgRefusal_first_rd h (v := a % 2 ^ 32) (by simp [dbgFields]), State.dbgRefusal_first_rd h (v := a / 2 ^ 32) (by simp [dbgFields])]
    exact rd2_address ha

theorem State.dbgRefusal_counted : s.Counted (s.dbgRefusal a) R.DBG_ERRCOUNT := by
  obtain ⟨hraw, hstat⟩ := dbgRows_not_event R.DBG_ERRCOUNT (List.mem_cons_self ..)
  refine (State.dbgRefusal_rd (List.mem_cons_self ..)).trans ?_
  rw [State.wrFields_rd_other _ fun x hx => (dbgInfoRows_place_ne _ (State.dbgUpdate_mem hx)).symm, State.dbgCounted,
    State.ev_rd _ _ _ _ _ _ _ hraw hstat]
  exact s.sat_counted R.DBG_ERRCOUNT 0 0

theorem State.dbgRefusal_frame :
    s.RegsBut (s.dbgRefusal a) (dbgKeys ++ evKeys 0x06 ++ evKeys 0x70) ∧ s.RegsAlone (s.dbgRefusal a) := by
  have hkeys : ∀ q ∈ R.DBG_ERRCOUNT :: dbgInfoRows, q.key 0 0 0 ∈ dbgKeys ++ evKeys 0x06 ++ evKeys 0x70 := by decide
  rw [State.dbgRefusal_eq]
  constructor
  · have hcounted : s.RegsBut s.dbgCounted (dbgKeys ++ evKeys 0x06 ++ evKeys 0x70) :=
      ((State.RegsBut.refl s _).wr _ _ _ _ _ (hkeys _ (List.mem_cons_self ..))).ev _ _ (by decide)
    exact (hcounted.wrFields fun x hx => hkeys _ (List.mem_cons_of_mem _ (State.dbgUpdate_mem hx))).ev _ _ (by decide)
  · exact (State.RegsAlone.wrFields (((State.RegsAlone.refl s).wr ..).ev ..) ..).ev ..

/-- The words of conditions of both pages are as they were before the source of page DBG rises. -/
theorem State.dbgRefusal_rose : s.Rose (s.dbgRefusal a) 0x06 6 ∧ s.Rose (s.dbgRefusal a) 0x70 2 := by
  have hne {q : Row} (hq : q ∈ R.DBG_ERRCOUNT :: dbgInfoRows) := dbgRows_not_event q hq
  rw [State.dbgRefusal_eq]
  constructor
  · have hcount : (s.sat R.DBG_ERRCOUNT).rd R.H_EVRAW 0 0x06 = s.rd R.H_EVRAW 0 0x06 :=
      State.rd_wr_place _ _ _ _ _ _ _ _ _ _ (hne (List.mem_cons_self ..)).1.symm
    intro h0
    have hpage : ∀ t : State, (t.ev 0x70 2).rd R.H_EVSTAT 0 0x06 = t.rd R.H_EVSTAT 0 0x06 := fun t =>
      (State.RegsBut.refl t (evKeys 0x70)).ev 0x70 2 (List.Subset.refl _) _ _ _ _ (by decide)
    rw [hpage, State.wrFields_rd_other _ fun x hx => (hne (List.mem_cons_of_mem _ (State.dbgUpdate_mem hx))).2.symm]
    exact State.ev_rose _ 0x06 6 (by decide) (hcount.symm ▸ h0)
  · have hpage : ∀ t : State, (t.ev 0x06 6).rd R.H_EVRAW 0 0x70 = t.rd R.H_EVRAW 0 0x70 := fun t =>
      (State.RegsBut.refl t (evKeys 0x06)).ev 0x06 6 (List.Subset.refl _) _ _ _ _ (by decide)
    refine (State.ev_rose _ 0x70 2 (by decide)).after ?_
    rw [State.wrFields_rd_other _ fun x hx => (hne (List.mem_cons_of_mem _ (State.dbgUpdate_mem hx))).1.symm, State.dbgCounted, hpage]
    exact State.rd_wr_place _ _ _ _ _ _ _ _ _ _ (hne (List.mem_cons_self ..)).1.symm

end

end Sys2Proof.Machine
end

section
/-! SUPPORT. Accesses are checked byte by byte and refused whole, with their record (18 R385-R393): the settled obligation. -/

namespace Sys2Proof.Machine

theorem gateEntryAt_spec (g : Fin 13) (a : BitVec 36) (i : Fin 16) (s : State) : s.gateEntryAt g a.toNat = some i.val ↔
    ((s.gate g i).covers a.toNat = true ∧ ∀ j : Fin 16, j < i → (s.gate g j).covers a.toNat = false) := by
  rw [State.gateEntryAt_eq_some]
  constructor
  · rintro ⟨⟨-, hcovers⟩, hbelow⟩
    exact ⟨hcovers, fun j hj => hbelow j hj⟩
  · rintro ⟨hcovers, hbelow⟩
    exact ⟨⟨i.isLt, hcovers⟩, fun j hj => hbelow ⟨j, by omega⟩ hj⟩

/-- The cause by an entry is none just where the entry lets the master, its mode and the access type through. -/
theorem entryCause_eq_zero {m : Nat} {priv en unlocked : Bool} {k : AccessKind} {e : GateEntry} :
    (if (!nbit e.mask m) = true ∨ (m = dbgMaster ∧ (!en) = true) then 2
      else if m = dbgMaster ∧ e.lock = true ∧ (!(e.dbg && unlocked)) = true then 3
      else if isAtomic k = true ∧ e.memtype < 2 then 5 else if grants (if priv then e.p else e.u) k = true then 0 else 3) = 0 ↔
    nbit e.mask m = true ∧ grants (if priv then e.p else e.u) k = true ∧ (isAtomic k = true → 2 ≤ e.memtype) ∧
      (m = dbgMaster → en = true ∧ (e.lock = true → e.dbg = true ∧ unlocked = true)) := by
  split
  case isTrue hmask =>
    rcases hmask with hmask | ⟨hdbg, hen⟩
    · simp_all
    · simp_all
  case isFalse hmask =>
    obtain ⟨hbit, hen⟩ := not_or.mp hmask
    split
    case isTrue hlock => cases hd : e.dbg <;> simp_all
    case isFalse hlock =>
      rw [grantCause_eq_zero]
      simp_all

theorem byteCheck_entry_spec (m : BitVec 6) (priv : Bool) (k : AccessKind) (a : BitVec 36) (s : State) {i : Nat}
    (h : s.gateEntryAt ((gateOf a.toNat).getD 0) a.toNat = some i) :
    let e := s.gate ((gateOf a.toNat).getD 0) i
    (s.byteCheck m.toNat priv k a.toNat).cause = 0 ↔ nbit e.mask m.toNat = true ∧ grants (if priv then e.p else e.u) k = true ∧
      (isAtomic k = true → 2 ≤ e.memtype) ∧
      (m = 0x3F → s.flag R.H_CTRL_EN 0 0x70 = true ∧ (e.lock = true → e.dbg = true ∧ s.flag R.DBG_STAT_UNLOCKED = true)) := by
  rw [State.byteCheck_some h, ← toNat_eq_dbgMaster]
  exact entryCause_eq_zero

theorem byteCheck_default_spec (m : BitVec 6) (priv : Bool) (k : AccessKind) (a : BitVec 36) (s : State)
    (h : s.gateEntryAt ((gateOf a.toNat).getD 0) a.toNat = none) :
    (s.byteCheck m.toNat priv k a.toNat).cause = 0 ↔ m ≠ 0x3F ∧ priv = true ∧ grants (defaultMap a.toNat).1 k = true ∧
      (isAtomic k = true → 2 ≤ (defaultMap a.toNat).2.1) := by
  rw [State.byteCheck_none h, ne_eq, ← toNat_eq_dbgMaster]
  split
  case isTrue hno => rcases hno with hdbg | hpriv <;> simp_all
  case isFalse hno =>
    obtain ⟨hdbg, hpriv⟩ := not_or.mp hno
    rw [grantCause_eq_zero]
    simp_all

/-! The three records, each with its whole effect on the registers. -/

theorem State.decRecord_spec (s : State) (m : BitVec 6) (k : AccessKind) {b : Nat} (hb : b < 2 ^ 36) :
    let t := s.decRecord m.toNat k b
    s.Counted t R.GATE_DEC_COUNT ∧ t.flag R.GATE_DEC_INFO_VALID = true ∧ s.RegsBut t (decKeys ++ evKeys 0x06) ∧ s.Rose t 0x06 5 ∧
      if s.flag R.GATE_DEC_INFO_VALID then t.flag R.GATE_DEC_INFO_MORE = true ∧ t.rd2 R.GATE_DEC_ADDRLO R.GATE_DEC_ADDRHI = s.rd2 R.GATE_DEC_ADDRLO R.GATE_DEC_ADDRHI
      else t.rd2 R.GATE_DEC_ADDRLO R.GATE_DEC_ADDRHI = b ∧ t.rd R.GATE_DEC_INFO_MASTER = m.toNat ∧ t.rd R.GATE_DEC_INFO_TYPE = kindCode k := by
  have hread {q : Row} (hq : q ∈ decRows) := State.decRecord_rd (s := s) (m := m.toNat) (k := k) (a := b) hq
  have hcount : s.Counted (s.decRecord m.toNat k b) R.GATE_DEC_COUNT := (hread (by decide)).trans State.decFilled_counted
  have hvalid : (s.decRecord m.toNat k b).flag R.GATE_DEC_INFO_VALID = true := (congrArg (· != 0) (hread (by decide))).trans State.decFilled_valid
  refine ⟨hcount, hvalid, State.decRecord_frame.1, State.decRecord_rose, ?_⟩
  split
  case isTrue hheld =>
    have hkept {q : Row} (hq : q ∈ decInfoRows) := State.decFilled_held_rd (m := m.toNat) (k := k) (a := b) hheld hq
    refine ⟨(congrArg (· != 0) (hread (by decide))).trans (State.decFilled_held_more hheld), ?_⟩
    rw [State.rd2, hread (by decide), hread (by decide), hkept (by decide), hkept (by decide), State.rd2]
  case isFalse hfree =>
    have hset {q : Row} {v : Nat} (hq : (q, v) ∈ decFields m.toNat k b) := State.decFilled_first_rd (Bool.eq_false_iff.mpr hfree) hq
    rw [State.rd2, hread (by decide), hread (by decide), hread (by decide), hread (by decide), hset (v := b % 2 ^ 32) (by simp [decFields]),
      hset (v := b / 2 ^ 32) (by simp [decFields]), hset (v := m.toNat) (by simp [decFields]), hset (v := kindCode k) (by simp [decFields])]
    exact ⟨rd2_address hb, Nat.mod_eq_of_lt m.isLt, Nat.mod_eq_of_lt (by cases k <;> decide)⟩

theorem State.fltRecord_spec (s : State) {g : Nat} (hg : g < 13) (m : BitVec 6) (p : Bool) (k : AccessKind) (a0 : Nat) {b cause : Nat}
    (hb : b < 2 ^ 36) (hcause : cause < 8) :
    let t := s.fltRecord g m.toNat p k a0 b cause
    s.Counted t R.GATE_FLT_COUNT g ∧ t.flag R.GATE_FLT_INFO_VALID g = true ∧ s.RegsBut t (fltKeys g ++ evKeys 0x06) ∧
      s.Rose t 0x06 (if g ≤ 4 then 0 else if g ≤ 6 then 1 else if g ≤ 8 then 2 else if g ≤ 11 then 3 else 4) ∧
      if s.flag R.GATE_FLT_INFO_VALID g then
        t.flag R.GATE_FLT_INFO_MORE g = true ∧ t.rd2 R.GATE_FLT_ADDRLO R.GATE_FLT_ADDRHI g = s.rd2 R.GATE_FLT_ADDRLO R.GATE_FLT_ADDRHI g ∧
          t.rd R.GATE_FLT_INFO_CAUSE g = s.rd R.GATE_FLT_INFO_CAUSE g ∧ t.rd R.GATE_FLT_INFO_MASTER g = s.rd R.GATE_FLT_INFO_MASTER g
      else t.rd2 R.GATE_FLT_ADDRLO R.GATE_FLT_ADDRHI g = b ∧ t.rd R.GATE_FLT_INFO_MASTER g = m.toNat ∧ t.flag R.GATE_FLT_INFO_PRIV g = p ∧
        t.rd R.GATE_FLT_INFO_TYPE g = kindCode k ∧ t.rd R.GATE_FLT_INFO_CAUSE g = cause ∧
        t.flag R.GATE_FLT_INFO_STRADDLE g = (b != a0) ∧ t.rd R.GATE_FLT_INFO_ENTRY g = (s.gateEntryAt g b).getD 0 ∧
        t.flag R.GATE_FLT_INFO_NOENT g = (s.gateEntryAt g b).isNone := by
  intro t
  have hread {q : Row} (hq : q ∈ fltRows) : t.rd q g = (s.fltFilled g m.toNat p k a0 b cause).rd q g := State.fltRecord_rd hg hq
  have hcount : s.Counted t R.GATE_FLT_COUNT g := (hread (by decide)).trans (State.fltFilled_counted hg)
  have hvalid : t.flag R.GATE_FLT_INFO_VALID g = true := (congrArg (· != 0) (hread (by decide))).trans (State.fltFilled_valid hg)
  refine ⟨hcount, hvalid, (State.fltRecord_frame hg).1, State.fltRecord_rose hg, ?_⟩
  split
  case isTrue hheld =>
    have hkept {q : Row} (hq : q ∈ fltInfoRows) : t.rd q g = s.rd q g :=
      (hread (List.mem_cons_of_mem _ (List.mem_cons_of_mem _ hq))).trans (State.fltFilled_held_rd hg hheld hq)
    refine ⟨(congrArg (· != 0) (hread (by decide))).trans (State.fltFilled_held_more hheld), ?_, hkept (by decide), hkept (by decide)⟩
    rw [State.rd2, hkept (by decide), hkept (by decide), State.rd2]
  case isFalse hfree =>
    have hset {q : Row} {v : Nat} (hq : (q, v) ∈ s.fltFields g m.toNat p k a0 b cause) : t.rd q g = v % 2 ^ q.width :=
      (hread (List.mem_cons_of_mem _ (List.mem_cons_of_mem _ (List.mem_map_of_mem (f := Prod.fst) hq)))).trans
        (State.fltFilled_first_rd hg (Bool.eq_false_iff.mpr hfree) hq)
    have hflag {q : Row} {x : Bool} (hw : q.width = 1) (hq : (q, b2n x) ∈ s.fltFields g m.toNat p k a0 b cause) : t.flag q g = x := by
      rw [State.flag, hset hq, hw]
      cases x <;> rfl
    have haddress : t.rd2 R.GATE_FLT_ADDRLO R.GATE_FLT_ADDRHI g = b := by
      rw [State.rd2, hset (v := b % 2 ^ 32) (by simp [State.fltFields]), hset (v := b / 2 ^ 32) (by simp [State.fltFields])]
      exact rd2_address hb
    refine ⟨haddress, ?_, hflag rfl (by simp [State.fltFields]), ?_, ?_, hflag rfl (by simp [State.fltFields]), ?_,
      hflag rfl (by simp [State.fltFields])⟩
    · exact (hset (by simp [State.fltFields])).trans (Nat.mod_eq_of_lt m.isLt)
    · exact (hset (v := kindCode k) (by simp [State.fltFields])).trans (Nat.mod_eq_of_lt (by cases k <;> decide))
    · exact (hset (v := cause) (by simp [State.fltFields])).trans (Nat.mod_eq_of_lt hcause)
    · exact (hset (v := (s.gateEntryAt g b).getD 0) (by simp [State.fltFields])).trans (Nat.mod_eq_of_lt State.gateEntryAt_lt)

theorem State.dbgRefusal_spec (s : State) {b : Nat} (hb : b < 2 ^ 36) :
    let t := s.dbgRefusal b
    s.Counted t R.DBG_ERRCOUNT ∧ t.flag R.DBG_ERR_STICKY = true ∧ s.RegsBut t (dbgKeys ++ evKeys 0x06 ++ evKeys 0x70) ∧ s.Rose t 0x06 6 ∧
      s.Rose t 0x70 2 ∧ t.rd2 R.DBG_ERRADDRLO R.DBG_ERRADDRHI = if s.flag R.DBG_ERR_STICKY then s.rd2 R.DBG_ERRADDRLO R.DBG_ERRADDRHI else b :=
  ⟨State.dbgRefusal_counted, State.dbgRefusal_sticky, State.dbgRefusal_frame.1, State.dbgRefusal_rose.1, State.dbgRefusal_rose.2,
    State.dbgRefusal_address hb⟩

theorem State.refusal_alone (s : State) (m : Nat) (p : Bool) (k : AccessKind) (a0 n b : Nat) :
    s.RegsAlone (s.refusal m p k a0 (s.verdictAt m p k a0 n b)) := by
  unfold State.verdictAt
  split
  · exact State.decRecord_frame.2
  · show s.RegsAlone (if m = dbgMaster then s.dbgRefusal b else _)
    exact .ite State.dbgRefusal_frame.2 (State.fltRecord_frame (gateOf_lt b)).2

/-- What a refused access of debug master or other master records for its lowest failing byte `b`. -/
def State.RefusalRecorded (s t : State) (m : BitVec 6) (p : Bool) (k : AccessKind) (a n b : Nat) : Prop :=
  if s.decodes b = false then
    s.Counted t R.GATE_DEC_COUNT ∧ t.flag R.GATE_DEC_INFO_VALID = true ∧ s.RegsBut t (decKeys ++ evKeys 0x06) ∧ s.Rose t 0x06 5 ∧
      if s.flag R.GATE_DEC_INFO_VALID then t.flag R.GATE_DEC_INFO_MORE = true ∧ t.rd2 R.GATE_DEC_ADDRLO R.GATE_DEC_ADDRHI = s.rd2 R.GATE_DEC_ADDRLO R.GATE_DEC_ADDRHI
      else t.rd2 R.GATE_DEC_ADDRLO R.GATE_DEC_ADDRHI = b ∧ t.rd R.GATE_DEC_INFO_MASTER = m.toNat ∧ t.rd R.GATE_DEC_INFO_TYPE = kindCode k
  else if m = 0x3F then
    s.Counted t R.DBG_ERRCOUNT ∧ t.flag R.DBG_ERR_STICKY = true ∧ s.RegsBut t (dbgKeys ++ evKeys 0x06 ++ evKeys 0x70) ∧ s.Rose t 0x06 6 ∧ s.Rose t 0x70 2 ∧
      t.rd2 R.DBG_ERRADDRLO R.DBG_ERRADDRHI = (if s.flag R.DBG_ERR_STICKY then s.rd2 R.DBG_ERRADDRLO R.DBG_ERRADDRHI else b)
  else
    let g := (gateOf b).getD 0
    s.Counted t R.GATE_FLT_COUNT g ∧ t.flag R.GATE_FLT_INFO_VALID g = true ∧ s.RegsBut t (fltKeys g ++ evKeys 0x06) ∧
      s.Rose t 0x06 (if g ≤ 4 then 0 else if g ≤ 6 then 1 else if g ≤ 8 then 2 else if g ≤ 11 then 3 else 4) ∧
      if s.flag R.GATE_FLT_INFO_VALID g then
        t.flag R.GATE_FLT_INFO_MORE g = true ∧ t.rd2 R.GATE_FLT_ADDRLO R.GATE_FLT_ADDRHI g = s.rd2 R.GATE_FLT_ADDRLO R.GATE_FLT_ADDRHI g ∧
          t.rd R.GATE_FLT_INFO_CAUSE g = s.rd R.GATE_FLT_INFO_CAUSE g ∧ t.rd R.GATE_FLT_INFO_MASTER g = s.rd R.GATE_FLT_INFO_MASTER g
      else t.rd2 R.GATE_FLT_ADDRLO R.GATE_FLT_ADDRHI g = b ∧ t.rd R.GATE_FLT_INFO_MASTER g = m.toNat ∧ t.flag R.GATE_FLT_INFO_PRIV g = p ∧
        t.rd R.GATE_FLT_INFO_TYPE g = kindCode k ∧ t.rd R.GATE_FLT_INFO_CAUSE g = s.byteCause m.toNat p k a n b ∧
        t.flag R.GATE_FLT_INFO_STRADDLE g = (b != a) ∧ t.rd R.GATE_FLT_INFO_ENTRY g = (s.gateEntryAt g b).getD 0 ∧
        t.flag R.GATE_FLT_INFO_NOENT g = (s.gateEntryAt g b).isNone

theorem State.refusal_recorded (s : State) (m : BitVec 6) (p : Bool) (k : AccessKind) (a n : Nat) {b : Nat} (hb : b < 2 ^ 36) :
    s.RefusalRecorded (s.refusal m.toNat p k a (s.verdictAt m.toNat p k a n b)) m p k a n b := by
  unfold State.RefusalRecorded State.verdictAt
  split
  case isTrue hdec => exact s.decRecord_spec m k hb
  case isFalse hdec =>
    rw [State.refusal]
    simp only [toNat_eq_dbgMaster]
    split
    case isTrue hdbg => exact s.dbgRefusal_spec hb
    case isFalse hdbg => exact s.fltRecord_spec (gateOf_lt b) m p k a hb (s.byteCause_lt ..)

/-- The answer on the bus is no part of the record. -/
theorem State.RefusalRecorded.answered {s u : State} {m : BitVec 6} {p : Bool} {k : AccessKind} {a n b : Nat}
    (h : s.RefusalRecorded u m p k a n b) (answer : Bus) : s.RefusalRecorded { u with bus := answer } m p k a n b := h

/-- Settles O49: clause by clause, the refusal by the verdict on the lowest failing byte. -/
theorem accessesAreChecked : Obligations.AccessesAreChecked := by
  unfold Obligations.AccessesAreChecked
  refine ⟨gateEntryAt_spec, fun m priv k a s i hi => byteCheck_entry_spec m priv k a s (Option.mem_toList.mp hi), byteCheck_default_spec, ?_⟩
  intro m priv k a n beat s p hwaits hidle b hb
  have hfail := Option.mem_toList.mp hb
  have hb36 := (State.verdict_of_failsAt a.isLt hfail).2
  have hexec := execFabricAccess_refused (beat := beat) hwaits hidle hfail
  have halone := s.refusal_alone m.toNat p k a.toNat n.toNat b
  have hrecord := s.refusal_recorded m p k a.toNat n.toNat hb36
  dsimp only at hexec
  generalize s.refusal m.toNat p k a.toNat (s.verdictAt m.toNat p k a.toNat n.toNat b) = u at hexec halone hrecord
  let answer : Bus := ⟨if loads k then List.replicate n.toNat 0 else [], true, 0, false, b⟩
  exact ⟨{ u with bus := answer }, hexec, rfl, congrArg (fun v : State => { v with bus := answer }) halone, hrecord.answered answer⟩

end Sys2Proof.Machine
end

section
/-! SUPPORT. Bits of registers that are set one by one, a view of an array that a list of updates goes through, and the levels of LIO's
conditions (16, EVRAW). -/

namespace Sys2Proof.Machine

/-! A bit of a register set. -/

theorem nbit_nsetBit_self (v i : Nat) (b : Bool) : nbit (nsetBit v i b) i = b := by
  cases b
  · exact nbit_clear v i
  · exact nbit_set v i

theorem nsetBit_lt {v i w : Nat} (hv : v < 2 ^ w) (hi : i < w) (b : Bool) : nsetBit v i b < 2 ^ w := by
  refine Nat.lt_pow_two_of_testBit _ fun j hj => ?_
  rw [← nbit_eq_testBit, nbit_nsetBit_ne v (by omega), nbit_eq_testBit]
  exact Nat.testBit_lt_two_pow (Nat.lt_of_lt_of_le hv (Nat.pow_le_pow_right (by decide) hj))

theorem State.bitTo_rd_self (s : State) (r : Row) {i : Nat} (h : i < r.width) (b : Bool) (k u m : Nat) :
    (s.bitTo r i b k u m).rd r k u m = nsetBit (s.rd r k u m) i b :=
  (State.rd_wr_self ..).trans (Nat.mod_eq_of_lt (nsetBit_lt (s.rd_lt ..) h b))

theorem State.bitTo_nbit_self (s : State) (r : Row) {i : Nat} (h : i < r.width) (b : Bool) : nbit ((s.bitTo r i b).rd r) i = b := by
  rw [State.bitTo_rd_self _ _ h, nbit_nsetBit_self]

theorem State.bitTo_nbit_ne (s : State) (r : Row) {i j : Nat} (h : i < r.width) (hne : j ≠ i) (b : Bool) :
    nbit ((s.bitTo r i b).rd r) j = nbit (s.rd r) j := by
  rw [State.bitTo_rd_self _ _ h, nbit_nsetBit_ne _ hne]

/-- A word made of single bits has just those. -/
theorem nbit_foldl_nsetBit (f : Nat → Bool) {n k : Nat} (h : k < n) : nbit ((upTo n).foldl (fun a k => nsetBit a k (f k)) 0) k = f k := by
  induction n with
  | zero => omega
  | succ n ih =>
    rw [upTo, List.range_succ, List.foldl_append, List.foldl_cons, List.foldl_nil]
    by_cases hk : k = n
    · rw [hk, nbit_nsetBit_self]
    · rw [nbit_nsetBit_ne _ hk]
      exact ih (by omega)

/-! A view of an array through a list of updates, each of one entry. -/

section
variable {β : Type} {view : State → Nat → β} {f : State → Nat → State} {place : Nat → Nat}

theorem State.each_view_other {xs : List Nat} {j : Nat} (hother : ∀ s, ∀ i ∈ xs, j ≠ place i → view (f s i) j = view s j)
    (hj : ∀ i ∈ xs, j ≠ place i) (s : State) : view (s.each xs f) j = view s j :=
  State.each_induction (motive := fun t => view t j = view s j) rfl fun t i hi ht => (hother t i hi (hj i hi)).trans ht

theorem State.each_view_self {xs : List Nat} {i : Nat} {G : β → β} (hd : (xs.map place).Nodup) (hi : i ∈ xs)
    (hself : ∀ s, view (f s i) (place i) = G (view s (place i)))
    (hother : ∀ s, ∀ x ∈ xs, place i ≠ place x → view (f s x) (place i) = view s (place i)) (s : State) :
    view (s.each xs f) (place i) = G (view s (place i)) := by
  induction xs generalizing s with
  | nil => exact absurd hi List.not_mem_nil
  | cons x xs ih =>
    obtain ⟨hnot, hd⟩ := List.nodup_cons.mp hd
    have hrest := fun s y hy => hother s y (List.mem_cons_of_mem x hy)
    rcases List.mem_cons.mp hi with rfl | hi
    · have hne : ∀ y ∈ xs, place i ≠ place y := fun y hy he => hnot (List.mem_map.mpr ⟨y, hy, he.symm⟩)
      exact (State.each_view_other hrest hne (f s i)).trans (hself s)
    · have hne : place i ≠ place x := fun he => hnot (List.mem_map.mpr ⟨i, hi, he⟩)
      exact (ih hd hi hrest (f s x)).trans (congrArg G (hother s x (List.mem_cons_self ..) hne))

end

/-! A condition that takes a level shows it. -/

theorem State.evLevel_raw_self (s : State) (p : Nat) {bit : Nat} (b : Bool) (h : bit < 32) :
    nbit ((s.evLevel p bit b).rd R.H_EVRAW 0 p) bit = b := by
  have hraw : (s.evLevel p bit b).rd R.H_EVRAW 0 p = nsetBit (s.rd R.H_EVRAW 0 p) bit b % 2 ^ 32 := by
    unfold State.evLevel
    dsimp only
    split
    · exact (State.rd_wr_place _ _ _ _ _ _ _ _ _ _ (by decide)).trans (State.rd_wr_self ..)
    · exact State.rd_wr_self ..
  rw [hraw, nbit_mod _ _ _ h, nbit_nsetBit_self]

theorem State.evLevels_raw {p j : Nat} {b : Bool} (hj : j < 32) {xs : List (Nat × Bool)} (hd : (xs.map (·.1)).Nodup) (hx : (j, b) ∈ xs)
    (s : State) : nbit ((s.evLevels p xs).rd R.H_EVRAW 0 p) j = b := by
  induction xs generalizing s with
  | nil => exact absurd hx List.not_mem_nil
  | cons x xs ih =>
    obtain ⟨hnot, hd⟩ := List.nodup_cons.mp hd
    rcases List.mem_cons.mp hx with rfl | hx
    · refine Eq.trans ?_ (s.evLevel_raw_self p b hj)
      exact State.each_induction (s := s.evLevel p j b)
        (motive := fun t => nbit (t.rd R.H_EVRAW 0 p) j = nbit ((s.evLevel p j b).rd R.H_EVRAW 0 p) j) rfl
        fun t y hy ht => (t.evLevel_raw_ne p y.2 (fun he => hnot (List.mem_map.mpr ⟨y, hy, he.symm⟩)) hj).trans ht
    · exact ih hd hx (s.evLevel p x.1 x.2)

/-! The levels of LIO's conditions. -/

/-- The conditions that follow the registers of page LIO. -/
def State.lioLevelList (s : State) : List (Nat × Bool) :=
  [(0, nfield (s.rd R.LIO_COS) 0 8 != 0), (1, nfield (s.rd R.LIO_COS) 8 8 != 0), (2, nfield (s.rd R.LIO_COS) 16 8 != 0),
    (3, nfield (s.rd R.LIO_COS) 24 8 != 0), (4, s.rd R.LIO_DQTHERM_HOT != 0), (5, s.rd R.LIO_DQOL != 0), (6, s.rd R.LIO_DQILIM != 0),
    (11, s.rd R.LIO_DQRBERR != 0)]

theorem State.lioLevelList_nodup (s : State) : (s.lioLevelList.map (·.1)).Nodup := by
  show [0, 1, 2, 3, 4, 5, 6, 11].Nodup
  decide

theorem State.lioLevels_eq (s : State) : s.lioLevels = s.evLevels 0x58 s.lioLevelList := by
  have keep (t : State) (bit : Nat) (b : Bool) {q : Row} (h : q.place 0 ≠ R.H_EVRAW.place 0) (h' : q.place 0 ≠ R.H_EVSTAT.place 0) :
      (t.evLevel 0x58 bit b).rd q = t.rd q := t.evLevel_rd _ _ _ q 0 0 0 h h'
  simp only [State.lioLevels, State.evLevels, State.lioLevelList, State.each, upTo, List.range, List.range.loop, List.foldl_cons, List.foldl_nil]
  simp only [keep (q := R.LIO_DQTHERM_HOT) _ _ _ (by decide) (by decide), keep (q := R.LIO_DQOL) _ _ _ (by decide) (by decide),
    keep (q := R.LIO_DQILIM) _ _ _ (by decide) (by decide), keep (q := R.LIO_DQRBERR) _ _ _ (by decide) (by decide)]

theorem State.lioLevels_rd (s : State) {q : Row} (h : q.place 0 ≠ R.H_EVRAW.place 0) (h' : q.place 0 ≠ R.H_EVSTAT.place 0) :
    s.lioLevels.rd q = s.rd q := by
  rw [State.lioLevels_eq, State.evLevels_rd _ h h']

theorem State.lioLevels_rose {bit : Nat} (h : bit < 32) {s : State} (hb : (bit, true) ∈ s.lioLevelList) : s.Rose s.lioLevels 0x58 bit := by
  rw [State.lioLevels_eq]
  exact State.evLevels_rose h s.lioLevelList_nodup hb s

theorem State.RegsBut.lioLevels {s t : State} {K : List Nat} (h : s.RegsBut t K) (hk : evKeys 0x58 ⊆ K) : s.RegsBut t.lioLevels K := by
  rw [State.lioLevels_eq]
  exact h.evLevels _ hk

theorem State.RegsAlone.lioLevels {s t : State} (h : s.RegsAlone t) : s.RegsAlone t.lioLevels := by
  rw [State.lioLevels_eq]
  exact h.evLevels ..

theorem State.lioLevels_lio (s : State) : s.lioLevels.lio = s.lio := by
  rw [(State.RegsAlone.refl s).lioLevels]

end Sys2Proof.Machine
end

section
/-! SUPPORT. The commands of the outputs (16 Table 16.1, R357), and their sticky faults and thermal states (R354-R359). -/

namespace Sys2Proof.Machine

/-! The driver commands. -/

theorem nbit_or (v w i : Nat) : nbit (v ||| w) i = (nbit v i || nbit w i) := by simp only [nbit_eq_testBit, Nat.testBit_or]

theorem nbit_and (v w i : Nat) : nbit (v &&& w) i = (nbit v i && nbit w i) := by simp only [nbit_eq_testBit, Nat.testBit_and]

theorem State.dqDrive_bit (s : State) (k : Fin 16) :
    nbit s.dqDrive k = (s.dqCommand k && !(nbit (s.rd R.LIO_DQTHERM_HOT) k || nbit (s.rd R.LIO_DQTHERM_LATCH) k)) := by
  rw [← nbit_or]
  exact nbit_foldl_nsetBit (fun k => s.dqCommand k && !nbit (s.rd R.LIO_DQTHERM_HOT ||| s.rd R.LIO_DQTHERM_LATCH) k) k.isLt

theorem dqDrive_off_spec (k : Fin 16) (s : State) (h : s.sys.resetHeld = true ∨ s.safe = true ∨ s.unit 0x58 ≠ 2 ∨
    s.flag R.PWR_STATUS_FLUSHONLY = true ∨ s.pwr.seated1 = false ∨ s.pwr.seated2 = false ∨ s.mode ≤ 1 ∨ s.mode = 5 ∨
    (s.mode = 4 ∧ (s.rd R.SYS_MODE_HOLDCAUSE = 4 ∨ s.rd R.SYS_MODE_HOLDCAUSE = 9)) ∨
    nbit (s.rd R.LIO_DQTHERM_HOT) k = true ∨ nbit (s.rd R.LIO_DQTHERM_LATCH) k = true) : nbit s.dqDrive k = false := by
  rw [State.dqDrive_bit]
  have rows : (s.dqRow1 k || s.outputsOff) = true → (s.dqCommand k && !(nbit (s.rd R.LIO_DQTHERM_HOT) k || nbit (s.rd R.LIO_DQTHERM_LATCH) k)) = false :=
    fun hrow => by rw [State.dqCommand, if_pos hrow, Bool.false_and]
  rcases h with h | h | h | h | h | h | h | h | ⟨h, hcause | hcause⟩ | h | h
  · exact rows (by simp [State.dqRow1, h])
  · exact rows (by simp [State.dqRow1, h])
  · exact rows (by simp [State.dqRow1, h])
  · exact rows (by simp [State.dqRow1, h])
  · exact rows (by simp [State.dqRow1, h])
  · exact rows (by simp [State.dqRow1, h])
  · rcases Nat.le_one_iff_eq_zero_or_eq_one.mp h with h | h
    · exact rows (by simp [State.outputsOff, h])
    · exact rows (by simp [State.outputsOff, h])
  · exact rows (by simp [State.outputsOff, h])
  · exact rows (by simp [State.outputsOff, State.isHold, h, hcause])
  · exact rows (by simp [State.outputsOff, State.isHold, h, hcause])
  · simp [h]
  · simp [h]

theorem dqDrive_on_spec (k : Fin 16) (s : State) (hreset : s.sys.resetHeld = false) (hsafe : s.safe = false) (hunit : s.unit 0x58 = 2)
    (hflush : s.flag R.PWR_STATUS_FLUSHONLY = false) (hseat1 : s.pwr.seated1 = true) (hseat2 : s.pwr.seated2 = true)
    (hseat : nbit s.lio.seat k = false)
    (hmode : s.mode = 2 ∨ s.mode = 3 ∨ (s.mode = 4 ∧ s.rd R.SYS_MODE_HOLDCAUSE ≠ 4 ∧ s.rd R.SYS_MODE_HOLDCAUSE ≠ 9))
    (hhot : nbit (s.rd R.LIO_DQTHERM_HOT) k = false) (hlatch : nbit (s.rd R.LIO_DQTHERM_LATCH) k = false) :
    nbit s.dqDrive k = (if nbit (s.rd R.TE_DQASSIGN) k then nbit (s.rd R.TE_DQOUT) k
      else if s.mode = 3 ∧ s.dqSrc k = 0 then false
      else if s.mode = 3 ∧ nbit s.lio.badImg (s.dqSrc k) = false then nbit (smGet 0 s.lio.img (s.dqSrc k)) k
      else if s.dqHold k = 0 then false else if s.dqHold k = 2 then true else nbit s.lio.last k) := by
  have hrow1 : s.dqRow1 k = false := by simp [State.dqRow1, hreset, hsafe, hunit, hflush, hseat1, hseat2, hseat]
  have hon : s.outputsOff = false := by
    rcases hmode with h | h | ⟨h, hcause, hcause'⟩ <;> simp [State.outputsOff, State.isHold, *]
  have hhold : s.dqHoldValue k = if s.dqHold k = 0 then false else if s.dqHold k = 2 then true else nbit s.lio.last k := by
    unfold State.dqHoldValue
    split <;> simp_all
  rw [State.dqDrive_bit, hhot, hlatch, State.dqCommand, hrow1, hon, ← hhold, State.isLead]
  by_cases hlead : s.mode = 3
  · cases hbad : nbit s.lio.badImg (s.dqSrc k) <;> simp [hlead]
  · simp [hlead]

/-! Sticky faults (R354-R356). -/

/-- A field of page LIO is beside the words of its events. -/
def Row.NotEvent (r : Row) : Prop := r.place 0 ≠ R.H_EVRAW.place 0 ∧ r.place 0 ≠ R.H_EVSTAT.place 0

theorem State.lioLevels_keeps (s : State) {q : Row} (h : q.NotEvent) : s.lioLevels.rd q = s.rd q := s.lioLevels_rd h.1 h.2

theorem State.bitTo_raw (s : State) {r : Row} (h : r.NotEvent) (i : Nat) (b : Bool) (p : Nat) :
    (s.bitTo r i b).rd R.H_EVRAW 0 p = s.rd R.H_EVRAW 0 p := State.rd_wr_place _ _ _ _ _ _ _ _ _ _ h.1.symm

theorem nsetBit_true_ne_zero (v i : Nat) : nsetBit v i true ≠ 0 := fun h => by
  have hbit := nbit_set v i
  rw [h] at hbit
  simp [nbit] at hbit

/-- A sticky bit set shows in its register and raises the condition that follows the register. -/
theorem State.sticky_spec (s : State) {r : Row} {bit : Nat} (k : Fin 16) (hr : r.NotEvent) (hw : r.width = 16) (hbit : bit < 32)
    (hlevel : ∀ u : State, (bit, u.rd r != 0) ∈ u.lioLevelList) :
    let t := (s.bitTo r k true).lioLevels
    t.rd r = nsetBit (s.rd r) k true ∧ s.Rose t 0x58 bit ∧ s.OnlyRegs t (r.key 0 0 0 :: evKeys 0x58) := by
  have hset : (s.bitTo r k true).rd r = nsetBit (s.rd r) k true := s.bitTo_rd_self r (by rw [hw]; exact k.isLt) true 0 0 0
  have hon : ((s.bitTo r k true).rd r != 0) = true := by simp [hset, nsetBit_true_ne_zero]
  refine ⟨(State.lioLevels_keeps _ hr).trans hset, ?_, ?_⟩
  · have hmem := hlevel (s.bitTo r k true)
    rw [hon] at hmem
    exact (State.lioLevels_rose hbit hmem).after (s.bitTo_raw hr ..)
  · exact ⟨((State.RegsBut.refl s _).wr _ _ _ _ _ (List.mem_cons_self ..)).lioLevels (List.subset_cons_self ..),
      ((State.RegsAlone.refl s).wr ..).lioLevels⟩

theorem readback_spec (k : Fin 16) (s : State) : ∃ t, exec (.readbackMismatch k) s = .next t ∧
    if s.running 0x58 = false ∨ s.supMissing k = true ∨ nbit (s.rd R.LIO_DQTHERM_HOT) k = true then t = s
    else t.rd R.LIO_DQRBERR = nsetBit (s.rd R.LIO_DQRBERR) k true ∧ s.Rose t 0x58 11 ∧ s.OnlyRegs t (R.LIO_DQRBERR.key 0 0 0 :: evKeys 0x58) := by
  refine ⟨_, rfl, ?_⟩
  split
  case isTrue h => exact if_pos (by simpa [or_assoc] using h)
  case isFalse h =>
    rw [if_neg (by simpa [or_assoc] using h)]
    exact s.sticky_spec k (by unfold Row.NotEvent; decide) rfl (by decide) fun u => by simp [State.lioLevelList]

theorem openLoad_spec (k : Fin 16) (off : Bool) (s : State) : ∃ t, exec (.openLoad k off) s = .next t ∧
    if s.running 0x58 = false ∨ nbit (s.rd (if off then R.LIO_DQOLEN_OFF else R.LIO_DQOLEN_ON)) k = false ∨ s.supMissing k = true ∨
        nbit s.dqDrive k = off then t = s
    else t.rd R.LIO_DQOL = nsetBit (s.rd R.LIO_DQOL) k true ∧ s.Rose t 0x58 5 ∧ s.OnlyRegs t (R.LIO_DQOL.key 0 0 0 :: evKeys 0x58) := by
  refine ⟨_, rfl, ?_⟩
  by_cases h : s.running 0x58 = false ∨ nbit (s.rd (if off then R.LIO_DQOLEN_OFF else R.LIO_DQOLEN_ON)) k = false ∨ s.supMissing k = true ∨
      nbit s.dqDrive k = off
  · rw [if_pos h]
    exact if_pos (by simpa [or_assoc] using h)
  · dsimp only
    rw [if_neg h, if_neg (by simpa [or_assoc] using h)]
    exact s.sticky_spec k (by unfold Row.NotEvent; decide) rfl (by decide) fun u => by simp [State.lioLevelList]

theorem currentLimit_spec (k : Fin 16) (s : State) : ∃ t, exec (.currentLimit k) s = .next t ∧
    if s.running 0x58 = false then t = s
    else t.rd R.LIO_DQILIM = nsetBit (s.rd R.LIO_DQILIM) k true ∧ s.Rose t 0x58 6 ∧ s.OnlyRegs t (R.LIO_DQILIM.key 0 0 0 :: evKeys 0x58) := by
  refine ⟨_, rfl, ?_⟩
  split
  case isTrue h => exact if_pos (by simpa using h)
  case isFalse h =>
    rw [if_neg (by simpa using h)]
    exact s.sticky_spec k (by unfold Row.NotEvent; decide) rfl (by decide) fun u => by simp [State.lioLevelList]

end Sys2Proof.Machine
end

section
/-! SUPPORT. Thermal shutdown and cooling of outputs, DQCLR, and the field supplies (16 R357-R361). -/

namespace Sys2Proof.Machine

theorem Row.notEvent_lio : ∀ q ∈ [R.LIO_DQTHERM_HOT, R.LIO_DQTHERM_LATCH, R.LIO_DQCLRPEND, R.LIO_THCOUNT, R.LIO_DIRAW, R.LIO_DISTAT, R.LIO_COS],
    q.place 0 ≠ R.H_EVRAW.place 0 ∧ q.place 0 ≠ R.H_EVSTAT.place 0 := by decide

/-! Thermal shutdown (R357). -/

/-- LATCH of output `k` is set where `b` says so. -/
def State.latchIf (s : State) (b : Bool) (k : Nat) : State := if b then s.bitTo R.LIO_DQTHERM_LATCH k true else s

theorem State.latchIf_rd (s : State) (b : Bool) (k : Nat) {q : Row} (h : q.place 0 ≠ R.LIO_DQTHERM_LATCH.place 0) (u : Nat) :
    (s.latchIf b k).rd q 0 u = s.rd q 0 u := by
  unfold State.latchIf
  split
  · exact s.bitTo_rd h k true u 0
  · rfl

theorem State.latchIf_latch (s : State) (b : Bool) (k : Fin 16) : (s.latchIf b k).rd R.LIO_DQTHERM_LATCH =
    if b then nsetBit (s.rd R.LIO_DQTHERM_LATCH) k true else s.rd R.LIO_DQTHERM_LATCH := by
  unfold State.latchIf
  split
  · exact s.bitTo_rd_self R.LIO_DQTHERM_LATCH k.isLt true 0 0 0
  · rfl

/-- Output `k` HOT and counted, and LATCHed where `b` says so. -/
def State.heated (s : State) (b : Bool) (k : Nat) : State := ((s.bitTo R.LIO_DQTHERM_HOT k true).sat R.LIO_THCOUNT).latchIf b k

theorem State.heated_hot (s : State) (b : Bool) (k : Fin 16) :
    (s.heated b k).lioLevels.rd R.LIO_DQTHERM_HOT = nsetBit (s.rd R.LIO_DQTHERM_HOT) k true := by
  rw [State.lioLevels_keeps _ (Row.notEvent_lio _ (by decide)), State.heated, State.latchIf_rd _ _ _ (by decide)]
  exact (State.rd_wr_place _ _ _ _ _ _ _ _ _ _ (by decide)).trans (s.bitTo_rd_self R.LIO_DQTHERM_HOT k.isLt true 0 0 0)

theorem State.heated_counted (s : State) (b : Bool) (k : Fin 16) : s.Counted (s.heated b k).lioLevels R.LIO_THCOUNT := by
  have hcount := (s.bitTo R.LIO_DQTHERM_HOT k true).sat_counted R.LIO_THCOUNT 0 0
  rw [State.Counted, s.bitTo_rd (by decide)] at hcount
  rw [State.Counted, State.lioLevels_keeps _ (Row.notEvent_lio _ (by decide)), State.heated, State.latchIf_rd _ _ _ (by decide)]
  exact hcount

theorem State.heated_latch (s : State) (b : Bool) (k : Fin 16) : (s.heated b k).lioLevels.rd R.LIO_DQTHERM_LATCH =
    if b then nsetBit (s.rd R.LIO_DQTHERM_LATCH) k true else s.rd R.LIO_DQTHERM_LATCH := by
  have hrd : ((s.bitTo R.LIO_DQTHERM_HOT k true).sat R.LIO_THCOUNT).rd R.LIO_DQTHERM_LATCH = s.rd R.LIO_DQTHERM_LATCH :=
    (State.rd_wr_place _ _ _ _ _ _ _ _ _ _ (by decide)).trans (s.bitTo_rd (by decide) ..)
  rw [State.lioLevels_keeps _ (Row.notEvent_lio _ (by decide)), State.heated, State.latchIf_latch, hrd]

theorem State.heated_rose (s : State) (b : Bool) (k : Fin 16) : s.Rose (s.heated b k).lioLevels 0x58 4 := by
  have hhot := (State.lioLevels_keeps (s.heated b k) (q := R.LIO_DQTHERM_HOT) (Row.notEvent_lio _ (by decide))).symm.trans (s.heated_hot b k)
  have hraw : (s.heated b k).rd R.H_EVRAW 0 0x58 = s.rd R.H_EVRAW 0 0x58 :=
    (State.latchIf_rd _ _ _ (by decide) _).trans ((State.rd_wr_place _ _ _ _ _ _ _ _ _ _ (by decide)).trans (s.bitTo_rd (by decide) ..))
  exact (State.lioLevels_rose (by decide) (by simp [State.lioLevelList, hhot, nsetBit_true_ne_zero])).after hraw

theorem State.heated_frame (s : State) (b : Bool) (k : Nat) : s.OnlyRegs (s.heated b k).lioLevels
    ([R.LIO_DQTHERM_HOT.key 0 0 0, R.LIO_THCOUNT.key 0 0 0, R.LIO_DQTHERM_LATCH.key 0 0 0] ++ evKeys 0x58) := by
  have hbut : s.RegsBut ((s.bitTo R.LIO_DQTHERM_HOT k true).sat R.LIO_THCOUNT)
      ([R.LIO_DQTHERM_HOT.key 0 0 0, R.LIO_THCOUNT.key 0 0 0, R.LIO_DQTHERM_LATCH.key 0 0 0] ++ evKeys 0x58) :=
    ((State.RegsBut.refl s _).wr _ _ _ _ _ (by decide)).wr _ _ _ _ _ (by decide)
  have halone : s.RegsAlone ((s.bitTo R.LIO_DQTHERM_HOT k true).sat R.LIO_THCOUNT) := ((State.RegsAlone.refl s).wr ..).wr ..
  exact ⟨((hbut.wr R.LIO_DQTHERM_LATCH _ 0 0 0 (by decide)).ite hbut).lioLevels (by decide),
    ((halone.wr R.LIO_DQTHERM_LATCH _ 0 0 0).ite halone).lioLevels⟩

theorem thermalShutdown_spec (k : Fin 16) (s : State) : ∃ t, exec (.thermalShutdown k) s = .next t ∧
    if s.running 0x58 = false ∨ nbit (s.rd R.LIO_DQTHERM_HOT) k = true then t = s
    else t.rd R.LIO_DQTHERM_HOT = nsetBit (s.rd R.LIO_DQTHERM_HOT) k true ∧ s.Counted t R.LIO_THCOUNT ∧ s.Rose t 0x58 4 ∧ nbit t.dqDrive k = false ∧
      t.rd R.LIO_DQTHERM_LATCH = (if nbit s.lio.mode k then nsetBit (s.rd R.LIO_DQTHERM_LATCH) k true else s.rd R.LIO_DQTHERM_LATCH) ∧
      s.OnlyRegs t ([R.LIO_DQTHERM_HOT.key 0 0 0, R.LIO_THCOUNT.key 0 0 0, R.LIO_DQTHERM_LATCH.key 0 0 0] ++ evKeys 0x58) := by
  refine ⟨_, rfl, ?_⟩
  split
  case isTrue h => exact if_pos (by simpa using h)
  case isFalse h =>
    have hstep : (if (!s.running 0x58 || nbit (s.rd R.LIO_DQTHERM_HOT) k) = true then s else (s.heated (nbit s.lio.mode k) k).lioLevels) =
        (s.heated (nbit s.lio.mode k) k).lioLevels := if_neg (by simpa using h)
    have hdrive : nbit (s.heated (nbit s.lio.mode k) k).lioLevels.dqDrive k = false := by
      rw [State.dqDrive_bit, State.heated_hot, nbit_set, Bool.true_or, Bool.not_true, Bool.and_false]
    exact hstep.symm ▸ ⟨s.heated_hot _ k, s.heated_counted _ k, s.heated_rose _ k, hdrive, s.heated_latch _ k, s.heated_frame _ k⟩

/-! Cooling (R357-R359). -/

theorem State.tmodeTake_bit (s : State) (k : Fin 16) :
    nbit s.tmodeTake.lio.mode k = nbit (if nbit (s.rd R.LIO_DQTHERM_HOT) k then s.lio.mode else s.rd R.LIO_DQTMODE) k :=
  nbit_foldl_nsetBit (fun k => nbit (if nbit (s.rd R.LIO_DQTHERM_HOT) k then s.lio.mode else s.rd R.LIO_DQTMODE) k) k.isLt

/-- The end of HOT of output `k`, the modes taken. -/
def State.cooled (s : State) (k : Nat) : State := (s.bitTo R.LIO_DQTHERM_HOT k false).tmodeTake

theorem State.cooled_rd (s : State) (k : Nat) {q : Row} (h : q.place 0 ≠ R.LIO_DQTHERM_HOT.place 0) : (s.cooled k).rd q = s.rd q :=
  s.bitTo_rd h k false 0 0

theorem State.cooled_hot (s : State) (k : Fin 16) : (s.cooled k).rd R.LIO_DQTHERM_HOT = nsetBit (s.rd R.LIO_DQTHERM_HOT) k false :=
  s.bitTo_rd_self R.LIO_DQTHERM_HOT k.isLt false 0 0 0

theorem State.cooled_mode (s : State) (k : Fin 16) : nbit (s.cooled k).lio.mode k = nbit (s.rd R.LIO_DQTMODE) k := by
  rw [State.cooled, State.tmodeTake_bit, s.bitTo_nbit_self R.LIO_DQTHERM_HOT k.isLt, s.bitTo_rd (by decide)]
  rfl

/-- A pending clear of output `k` is made. -/
def State.clearMade (s : State) (k : Nat) : State := (s.bitTo R.LIO_DQTHERM_LATCH k false).bitTo R.LIO_DQCLRPEND k false

/-- The latch of an output that has cooled: a pending clear clears it, else a switch to latched mode meanwhile sets it. -/
def State.latchSettled (s : State) (k : Nat) (latched : Bool) : State :=
  if nbit (s.rd R.LIO_DQCLRPEND) k then s.clearMade k else s.latchIf (nbit s.lio.mode k && !latched) k

theorem State.latchSettled_rd (s : State) (k : Nat) (latched : Bool) {q : Row} (h : q.place 0 ≠ R.LIO_DQTHERM_LATCH.place 0)
    (h' : q.place 0 ≠ R.LIO_DQCLRPEND.place 0) : (s.latchSettled k latched).rd q = s.rd q := by
  unfold State.latchSettled
  split
  · exact (State.bitTo_rd _ h' ..).trans (s.bitTo_rd h ..)
  · exact s.latchIf_rd _ _ h 0

theorem State.latchSettled_pend (s : State) (k : Fin 16) (latched : Bool) :
    (s.latchSettled k latched).rd R.LIO_DQCLRPEND = nsetBit (s.rd R.LIO_DQCLRPEND) k false := by
  unfold State.latchSettled
  split
  case isTrue h =>
    rw [State.clearMade, State.bitTo_rd_self _ R.LIO_DQCLRPEND k.isLt, s.bitTo_rd (by decide)]
  case isFalse h =>
    rw [s.latchIf_rd _ _ (by decide), nsetBit, if_pos (by simpa using h)]

theorem State.latchSettled_latch (s : State) (k : Fin 16) (latched : Bool) : nbit ((s.latchSettled k latched).rd R.LIO_DQTHERM_LATCH) k =
    (if nbit (s.rd R.LIO_DQCLRPEND) k then false else nbit (s.rd R.LIO_DQTHERM_LATCH) k || (nbit s.lio.mode k && !latched)) := by
  unfold State.latchSettled
  split
  case isTrue h => rw [State.clearMade, State.bitTo_rd _ (by decide), State.bitTo_nbit_self _ R.LIO_DQTHERM_LATCH k.isLt]
  case isFalse h =>
    rw [State.latchIf_latch]
    split
    · simp [*]
    · simp [*]

theorem State.latchSettled_latch_ne (s : State) {k j : Fin 16} (hne : j ≠ k) (latched : Bool) :
    nbit ((s.latchSettled k latched).rd R.LIO_DQTHERM_LATCH) j = nbit (s.rd R.LIO_DQTHERM_LATCH) j := by
  have hne : j.val ≠ k.val := fun h => hne (Fin.ext h)
  unfold State.latchSettled
  split
  · rw [State.clearMade, State.bitTo_rd _ (by decide), State.bitTo_nbit_ne _ R.LIO_DQTHERM_LATCH k.isLt hne]
  · rw [State.latchIf_latch]
    split
    · exact nbit_nsetBit_ne _ hne _
    · rfl

theorem thermalCool_spec (k : Fin 16) (s : State) : ∃ t, exec (.thermalCool k) s = .next t ∧
    if nbit (s.rd R.LIO_DQTHERM_HOT) k = false then t = s
    else t.rd R.LIO_DQTHERM_HOT = nsetBit (s.rd R.LIO_DQTHERM_HOT) k false ∧ nbit (t.rd R.LIO_DQCLRPEND) k = false ∧
      nbit (t.rd R.LIO_DQTHERM_LATCH) k = (if nbit (s.rd R.LIO_DQCLRPEND) k then false
        else nbit (s.rd R.LIO_DQTHERM_LATCH) k || (nbit (s.rd R.LIO_DQTMODE) k && !nbit s.lio.mode k)) ∧
      nbit t.lio.mode k = nbit (s.rd R.LIO_DQTMODE) k ∧
      (∀ j : Fin 16, j ≠ k → nbit (t.rd R.LIO_DQTHERM_LATCH) j = nbit (s.rd R.LIO_DQTHERM_LATCH) j ∧ nbit (t.rd R.LIO_DQCLRPEND) j = nbit (s.rd R.LIO_DQCLRPEND) j) ∧
      s.RegsBut t ([R.LIO_DQTHERM_HOT.key 0 0 0, R.LIO_DQCLRPEND.key 0 0 0, R.LIO_DQTHERM_LATCH.key 0 0 0] ++ evKeys 0x58) ∧
      t = { s with regs := t.regs, lio := { s.lio with mode := t.lio.mode } } := by
  refine ⟨_, rfl, ?_⟩
  split
  case isTrue h => exact if_pos (by simpa using h)
  case isFalse h =>
    let u := (s.cooled k).latchSettled k (nbit s.lio.mode k)
    have hstep : (if (!nbit (s.rd R.LIO_DQTHERM_HOT) k) = true then s else u.lioLevels) = u.lioLevels := if_neg (by simpa using h)
    have hrd {q : Row} (hq : q ∈ [R.LIO_DQTHERM_HOT, R.LIO_DQTHERM_LATCH, R.LIO_DQCLRPEND, R.LIO_THCOUNT, R.LIO_DIRAW, R.LIO_DISTAT, R.LIO_COS]) :
        u.lioLevels.rd q = u.rd q := State.lioLevels_keeps _ (Row.notEvent_lio q hq)
    have hlio : u.lioLevels.lio = (s.cooled k).lio := by
      rw [State.lioLevels_lio]
      show ((s.cooled k).latchSettled k _).lio = _
      unfold State.latchSettled State.latchIf
      split_ifs <;> rfl
    have hbut : s.RegsBut (s.cooled k) ([R.LIO_DQTHERM_HOT.key 0 0 0, R.LIO_DQCLRPEND.key 0 0 0, R.LIO_DQTHERM_LATCH.key 0 0 0] ++ evKeys 0x58) :=
      (State.RegsBut.refl s _).wr R.LIO_DQTHERM_HOT _ 0 0 0 (by decide)
    have hframe : (s.cooled k).RegsAlone u := by
      have hset := (State.RegsAlone.refl (s.cooled k)).wr R.LIO_DQTHERM_LATCH
      exact ((hset _ 0 0 0).wr R.LIO_DQCLRPEND ..).ite ((hset ..).ite (.refl _))
    refine hstep.symm ▸ ⟨?_, ?_, ?_, ?_, fun j hj => ⟨?_, ?_⟩, ?_, ?_⟩
    · rw [hrd (by decide), State.latchSettled_rd _ _ _ (by decide) (by decide), State.cooled_hot]
    · rw [hrd (by decide), State.latchSettled_pend, nbit_clear]
    · rw [hrd (by decide), State.latchSettled_latch, State.cooled_mode, s.cooled_rd k (by decide), s.cooled_rd k (by decide)]
    · rw [hlio, State.cooled_mode]
    · rw [hrd (by decide), State.latchSettled_latch_ne _ hj, s.cooled_rd k (by decide)]
    · rw [hrd (by decide), State.latchSettled_pend, nbit_nsetBit_ne _ (fun h => hj (Fin.ext h)), s.cooled_rd k (by decide)]
    · have hset := hbut.wr R.LIO_DQTHERM_LATCH
      exact State.RegsBut.lioLevels
        (((hset _ 0 0 0 (by decide)).wr R.LIO_DQCLRPEND _ 0 0 0 (by decide)).ite ((hset _ 0 0 0 (by decide)).ite hbut)) (by decide)
    · rw [hlio]
      exact hframe.lioLevels

end Sys2Proof.Machine
end

section
/-! SUPPORT. DQCLR and the field supplies (16 R358, R360, R361). -/

namespace Sys2Proof.Machine

/-! DQCLR (R358). -/

/-- LATCH and pending clear of output `k`. -/
def State.latchView (s : State) (k : Nat) : Bool × Bool := (nbit (s.rd R.LIO_DQTHERM_LATCH) k, nbit (s.rd R.LIO_DQCLRPEND) k)

/-- What DQCLR leaves of an output that is latched. -/
def dqclrView (hot : Bool) (v : Bool × Bool) : Bool × Bool := if hot then (v.1, true) else (false, v.2)

/-- DQCLR at one output that is latched: it pends while the output is HOT, else clears LATCH. -/
def State.dqclrStep (hot : Nat) (s : State) (k : Nat) : State :=
  if nbit hot k then s.bitTo R.LIO_DQCLRPEND k true else s.bitTo R.LIO_DQTHERM_LATCH k false

theorem State.dqclrStep_self (hot : Nat) (s : State) {k : Nat} (h : k < 16) : (s.dqclrStep hot k).latchView k =
    dqclrView (nbit hot k) (s.latchView k) := by
  unfold State.dqclrStep State.latchView dqclrView
  split
  · rw [s.bitTo_rd (by decide), s.bitTo_nbit_self R.LIO_DQCLRPEND h]
  · rw [s.bitTo_rd (q := R.LIO_DQCLRPEND) (by decide), s.bitTo_nbit_self R.LIO_DQTHERM_LATCH h]

theorem State.dqclrStep_other (hot : Nat) (s : State) {k j : Nat} (h : k < 16) (hne : j ≠ k) :
    (s.dqclrStep hot k).latchView j = s.latchView j := by
  unfold State.dqclrStep State.latchView
  split
  · rw [s.bitTo_rd (by decide), s.bitTo_nbit_ne R.LIO_DQCLRPEND h hne]
  · rw [s.bitTo_rd (q := R.LIO_DQCLRPEND) (by decide), s.bitTo_nbit_ne R.LIO_DQTHERM_LATCH h hne]

theorem dqclr_spec (m : BitVec 6) (v : BitVec 16) (s : State) (h : s.Open 0x58) : ∃ t, exec (.dqclr m v) s = .next t ∧
    (∀ k : Fin 16, nbit (t.rd R.LIO_DQTHERM_LATCH) k = (nbit (s.rd R.LIO_DQTHERM_LATCH) k && !(v.getLsbD k && !nbit (s.rd R.LIO_DQTHERM_HOT) k)) ∧
      nbit (t.rd R.LIO_DQCLRPEND) k = (nbit (s.rd R.LIO_DQCLRPEND) k ||
        (v.getLsbD k && nbit (s.rd R.LIO_DQTHERM_LATCH) k && nbit (s.rd R.LIO_DQTHERM_HOT) k))) ∧
    s.OnlyRegs t [R.LIO_DQTHERM_LATCH.key 0 0 0, R.LIO_DQCLRPEND.key 0 0 0] := by
  let hot := s.rd R.LIO_DQTHERM_HOT
  let xs := (upTo 16).filter (nbit (v.toNat &&& s.rd R.LIO_DQTHERM_LATCH))
  have hlt : ∀ k ∈ xs, k < 16 := fun k hk => List.mem_range.mp (List.mem_filter.mp hk).1
  refine ⟨s.each xs (State.dqclrStep hot), congrArg Host.Outcome.next (State.onPage_open h _), fun k => ?_, ?_⟩
  · have hother : ∀ (t : State), ∀ x ∈ xs, k.val ≠ x → (t.dqclrStep hot x).latchView k = t.latchView k :=
      fun t x hx hne => t.dqclrStep_other hot (hlt x hx) hne
    have hmem : k.val ∈ xs ↔ (v.getLsbD k && nbit (s.rd R.LIO_DQTHERM_LATCH) k) = true := by
      simp only [xs, List.mem_filter, upTo, List.mem_range, k.isLt, true_and, nbit_and]
      rw [nbit_eq_testBit v.toNat]
      rfl
    show (_ = _ ∧ _ = _)
    rw [← Prod.mk.injEq]
    show (s.each xs (State.dqclrStep hot)).latchView k = _
    by_cases hk : k.val ∈ xs
    · have hd : (xs.map id).Nodup := by
        rw [List.map_id]
        exact List.nodup_range.filter _
      refine (State.each_view_self (place := id) (G := dqclrView (nbit hot k)) hd hk (fun t => t.dqclrStep_self hot k.isLt) hother s).trans ?_
      have hboth := Bool.and_eq_true_iff.mp (hmem.mp hk)
      cases hhot : nbit (s.rd R.LIO_DQTHERM_HOT) k <;> simp [dqclrView, State.latchView, hboth]
    · have hall : ∀ x ∈ xs, k.val ≠ id x := fun x hx he => hk (by rw [he]; exact hx)
      refine (State.each_view_other (place := id) (fun t x hx _ => hother t x hx (hall x hx)) hall s).trans ?_
      have hno : (v.getLsbD k && nbit (s.rd R.LIO_DQTHERM_LATCH) k) = false := by simpa using fun he => hk (hmem.mpr he)
      cases hv : v.getLsbD k <;> simp_all [State.latchView]
  · refine State.each_induction (motive := fun t => s.OnlyRegs t [R.LIO_DQTHERM_LATCH.key 0 0 0, R.LIO_DQCLRPEND.key 0 0 0])
      ⟨.refl s _, .refl s⟩ fun t k _ ht => ?_
    unfold State.dqclrStep
    split
    · exact ht.wr (by decide) _
    · exact ht.wr (by decide) _

/-! Field supplies (R360, R361). -/

/-- The three fields of a field supply: missing, low, and what it measures. -/
structure SupRows where
  miss : Row
  low : Row
  mv : Row

/-- The fields of the supply of group `g`. -/
def supRows (g : Fin 2) : SupRows :=
  ⟨if g = 0 then R.LIO_SUP_L1MISS else R.LIO_SUP_L2MISS, if g = 0 then R.LIO_SUP_L1LOW else R.LIO_SUP_L2LOW,
    if g = 0 then R.LIO_SUPMV_L1 else R.LIO_SUPMV_L2⟩

theorem supRows_places (g : Fin 2) : [R.H_EVRAW.place 0, R.H_EVSTAT.place 0, (supRows g).miss.place 0, (supRows g).low.place 0,
    (supRows g).mv.place 0].Nodup ∧ (supRows g).miss.width = 1 ∧ (supRows g).low.width = 1 ∧ (supRows g).mv.width = 16 := by
  revert g
  decide

/-- What a measurement stores of a supply. -/
def State.supStored (s : State) (x : SupRows) (miss lo : Bool) (mv : Nat) : State := ((s.put x.miss miss).put x.low lo).wr x.mv mv

/-- A supply that is present again counts its time from now on. -/
def State.supBack (s : State) (g : Nat) (back : Bool) : State :=
  if back then { s with lio := { s.lio with supAt := smSet 0 s.lio.supAt g (s.mt + 1) } } else s

/-- The conditions of a supply take their levels. -/
def State.supLevels (s : State) (g : Nat) (miss lo : Bool) : State := (s.evLevel 0x58 (7 + 2 * g) miss).evLevel 0x58 (8 + 2 * g) lo

theorem execFieldSupplyChange_running {g : Fin 2} {missing low : Bool} {mv : BitVec 16} {s : State} (h : s.running 0x58 = true) :
    let x := supRows g
    let miss : Bool := if missing then hyst (s.flag x.miss) 10000 11000 mv.toNat else s.flag x.miss
    let lo : Bool := miss || (if low then hyst (s.flag x.low) 18000 19000 mv.toNat else s.flag x.low)
    execFieldSupplyChange g missing low mv s =
      .next (((s.supStored x miss lo mv.toNat).supBack g (s.flag x.miss && !miss)).supLevels g miss lo) := by
  unfold execFieldSupplyChange
  rw [h]
  match g with
  | 0 => rfl
  | 1 => rfl

section
variable (s : State) (g : Fin 2) (miss lo back : Bool) (mv : BitVec 16)

/-- The state after a measurement of the supply of group `g`. -/
def State.supTaken : State := ((s.supStored (supRows g) miss lo mv.toNat).supBack g back).supLevels g miss lo

theorem State.supTaken_rd {q : Row} (h : q.place 0 ≠ R.H_EVRAW.place 0) (h' : q.place 0 ≠ R.H_EVSTAT.place 0) :
    (s.supTaken g miss lo back mv).rd q = (s.supStored (supRows g) miss lo mv.toNat).rd q := by
  have hback (t : State) : (t.supBack g back).rd q = t.rd q := by
    unfold State.supBack
    split <;> rfl
  rw [State.supTaken, State.supLevels, State.evLevel_rd _ _ _ _ _ _ _ _ h h', State.evLevel_rd _ _ _ _ _ _ _ _ h h', hback]

theorem State.supTaken_fields : (s.supTaken g miss lo back mv).flag (supRows g).miss = miss ∧ (s.supTaken g miss lo back mv).flag (supRows g).low = lo ∧
    (s.supTaken g miss lo back mv).rd (supRows g).mv = mv.toNat := by
  obtain ⟨hplaces, hmiss, hlow, hmv⟩ := supRows_places g
  simp only [List.nodup_cons, List.mem_cons, List.not_mem_nil, or_false, not_or, not_false_iff, List.nodup_nil, and_true] at hplaces
  obtain ⟨⟨-, hm, hl, hv⟩, ⟨hm', hl', hv'⟩, ⟨hml, hmv'⟩, hlv⟩ := hplaces
  refine ⟨?_, ?_, ?_⟩
  · rw [State.flag, s.supTaken_rd _ _ _ _ _ (Ne.symm hm) (Ne.symm hm')]
    refine (State.flag_wr_ne _ _ _ _ _ _ _ _ _ _ hmv').trans ((State.flag_wr_ne _ _ _ _ _ _ _ _ _ _ hml).trans ?_)
    exact s.flag_put hmiss miss 0 0 0
  · rw [State.flag, s.supTaken_rd _ _ _ _ _ (Ne.symm hl) (Ne.symm hl')]
    exact (State.flag_wr_ne _ _ _ _ _ _ _ _ _ _ hlv).trans (State.flag_put _ hlow lo 0 0 0)
  · rw [s.supTaken_rd _ _ _ _ _ (Ne.symm hv) (Ne.symm hv'), State.supStored, State.rd_wr_self, hmv]
    exact Nat.mod_eq_of_lt mv.isLt

theorem State.supBack_raw (t : State) (p : Nat) : (t.supBack g back).rd R.H_EVRAW 0 p = t.rd R.H_EVRAW 0 p := by
  unfold State.supBack
  split <;> rfl

theorem State.supTaken_raw (p : Nat) : ((s.supStored (supRows g) miss lo mv.toNat).supBack g back).rd R.H_EVRAW 0 p = s.rd R.H_EVRAW 0 p := by
  obtain ⟨hplaces, -⟩ := supRows_places g
  simp only [List.nodup_cons, List.mem_cons, List.not_mem_nil, or_false, not_or] at hplaces
  obtain ⟨⟨-, hm, hl, hv⟩, -⟩ := hplaces
  rw [State.supBack_raw, State.supStored, State.rd_wr_place _ _ _ _ _ _ _ _ _ _ hv, State.put, State.rd_wr_place _ _ _ _ _ _ _ _ _ _ hl, State.put,
    State.rd_wr_place _ _ _ _ _ _ _ _ _ _ hm]

theorem State.supTaken_rose : (miss = true → s.Rose (s.supTaken g miss lo back mv) 0x58 (7 + 2 * g)) ∧
    (lo = true → s.Rose (s.supTaken g miss lo back mv) 0x58 (8 + 2 * g)) := by
  have hg := g.isLt
  have hraw := s.supTaken_raw g miss lo back mv 0x58
  rw [State.supTaken, State.supLevels]
  generalize (s.supStored (supRows g) miss lo mv.toNat).supBack g back = u at hraw
  constructor
  · intro hm h0
    rw [hm, State.evLevel_stat_ne _ 0x58 lo (by omega) (by omega)]
    exact u.evLevel_rose 0x58 (7 + 2 * g) (by omega) (hraw ▸ h0)
  · intro hl h0
    rw [hl]
    refine State.evLevel_rose _ 0x58 (8 + 2 * g) (by omega) ?_
    rw [u.evLevel_raw_ne 0x58 miss (by omega) (by omega), hraw]
    exact h0

theorem State.supTaken_lio : (s.supTaken g miss lo back mv).lio =
    { s.lio with supAt := if back then smSet 0 s.lio.supAt g (s.mt + 1) else s.lio.supAt } := by
  have hlevels (t : State) : (t.supLevels g miss lo).lio = t.lio := by
    rw [State.supLevels, ((State.RegsAlone.refl t).evLevel 0x58 (7 + 2 * g) miss).evLevel 0x58 (8 + 2 * g) lo]
  rw [State.supTaken, hlevels]
  cases back <;> rfl

theorem State.supTaken_frame : s.RegsBut (s.supTaken g miss lo back mv)
      ([(supRows g).miss.key 0 0 0, (supRows g).low.key 0 0 0, (supRows g).mv.key 0 0 0] ++ evKeys 0x58) ∧
    s.supTaken g miss lo back mv =
      { s with regs := (s.supTaken g miss lo back mv).regs, lio := { s.lio with supAt := (s.supTaken g miss lo back mv).lio.supAt } } := by
  have hstored : s.RegsBut (s.supStored (supRows g) miss lo mv.toNat)
      ([(supRows g).miss.key 0 0 0, (supRows g).low.key 0 0 0, (supRows g).mv.key 0 0 0] ++ evKeys 0x58) :=
    (((State.RegsBut.refl s _).wr _ _ _ _ _ (by simp)).wr _ _ _ _ _ (by simp)).wr _ _ _ _ _ (by simp)
  constructor
  · have hback : s.RegsBut ((s.supStored (supRows g) miss lo mv.toNat).supBack g back)
        ([(supRows g).miss.key 0 0 0, (supRows g).low.key 0 0 0, (supRows g).mv.key 0 0 0] ++ evKeys 0x58) := by
      unfold State.supBack
      split
      · exact hstored
      · exact hstored
    exact (hback.evLevel _ _ _ (List.subset_append_right ..)).evLevel _ _ _ (List.subset_append_right ..)
  · have hlevels (t : State) : t.RegsAlone (t.supLevels g miss lo) := ((State.RegsAlone.refl t).evLevel ..).evLevel ..
    have hlio := s.supTaken_lio g miss lo back mv
    refine Eq.trans (hlevels ((s.supStored (supRows g) miss lo mv.toNat).supBack g back)) ?_
    rw [hlio]
    cases back <;> rfl

theorem State.supTaken_missing {k : Fin 16} (hk : k.val / 8 = g) : (s.supTaken g miss lo true mv).supMissing k = true := by
  have hmt : (s.supTaken g miss lo true mv).mt = s.mt := by rw [(s.supTaken_frame g miss lo true mv).2]
  have hat : smGet 0 (s.supTaken g miss lo true mv).lio.supAt (k.val / 8) = s.mt + 1 := by
    rw [s.supTaken_lio g miss lo true mv, hk]
    exact smGet_smSet_self 0 s.lio.supAt g.val (s.mt + 1)
  simp [State.supMissing, hat, hmt]

end

theorem fieldSupplyChange_spec (g : Fin 2) (missing low : Bool) (mv : BitVec 16) (s : State) (h : s.running 0x58 = true) :
    let rm := if g = 0 then R.LIO_SUP_L1MISS else R.LIO_SUP_L2MISS
    let rl := if g = 0 then R.LIO_SUP_L1LOW else R.LIO_SUP_L2LOW
    let miss : Bool := if missing then decide (mv.toNat < if s.flag rm then 11000 else 10000) else s.flag rm
    let lo : Bool := miss || (if low then decide (mv.toNat < if s.flag rl then 19000 else 18000) else s.flag rl)
    ∃ t, exec (.fieldSupplyChange g missing low mv) s = .next t ∧ t.flag rm = miss ∧ t.flag rl = lo ∧
      t.rd (if g = 0 then R.LIO_SUPMV_L1 else R.LIO_SUPMV_L2) = mv.toNat ∧ (miss = true → s.Rose t 0x58 (7 + 2 * g)) ∧ (lo = true → s.Rose t 0x58 (8 + 2 * g)) ∧
      (s.flag rm = true → miss = false → ∀ k : Fin 16, k.val / 8 = g → t.supMissing k = true) ∧
      s.RegsBut t ([rm.key 0 0 0, rl.key 0 0 0, (if g = 0 then R.LIO_SUPMV_L1 else R.LIO_SUPMV_L2).key 0 0 0] ++ evKeys 0x58) ∧
      t = { s with regs := t.regs, lio := { s.lio with supAt := t.lio.supAt } } := by
  intro rm rl miss lo
  have hyst_eq (on : Bool) (enter leave v : Nat) : hyst on enter leave v = decide (v < if on then leave else enter) := by cases on <;> rfl
  have hexec := execFieldSupplyChange_running (g := g) (missing := missing) (low := low) (mv := mv) h
  simp only [hyst_eq] at hexec
  obtain ⟨hmiss, hlow, hmv⟩ := s.supTaken_fields g miss lo (s.flag rm && !miss) mv
  obtain ⟨hrosem, hrosel⟩ := s.supTaken_rose g miss lo (s.flag rm && !miss) mv
  obtain ⟨hbut, hrest⟩ := s.supTaken_frame g miss lo (s.flag rm && !miss) mv
  refine ⟨s.supTaken g miss lo (s.flag rm && !miss) mv, hexec, hmiss, hlow, hmv, hrosem, hrosel, fun hwas hback k hk => ?_, hbut, hrest⟩
  have hnow : (s.flag rm && !miss) = true := by rw [hwas, hback]; rfl
  rw [hnow]
  exact s.supTaken_missing g miss lo mv hk

end Sys2Proof.Machine
end

section
/-! SUPPORT. A sample of an input group (16 R344, R346, R347). -/

namespace Sys2Proof.Machine

/-! One input. -/

/-- What a sample reads and writes of one input: its raw and filtered level, its COS bit, the samples that differ, its edge selection. -/
structure DiView where
  raw : Bool
  stat : Bool
  cos : Bool
  agree : Nat
  edge : Nat

/-- The filtered level becomes `b`; a selected change sets COS (R347). -/
def DiView.changed (v : DiView) (b : Bool) : DiView :=
  { v with stat := b, cos := v.cos || (v.stat != b && nbit v.edge (if b then 0 else 1)) }

/-- One sample of the input (R346). -/
def DiView.sampled (v : DiView) (filt : Nat) (first b : Bool) : DiView :=
  let v := { v with raw := b }
  if first then { v.changed b with agree := 0 }
  else if v.stat = b then { v with agree := 0 }
  else if filt < v.agree + 1 then { v.changed b with agree := 0 }
  else { v with agree := v.agree + 1 }

theorem DiView.sampled_raw (v : DiView) (filt : Nat) (first b : Bool) : (v.sampled filt first b).raw = b := by
  unfold DiView.sampled
  dsimp only
  split_ifs <;> rfl

theorem DiView.sampled_stat (v : DiView) (filt : Nat) (first b : Bool) :
    (v.sampled filt first b).stat = if first = true ∨ filt < v.agree + 1 then b else v.stat := by
  cases first with
  | true => simp [DiView.sampled, DiView.changed]
  | false =>
    by_cases hs : v.stat = b
    · simp [DiView.sampled, hs]
    · by_cases ha : filt < v.agree + 1 <;> simp [DiView.sampled, DiView.changed, hs, ha]

theorem DiView.sampled_cos (v : DiView) (filt : Nat) (first b : Bool) : (v.sampled filt first b).cos =
    (v.cos || ((v.sampled filt first b).stat != v.stat && nbit v.edge (if (v.sampled filt first b).stat then 0 else 1))) := by
  have hne (x y : Bool) : (x != y) = (y != x) := by cases x <;> cases y <;> rfl
  unfold DiView.sampled
  dsimp only
  split_ifs <;> simp_all [DiView.changed]

def State.diView (s : State) (k : Nat) : DiView :=
  ⟨nbit (s.rd R.LIO_DIRAW) k, nbit (s.rd R.LIO_DISTAT) k, nbit (s.rd R.LIO_COS) k, smGet 0 s.lio.agree k, s.edgeSel k⟩

/-- The edge selections are in words of their own. -/
theorem State.bitTo_edgeSel (s : State) {r : Row} (h : R.LIO_EDGE0.place 0 ≠ r.place 0) (h' : R.LIO_EDGE1.place 0 ≠ r.place 0) (i : Nat) (b : Bool)
    (k : Nat) : (s.bitTo r i b).edgeSel k = s.edgeSel k := by
  rw [State.edgeSel, s.bitTo_rd h, s.bitTo_rd h', State.edgeSel]

theorem State.bitTo_raw_view_self (s : State) {k : Nat} (h : k < 32) (b : Bool) :
    (s.bitTo R.LIO_DIRAW k b).diView k = { s.diView k with raw := b } := by
  rw [State.diView, s.bitTo_nbit_self R.LIO_DIRAW h, s.bitTo_rd (q := R.LIO_DISTAT) (by decide), s.bitTo_rd (q := R.LIO_COS) (by decide),
    s.bitTo_edgeSel (by decide) (by decide)]
  rfl

theorem State.bitTo_raw_view_ne (s : State) {k j : Nat} (h : k < 32) (hne : j ≠ k) (b : Bool) :
    (s.bitTo R.LIO_DIRAW k b).diView j = s.diView j := by
  rw [State.diView, s.bitTo_nbit_ne R.LIO_DIRAW h hne, s.bitTo_rd (q := R.LIO_DISTAT) (by decide), s.bitTo_rd (q := R.LIO_COS) (by decide),
    s.bitTo_edgeSel (by decide) (by decide)]
  rfl

theorem State.bitTo_stat_view_self (s : State) {k : Nat} (h : k < 32) (b : Bool) :
    (s.bitTo R.LIO_DISTAT k b).diView k = { s.diView k with stat := b } := by
  rw [State.diView, s.bitTo_nbit_self R.LIO_DISTAT h, s.bitTo_rd (q := R.LIO_DIRAW) (by decide), s.bitTo_rd (q := R.LIO_COS) (by decide),
    s.bitTo_edgeSel (by decide) (by decide)]
  rfl

theorem State.bitTo_stat_view_ne (s : State) {k j : Nat} (h : k < 32) (hne : j ≠ k) (b : Bool) :
    (s.bitTo R.LIO_DISTAT k b).diView j = s.diView j := by
  rw [State.diView, s.bitTo_nbit_ne R.LIO_DISTAT h hne, s.bitTo_rd (q := R.LIO_DIRAW) (by decide), s.bitTo_rd (q := R.LIO_COS) (by decide),
    s.bitTo_edgeSel (by decide) (by decide)]
  rfl

theorem State.bitTo_cos_view_self (s : State) {k : Nat} (h : k < 32) (b : Bool) :
    (s.bitTo R.LIO_COS k b).diView k = { s.diView k with cos := b } := by
  rw [State.diView, s.bitTo_nbit_self R.LIO_COS h, s.bitTo_rd (q := R.LIO_DIRAW) (by decide), s.bitTo_rd (q := R.LIO_DISTAT) (by decide),
    s.bitTo_edgeSel (by decide) (by decide)]
  rfl

theorem State.bitTo_cos_view_ne (s : State) {k j : Nat} (h : k < 32) (hne : j ≠ k) (b : Bool) :
    (s.bitTo R.LIO_COS k b).diView j = s.diView j := by
  rw [State.diView, s.bitTo_nbit_ne R.LIO_COS h hne, s.bitTo_rd (q := R.LIO_DIRAW) (by decide), s.bitTo_rd (q := R.LIO_DISTAT) (by decide),
    s.bitTo_edgeSel (by decide) (by decide)]
  rfl

/-- The COS bit of input `k` is set where `c` says so. -/
def State.cosIf (s : State) (c : Bool) (k : Nat) : State := if c then s.bitTo R.LIO_COS k true else s

theorem State.diChange_eq (s : State) (k : Nat) (b : Bool) : s.diChange k b = (s.bitTo R.LIO_DISTAT k b).cosIf
    (nbit (s.rd R.LIO_DISTAT) k != b && nbit ((s.bitTo R.LIO_DISTAT k b).edgeSel k) (if b then 0 else 1)) k := rfl

theorem State.cosIf_view_self (s : State) (c : Bool) {k : Nat} (h : k < 32) :
    (s.cosIf c k).diView k = { s.diView k with cos := (s.diView k).cos || c } := by
  cases c with
  | true => exact (s.bitTo_cos_view_self h true).trans (by rw [Bool.or_true])
  | false => rw [Bool.or_false]; rfl

theorem State.cosIf_view_ne (s : State) (c : Bool) {k j : Nat} (h : k < 32) (hne : j ≠ k) : (s.cosIf c k).diView j = s.diView j := by
  cases c with
  | true => exact s.bitTo_cos_view_ne h hne true
  | false => rfl

theorem State.diChange_view_self (s : State) {k : Nat} (h : k < 32) (b : Bool) : (s.diChange k b).diView k = (s.diView k).changed b := by
  rw [State.diChange_eq, State.cosIf_view_self _ _ h, s.bitTo_stat_view_self h, s.bitTo_edgeSel (by decide) (by decide)]
  rfl

theorem State.diChange_view_ne (s : State) {k j : Nat} (h : k < 32) (hne : j ≠ k) (b : Bool) : (s.diChange k b).diView j = s.diView j := by
  rw [State.diChange_eq, State.cosIf_view_ne _ _ h hne, s.bitTo_stat_view_ne h hne]

/-- The count of samples that differ from the filtered level of input `k`. -/
def State.agreeTo (s : State) (k n : Nat) : State := { s with lio := { s.lio with agree := smSet 0 s.lio.agree k n } }

theorem State.agreeTo_view_self (s : State) (k n : Nat) : (s.agreeTo k n).diView k = { s.diView k with agree := n } := by
  show DiView.mk _ _ _ (smGet 0 (smSet 0 s.lio.agree k n) k) _ = _
  rw [smGet_smSet_self]
  rfl

theorem State.agreeTo_view_ne (s : State) {k j : Nat} (n : Nat) (hne : j ≠ k) : (s.agreeTo k n).diView j = s.diView j := by
  show DiView.mk _ _ _ (smGet 0 (smSet 0 s.lio.agree k n) j) _ = _
  rw [smGet_smSet_ne _ _ _ _ hne]
  rfl

theorem State.diSample_eq (s : State) (k filt : Nat) (first b : Bool) : s.diSample k filt first b =
    let s := s.bitTo R.LIO_DIRAW k b
    if first then (s.diChange k b).agreeTo k 0
    else if nbit (s.rd R.LIO_DISTAT) k = b then s.agreeTo k 0
    else if filt < smGet 0 s.lio.agree k + 1 then (s.diChange k b).agreeTo k 0
    else s.agreeTo k (smGet 0 s.lio.agree k + 1) := rfl

theorem State.diSample_view_self (s : State) {k : Nat} (h : k < 32) (filt : Nat) (first b : Bool) :
    (s.diSample k filt first b).diView k = (s.diView k).sampled filt first b := by
  have hraw := s.bitTo_raw_view_self h b
  rw [State.diSample_eq, DiView.sampled]
  dsimp only
  generalize s.bitTo R.LIO_DIRAW k b = u at hraw
  have hstat : nbit (u.rd R.LIO_DISTAT) k = (s.diView k).stat := congrArg DiView.stat hraw
  have hagree : smGet 0 u.lio.agree k = (s.diView k).agree := congrArg DiView.agree hraw
  rw [hstat, hagree]
  split
  case isTrue => rw [State.agreeTo_view_self, State.diChange_view_self _ h, hraw]
  case isFalse =>
    split
    case isTrue => rw [State.agreeTo_view_self, hraw]
    case isFalse =>
      split
      case isTrue => rw [State.agreeTo_view_self, State.diChange_view_self _ h, hraw]
      case isFalse => rw [State.agreeTo_view_self, hraw]

theorem State.diSample_view_ne (s : State) {k j : Nat} (h : k < 32) (hne : j ≠ k) (filt : Nat) (first b : Bool) :
    (s.diSample k filt first b).diView j = s.diView j := by
  have hraw := s.bitTo_raw_view_ne h hne b
  rw [State.diSample_eq]
  dsimp only
  generalize s.bitTo R.LIO_DIRAW k b = u at hraw
  split_ifs
  · rw [State.agreeTo_view_ne _ _ hne, State.diChange_view_ne _ h hne, hraw]
  · rw [State.agreeTo_view_ne _ _ hne, hraw]
  · rw [State.agreeTo_view_ne _ _ hne, State.diChange_view_ne _ h hne, hraw]
  · rw [State.agreeTo_view_ne _ _ hne, hraw]

/-! What a sample leaves alone. -/

/-- Between `s` and `t` samples were taken: the three words of the inputs and the counts of samples are written. -/
def State.SampleFrame (s t : State) : Prop :=
  s.RegsBut t [R.LIO_DIRAW.key 0 0 0, R.LIO_DISTAT.key 0 0 0, R.LIO_COS.key 0 0 0] ∧ t = { s with regs := t.regs, lio := t.lio } ∧
    t.lio.sampled = s.lio.sampled

theorem State.SampleFrame.bitTo {s t : State} (h : s.SampleFrame t) {r : Row} (hr : r ∈ [R.LIO_DIRAW, R.LIO_DISTAT, R.LIO_COS]) (k : Nat) (b : Bool) :
    s.SampleFrame (t.bitTo r k b) := by
  obtain ⟨hbut, hrest, hsampled⟩ := h
  exact ⟨hbut.wr _ _ _ _ _ (List.mem_map_of_mem (f := fun r => Row.key r 0 0 0) hr),
    congrArg (fun u : State => { u with regs := (t.bitTo r k b).regs }) hrest, hsampled⟩

theorem State.SampleFrame.agreeTo {s t : State} (h : s.SampleFrame t) (k n : Nat) : s.SampleFrame (t.agreeTo k n) := by
  obtain ⟨hbut, hrest, hsampled⟩ := h
  exact ⟨hbut, congrArg (fun u : State => { u with lio := (t.agreeTo k n).lio }) hrest, hsampled⟩

theorem State.SampleFrame.cosIf {s t : State} (h : s.SampleFrame t) (c : Bool) (k : Nat) : s.SampleFrame (t.cosIf c k) := by
  unfold State.cosIf
  split
  · exact h.bitTo (r := R.LIO_COS) (by decide) k true
  · exact h

theorem State.SampleFrame.diChange {s t : State} (h : s.SampleFrame t) (k : Nat) (b : Bool) : s.SampleFrame (t.diChange k b) := by
  rw [State.diChange_eq]
  exact (h.bitTo (by decide) k b).cosIf _ k

theorem State.SampleFrame.diSample {s t : State} (h : s.SampleFrame t) (k filt : Nat) (first b : Bool) :
    s.SampleFrame (t.diSample k filt first b) := by
  have hraw := h.bitTo (r := R.LIO_DIRAW) (by decide) k b
  rw [State.diSample_eq]
  dsimp only
  split_ifs
  · exact (hraw.diChange ..).agreeTo ..
  · exact hraw.agreeTo ..
  · exact (hraw.diChange ..).agreeTo ..
  · exact hraw.agreeTo ..

/-! The eight inputs of a group. -/

/-- The inputs of group `g` sampled. -/
def State.groupSampled (s : State) (g filt : Nat) (first : Bool) (levels : BitVec 8) : State :=
  s.each (upTo 8) fun s i => s.diSample (8 * g + i) filt first (nbit levels.toNat i)

theorem State.groupSampled_view (s : State) (g : Fin 4) (filt : Nat) (first : Bool) (levels : BitVec 8) (k : Fin 32) :
    (s.groupSampled g filt first levels).diView k =
      if k.val / 8 = g then (s.diView k).sampled filt first (levels.getLsbD (k.val % 8)) else s.diView k := by
  have hlt : ∀ i ∈ upTo 8, 8 * g.val + i < 32 := fun i hi => by
    have := List.mem_range.mp hi
    omega
  have hother {j : Nat} : ∀ (t : State), ∀ i ∈ upTo 8, j ≠ 8 * g.val + i →
      (t.diSample (8 * g.val + i) filt first (nbit levels.toNat i)).diView j = t.diView j :=
    fun t i hi hne => t.diSample_view_ne (hlt i hi) hne filt first _
  split
  case isTrue hk =>
    have hk' : k.val = 8 * g.val + k.val % 8 := by omega
    have hmem : k.val % 8 ∈ upTo 8 := List.mem_range.mpr (Nat.mod_lt _ (by decide))
    have hbit : levels.getLsbD (k.val % 8) = nbit levels.toNat (k.val % 8) := (nbit_eq_testBit ..).symm
    have hd : ((upTo 8).map (8 * g.val + ·)).Nodup := List.nodup_range.map fun a b h => by simpa using h
    have hself := State.each_view_self (view := State.diView) (place := (8 * g.val + ·))
      (f := fun s i => s.diSample (8 * g.val + i) filt first (nbit levels.toNat i))
      (G := fun v => v.sampled filt first (nbit levels.toNat (k.val % 8))) hd hmem
      (fun t => t.diSample_view_self (hlt _ hmem) filt first _) (fun t x hx hne => hother t x hx hne) s
    rw [hbit]
    simp only [← hk'] at hself
    exact hself
  case isFalse hk =>
    have hne : ∀ i ∈ upTo 8, k.val ≠ 8 * g.val + i := fun i hi => by
      have := List.mem_range.mp hi
      omega
    exact State.each_view_other (view := State.diView) (place := (8 * g.val + ·)) (fun t i hi hne => hother t i hi hne) hne s

theorem State.groupSampled_frame (s : State) (g filt : Nat) (first : Bool) (levels : BitVec 8) :
    s.SampleFrame (s.groupSampled g filt first levels) :=
  State.each_induction (motive := s.SampleFrame) ⟨.refl s _, rfl, rfl⟩ fun _ _ _ ht => ht.diSample ..

/-! The instant of a sample (R344). -/

/-- The first multiple of `p` at or after `t`. -/
theorem ceil_multiple (t : Nat) {p : Nat} (h : 0 < p) : t ≤ (t + p - 1) / p * p ∧ (t + p - 1) / p * p < t + p := by
  have hdiv := Nat.div_add_mod (t + p - 1) p
  have hmod := Nat.mod_lt (t + p - 1) h
  rw [Nat.mul_comm] at hdiv
  omega

theorem State.nextSample_spec (s : State) (g : Nat) (h : 1 ≤ s.sper g) : s.mt ≤ s.nextSample g ∧ s.nextSample g % (50000 * s.sper g) = 0 ∧
    s.nextSample g % 4 = 0 ∧ (nbit s.lio.sampled g = true → smGet 0 s.lio.at_ g < s.nextSample g) ∧
    (s.nextSample g < s.mt + 50000 * s.sper g ∨ (nbit s.lio.sampled g = true ∧ s.nextSample g ≤ smGet 0 s.lio.at_ g + 50000 * s.sper g)) := by
  have hfour : s.nextSample g % 4 = 0 := by
    have hdvd : 4 ∣ s.nextSample g := Dvd.dvd.mul_left (Dvd.dvd.mul_right (by decide) _) _
    exact Nat.mod_eq_zero_of_dvd hdvd
  have hbounds := ceil_multiple (if nbit s.lio.sampled g then max s.mt (smGet 0 s.lio.at_ g + 1) else s.mt) (p := 50000 * s.sper g) (by omega)
  obtain ⟨hge, hlt⟩ : _ ≤ s.nextSample g ∧ s.nextSample g < _ := hbounds
  have hmul : s.nextSample g % (50000 * s.sper g) = 0 := Nat.mul_mod_left ..
  generalize s.nextSample g = n at hge hlt hfour hmul ⊢
  split at hge
  case isTrue hs =>
    rw [if_pos hs] at hlt
    refine ⟨by omega, hmul, hfour, fun _ => by omega, ?_⟩
    by_cases hnear : n < s.mt + 50000 * s.sper g
    · exact .inl hnear
    · exact .inr ⟨hs, by omega⟩
  case isFalse hs =>
    rw [if_neg hs] at hlt
    exact ⟨hge, hmul, hfour, fun h => absurd h hs, .inl hlt⟩

theorem State.awaitMt_exact {s : State} (h : s.ClocksFree) {t : Nat} (hle : s.mt ≤ t) (hlt : t + 4 ≤ 2 ^ 64) (hs : s.mt % 4 = 0) (ht : t % 4 = 0) :
    (s.awaitMt t).mt = t := by
  obtain ⟨hge, hbelow⟩ := State.awaitMt_reaches h hle hlt
  have hfour : (s.awaitMt t).mt % 4 = 0 := by
    rw [State.awaitMt_free h]
    rcases Nat.eq_zero_or_pos ((t - s.mt + 3) / 4) with hn | hn
    · rw [hn]
      exact hs
    · rw [(s.clockRun_spec (Nat.ne_of_gt hn)).2.2.1]
      omega
  omega

end Sys2Proof.Machine
end

section
/-! SUPPORT. LIO_GROUP_SAMPLE (16 R344, R346, R347) with its frame, and local inputs and outputs: the settled obligation. -/

namespace Sys2Proof.Machine

/-- The registers and the state of LIO that a sample reads are as they were when its instant has come. -/
theorem State.diView_awaitMt {s : State} (h : s.ClocksFree) (t : Nat) (k : Nat) : (s.awaitMt t).diView k = s.diView k := by
  obtain ⟨hbut, hrest⟩ := State.awaitMt_frame h t
  have hlio : (s.awaitMt t).lio = s.lio := by rw [hrest]
  have hrd : ∀ r ∈ [R.LIO_DIRAW, R.LIO_DISTAT, R.LIO_COS, R.LIO_EDGE0, R.LIO_EDGE1], (s.awaitMt t).rd r = s.rd r := fun r hr =>
    hbut r 0 0 0 ((by decide : ∀ r ∈ [R.LIO_DIRAW, R.LIO_DISTAT, R.LIO_COS, R.LIO_EDGE0, R.LIO_EDGE1], r.key 0 0 0 ∉ evKeys 0x40) r hr)
  unfold State.diView State.edgeSel
  rw [hlio, hrd R.LIO_DIRAW (by decide), hrd R.LIO_DISTAT (by decide), hrd R.LIO_COS (by decide), hrd R.LIO_EDGE0 (by decide),
    hrd R.LIO_EDGE1 (by decide)]

/-- The sample of group `g` marked, with its MT. -/
def State.sampleMarked (s : State) (g : Nat) : State :=
  { s with lio := { s.lio with sampled := nsetBit s.lio.sampled g true, at_ := smSet 0 s.lio.at_ g s.mt } }

/-- The state after the sample of group `g` of a running LIO. -/
def State.sampledAt (s : State) (g : Fin 4) (lv : BitVec 8) : State :=
  ((s.awaitMt (s.nextSample g)).groupSampled g (s.filt g) (!nbit s.lio.sampled g) lv).sampleMarked g

theorem execLioGroupSample_running {g : Fin 4} {lv : BitVec 8} {s : State} (h : s.running 0x58 = true) (hfree : s.ClocksFree) :
    execLioGroupSample g lv s = .next (s.sampledAt g lv).lioLevels := by
  obtain ⟨hbut, hrest⟩ := State.awaitMt_frame hfree (s.nextSample g)
  have hlio : (s.awaitMt (s.nextSample g)).lio = s.lio := by rw [hrest]
  have hfilt : (s.awaitMt (s.nextSample g)).filt g = s.filt g := by
    rw [State.filt, hbut R.LIO_FILT 0 0 0 (by decide), State.filt]
  unfold execLioGroupSample
  rw [h, State.sampledAt, ← hfilt, ← hlio]
  rfl

section
variable {s : State} {g : Fin 4} {lv : BitVec 8}

theorem State.sampledAt_view (hfree : s.ClocksFree) (k : Fin 32) : (s.sampledAt g lv).diView k =
    if k.val / 8 = g then (s.diView k).sampled (s.filt g) (!nbit s.lio.sampled g) (lv.getLsbD (k.val % 8)) else s.diView k := by
  show ((s.awaitMt (s.nextSample g)).groupSampled g (s.filt g) (!nbit s.lio.sampled g) lv).diView k = _
  rw [State.groupSampled_view, State.diView_awaitMt hfree]

theorem State.sampledAt_frame (hfree : s.ClocksFree) :
    s.RegsBut (s.sampledAt g lv) ([R.LIO_DIRAW.key 0 0 0, R.LIO_DISTAT.key 0 0 0, R.LIO_COS.key 0 0 0] ++ evKeys 0x40) ∧
    s.sampledAt g lv = { s with regs := (s.sampledAt g lv).regs, mt := (s.sampledAt g lv).mt, tim := (s.sampledAt g lv).tim, lio := (s.sampledAt g lv).lio } ∧
    (s.sampledAt g lv).mt = (s.awaitMt (s.nextSample g)).mt ∧ nbit (s.sampledAt g lv).lio.sampled g = true ∧
    smGet 0 (s.sampledAt g lv).lio.at_ g = (s.sampledAt g lv).mt := by
  obtain ⟨hbut, hrest⟩ := State.awaitMt_frame hfree (s.nextSample g)
  obtain ⟨hbut', hrest', -⟩ := (s.awaitMt (s.nextSample g)).groupSampled_frame g (s.filt g) (!nbit s.lio.sampled g) lv
  have hmt := congrArg State.mt hrest'
  unfold State.sampledAt
  generalize (s.awaitMt (s.nextSample g)).groupSampled g (s.filt g) (!nbit s.lio.sampled g) lv = v at hbut' hrest' hmt
  generalize s.awaitMt (s.nextSample g) = u at hbut hrest hbut' hrest' hmt
  have hboth : s.RegsBut v ([R.LIO_DIRAW.key 0 0 0, R.LIO_DISTAT.key 0 0 0, R.LIO_COS.key 0 0 0] ++ evKeys 0x40) :=
    (hbut.mono (List.subset_append_right ..)).trans (hbut'.mono (List.subset_append_left ..))
  have hv : v = { s with regs := v.regs, mt := v.mt, tim := v.tim, lio := v.lio } := by
    rw [hrest', hrest]
  refine ⟨hboth, ?_, hmt, nbit_set .., smGet_smSet_self ..⟩
  exact congrArg (fun x : State => x.sampleMarked g) hv

end

/-- What a sample shows of each input (R346, R347). -/
theorem State.sampledAt_inputs {s : State} {g : Fin 4} {lv : BitVec 8} (hfree : s.ClocksFree) {t : State}
    (ht : ∀ q ∈ [R.LIO_DIRAW, R.LIO_DISTAT, R.LIO_COS], t.rd q = (s.sampledAt g lv).rd q) (k : Fin 32) :
    nbit (t.rd R.LIO_DIRAW) k = (if k.val / 8 = g then lv.getLsbD (k.val % 8) else nbit (s.rd R.LIO_DIRAW) k) ∧
    nbit (t.rd R.LIO_DISTAT) k = (if k.val / 8 = g ∧ (nbit s.lio.sampled g = false ∨ s.filt g < smGet 0 s.lio.agree k + 1) then lv.getLsbD (k.val % 8)
      else nbit (s.rd R.LIO_DISTAT) k) ∧
    nbit (t.rd R.LIO_COS) k = (nbit (s.rd R.LIO_COS) k || (nbit (t.rd R.LIO_DISTAT) k != nbit (s.rd R.LIO_DISTAT) k &&
      nbit (s.edgeSel k) (if nbit (t.rd R.LIO_DISTAT) k then 0 else 1))) := by
  have hview := State.sampledAt_view (g := g) (lv := lv) hfree k
  rw [ht _ (by decide), ht _ (by decide), ht _ (by decide)]
  have hraw := congrArg DiView.raw hview
  have hstat := congrArg DiView.stat hview
  have hcos := congrArg DiView.cos hview
  by_cases hk : k.val / 8 = g
  · rw [if_pos hk] at hraw hstat hcos
    have hs := hstat
    rw [DiView.sampled_stat] at hs
    rw [DiView.sampled_cos, ← hstat] at hcos
    refine ⟨?_, ?_, hcos⟩
    · rw [if_pos hk]
      exact hraw.trans (DiView.sampled_raw ..)
    · simp only [hk, true_and]
      simp only [Bool.not_eq_true'] at hs
      exact hs
  · rw [if_neg hk] at hraw hstat hcos
    have hs : nbit ((s.sampledAt g lv).rd R.LIO_DISTAT) k = nbit (s.rd R.LIO_DISTAT) k := hstat
    refine ⟨?_, ?_, ?_⟩
    · rw [if_neg hk]
      exact hraw
    · rw [if_neg fun h => hk h.1]
      exact hs
    · rw [hs, bne_self_eq_false, Bool.false_and, Bool.or_false]
      exact hcos

theorem groupSample_spec (g : Fin 4) (lv : BitVec 8) (s : State) (hrun : s.running 0x58 = true) (hfree : s.ClocksFree) (hfour : s.mt % 4 = 0)
    (hlast : s.nextSample g + 4 ≤ 2 ^ 64) (hper : 1 ≤ s.sper g) :
    ∃ t, exec (.lioGroupSample g lv) s = .next t ∧ s.mt ≤ t.mt ∧ t.mt % (50000 * s.sper g) = 0 ∧ t.mt = s.nextSample g ∧
      (nbit s.lio.sampled g = true → smGet 0 s.lio.at_ g < t.mt) ∧
      (t.mt < s.mt + 50000 * s.sper g ∨ (nbit s.lio.sampled g = true ∧ t.mt ≤ smGet 0 s.lio.at_ g + 50000 * s.sper g)) ∧
      (∀ k : Fin 32, nbit (t.rd R.LIO_DIRAW) k = (if k.val / 8 = g then lv.getLsbD (k.val % 8) else nbit (s.rd R.LIO_DIRAW) k) ∧
        nbit (t.rd R.LIO_DISTAT) k = (if k.val / 8 = g ∧ (nbit s.lio.sampled g = false ∨ s.filt g < smGet 0 s.lio.agree k + 1) then lv.getLsbD (k.val % 8)
          else nbit (s.rd R.LIO_DISTAT) k) ∧
        nbit (t.rd R.LIO_COS) k = (nbit (s.rd R.LIO_COS) k || (nbit (t.rd R.LIO_DISTAT) k != nbit (s.rd R.LIO_DISTAT) k &&
          nbit (s.edgeSel k) (if nbit (t.rd R.LIO_DISTAT) k then 0 else 1)))) ∧
      nbit (t.rd R.H_EVRAW 0 0x58) g = (t.rd R.LIO_COS / 2 ^ (8 * g.val) % 2 ^ 8 != 0) ∧ nbit t.lio.sampled g = true ∧ smGet 0 t.lio.at_ g = t.mt ∧
      s.RegsBut t ([R.LIO_DIRAW.key 0 0 0, R.LIO_DISTAT.key 0 0 0, R.LIO_COS.key 0 0 0] ++ evKeys 0x58 ++ evKeys 0x40) ∧
      t = { s with regs := t.regs, mt := t.mt, tim := t.tim, lio := t.lio } := by
  obtain ⟨hge, hmultiple, hexact, hafter, hnear⟩ := s.nextSample_spec g hper
  obtain ⟨hbut, hrest, hmt, hsampled, hat⟩ := State.sampledAt_frame (g := g) (lv := lv) hfree
  have hexec := execLioGroupSample_running (g := g) (lv := lv) hrun hfree
  have hinputs := fun t => State.sampledAt_inputs (g := g) (lv := lv) hfree (t := t)
  rw [State.awaitMt_exact hfree hge hlast hfour hexact] at hmt
  generalize s.sampledAt g lv = u at hbut hrest hmt hsampled hat hexec hinputs
  have hlio : u.lioLevels.lio = u.lio := u.lioLevels_lio
  have hrd : ∀ q ∈ [R.LIO_DIRAW, R.LIO_DISTAT, R.LIO_COS], u.lioLevels.rd q = u.rd q := fun q hq =>
    State.lioLevels_keeps u (Row.notEvent_lio q (List.mem_append_right [R.LIO_DQTHERM_HOT, R.LIO_DQTHERM_LATCH, R.LIO_DQCLRPEND, R.LIO_THCOUNT] hq))
  have halone := (State.RegsAlone.refl u).lioLevels
  have hmt' : u.lioLevels.mt = s.nextSample g := by rw [halone]; exact hmt
  have hraw : nbit (u.lioLevels.rd R.H_EVRAW 0 0x58) g = (u.lioLevels.rd R.LIO_COS / 2 ^ (8 * g.val) % 2 ^ 8 != 0) := by
    rw [hrd R.LIO_COS (by decide), State.lioLevels_eq]
    refine State.evLevels_raw (by omega) u.lioLevelList_nodup ?_ u
    match g with
    | 0 | 1 | 2 | 3 => simp [State.lioLevelList, nfield]
  refine ⟨u.lioLevels, hexec, hmt' ▸ hge, hmt' ▸ hmultiple, hmt', hmt' ▸ hafter, hmt' ▸ hnear, hinputs _ hrd, hraw, hlio ▸ hsampled, ?_, ?_, ?_⟩
  · rw [hlio, hmt', hat, hmt]
  · refine State.RegsBut.lioLevels (hbut.mono ?_) (List.Subset.trans (List.subset_append_right ..) (List.subset_append_left ..))
    exact List.append_subset.mpr ⟨List.Subset.trans (List.subset_append_left ..) (List.subset_append_left ..), List.subset_append_right ..⟩
  · have htim : u.lioLevels.tim = u.tim := by rw [halone]
    have hmtu : u.lioLevels.mt = u.mt := by rw [halone]
    rw [hlio, htim, hmtu]
    exact Eq.trans halone (congrArg (fun x : State => { x with regs := u.lioLevels.regs }) hrest)

/-- Settles O46: clause by clause, by the lemmas of inputs, drivers, sticky faults, thermal states and supplies. -/
theorem localInputsAndOutputs : Obligations.LocalInputsAndOutputs := by
  unfold Obligations.LocalInputsAndOutputs
  refine ⟨fun g lv s h => ?_, groupSample_spec, dqDrive_off_spec, dqDrive_on_spec, readback_spec, openLoad_spec, currentLimit_spec,
    thermalShutdown_spec, thermalCool_spec, dqclr_spec, fun g missing low mv s h => ?_, fieldSupplyChange_spec⟩
  · show Host.Outcome.next _ = _
    rw [h]
    rfl
  · show Host.Outcome.next _ = _
    rw [h]
    rfl

end Sys2Proof.Machine
end

section
/-! SUPPORT. The receive checks of NCP (19 Table 19.2): the forms of a packet, its refusals, and what a request in an open session meets. -/

namespace Sys2Proof.Machine

/-! The form of a packet (checks 1 to 5). -/

theorem formOf_eq (q : NcpReq) : formOf q =
    if q.magic ≠ 0x4E43 ∨ nbit q.flags.toNat 0 = true ∨ nbit q.flags.toNat 1 = true then .discard
    else if q.ver ≠ 3 then .refuse eHeader
    else if 1024 < q.length.toNat then .refuse eLength
    else if q.payload.length < q.length.toNat then .refuse eTrunc
    else if q.length.toNat < q.payload.length then .refuse eLength
    else if q.status ≠ 0 ∨ q.flags ≠ 0 ∨ q.rsv ≠ 0 then .refuse eHeader
    else .pass := by
  have hmagic : q.magic.toNat ≠ 0x4E43 ↔ q.magic ≠ 0x4E43 := not_congr (BitVec.toNat_inj (y := 0x4E43#16))
  have hver : q.ver.toNat ≠ 3 ↔ q.ver ≠ 3 := not_congr (BitVec.toNat_inj (y := 3#8))
  simp only [formOf, hmagic, hver]

theorem formOf_whole {q : NcpReq} (h : NcpWhole q) : formOf q = .pass := by
  obtain ⟨hmagic, hver, hflags, hstatus, hrsv, hlength, hpayload⟩ := h
  rw [formOf_eq, if_neg (by simp [hmagic, hflags, nbit]), if_neg (by simp [hver]), if_neg (by omega), if_neg (by omega), if_neg (by omega),
    if_neg (by simp [hflags, hstatus, hrsv])]

/-! Refusals. -/

/-- The count of answers without authentication on a port after one more in second `sec`. -/
def refusedOnce (r : Nat × Nat) (sec : Nat) : Nat × Nat := (sec, if r.1 = sec then r.2 + 1 else 1)

theorem State.ncpReject_eq (s : State) (q : NcpReq) (cmd status : Nat) :
    let sec := s.mt / 1000000000 + 1
    let r := smGet (0, 0) s.ncp.refuse q.mac
    s.ncpReject q cmd status = if r.1 = sec ∧ 100 ≤ r.2 then s else
      { s with outs := plainAnswer q cmd status :: s.outs, ncp := { s.ncp with refuse := smSet (0, 0) s.ncp.refuse q.mac (refusedOnce r sec) } } := by
  unfold State.ncpReject refusedOnce
  dsimp only
  by_cases hsec : (smGet (0, 0) s.ncp.refuse q.mac).1 = s.mt / 1000000000 + 1
  · rw [if_pos hsec, if_pos hsec]
    by_cases hmany : 100 ≤ (smGet (0, 0) s.ncp.refuse q.mac).2
    · rw [if_pos hmany, if_pos ⟨hsec, hmany⟩]
    · rw [if_neg hmany, if_neg fun h => hmany h.2]
      rfl
  · rw [if_neg hsec, if_neg hsec, if_neg (by decide), if_neg fun h => hsec h.1]
    rfl

theorem State.ncpReject_rejected (s : State) (q : NcpReq) (cmd status : Nat) : s.Rejected (s.ncpReject q cmd status) q cmd status := by
  unfold State.Rejected
  rw [State.ncpReject_eq]
  dsimp only
  by_cases hfull : (smGet (0, 0) s.ncp.refuse q.mac).1 = s.mt / 1000000000 + 1 ∧ 100 ≤ (smGet (0, 0) s.ncp.refuse q.mac).2
  · rw [if_pos hfull, if_pos hfull]
  · rw [if_neg hfull, if_neg hfull]
    refine ⟨rfl, ?_⟩
    dsimp only
    rw [smGet_smSet_self]
    rfl

theorem State.session_id {s : State} {id : Nat} {x : Sess} (h : s.session id = some x) : x.id = id := by
  simpa using List.find?_some h

theorem State.ncpAnswer_eq {s : State} {w : Waiting} {x : Sess} (h : s.session w.session = some x) (status flags offset total : Nat)
    (pay : List (BitVec 8)) :
    let o := Out.ncp w.mac w.host w.cmd (1 + flags) status w.session w.seq w.object offset total pay
      (ncpTag x.m2h (ncpBytes w.cmd (1 + flags) status w.session w.seq w.object offset total pay))
    s.ncpAnswer w status flags offset total pay =
      { s with outs := o :: s.outs, ncp := s.ncp.putSess { x with cache := ((w.seq, o) :: x.cache).take 8 } } := by
  rw [State.ncpAnswer, h]
  rfl

theorem State.ncpAnswer_declined {s : State} {q : NcpReq} {x : Sess} (h : s.session q.session.toNat = some x) (cmd at_ status : Nat) :
    s.Declined (s.ncpAnswer (waitOf q cmd at_) status 0 0 0 []) q x cmd status := State.ncpAnswer_eq (w := waitOf q cmd at_) h ..

/-! The checks of a request (checks 6 to 13). -/

/-- What a request of an open session meets up to the check of its role. -/
def State.Checked (s t : State) (q : NcpReq) (cmd need : Nat) : Prop :=
  if q.magic ≠ 0x4E43 ∨ nbit q.flags.toNat 0 = true ∨ nbit q.flags.toNat 1 = true then t = s
  else if q.ver ≠ 3 then s.Rejected t q cmd 0x0401
  else if 1024 < q.length.toNat then s.Rejected t q cmd 0x0101
  else if q.payload.length < q.length.toNat then s.Rejected t q cmd 0x0102
  else if q.length.toNat < q.payload.length then s.Rejected t q cmd 0x0101
  else if q.status ≠ 0 ∨ q.flags ≠ 0 ∨ q.rsv ≠ 0 then s.Rejected t q cmd 0x0401
  else if s.session q.session.toNat = none then s.Rejected t q cmd 0x0601
  else ∀ x ∈ (s.session q.session.toNat).toList,
    if x.opened = false then s.Rejected t q cmd 0x0601
    else if q.tag.toNat ≠ ncpTag x.h2m (reqBytes q cmd) then s.Rejected t q cmd 0x0201
    else if (x.cache.find? fun e => e.1 == q.seq.toNat).isSome = true then
      ∀ e ∈ (x.cache.find? fun e => e.1 == q.seq.toNat).toList, t = s.out (e.2.to q.mac q.host.toNat)
    else if q.seq.toNat + 63 < x.h ∨ (q.seq.toNat ≤ x.h ∧ q.seq.toNat ∈ x.seen) then t = s
    else x.role < need → s.Declined t q x cmd 0x0202

theorem seqNew_eq_false {x : Sess} {n : Nat} : seqNew x n = false ↔ n + 63 < x.h ∨ (n ≤ x.h ∧ n ∈ x.seen) := by
  simp only [seqNew, Bool.or_eq_false_iff, decide_eq_false_iff_not, Bool.and_eq_false_iff, Bool.not_eq_false', List.contains_iff_mem]
  by_cases hseen : n ∈ x.seen
  · simp only [hseen, or_true, and_true]
    omega
  · simp only [hseen, or_false, and_false]
    omega

section
variable {s : State} {q : NcpReq} {cmd role unit_ bounds : Nat} {body : State → Sess → Waiting → NcpEnd}

theorem State.ncpRun_unserved (h : s.ncpServes q.mac = false) : s.ncpRun q cmd role unit_ bounds body = s := by
  rw [State.ncpRun, h]
  rfl

/-- A request of form `pass`, from the session on. -/
def State.ncpInSession (s : State) (q : NcpReq) (cmd role unit_ bounds : Nat) (body : State → Sess → Waiting → NcpEnd) (x : Sess) : State :=
  if !x.opened then s.ncpReject q cmd eSession
  else if q.tag.toNat ≠ ncpTag x.h2m (reqBytes q cmd) then s.ncpReject q cmd eAuth
  else
    match x.cache.find? fun e => e.1 == q.seq.toNat with
    | some e => s.out (e.2.to q.mac q.host.toNat)
    | none =>
      if !seqNew x q.seq.toNat then s
      else
        let w := waitOf q cmd s.mt
        let c := if x.role < role then eRole else if unit_ ≠ 0 then unit_ else bounds
        if c ≠ 0 then s.ncpAnswer w c 0 0 0 []
        else
          let y := seqTake x q.seq.toNat s.mt
          match body (s.modNcp fun n => n.putSess y) y w with
          | .refuse c => s.ncpAnswer w c 0 0 0 []
          | .done t => t

theorem State.ncpRun_formed (h : s.ncpServes q.mac = true) : s.ncpRun q cmd role unit_ bounds body =
    match formOf q with
    | .discard => s
    | .refuse c => s.ncpReject q cmd c
    | .pass =>
      match s.session q.session.toNat with
      | none => s.ncpReject q cmd eSession
      | some x => s.ncpInSession q cmd role unit_ bounds body x := by
  rw [State.ncpRun, h]
  rfl

/-- What a new request of a session is answered by checks 10 to 13. -/
def State.ncpNew (s : State) (q : NcpReq) (cmd role unit_ bounds : Nat) (body : State → Sess → Waiting → NcpEnd) (x : Sess) : State :=
  let w := waitOf q cmd s.mt
  let c := if x.role < role then eRole else if unit_ ≠ 0 then unit_ else bounds
  if c ≠ 0 then s.ncpAnswer w c 0 0 0 []
  else
    let y := seqTake x q.seq.toNat s.mt
    match body (s.modNcp fun n => n.putSess y) y w with
    | .refuse c => s.ncpAnswer w c 0 0 0 []
    | .done t => t

section
variable {x : Sess}

theorem State.ncpInSession_closed (h : x.opened = false) : s.ncpInSession q cmd role unit_ bounds body x = s.ncpReject q cmd eSession := by
  rw [State.ncpInSession, h]
  rfl

theorem State.ncpInSession_forged (h : x.opened = true) (htag : q.tag.toNat ≠ ncpTag x.h2m (reqBytes q cmd)) :
    s.ncpInSession q cmd role unit_ bounds body x = s.ncpReject q cmd eAuth := by
  rw [State.ncpInSession, h, if_neg (by decide), if_pos htag]

theorem State.ncpInSession_repeated (h : x.opened = true) (htag : q.tag.toNat = ncpTag x.h2m (reqBytes q cmd)) {e : Nat × Out}
    (he : (x.cache.find? fun e => e.1 == q.seq.toNat) = some e) :
    s.ncpInSession q cmd role unit_ bounds body x = s.out (e.2.to q.mac q.host.toNat) := by
  rw [State.ncpInSession, h, if_neg (by decide), if_neg (not_not.mpr htag), he]

theorem State.ncpInSession_old (h : x.opened = true) (htag : q.tag.toNat = ncpTag x.h2m (reqBytes q cmd))
    (he : (x.cache.find? fun e => e.1 == q.seq.toNat) = none) (hold : seqNew x q.seq.toNat = false) :
    s.ncpInSession q cmd role unit_ bounds body x = s := by
  rw [State.ncpInSession, h, if_neg (by decide), if_neg (not_not.mpr htag), he, hold]
  rfl

theorem State.ncpInSession_new (h : x.opened = true) (htag : q.tag.toNat = ncpTag x.h2m (reqBytes q cmd))
    (he : (x.cache.find? fun e => e.1 == q.seq.toNat) = none) (hnew : seqNew x q.seq.toNat = true) :
    s.ncpInSession q cmd role unit_ bounds body x = s.ncpNew q cmd role unit_ bounds body x := by
  rw [State.ncpInSession, h, if_neg (by decide), if_neg (not_not.mpr htag), he, hnew]
  rfl

theorem State.ncpNew_role (h : x.role < role) : s.ncpNew q cmd role unit_ bounds body x = s.ncpAnswer (waitOf q cmd s.mt) eRole 0 0 0 [] := by
  rw [State.ncpNew, if_pos h]
  rfl

theorem State.ncpInSession_checked {need : Nat} (hx : s.session q.session.toNat = some x) (hneed : need ≤ role) :
    let t := s.ncpInSession q cmd role unit_ bounds body x
    if x.opened = false then s.Rejected t q cmd 0x0601
    else if q.tag.toNat ≠ ncpTag x.h2m (reqBytes q cmd) then s.Rejected t q cmd 0x0201
    else if (x.cache.find? fun e => e.1 == q.seq.toNat).isSome = true then
      ∀ e ∈ (x.cache.find? fun e => e.1 == q.seq.toNat).toList, t = s.out (e.2.to q.mac q.host.toNat)
    else if q.seq.toNat + 63 < x.h ∨ (q.seq.toNat ≤ x.h ∧ q.seq.toNat ∈ x.seen) then t = s
    else x.role < need → s.Declined t q x cmd 0x0202 := by
  intro t
  split
  case isTrue hclosed =>
    have ht : t = s.ncpReject q cmd eSession := State.ncpInSession_closed hclosed
    exact ht ▸ s.ncpReject_rejected q cmd eSession
  case isFalse hopen =>
    have hopen : x.opened = true := by simpa using hopen
    split
    case isTrue htag =>
      have ht : t = s.ncpReject q cmd eAuth := State.ncpInSession_forged hopen htag
      exact ht ▸ s.ncpReject_rejected q cmd eAuth
    case isFalse htag =>
      have htag := not_not.mp htag
      split
      case isTrue => exact fun e he => State.ncpInSession_repeated hopen htag (Option.mem_toList.mp he)
      case isFalse hnone =>
        have hnone : (x.cache.find? fun e => e.1 == q.seq.toNat) = none := Option.not_isSome_iff_eq_none.mp hnone
        split
        case isTrue hold => exact State.ncpInSession_old hopen htag hnone (seqNew_eq_false.mpr hold)
        case isFalse hnew =>
          intro hrole
          have hnew : seqNew x q.seq.toNat = true := Bool.not_eq_false _ ▸ fun h => hnew (seqNew_eq_false.mp h)
          have ht : t = s.ncpAnswer (waitOf q cmd s.mt) eRole 0 0 0 [] :=
            (State.ncpInSession_new hopen htag hnone hnew).trans (State.ncpNew_role (Nat.lt_of_lt_of_le hrole hneed))
          exact ht ▸ State.ncpAnswer_declined hx cmd s.mt eRole

end

theorem State.ncpRun_checked {need : Nat} (h : s.ncpServes q.mac = true) (hneed : need ≤ role) :
    s.Checked (s.ncpRun q cmd role unit_ bounds body) q cmd need := by
  have hrun := State.ncpRun_formed (cmd := cmd) (role := role) (unit_ := unit_) (bounds := bounds) (body := body) h
  have hsession (x : Sess) (hx : s.session q.session.toNat = some x) :=
    State.ncpInSession_checked (cmd := cmd) (unit_ := unit_) (bounds := bounds) (body := body) hx hneed
  generalize s.ncpRun q cmd role unit_ bounds body = t at hrun
  have hreject {status : Nat} (ht : t = s.ncpReject q cmd status) : s.Rejected t q cmd status := ht ▸ s.ncpReject_rejected q cmd status
  rw [formOf_eq] at hrun
  unfold State.Checked
  by_cases hdiscard : q.magic ≠ 0x4E43 ∨ nbit q.flags.toNat 0 = true ∨ nbit q.flags.toNat 1 = true
  · rw [if_pos hdiscard] at hrun ⊢
    exact hrun
  rw [if_neg hdiscard] at hrun ⊢
  by_cases hver : q.ver ≠ 3
  · rw [if_pos hver] at hrun ⊢
    exact hreject hrun
  rw [if_neg hver] at hrun ⊢
  by_cases hlong : 1024 < q.length.toNat
  · rw [if_pos hlong] at hrun ⊢
    exact hreject hrun
  rw [if_neg hlong] at hrun ⊢
  by_cases htrunc : q.payload.length < q.length.toNat
  · rw [if_pos htrunc] at hrun ⊢
    exact hreject hrun
  rw [if_neg htrunc] at hrun ⊢
  by_cases hshort : q.length.toNat < q.payload.length
  · rw [if_pos hshort] at hrun ⊢
    exact hreject hrun
  rw [if_neg hshort] at hrun ⊢
  by_cases hheader : q.status ≠ 0 ∨ q.flags ≠ 0 ∨ q.rsv ≠ 0
  · rw [if_pos hheader] at hrun ⊢
    exact hreject hrun
  rw [if_neg hheader] at hrun ⊢
  cases hx : s.session q.session.toNat with
  | none =>
    rw [hx] at hrun
    exact hreject hrun
  | some x =>
    rw [hx] at hrun
    rw [if_neg (Option.some_ne_none x)]
    intro y hy
    obtain rfl := Option.some.inj (Option.mem_toList.mp hy)
    exact hrun ▸ hsession x hx

/-- A new request with the right tag in an open session. -/
theorem State.ncpRun_admitted {x : Sess} (h : s.Admits q cmd x) :
    s.ncpRun q cmd role unit_ bounds body = s.ncpNew q cmd role unit_ bounds body x := by
  obtain ⟨hserves, hwhole, hx, hopen, htag, hcache, hseq⟩ := h
  have hnone : (x.cache.find? fun e => e.1 == q.seq.toNat) = none := List.find?_eq_none.mpr fun e he => by simpa using hcache e he
  have hnew : seqNew x q.seq.toNat = true := by simpa [seqNew] using hseq
  rw [State.ncpRun_formed hserves, formOf_whole hwhole, hx]
  exact State.ncpInSession_new hopen htag hnone hnew

end

/-- Every command of an open session beside FINISH is a request of its code, its role that of Table 19.3 at least. -/
theorem ncpRows_run (q : NcpReq) (room : Bool) (s : State) : ∀ c ∈ ncpRows q room, ∃ role unit_ bounds body, c.2.2 ≤ role ∧
    exec c.1 s = .next (s.ncpRun q c.2.1 role unit_ bounds body) := by
  iterate 5 refine List.forall_mem_cons.mpr ⟨⟨_, _, _, _, Nat.le_refl _, rfl⟩, ?_⟩
  refine List.forall_mem_cons.mpr ⟨⟨_, _, _, _, Nat.zero_le _, rfl⟩, ?_⟩
  iterate 21 refine List.forall_mem_cons.mpr ⟨⟨_, _, _, _, Nat.le_refl _, rfl⟩, ?_⟩
  exact List.forall_mem_nil _

end Sys2Proof.Machine
end

section
/-! SUPPORT. Sessions of NCP (19 R402-R405, R415): their numbers, the handshake, and how they end with their transfers. -/

namespace Sys2Proof.Machine

/-! The list of sessions. -/

theorem State.session_eq_none {s : State} {id : Nat} : s.session id = none ↔ ∀ y ∈ s.ncp.sess, y.id ≠ id := by
  simp [State.session]

theorem Ncp.putSess_putSess (n : Ncp) {x y : Sess} (h : x.id = y.id) : (n.putSess x).putSess y = n.putSess y := by
  unfold Ncp.putSess
  rw [List.map_map]
  congr 1
  refine List.map_congr_left fun z _ => ?_
  rw [Function.comp_apply, ← h]
  by_cases hz : z.id = x.id
  · rw [if_pos hz, if_pos rfl, if_pos hz]
  · rw [if_neg hz, if_neg hz]

theorem State.session_putSess {s : State} {x y : Sess} (hx : s.session x.id = some x) (h : y.id = x.id) :
    (s.modNcp fun n => n.putSess y).session x.id = some y := by
  obtain ⟨hid, before, after, hsess, hbefore⟩ := List.find?_eq_some_iff_append.mp hx
  have hmap : (s.ncp.putSess y).sess = (before.map fun z => if z.id = y.id then y else z) ++
      y :: after.map fun z => if z.id = y.id then y else z := by
    show (s.ncp.sess.map fun z => if z.id = y.id then y else z) = _
    rw [hsess, List.map_append, List.map_cons, if_pos h.symm]
  refine List.find?_eq_some_iff_append.mpr ⟨by simp [h], _, _, hmap, fun z hz => ?_⟩
  obtain ⟨z', hz', rfl⟩ := List.mem_map.mp hz
  have hne : z'.id ≠ x.id := by simpa using hbefore z' hz'
  simp [h, hne]

theorem Ncp.putSess_filter (n : Ncp) {y : Sess} {id : Nat} (h : y.id = id) :
    (n.putSess y).sess.filter (fun z => z.id != id) = n.sess.filter fun z => z.id != id := by
  subst h
  show (n.sess.map fun z => if z.id = y.id then y else z).filter _ = _
  induction n.sess with
  | nil => rfl
  | cons z zs ih =>
    rw [List.map_cons]
    by_cases hz : z.id = y.id
    · rw [if_pos hz, List.filter_cons_of_neg (by simp), List.filter_cons_of_neg (by simp [hz]), ih]
    · rw [if_neg hz, List.filter_cons_of_pos (by simpa using hz), List.filter_cons_of_pos (by simpa using hz), ih]

/-! The number of a new session (R402). -/

/-- The candidates for a session number, the one drawn first. -/
def idCandidates (chosen : Nat) : List Nat := (upTo 40).map fun i => (chosen + i) % 2 ^ 32

theorem idCandidates_nodup (chosen : Nat) : (idCandidates chosen).Nodup := by
  refine List.Nodup.map_on (fun i hi j hj h => ?_) List.nodup_range
  have hi := List.mem_range.mp hi
  have hj := List.mem_range.mp hj
  omega

/-- Fewer than 32 sessions leave one of the 40 candidates. -/
theorem State.freeId_spec {s : State} (chosen : Nat) (h : s.ncp.sess.length < 32) :
    s.freeId chosen ≠ 0 ∧ ∀ y ∈ s.ncp.sess, y.id ≠ s.freeId chosen := by
  have hfound : ∃ i, (idCandidates chosen).find? (fun i => i != 0 && (s.session i).isNone) = some i := by
    by_contra hnone
    have hnone := Option.eq_none_iff_forall_ne_some.mpr fun i hi => hnone ⟨i, hi⟩
    have hsub : idCandidates chosen ⊆ 0 :: s.ncp.sess.map (·.id) := fun i hi => by
      have hi := List.find?_eq_none.mp hnone i hi
      by_cases hzero : i = 0
      · exact hzero ▸ List.mem_cons_self ..
      · by_contra hnot
        have hfree : s.session i = none := State.session_eq_none.mpr fun y hy he =>
          hnot (List.mem_cons_of_mem _ (List.mem_map.mpr ⟨y, hy, he⟩))
        simp [hzero, hfree] at hi
    have hlength := ((idCandidates_nodup chosen).subperm hsub).length_le
    simp [idCandidates, upTo] at hlength
    omega
  obtain ⟨i, hi⟩ := hfound
  have hid : s.freeId chosen = i := by
    show Option.getD (List.find? _ (idCandidates chosen)) 1 = i
    rw [hi]
    rfl
  have hboth := List.find?_some hi
  simp only [Bool.and_eq_true, bne_iff_ne, Option.isNone_iff_eq_none] at hboth
  rw [hid]
  exact ⟨hboth.1, State.session_eq_none.mp hboth.2⟩

theorem State.freeId_chosen {s : State} {chosen : BitVec 32} (hne : chosen ≠ 0) (h : ∀ y ∈ s.ncp.sess, y.id ≠ chosen.toNat) :
    s.freeId chosen.toNat = chosen.toNat := by
  have hfirst : (chosen.toNat + 0) % 2 ^ 32 = chosen.toNat := Nat.mod_eq_of_lt chosen.isLt
  have hzero : chosen.toNat ≠ 0 := fun h0 => hne (BitVec.eq_of_toNat_eq h0)
  have hpass : (chosen.toNat != 0 && (s.session chosen.toNat).isNone) = true := by
    rw [State.session_eq_none.mpr h]
    simpa using hzero
  have hlist : (upTo 40).map (fun i => (chosen.toNat + i) % 2 ^ 32) = chosen.toNat :: (((upTo 39).map Nat.succ).map fun i => (chosen.toNat + i) % 2 ^ 32) := by
    rw [upTo, List.range_succ_eq_map, List.map_cons, hfirst]
    rfl
  unfold State.freeId
  rw [hlist, List.find?_cons_of_pos (p := fun i => i != 0 && (s.session i).isNone) hpass]
  rfl

/-! A host certificate (R403). -/

/-- The certificate is accepted. -/
def State.CertAccepted (s : State) (cert : Cert) : Prop :=
  cert.x509 = true ∧ cert.sigOk = true ∧ cert.role.isSome = true ∧
    (s.flag R.BKD_STAT_RTC_VALID = true → cert.notBefore.toNat ≤ s.bk.cal.seconds ∧ s.bk.cal.seconds ≤ cert.notAfter.toNat) ∧
    (∀ a ∈ s.ncp.archive.toList, cert.signer.toNat ∈ a.trust ∧ s.sys.recovery = false) ∧
    (s.ncp.archive = none → Config.sha256 (beBytes 64 cert.signer.toNat) = Config.serviceHash ∧ cert.role = some 3)

/-- The time of a certificate, where the calendar is valid. -/
def State.certInTime (s : State) (c : Cert) : Bool :=
  !s.flag R.BKD_STAT_RTC_VALID || (decide (c.notBefore.toNat ≤ s.bk.cal.seconds) && decide (s.bk.cal.seconds ≤ c.notAfter.toNat))

theorem State.certInTime_iff (s : State) (c : Cert) : s.certInTime c = true ↔
    (s.flag R.BKD_STAT_RTC_VALID = true → c.notBefore.toNat ≤ s.bk.cal.seconds ∧ s.bk.cal.seconds ≤ c.notAfter.toNat) := by
  unfold State.certInTime
  cases s.flag R.BKD_STAT_RTC_VALID <;> simp

/-- The role that the trust of the module gives a certificate of role `role` and signer `key`. -/
def State.trustedRole (s : State) (key : Nat) (role : Option (Fin 4)) : Option Nat :=
  match role, s.ncp.archive with
  | none, _ => none
  | some r, some a => if a.trust.contains key && !s.sys.recovery then some r else none
  | some r, none => if Config.sha256 (beBytes 64 key) == Config.serviceHash && r.val == 3 then some 3 else none

theorem State.certRole_eq (s : State) (c : Cert) : s.certRole c =
    if (!c.x509 || !c.sigOk || !s.certInTime c) = true then none else s.trustedRole c.signer.toNat c.role := rfl

theorem State.trustedRole_eq_some {s : State} {key n : Nat} {role : Option (Fin 4)} : s.trustedRole key role = some n ↔
    role.map (·.val) = some n ∧ (∀ a ∈ s.ncp.archive.toList, key ∈ a.trust ∧ s.sys.recovery = false) ∧
      (s.ncp.archive = none → Config.sha256 (beBytes 64 key) = Config.serviceHash ∧ role = some 3) := by
  unfold State.trustedRole
  cases hrole : role with
  | none => simp
  | some r =>
    cases harchive : s.ncp.archive with
    | none =>
      have hthree : r.val = 3 ↔ r = 3 := ⟨fun h => Fin.ext h, fun h => h ▸ rfl⟩
      by_cases hservice : Config.sha256 (beBytes 64 key) = Config.serviceHash ∧ r.val = 3
      · have hr := hthree.mp hservice.2
        simp [hservice.1, hr]
      · simp only [Bool.and_eq_true, beq_iff_eq, if_neg hservice, Option.some.injEq]
        rw [hthree] at hservice
        simp [hservice]
    | some a => simp [and_comm]

theorem State.certRole_eq_some {s : State} {c : Cert} {n : Nat} :
    s.certRole c = some n ↔ s.CertAccepted c ∧ c.role.map (·.val) = some n := by
  have htime := s.certInTime_iff c
  rw [State.certRole_eq]
  unfold State.CertAccepted
  rw [← htime]
  split
  case isTrue hno =>
    simp only [Bool.or_eq_true, Bool.not_eq_true'] at hno
    constructor
    · exact fun h => nomatch h
    · rintro ⟨⟨hx, hsig, -, ht, -⟩, -⟩
      simp [hx, hsig, ht] at hno
  case isFalse hyes =>
    simp only [Bool.or_eq_true, Bool.not_eq_true', not_or, Bool.not_eq_false] at hyes
    obtain ⟨⟨hx, hsig⟩, ht⟩ := hyes
    rw [State.trustedRole_eq_some]
    constructor
    · rintro ⟨hn, harchive, hnone⟩
      have hsome : c.role.isSome = true := by
        cases hr : c.role with
        | none => simp [hr] at hn
        | some r => rfl
      exact ⟨⟨hx, hsig, hsome, ht, harchive, hnone⟩, hn⟩
    · rintro ⟨⟨-, -, -, -, harchive, hnone⟩, hn⟩
      exact ⟨hn, harchive, hnone⟩

end Sys2Proof.Machine
end

section
/-! SUPPORT. What a record of firmware and a discarded transfer leave alone, the end of a session, and NCP's checks and sessions: the settled
obligation (19 R400-R405, R415). -/

namespace Sys2Proof.Machine

/-! Updates beside memory, time, what goes out and NCP. -/

/-- Memory, MT, what goes out and what NCP holds are in `t` as in `s`. -/
structure State.Aside (s t : State) : Prop where
  mem : t.mem = s.mem
  mt : t.mt = s.mt
  outs : t.outs = s.outs
  ncp : t.ncp = s.ncp

section
variable {s t : State}

theorem State.Aside.refl (s : State) : s.Aside s := ⟨rfl, rfl, rfl, rfl⟩

theorem State.Aside.wr (h : s.Aside t) (r : Row) (v k u m : Nat) : s.Aside (t.wr r v k u m) := ⟨h.mem, h.mt, h.outs, h.ncp⟩

theorem State.Aside.ite {c : Prop} [Decidable c] {v : State} (h : s.Aside t) (h' : s.Aside v) : s.Aside (if c then t else v) := by
  split <;> assumption

theorem State.Aside.regsAlone {v : State} (h : s.Aside t) (hv : t.RegsAlone v) : s.Aside v := by
  rw [hv]
  exact ⟨h.mem, h.mt, h.outs, h.ncp⟩

theorem State.Aside.erView (h : s.Aside t) : s.Aside t.erView := by
  unfold State.erView
  dsimp only
  exact ((((h.wr ..).wr ..).wr ..).wr .. |>.ite (((h.wr ..).wr ..).wr .. |>.ite ((((h.wr ..).wr ..).wr ..).wr ..))).wr ..

theorem State.Aside.erAccept (h : s.Aside t) (r : List Nat) : s.Aside (t.erAccept r) := by
  refine State.Aside.erView ?_
  exact ⟨h.mem, h.mt, h.outs, h.ncp⟩

theorem State.Aside.erDrop (h : s.Aside t) (sev : Nat) : s.Aside (t.erDrop sev) :=
  (State.Aside.ite (h.wr R.ER_DROP_LOW ..) (h.wr R.ER_DROP_HIGH ..)).regsAlone ((State.RegsAlone.refl _).ev ..)

theorem State.Aside.erSubmit (h : s.Aside t) (ws : List Nat) (n : Nat) : s.Aside (t.erSubmit ws n).2 := by
  unfold State.erSubmit
  dsimp only
  split_ifs
  · exact h.regsAlone ((State.RegsAlone.refl _).err ..)
  · exact h.erDrop _
  · exact h.erDrop _
  · exact h.erAccept _

/-- A record of firmware leaves NCP, memory and time alone. -/
theorem State.fwRecord_aside (s : State) : s.Aside s.fwRecord := by
  have hdraw : s.Aside s.draw.2 := ⟨rfl, rfl, rfl, rfl⟩
  exact hdraw.erSubmit ..

theorem State.Aside.setDir (h : s.Aside t) (k : Nat) (d : TypeDir) : s.Aside (t.setDir k d) := by
  unfold State.setDir
  split
  · exact ⟨h.mem, h.mt, h.outs, h.ncp⟩
  · refine State.each_induction (motive := s.Aside) ⟨h.mem, h.mt, h.outs, h.ncp⟩ fun u k _ hu => ?_
    exact (((((hu.wr ..).wr ..).wr ..).wr ..).wr ..).wr ..

theorem State.Aside.xferDrop (h : s.Aside t) : s.Aside t.xferDrop := by
  obtain ⟨hmem, hmt, houts, hncp⟩ := ((h.wr R.UPD_STAT_TYPE 0 0 0 0).wr R.UPD_XFER_RECV 0 0 0 0).wr R.UPD_STAT_BUSY 0 0 0 0
  exact ⟨hmem, hmt, houts, hncp⟩

theorem State.updCancel_aside (s : State) : s.Aside s.updCancel := by
  unfold State.updCancel
  dsimp only
  exact .ite (.refl s) (State.Aside.ite ((State.Aside.refl s).setDir ..) (.refl s)).xferDrop

end

/-! A session closes with its transfers (R405, R409). -/

/-- Transfer `y` is of the object of `x`. -/
def Xfer.same (x y : Xfer) : Bool := y.image == x.image && y.object == x.object

/-- Beside the transfers of NCP, which are those that the list does not discard, memory, MT, what goes out and NCP are as they were. -/
structure State.Dropped (s t : State) (xs : List Xfer) : Prop where
  mem : t.mem = s.mem
  mt : t.mt = s.mt
  outs : t.outs = s.outs
  ncp : t.ncp = { s.ncp with xfers := s.ncp.xfers.filter fun y => xs.all fun x => !x.same y }

theorem State.dropXfer_dropped (s : State) (x : Xfer) : s.Dropped (s.dropXfer x) [x] := by
  have hlist : (fun y => [x].all fun x => !x.same y) = fun y => !(y.image == x.image && y.object == x.object) := by
    funext y
    rw [List.all_cons, List.all_nil, Bool.and_true]
    rfl
  have haside : (s.modNcp fun n => { n with xfers := n.xfers.filter fun y => !(y.image == x.image && y.object == x.object) }).Aside (s.dropXfer x) :=
    .ite (State.updCancel_aside _) (.refl _)
  obtain ⟨hmem, hmt, houts, hncp⟩ := haside
  exact ⟨hmem, hmt, houts, hncp.trans (by rw [hlist]; rfl)⟩

theorem State.each_dropXfer (xs : List Xfer) (s : State) : s.Dropped (s.each xs State.dropXfer) xs := by
  induction xs generalizing s with
  | nil => exact ⟨rfl, rfl, rfl, by simp [State.each]⟩
  | cons x xs ih =>
    obtain ⟨hmem, hmt, houts, hncp⟩ := s.dropXfer_dropped x
    obtain ⟨hmem', hmt', houts', hncp'⟩ := ih (s.dropXfer x)
    refine ⟨hmem'.trans hmem, hmt'.trans hmt, houts'.trans houts, hncp'.trans ?_⟩
    rw [hncp]
    simp only [List.filter_filter, List.all_cons, List.all_nil, Bool.true_and, Bool.and_comm]

/-- A session that closes: what is left of NCP, and what stays. -/
structure State.Closed (s t : State) (id : Nat) : Prop where
  mem : t.mem = s.mem
  mt : t.mt = s.mt
  outs : t.outs = s.outs
  sess : t.ncp.sess = s.ncp.sess.filter fun y => y.id != id
  xfers : ∀ f ∈ t.ncp.xfers, f.session ≠ id

theorem State.closeSession_closed (s : State) (id : Nat) : s.Closed (s.closeSession id) id := by
  obtain ⟨hmem, hmt, houts, hncp⟩ := s.each_dropXfer (s.ncp.xfers.filter fun x => x.session == id)
  refine ⟨hmem, hmt, houts, ?_, fun f hf hid => ?_⟩
  · show (State.each _ _ _).ncp.sess.filter _ = _
    rw [hncp]
  · have hf : f ∈ (s.each (s.ncp.xfers.filter fun x => x.session == id) State.dropXfer).ncp.xfers := hf
    rw [hncp] at hf
    obtain ⟨hmem, hall⟩ := List.mem_filter.mp hf
    have hself := List.all_eq_true.mp hall f (List.mem_filter.mpr ⟨hmem, by simpa using hid⟩)
    simp [Xfer.same] at hself

theorem State.Closed.gone {s t : State} {id : Nat} (h : s.Closed t id) : ∀ y ∈ t.ncp.sess, y.id ≠ id := fun y hy => by
  rw [h.sess] at hy
  simpa using (List.mem_filter.mp hy).2

/-- Without transfers the session is all that goes. -/
theorem State.closeSession_alone {s : State} {id : Nat} (h : ∀ f ∈ s.ncp.xfers, f.session ≠ id) :
    s.closeSession id = s.modNcp fun n => { n with sess := n.sess.filter fun x => x.id != id } := by
  have hnone : s.ncp.xfers.filter (fun x => x.session == id) = [] := List.filter_eq_nil_iff.mpr fun f hf => by simpa using h f hf
  rw [State.closeSession, hnone]
  rfl

theorem State.sameMem_of {s t : State} (h : t.mem = s.mem) : s.SameMem t := fun a => by rw [State.rb, h, State.rb]

theorem nat_bne_eq_decide (a b : Nat) : (a != b) = decide (a ≠ b) := by
  by_cases h : a = b <;> simp [h]

/-- Session `id` is closed at MT `n` at the earliest. -/
theorem State.closeSession_awaited {s : State} (hfree : s.ClocksFree) (n id : Nat) :
    let t := (s.awaitMt n).closeSession id
    (∀ y ∈ t.ncp.sess, y.id ≠ id) ∧ (∀ f ∈ t.ncp.xfers, f.session ≠ id) ∧ t.NotBefore n ∧ s.SameMem t ∧
      t.ncp.sess = s.ncp.sess.filter (fun y => y.id != id) ∧ t.outs = s.outs := by
  have hrest := (State.awaitMt_frame hfree n).2
  have hclosed := (s.awaitMt n).closeSession_closed id
  have hmem : (s.awaitMt n).mem = s.mem := by rw [hrest]
  have houts : (s.awaitMt n).outs = s.outs := by rw [hrest]
  have hncp : (s.awaitMt n).ncp = s.ncp := by rw [hrest]
  refine ⟨hclosed.gone, hclosed.xfers, fun hlast => ?_, State.sameMem_of (hclosed.mem.trans hmem), hncp ▸ hclosed.sess, hclosed.outs.trans houts⟩
  rw [hclosed.mt]
  by_cases hle : s.mt ≤ n
  · exact (State.awaitMt_reaches hfree hle hlast).1
  · have hzero : (n - s.mt + 3) / 4 = 0 := by omega
    rw [State.awaitMt_free hfree, hzero]
    exact Nat.le_of_not_le hle

theorem helloTimeout_spec (id : BitVec 32) (s : State) (hfree : s.ClocksFree) : ∀ x ∈ (s.session id.toNat).toList,
    ∃ t, exec (.helloTimeout id) s = .next t ∧
    if x.opened = true then t = s
    else (∀ y ∈ t.ncp.sess, y.id ≠ id.toNat) ∧ (∀ f ∈ t.ncp.xfers, f.session ≠ id.toNat) ∧ t.NotBefore (x.since + 5000000000) ∧ s.SameMem t := by
  intro x hx
  have hx := Option.mem_toList.mp hx
  have hid := State.session_id hx
  have hexec : exec (.helloTimeout id) s = .next (if x.opened then s else (s.awaitMt (x.since + 5000000000)).closeSession x.id) := by
    show execHelloTimeout id s = _
    rw [execHelloTimeout, hx]
  refine ⟨_, hexec, ?_⟩
  by_cases hopen : x.opened = true
  · rw [if_pos hopen, if_pos hopen]
  · rw [if_neg hopen, if_neg hopen, hid]
    obtain ⟨hgone, hxfers, htime, hmem, -⟩ := State.closeSession_awaited hfree (x.since + 5000000000) id.toNat
    exact ⟨hgone, hxfers, htime, hmem⟩

theorem sessionTimeout_spec (id : BitVec 32) (s : State) (hfree : s.ClocksFree) : ∀ x ∈ (s.session id.toNat).toList,
    ∃ t, exec (.sessionTimeout id) s = .next t ∧
    if x.opened = false then t = s
    else (∀ y ∈ t.ncp.sess, y.id ≠ id.toNat) ∧ (∀ f ∈ t.ncp.xfers, f.session ≠ id.toNat) ∧ t.NotBefore (x.since + 60000000000) ∧ s.SameMem t ∧
      t.ncp.sess = s.ncp.sess.filter (fun y => y.id ≠ id.toNat) ∧ t.outs = s.outs := by
  intro x hx
  have hx := Option.mem_toList.mp hx
  have hid := State.session_id hx
  have hexec : exec (.sessionTimeout id) s = .next (if x.opened then (s.awaitMt (x.since + 60000000000)).closeSession x.id else s) := by
    show execSessionTimeout id s = _
    rw [execSessionTimeout, hx]
  refine ⟨_, hexec, ?_⟩
  cases hopen : x.opened with
  | false => rfl
  | true =>
    rw [if_neg (by decide), if_pos rfl, hid]
    obtain ⟨hgone, hxfers, htime, hmem, hsess, houts⟩ := State.closeSession_awaited hfree (x.since + 60000000000) id.toNat
    refine ⟨hgone, hxfers, htime, hmem, hsess.trans (List.filter_congr fun y _ => nat_bne_eq_decide y.id id.toNat), houts⟩

theorem timeouts_unknown (id : BitVec 32) (s : State) (h : s.session id.toNat = none) :
    exec (.helloTimeout id) s = .next s ∧ exec (.sessionTimeout id) s = .next s := by
  constructor
  · show execHelloTimeout id s = _
    rw [execHelloTimeout, h]
  · show execSessionTimeout id s = _
    rw [execSessionTimeout, h]

/-! HELLO (R402, R403). -/

/-- A HELLO that has passed checks 1 to 5. -/
def State.helloWhole (s : State) (q : NcpReq) (cert : Cert) (chosen : BitVec 32) : State :=
  if q.session ≠ 0 then s.ncpReject q 1 eSession
  else if q.tag ≠ 0 then s.ncpReject q 1 eAuth
  else if q.length.toNat < 101 then s.out (plainAnswer q 1 eLength)
  else if q.seq ≠ 0 ∨ payNum q 97 3 ≠ 0 then s.out (plainAnswer q 1 eHeader)
  else if 32 ≤ s.ncp.sess.length then s.out (plainAnswer q 1 eBusy)
  else
    match s.certRole cert with
    | none => s.out (plainAnswer q 1 eAuth)
    | some r => (if s.flag R.BKD_STAT_RTC_VALID then s else s.fwRecord).helloOpen q r cert.key.toNat chosen.toNat

theorem execNcpHello_whole {q : NcpReq} {cert : Cert} {chosen : BitVec 32} {s : State} (hserves : s.ncpServes q.mac = true) (hwhole : NcpWhole q) :
    execNcpHello q cert chosen s = .next (s.helloWhole q cert chosen) := by
  unfold execNcpHello
  rw [hserves, formOf_whole hwhole]
  rfl

/-- The session that an accepted HELLO opens. -/
def State.helloSess (s : State) (q : NcpReq) (role hostKey chosen : Nat) : Sess :=
  let nm := beBytes 32 s.draw.1
  let eph := beBytes 65 (Config.publicKey s.draw.2.draw.1).toNat
  let text := q.payload ++ nm ++ eph ++ beBytes 4 (s.freeId chosen)
  let salt := (q.payload.drop 32).take 65 ++ q.payload.take 32 ++ nm
  { id := s.freeId chosen, mac := q.mac, host := q.host.toNat, role := role, opened := false, h := 0, seen := [], cache := [],
    h2m := Config.kdf s.draw.2.draw.1 salt 0, m2h := Config.kdf s.draw.2.draw.1 salt 1, wrap := Config.kdf s.draw.2.draw.1 salt 2,
    transcript := text ++ beBytes 64 (Config.sign 0 s.draw.2.draw.2.draw.1 text).toNat, hostKey := hostKey, since := s.mt }

theorem State.helloOpen_ncp (s : State) (q : NcpReq) (role hostKey chosen : Nat) :
    (s.helloOpen q role hostKey chosen).ncp = { s.ncp with sess := s.ncp.sess ++ [s.helloSess q role hostKey chosen] } := rfl

/-- An accepted HELLO leaves its session last in the list. -/
theorem State.helloOpen_spec {s u : State} {q : NcpReq} {cert : Cert} {chosen : BitVec 32} {r : Nat} (hlength : s.ncp.sess.length < 32)
    (haside : s.Aside u) (hrole : cert.role.map (·.val) = some r) :
    let t := u.helloOpen q r cert.key.toNat chosen.toNat
    let x := u.helloSess q r cert.key.toNat chosen.toNat
    x ∈ t.ncp.sess.getLast?.toList ∧ t.ncp = { s.ncp with sess := s.ncp.sess ++ [x] } ∧ x.id ≠ 0 ∧ (∀ y ∈ s.ncp.sess, y.id ≠ x.id) ∧
      x.opened = false ∧ some x.role = cert.role.map (·.val) ∧ x.mac = q.mac ∧ x.host = q.host.toNat ∧ x.since = s.mt ∧ x.hostKey = cert.key.toNat ∧
      (chosen ≠ 0 → (∀ y ∈ s.ncp.sess, y.id ≠ chosen.toNat) → x.id = chosen.toNat) := by
  obtain ⟨-, hmt, -, hncp⟩ := haside
  have hid := State.freeId_spec (s := u) chosen.toNat (by rw [hncp]; exact hlength)
  have ht := u.helloOpen_ncp q r cert.key.toNat chosen.toNat
  intro t x
  refine ⟨?_, ?_, hid.1, ?_, rfl, hrole.symm, rfl, rfl, hmt, rfl, fun hne hfree => ?_⟩
  · show x ∈ (u.helloOpen q r cert.key.toNat chosen.toNat).ncp.sess.getLast?.toList
    rw [ht]
    simp [x]
  · show (u.helloOpen q r cert.key.toNat chosen.toNat).ncp = _
    rw [ht, hncp]
  · rw [← hncp]
    exact hid.2
  · exact State.freeId_chosen hne (by rw [hncp]; exact hfree)

theorem ncpHello_spec (q : NcpReq) (cert : Cert) (chosen : BitVec 32) (s : State) (hserves : s.ncpServes q.mac = true) (hwhole : NcpWhole q) :
    ∃ t, exec (.ncpHello q cert chosen) s = .next t ∧
    let now := s.bk.cal.seconds
    if q.session ≠ 0 then s.Rejected t q 1 0x0601
    else if q.tag ≠ 0 then s.Rejected t q 1 0x0201
    else if q.length.toNat < 101 then t = s.out (plainAnswer q 1 0x0101)
    else if q.seq ≠ 0 ∨ payNum q 97 3 ≠ 0 then t = s.out (plainAnswer q 1 0x0401)
    else if 32 ≤ s.ncp.sess.length then t = s.out (plainAnswer q 1 0x0302)
    else if cert.x509 = true ∧ cert.sigOk = true ∧ cert.role.isSome = true ∧
        (s.flag R.BKD_STAT_RTC_VALID = true → cert.notBefore.toNat ≤ now ∧ now ≤ cert.notAfter.toNat) ∧
        (∀ a ∈ s.ncp.archive.toList, cert.signer.toNat ∈ a.trust ∧ s.sys.recovery = false) ∧
        (s.ncp.archive = none → Config.sha256 (beBytes 64 cert.signer.toNat) = Config.serviceHash ∧ cert.role = some 3) then
      ∃ x ∈ t.ncp.sess.getLast?.toList, t.ncp = { s.ncp with sess := s.ncp.sess ++ [x] } ∧ x.id ≠ 0 ∧ (∀ y ∈ s.ncp.sess, y.id ≠ x.id) ∧
        x.opened = false ∧ some x.role = cert.role.map (·.val) ∧ x.mac = q.mac ∧ x.host = q.host.toNat ∧ x.since = s.mt ∧ x.hostKey = cert.key.toNat ∧
        (chosen ≠ 0 → (∀ y ∈ s.ncp.sess, y.id ≠ chosen.toNat) → x.id = chosen.toNat) ∧
        (s.flag R.BKD_STAT_RTC_VALID = true →
          let nm := beBytes 32 s.draw.1
          let eph := beBytes 65 (Config.publicKey s.draw.2.draw.1).toNat
          let text := q.payload ++ nm ++ eph ++ beBytes 4 x.id
          let salt := (q.payload.drop 32).take 65 ++ q.payload.take 32 ++ nm
          let sig := beBytes 64 (Config.sign 0 s.draw.2.draw.2.draw.1 text).toNat
          x.transcript = text ++ sig ∧ x.h2m = Config.kdf s.draw.2.draw.1 salt 0 ∧ x.m2h = Config.kdf s.draw.2.draw.1 salt 1 ∧
            x.wrap = Config.kdf s.draw.2.draw.1 salt 2 ∧
            t.outs = .ncp q.mac q.host.toNat 1 1 0 x.id q.seq.toNat q.object.toNat 0 0 (nm ++ eph ++ [0, 0, 0] ++ sig ++ Config.moduleCert) 0 :: s.outs ∧
            t = { s with outs := t.outs, ncp := t.ncp, free := t.free })
    else t = s.out (plainAnswer q 1 0x0201) := by
  refine ⟨_, execNcpHello_whole hserves hwhole, ?_⟩
  unfold State.helloWhole
  dsimp only
  by_cases hsession : q.session ≠ 0
  · rw [if_pos hsession, if_pos hsession]
    exact s.ncpReject_rejected q 1 eSession
  rw [if_neg hsession, if_neg hsession]
  by_cases htag : q.tag ≠ 0
  · rw [if_pos htag, if_pos htag]
    exact s.ncpReject_rejected q 1 eAuth
  rw [if_neg htag, if_neg htag]
  by_cases hlength : q.length.toNat < 101
  · rw [if_pos hlength, if_pos hlength]
    rfl
  rw [if_neg hlength, if_neg hlength]
  by_cases hseq : q.seq ≠ 0 ∨ payNum q 97 3 ≠ 0
  · rw [if_pos hseq, if_pos hseq]
    rfl
  rw [if_neg hseq, if_neg hseq]
  by_cases hmany : 32 ≤ s.ncp.sess.length
  · rw [if_pos hmany, if_pos hmany]
    rfl
  rw [if_neg hmany, if_neg hmany]
  by_cases hcert : s.CertAccepted cert
  · obtain ⟨r, hr⟩ := Option.isSome_iff_exists.mp hcert.2.2.1
    have hrole : cert.role.map (·.val) = some r.val := by rw [hr]; rfl
    have haside : s.Aside (if s.flag R.BKD_STAT_RTC_VALID then s else s.fwRecord) := .ite (.refl s) s.fwRecord_aside
    obtain ⟨hlast, hncp, hid, hfree, hrest⟩ := State.helloOpen_spec (q := q) (chosen := chosen) (Nat.lt_of_not_le hmany) haside hrole
    have hrun := State.certRole_eq_some.mpr ⟨hcert, hrole⟩
    unfold State.CertAccepted at hcert
    rw [if_pos hcert, hrun]
    obtain ⟨hopened, hrole', hmac, hhost, hsince, hkey, hchosen⟩ := hrest
    refine ⟨_, hlast, hncp, hid, hfree, hopened, hrole', hmac, hhost, hsince, hkey, hchosen, fun hrtc => ?_⟩
    rw [if_pos hrtc]
    exact ⟨rfl, rfl, rfl, rfl, rfl, rfl⟩
  · have hnone : s.certRole cert = none := Option.eq_none_iff_forall_ne_some.mpr fun n hn => hcert (State.certRole_eq_some.mp hn).1
    unfold State.CertAccepted at hcert
    rw [if_neg hcert, hnone]
    rfl

/-! FINISH (R402; log entry 39) and BYE (R405). -/

/-- A request whose session is stored as `y` and answered OK. -/
theorem State.ncpAnswer_stored {s : State} {q : NcpReq} {x y : Sess} (hx : s.session q.session.toNat = some x) (hid : y.id = x.id)
    (hkey : y.m2h = x.m2h) (cmd at_ : Nat) :
    let o := answerTo q x cmd 0 0 0 0 []
    (s.modNcp fun n => n.putSess y).ncpAnswer (waitOf q cmd at_) 0 0 0 0 [] =
      { s with outs := o :: s.outs, ncp := s.ncp.putSess { y with cache := ((q.seq.toNat, o) :: y.cache).take 8 } } := by
  have hself := State.session_id hx
  have hopened : (s.modNcp fun n => n.putSess y).session (waitOf q cmd at_).session = some y := by
    have hstored := State.session_putSess (s := s) (x := x) (y := y) (by rw [hself]; exact hx) hid
    rw [hself] at hstored
    exact hstored
  have ho : answerTo q x cmd 0 0 0 0 [] = answerTo q y cmd 0 0 0 0 [] := by rw [answerTo, answerTo, hkey]
  rw [State.ncpAnswer_eq hopened, ho]
  exact congrArg (fun n : Ncp => { s with outs := answerTo q y cmd 0 0 0 0 [] :: s.outs, ncp := n })
    (Ncp.putSess_putSess s.ncp (x := y) (y := { y with cache := ((q.seq.toNat, answerTo q y cmd 0 0 0 0 []) :: y.cache).take 8 }) rfl)

theorem ncpFinish_handshake_spec (q : NcpReq) (s : State) (hserves : s.ncpServes q.mac = true) (hwhole : NcpWhole q) :
    ∀ x ∈ (s.session q.session.toNat).toList, x.opened = false → ∃ t, exec (.ncpFinish q) s = .next t ∧
    if q.tag.toNat ≠ ncpTag x.h2m (reqBytes q 2) then s.Rejected t q 2 0x0201
    else if q.seq ≠ 1 then t = s
    else if q.length ≠ 64 then s.Declined t q x 2 0x0101
    else if Config.verify x.hostKey x.transcript q.payload = false then s.Declined t q x 2 0x0201
    else
      let o := answerTo q x 2 0 0 0 0 []
      t = { s with outs := o :: s.outs, ncp := s.ncp.putSess { x with opened := true, h := 1, seen := [1], cache := [(1, o)], since := s.mt } } := by
  intro x hx hopen
  have hx := Option.mem_toList.mp hx
  have hid := State.session_id hx
  have hexec : exec (.ncpFinish q) s = .next (s.finish q x) := by
    show execNcpFinish q s = _
    rw [execNcpFinish, hx]
    dsimp only
    rw [hopen, hserves, formOf_whole hwhole]
    rfl
  have hseq : q.seq.toNat ≠ 1 ↔ q.seq ≠ 1 := not_congr (BitVec.toNat_inj (y := 1#32))
  have hlength : q.length.toNat ≠ 64 ↔ q.length ≠ 64 := not_congr (BitVec.toNat_inj (y := 64#16))
  refine ⟨_, hexec, ?_⟩
  unfold State.finish
  dsimp only
  by_cases htag : q.tag.toNat ≠ ncpTag x.h2m (reqBytes q 2)
  · rw [if_pos htag, if_pos htag]
    exact s.ncpReject_rejected q 2 eAuth
  rw [if_neg htag, if_neg htag]
  by_cases hnew : q.seq ≠ 1
  · rw [if_pos hnew, if_pos (hseq.mpr hnew)]
  rw [if_neg hnew, if_neg (hseq.not.mpr hnew)]
  by_cases hshort : q.length ≠ 64
  · rw [if_pos hshort, if_pos (hlength.mpr hshort)]
    exact State.ncpAnswer_declined hx 2 s.mt eLength
  rw [if_neg hshort, if_neg (hlength.not.mpr hshort)]
  cases hverify : Config.verify x.hostKey x.transcript q.payload with
  | false => exact State.ncpAnswer_declined hx 2 s.mt eAuth
  | true =>
    rw [if_neg (by decide), if_neg (by decide)]
    have hone : q.seq.toNat = 1 := by rw [not_not.mp hnew]; rfl
    have hanswer := State.ncpAnswer_stored (y := { x with opened := true, h := 1, seen := [1], cache := [], since := s.mt }) hx rfl rfl 2 s.mt
    dsimp only at hanswer
    rw [hanswer, hone]
    rfl

theorem ncpFinish_opened_spec (q : NcpReq) (s : State) : ∀ x ∈ (s.session q.session.toNat).toList, s.Admits q 2 x →
    ∃ t, exec (.ncpFinish q) s = .next t ∧ s.Declined t q x 2 0x0301 := by
  intro x hx hadmits
  have hx := Option.mem_toList.mp hx
  have hopen := hadmits.2.2.2.1
  refine ⟨s.ncpAnswer (waitOf q 2 s.mt) eState 0 0 0 [], ?_, State.ncpAnswer_declined hx 2 s.mt eState⟩
  show execNcpFinish q s = _
  rw [execNcpFinish, hx]
  dsimp only
  rw [hopen, if_pos rfl, State.ncpRun_admitted hadmits]
  rfl

theorem State.modeIn_all {s : State} (hne : s.mode ≠ 0) (hle : s.mode ≤ 5) : s.modeIn allModes = 0 := by
  have hmem : s.mode ∈ allModes := by
    simp only [allModes, List.mem_cons, List.not_mem_nil, or_false]
    omega
  rw [State.modeIn, if_pos (List.contains_iff_mem.mpr hmem)]

theorem State.ncpServes_mode {s : State} {mac : Nat} (h : s.ncpServes mac = true) : s.mode ≠ 0 := fun h0 => by
  simp [State.ncpServes, h0] at h

theorem ncpBye_spec (q : NcpReq) (s : State) : ∀ x ∈ (s.session q.session.toNat).toList, s.Admits q 4 x → s.mode ≤ 5 →
    ∃ t, exec (.ncpBye q) s = .next t ∧
    if q.length ≠ 0 then s.Declined t q x 4 0x0101
    else t.outs = answerTo q x 4 0 0 0 0 [] :: s.outs ∧ t.ncp.sess = s.ncp.sess.filter (fun y => y.id ≠ x.id) ∧
      (∀ f ∈ t.ncp.xfers, f.session ≠ x.id) ∧ s.SameMem t ∧
      ((∀ f ∈ s.ncp.xfers, f.session ≠ x.id) → t = { s with outs := t.outs, ncp := { s.ncp with sess := t.ncp.sess } }) := by
  intro x hx hadmits hmode
  have hx := Option.mem_toList.mp hx
  have hid := State.session_id hx
  have hunit := State.modeIn_all (State.ncpServes_mode hadmits.1) hmode
  have hlength : q.length.toNat = 0 ↔ q.length = 0 := BitVec.toNat_inj (y := 0#16)
  let body : State → Sess → Waiting → NcpEnd := fun s x w => .done ((s.ncpAnswer w 0 0 0 0 []).closeSession x.id)
  have hexec : exec (.ncpBye q) s = .next (s.ncpNew q 4 0 (s.modeIn allModes) (sized q 0) body x) :=
    congrArg Host.Outcome.next (State.ncpRun_admitted hadmits)
  by_cases hshort : q.length ≠ 0
  · refine ⟨_, hexec, ?_⟩
    rw [if_pos hshort, hunit, sized, if_neg (fun h => hshort (hlength.mp h))]
    exact State.ncpAnswer_declined hx 4 s.mt eLength
  · let y := seqTake x q.seq.toNat s.mt
    let u := (s.modNcp fun n => n.putSess y).ncpAnswer (waitOf q 4 s.mt) 0 0 0 0 []
    have hnew : s.ncpNew q 4 0 (s.modeIn allModes) (sized q 0) body x = u.closeSession x.id := by
      rw [hunit, sized, if_pos (hlength.mpr (not_not.mp hshort))]
      rfl
    have hu := State.ncpAnswer_stored (y := y) hx rfl rfl 4 s.mt
    change u = _ at hu
    have hclosed := u.closeSession_closed x.id
    have hsess : u.ncp.sess.filter (fun z => z.id != x.id) = s.ncp.sess.filter fun z => z.id ≠ x.id := by
      rw [hu]
      exact (Ncp.putSess_filter s.ncp (y := { y with cache := ((q.seq.toNat, answerTo q x 4 0 0 0 0 []) :: y.cache).take 8 }) rfl).trans
        (List.filter_congr fun z _ => nat_bne_eq_decide z.id x.id)
    refine ⟨u.closeSession x.id, hnew ▸ hexec, ?_⟩
    rw [if_neg hshort]
    refine ⟨?_, hclosed.sess.trans hsess, hclosed.xfers, State.sameMem_of (hclosed.mem.trans (by rw [hu])), fun hnone => ?_⟩
    · rw [hclosed.outs, hu]
    · have hxfers : ∀ f ∈ u.ncp.xfers, f.session ≠ x.id := by rw [hu]; exact hnone
      rw [State.closeSession_alone hxfers, hu]
      rfl

/-- Settles O52: clause by clause, by the lemmas of the receive checks, the handshake and the end of sessions. -/
theorem ncpChecksAndSessions : Obligations.NcpChecksAndSessions := by
  unfold Obligations.NcpChecksAndSessions
  refine ⟨fun q room s hserves c hc => ?_, fun q room s hserves c hc => ?_, ncpHello_spec, ncpFinish_handshake_spec, ncpFinish_opened_spec,
    helloTimeout_spec, sessionTimeout_spec, timeouts_unknown, ncpBye_spec⟩
  · obtain ⟨role, unit_, bounds, body, hneed, hexec⟩ := ncpRows_run q room s c hc
    exact ⟨_, hexec, State.ncpRun_checked hserves hneed⟩
  · obtain ⟨role, unit_, bounds, body, -, hexec⟩ := ncpRows_run q room s c hc
    rw [hexec, State.ncpRun_unserved hserves]

end Sys2Proof.Machine
end
